-- ==== Sys2Proof/Word.lean ====
section
/-! DEFINITION. The word types of the block and their plainest arithmetic. -/
namespace Sys2Proof

/-- A register, a mailbox word, a program word half: 32 bits. -/
abbrev Word := BitVec 32

/-- One byte of any memory of the module. -/
abbrev Byte := BitVec 8

end Sys2Proof
end

