-- ==== Sys2Proof/Machine/Messages.lean ====
section
/-! DEFINITION. What a command carries in from outside besides numbers: a fabric packet (17), and the mirror record a
buddy returns (14). -/
namespace Sys2Proof.Machine

/-- A packet (R573): the HEAD fields and its message bytes (memory data for the memory types). -/
structure Packet where
  typ    : Nat
  dst    : Nat
  src    : Nat
  ctx    : Nat := 0
  hops   : Nat := 0
  ttag   : Nat := 0
  sub    : Nat := 0
  length : Nat := 0
  addr   : Nat := 0
  status : Nat := 0
  body   : List Nat := []
  deriving DecidableEq, Repr

/-- A run of a mirror record (R478). -/
structure MirrorRun where
  ctx       : Nat
  handle    : Nat
  steps     : Nat
  committed : Nat
  deriving DecidableEq, Repr

/-- A mapped object of a mirror record (R478): `remote` is the node, context, VID and generation of a remote mapping, `ready` the
tensor of a ready object. -/
structure MirrorObject where
  ctx      : Nat
  vid      : Nat
  gen      : Nat
  value    : Nat
  satHi    : Bool
  satLo    : Bool
  exported : Bool
  ready    : Option Nat
  remote   : Option (Nat × Nat × Nat × Nat)
  deriving DecidableEq, Repr

/-- The fields of a commit barrier in a mirror record or a write-ahead (R387, R478, R480). -/
structure MirrorBarrier where
  ctx          : Nat
  vid          : Nat
  gen          : Nat
  committed    : Nat
  attempt      : Nat
  participants : List Nat
  arrived      : List Nat
  worst        : Nat
  outcome      : Nat
  deriving DecidableEq, Repr

/-- A tensor with METHOD 1 in a mirror record (R478): masters, momentum and momentum plane of the owned shard, and the
error-feedback residual in use, as bytes. -/
structure MirrorTensor where
  tensor  : Nat
  masters : List Nat
  mom     : List Nat
  plane   : List Nat
  efr     : List Nat
  deriving DecidableEq, Repr

/-- A mirror record (R478). Scale entries and norm entries stand by program (context × 4 + handle) and index, with the 64-bit
word of TENSOR_SCALE and ROUND, and of MEAN and COUNT. -/
structure MirrorRecord where
  stamp    : Nat
  node     : Nat
  ctxMask  : Nat
  runs     : List MirrorRun
  rng      : List (Nat × Nat)
  scales   : List (Nat × Nat × Nat)
  norms    : List (Nat × Nat × Nat)
  objects  : List MirrorObject
  barriers : List MirrorBarrier
  tensors  : List MirrorTensor
  deriving DecidableEq, Repr

/-- A snapshot slot whose CRC holds, as it is read back (R483, R488): STAMP and its contents as bytes; an error-feedback slot has
only `efr`. -/
structure SnapSlot where
  stamp   : Nat
  masters : List Nat
  mom     : List Nat
  plane   : List Nat
  efr     : List Nat
  deriving DecidableEq, Repr

/-- What a firmware-to-firmware message says (R586: the layout belongs to firmware). -/
inductive MgmtContent where
  /-- The answer to MIRROR_SET (R498): the sender accepts this module, with its region's address and size in bytes. -/
  | mirrorAnswer (accepted : Bool) (base size : Nat)
  /-- The answer to REC_RESTORE's request (R490 to R492): the newest mirror record with a valid CRC, the barriers' write-ahead
  records, the committed step value. -/
  | mirrorRecord (record : Option MirrorRecord) (barriers : List MirrorBarrier) (committed : Nat)
  /-- The buddy holds the fields of a barrier homed here (R480). -/
  | barrierHeld (phys : Nat)
  /-- A question of another module's firmware, answered with a message; or another message. -/
  | question (bytes : List Nat)
  | other
  deriving DecidableEq, Repr

/-- What the rule for chains (R690) asks of a certificate: its public key, the bytes that are signed and the signature over them,
basicConstraints CA and keyCertSign, digitalSignature. -/
structure Cert where
  publicKey        : List Nat
  signed           : List Nat
  signature        : List Nat
  ca               : Bool
  keyCertSign      : Bool
  digitalSignature : Bool
  deriving DecidableEq, Repr

/-- A request to the SPDM responder (R693), with what its contents lead to: the measurement index asked for, whether FINISH
verifies, the stream IDE_KM keys (R694). -/
inductive SpdmRequest where
  | getVersion | getCapabilities | negotiateAlgorithms | getDigests
  | getCertificate (slot : Nat)
  | challenge
  | getMeasurements (index : Nat)
  | keyExchange
  | finish (verified : Bool)
  | heartbeat | keyUpdate | endSession
  | ideKm (stream : Nat)
  /-- A request that the responder does not offer. -/
  | unsupported
  deriving DecidableEq, Repr

/-- An answer of the SPDM responder: a measurement register, the certificate chain of slot 0, ERROR (Busy), another ERROR, or an
answer whose bytes are laid down in SPDM 1.3. -/
inductive SpdmAnswer where
  | certificates (chain : List Nat)
  | measurement (index register : Nat)
  | busy
  | error
  | answer (bytes : List Nat)
  deriving DecidableEq, Repr

/-- What a start finds (R646): failed lanes of each compute stack's bond test (R85), the result of each branch self-test as a mask
UV 4, OV 2, LEAK 1 (R217), whether HBM kept its contents, the arrays whose program record fails its check, measured levels of
arrays that are read back (R245), and the rate, width and mode the PCIe link trains to (R546). -/
structure StartReport where
  bondFailed : List Nat
  selfTests  : List Nat
  hbmKept    : Bool
  failing    : List Nat
  levels     : List (Nat × List (Nat × Nat))
  rate       : Nat
  width      : Nat
  flit       : Bool
  deriving DecidableEq, Repr

/-- Registers of a function's configuration space (R551, R552, R564, R565) that say who the function is, or that the block acts on. -/
inductive CfgReg where
  | vendorId | deviceId | revisionId | classCode | subsystem | headerType | interruptPin
  | busMaster
  /-- MSI-X Function Mask. -/
  | functionMask
  /-- BAR2 size of PF0, or of every VF, as n for 2^n GiB (the Resizable BAR capabilities). -/
  | bar2Size
  deriving DecidableEq, Repr

/-- Where a register access goes: an offset of a function's BAR0 (R556), an internal CSR address with its LVL (R59), a register of a
function's configuration space. -/
inductive RegPlace where
  | bar0 (fn : Fin 16) (offset : Nat)
  | csr (lvl : Fin 4) (addr : Nat)
  | config (fn : Fin 16) (r : CfgReg)
  deriving DecidableEq, Repr

/-- Whose transfer read the failing address of device memory (R469, R719). -/
inductive HbmReader where
  | chain (task unit : Nat)
  | exchange
  | command (ctx slot : Nat)
  /-- A home copy of a mirror record, by its slot 0 or 1 (R476). -/
  | mirror (slot : Nat)
  | other
  deriving DecidableEq, Repr

/-- What the detectors of a programming branch measure (R216): its current, its voltage, whether a pulse is applied, and how long these held. -/
structure BranchSample where
  milliamps : Nat
  millivolts : Nat
  pulsing : Bool
  micros : Nat
  deriving DecidableEq, Repr

/-- What a reading set of the monitor measures (R199, R201): the codes of its conversions for KIND 0, readings as FP32 words for the other
kinds. -/
structure MonSample where
  codes : List Int
  readings : List (BitVec 32)
  deriving DecidableEq, Repr

end Sys2Proof.Machine
end

