-- ==== Sys2Proof/Syntax.lean ====
section
/-! DEFINITION. The commands of the block: one constructor per row of spec/opcode_table.json, with the operands its
rule names. Rows that stand for an operation or event inside the part carry what that operation takes from outside the
block's digital state: which unit, task or message it is about, and what was measured or received (R-numbers at each). -/
namespace Sys2Proof
open Sys2Proof.Machine

/-- A command at the front of the block's queue. -/
inductive Instr where
  /-- Command returning part, stepping, command-set version, firmware version, serial number, node ID and calling context. (R532) -/
  | identify (ctx : Fin 16) (slot : Fin 8)
  /-- Command returning device memory, memory left to contexts, array counts and module limits. (R533) -/
  | capabilities (ctx : Fin 16) (slot : Fin 8)
  /-- Command that clears a contiguous region of device memory, adds it to the context's memory map and returns its address. (R534) -/
  | memAlloc (ctx : Fin 16) (slot : Fin 8)
  /-- Command that frees a region of the context's memory map. (R535) -/
  | memFree (ctx : Fin 16) (slot : Fin 8)
  /-- Command returning the context's allocations, objects, programs, runs and event FIFO entries. (R536) -/
  | ctxInfo (ctx : Fin 16) (slot : Fin 8)
  /-- Command that statically checks a step program in device memory and registers it under a handle. (R333) -/
  | stepLoad (ctx : Fin 16) (slot : Fin 8)
  /-- Command that queues a run of a loaded program for a number of committed steps; it responds when the run ends. (R334) -/
  | stepSubmit (ctx : Fin 16) (slot : Fin 8)
  /-- Command that unloads a program handle that has no queued or running run. (R335) -/
  | stepUnload (ctx : Fin 16) (slot : Fin 8)
  /-- Command that removes the queued runs of a program and ends its running run, stopping its tasks. (R336) -/
  | stepAbort (ctx : Fin 16) (slot : Fin 8)
  /-- Command that checks an exchange table and attaches it to a program handle. (R434) -/
  | xchLoad (ctx : Fin 16) (slot : Fin 8)
  /-- Command that detaches the exchange table from a program handle. (R435) -/
  | xchUnload (ctx : Fin 16) (slot : Fin 8)
  /-- Command that replaces hyperparameters of a range of exchange tensors for the next commit point. (R436) -/
  | updSet (ctx : Fin 16) (slot : Fin 8)
  /-- Command that checks a watch table and attaches it to a program handle. (R464) -/
  | wchLoad (ctx : Fin 16) (slot : Fin 8)
  /-- Command that detaches the watch table from a program handle. (R465) -/
  | wchUnload (ctx : Fin 16) (slot : Fin 8)
  /-- Command that applies journaled updates to a copy of owned masters and momentum and returns CRCs. (R466) -/
  | replayDiag (ctx : Fin 16) (slot : Fin 8)
  /-- Command that queues programs for listed arrays in class 3, optionally ahead with NOW. (R248) -/
  | arrayProgram (ctx : Fin 16) (slot : Fin 8)
  /-- Command that sets a pending binding on a SERVING array and drains it for a budget-exempt program. (R249) -/
  | arrayBind (ctx : Fin 16) (slot : Fin 8)
  /-- Command that decides a retirement with cause 5 for listed arrays. (R250) -/
  | arrayRetire (ctx : Fin 16) (slot : Fin 8)
  /-- Command returning an array's state, queue class, attempt, GEN, life count, elapsed time and binding. (R251) -/
  | arrayInfo (ctx : Fin 16) (slot : Fin 8)
  /-- Command that runs the branch self-test on a latched programming branch and switches it on if it passes. (R252) -/
  | hvBranchRestore (ctx : Fin 16) (slot : Fin 8) (selfTest : Fin 8)
  /-- Command that writes MIN_INTERVAL and LIFE_LIMIT through to flash. (R253) -/
  | arrayBudgetSet (ctx : Fin 16) (slot : Fin 8)
  /-- Command that maps a free physical sync object to a virtual ID with an initial value. (R393) -/
  | syncAlloc (ctx : Fin 16) (slot : Fin 8)
  /-- Command that frees a sync object and advances its generation. (R394) -/
  | syncFree (ctx : Fin 16) (slot : Fin 8)
  /-- Command that signals a local or remote sync object and returns the value after release. (R395) -/
  | syncSignal (ctx : Fin 16) (slot : Fin 8)
  /-- Command that posts a mailbox wait on a sync object or barrier and completes at release, outcome or timeout. (R396) -/
  | syncWait (ctx : Fin 16) (slot : Fin 8)
  /-- Command returning the debugger view of a sync object, optionally clearing its saturation flags. (R400) -/
  | syncRead (ctx : Fin 16) (slot : Fin 8)
  /-- Command that probes a partner node and maps a virtual ID to an exported remote object. (R397) -/
  | syncMapRemote (ctx : Fin 16) (slot : Fin 8)
  /-- Command that creates or updates a commit barrier from a participant bitmap. (R398) -/
  | syncBarrierSet (ctx : Fin 16) (slot : Fin 8)
  /-- Command that binds a virtual object as a tensor's ready object or makes it ordinary. (R399) -/
  | syncReadyBind (ctx : Fin 16) (slot : Fin 8)
  /-- Command that sets node ID, MAX_HOPS, windows, route entries and partner confirmations. (R604) -/
  | routeLoad (ctx : Fin 16) (slot : Fin 8)
  /-- Command returning the node ID and a range of route entries. (R605) -/
  | routeRead (ctx : Fin 16) (slot : Fin 8)
  /-- Command that enables, disables, retrains or rekeys a Furlong port or sets its retry interval. (R606) -/
  | portCtrl (ctx : Fin 16) (slot : Fin 8)
  /-- Command returning a port's status, partner, confirmed partner, lanes, epoch and identity hash. (R607) -/
  | portInfo (ctx : Fin 16) (slot : Fin 8)
  /-- Command that checks and loads a recovery policy table and zeroes the policy count. (R497) -/
  | recPolicyLoad (ctx : Fin 16) (slot : Fin 8)
  /-- Command that configures mirror sending to a buddy or accepts a buddy region. (R498) -/
  | mirrorSet (ctx : Fin 16) (slot : Fin 8)
  /-- Command that restores schedule, barriers, masters and working copies from mirror, snapshots and journal. (R499) -/
  | recRestore (ctx : Fin 16) (slot : Fin 8)
  /-- Command returning the fault collection registers without clearing them. (R500) -/
  | faultInfo (ctx : Fin 16) (slot : Fin 8)
  /-- Command that copies log entries and delivers them through the data window. (R537) -/
  | logRead (ctx : Fin 16) (slot : Fin 8)
  /-- Command returning the latest telemetry sample. (R538) -/
  | telemRead (ctx : Fin 16) (slot : Fin 8)
  /-- Command that sets the telemetry sample period. (R539) -/
  | telemCfg (ctx : Fin 16) (slot : Fin 8)
  /-- Command that reads up to 14 consecutive internal CSR words, stopping at the first failed access. (R540) -/
  | csrRead (ctx : Fin 16) (slot : Fin 8)
  /-- Command that makes one internal CSR write access. (R541) -/
  | csrWrite (ctx : Fin 16) (slot : Fin 8)
  /-- Command that reads up to 16,384 internal CSR words and delivers them through the data window. (R542) -/
  | csrDump (ctx : Fin 16) (slot : Fin 8)
  /-- Command that receives a firmware image through the data window into the OTHER slot and verifies it. (R686) -/
  | fwStage (ctx : Fin 16) (slot : Fin 8)
  /-- Command that swaps the firmware slots, clears START_CNT and optionally begins a Device reset. (R687) -/
  | fwActivate (ctx : Fin 16) (slot : Fin 8)
  /-- Command returning running slot, image versions, SVNs, rollback count and revocations. (R688) -/
  | fwInfo (ctx : Fin 16) (slot : Fin 8)
  /-- Command that responds and begins a Device or Cold reset 1 ms later, optionally clearing START_CNT. (R670) -/
  | resetDevice (ctx : Fin 16) (slot : Fin 8)
  /-- Command that performs a Context reset of the issuing context and completes when it is done. (R671) -/
  | resetContext (ctx : Fin 16) (slot : Fin 8)
  /-- Command that runs a Block reset of a Peck, port or the exchange unit and completes at release. (R672) -/
  | resetBlock (ctx : Fin 16) (slot : Fin 8)
  /-- Command that moves the module between Run, Standby and Sleep. (R673) -/
  | powerState (ctx : Fin 16) (slot : Fin 8) (selfTests : List (Fin 8))
  /-- Command that flushes metadata, responds and stops the rails to enter Off. (R674) -/
  | powerDown (ctx : Fin 16) (slot : Fin 8)
  /-- Command that sets the module input power limit. (R625) -/
  | powerLimit (ctx : Fin 16) (slot : Fin 8)
  /-- Command that issues a debug challenge or takes a debug token through the data window and unlocks debug. (R695) -/
  | debugUnlock (ctx : Fin 16) (slot : Fin 8)
  /-- Command returning one measurement register and its extension count. (R692) -/
  | measureRead (ctx : Fin 16) (slot : Fin 8)
  /-- Command that ends debug unlock and extends measurement register 3. (R697) -/
  | debugLock (ctx : Fin 16) (slot : Fin 8)
  /-- A started command whose opcode is not in the opcode table completes as a P3 command with UNKNOWN_OPCODE. (R515) -/
  | unknownOpcode (ctx : Fin 16) (slot : Fin 8)
  /-- Host write to MBX_GO moves FREE or DONE slots to ACCEPTED, or answers BUSY in shedding stage 4. (R508) -/
  | mbxGoWrite (ctx : Fin 16) (value : BitVec 32)
  /-- Host write to a slot's command word, discarded with WR_BUSY while the slot is ACCEPTED or RUNNING. (R508) -/
  | mbxCmdWrite (ctx : Fin 16) (slot : Fin 8) (word : Fin 16) (value : BitVec 32)
  /-- Host read of MBX_DATA_RD that removes the next window word or sets UNDERRUN, completing the window command when REMAIN reaches 0. (R521) -/
  | mbxDataRdRead (ctx : Fin 16)
  /-- Host write of MBX_DATA_WR that adds a window word or sets OVERRUN, completing the window command when REMAIN reaches 0. (R521) -/
  | mbxDataWrWrite (ctx : Fin 16) (value : BitVec 32)
  /-- Write of 1 to MBX_EVT_CTRL.POP that removes the oldest event from the context's FIFO. (R530) -/
  | eventPop (ctx : Fin 16)
  /-- Read of LOG_TIME_LO or PCI_TIME_LO that returns device time bits [31:0] and latches bits [63:32]. (R524) -/
  | logTimeLoRead (page : Option (Fin 16)) (wide : Bool)
  /-- Read of a register with RC fields that returns and then clears them. (R11) -/
  | rcFieldRead (place : RegPlace) (wide : Bool)
  /-- Write to any register without a row of its own, acting under its access code. (R11) -/
  | registerWrite (place : RegPlace) (wide : Bool) (value : BitVec 64) (poisoned : Bool)
  /-- Write of 1 to CNV_SEQ_CTRL.ARM that starts the check of the staged conversion sequence. (R182) -/
  | cnvSeqArm (array : Fin 16384) (value : BitVec 32)
  /-- Completion of the arm check that records RESULT and makes a valid staged sequence active. (R182) -/
  | cnvSeqArmComplete (array : Fin 16384)
  /-- Write of 1 to CNV_SEQ_CTRL.DEFAULT that makes the default conversion sequence active. (R183) -/
  | cnvSeqDefault (array : Fin 16384) (value : BitVec 32)
  /-- Write of 1 to CNV_CAL_CFG.CAL_NOW that abandons the dwell and runs one full calibration rotation. (R191) -/
  | calNow (array : Fin 16384) (value : BitVec 32)
  /-- Write to CNV_REF_SEL that changes a Bushel's converter reference or sets BAD_SEL. (R195) -/
  | cnvRefSelWrite (bushel : Fin 16) (value : BitVec 32)
  /-- Write of 1 to CNV_MON_CTRL.ARM that checks the staged scan table and activates it at the next pass. (R206) -/
  | cnvMonArm (bushel : Fin 16) (value : BitVec 32)
  /-- Write to RSD_CTRL.REBUILD that makes residual decisions due for SERVING arrays. (R265) -/
  | rsdRebuild (grain : Fin 1024) (value : BitVec 32)
  /-- Write to CLK_ISL_CFG.FREQ_REQ that slews a Peck island to a new frequency or sets BAD_REQ. (R630) -/
  | freqReqWrite (peck : Fin 128) (value : BitVec 32)
  /-- Write of 1 to CLK_REF_CTRL.RESTORE that returns consumers to the external reference when it is good. (R628) -/
  | refclkRestore
  /-- Write of 1 to PWR_BUSHEL_CTRL.GATE that requests power gating of a Bushel. (R627) -/
  | bushelGate (bushel : Fin 16)
  /-- A pending gate takes effect once no task runs and no array programs or verifies in the Bushel. (R627) -/
  | bushelGateEffect (bushel : Fin 16)
  /-- Write of 0 to PWR_BUSHEL_CTRL.GATE that restarts the Bushel rail, locks islands and settles the reference. (R627) -/
  | bushelUngate (bushel : Fin 16)
  /-- Write of 1 to RST_PECK_CTRL.FORCE_REL that releases a Peck before clock-good while debug is unlocked. (R653) -/
  | forceRel (peck : Fin 128)
  /-- Write of 1 to SEC_FMKEY_CTRL.LOCK that locks the fabric-manager key hash and sets VALID. (R699) -/
  | secFmkeyLock
  /-- Write to PCI_WIN_BASEn_LO or _HI; the window changes when the second write of the pair arrives. (R568) -/
  | pciWinBaseWrite (ctx : Fin 16) (high : Bool) (value : BitVec 32)
  /-- BAR0 access in the debug aperture that becomes an internal CSR access once debug is unlocked. (R559) -/
  | debugApertureAccess (ctx : Fin 16) (offset : BitVec 16) (write : Option (BitVec 32))
  /-- Clearing a vector mask or Function Mask sends any MSI-X message pending in the PBA. (R564) -/
  | msixVectorUnmask (ctx : Fin 16) (vector : Option (Fin 64))
  /-- Host or peer memory request at BAR2, translated through the function's window and checked against memory map. (R560) -/
  | bar2Request (ctx : Fin 16) (offset : Nat) (length : Nat) (data : Option (List Byte)) (poisoned : Bool) (stream : Option (Fin 4))
  /-- PCIe Function Level Reset of a function, performing a Context reset of its context. (R550) -/
  | flr (ctx : Fin 16)
  /-- Setting VF Enable brings contexts 1 to NumVFs up empty. (R549) -/
  | vfEnableSet (numVFs : Fin 16)
  /-- Clearing VF Enable or lowering NumVFs resets every context that ceases to exist. (R549) -/
  | vfEnableClear
  /-- Assertion of PERST# that causes a Device reset whose start waits for deassertion. (R640) -/
  | perstAssert
  /-- Deassertion of PERST#, continuing a held start or starting the module from Off. (R666) -/
  | perstDeassert
  /-- PCIe hot reset or Data Link Layer down, causing a Device reset. (R640) -/
  | hotReset
  /-- Host link completes training below 64.0 GT/s or x16 and the event is logged. (R547) -/
  | linkDegraded (rate : Fin 7) (width : Fin 17) (flit : Bool)
  /-- Context reset that ends runs, clears mailbox and objects, unloads tables and frees memory of one context. (R645) -/
  | contextReset (ctx : Fin 16) (source : Fin 256)
  /-- Device reset that quiesces the module and begins a start. (R646) -/
  | deviceReset (source : Fin 256)
  /-- Power-on Cold reset once VAON rises or PWR_PRSNT_N has been held for 50 ms, beginning a start from the rails phase. (R709) -/
  | powerOn
  /-- A start runs rails or quiesce, start count, trim load, bond test, MP boot, tables, release, branch self-test and record check. (R646) -/
  | start (report : StartReport)
  /-- Firmware sets RUN_ACK when every start phase has completed, clearing START_CNT and logging START and RUN_ACK. (R647) -/
  | runAck
  /-- PWR_PRSNT_N opens with the input switch closed; the switch opens and the module enters Off. (R711) -/
  | presenceLost
  /-- An MP SRAM uncorrectable error or firmware assertion restarts the MP, or a third cause within 60 s causes a Device reset. (R503) -/
  | mpRestart (assertion : Bool)
  /-- The MP watchdog expires 200 ms after the last kick and restarts the MP. (R503) -/
  | mpWatchdogExpiry
  /-- After image load and table rebuild, in-flight commands are resolved from their commit entries and serving resumes. (R506) -/
  | mpRestartComplete
  /-- The shedding stage changes as MP busy crosses an entry figure or stays below an exit figure for 100 ms. (R518) -/
  | shedStage (busy : Fin 101) (held : Bool)
  /-- A data window with no access for 10 s closes and its command completes with TIMEOUT. (R522) -/
  | dataWindowTimeout (ctx : Fin 16)
  /-- A telemetry sample is taken at the end of each effective period. (R538) -/
  | telemetrySample
  /-- The log writes an EPOCH entry when the microsecond STAMP wraps. (R528) -/
  | logEpoch
  /-- The next queued run starts once the previous run on the module has ended. (R334) -/
  | runStart
  /-- A step attempt starts: counter load, completion records cleared, sync init, RNG restore, tasks eligible. (R337) -/
  | attemptStart (answer : Option (BitVec 32 × BitVec 8))
  /-- A ready task gets a slot and starts on its engine after its start checks. (R347) -/
  | taskStart (task : Fin 65536)
  /-- A task completes: writes become visible, signals are performed, the completion record is written. (R350) -/
  | taskComplete (task : Fin 65536)
  /-- An idle Grain steals a ready stealable task from another Grain of its Peck. (R355) -/
  | workSteal (grain : Fin 1024) (vector : Bool)
  /-- After STEAL_DELAY idle clocks, a Peck's scheduler asks the other Pecks of its Bushel for a task. (R356) -/
  | bushelSteal (grain : Fin 1024) (vector : Bool)
  /-- A forward row group chooses the array or the fallback path when it would start its read cycle. (R154) -/
  | rowGroupStart (task : Fin 65536) (token : Fin 65536) (entry : Fin 16) (row : Fin 1024)
  /-- A read cycle completes conversion and accumulation of one row group, adding residuals and comparing checksums. (R147) -/
  | readCycle (array : Fin 16384) (codes : List Int)
  /-- After WINDOW × 1,024 read cycles the mismatching-cycle count restarts at zero. (R162) -/
  | checksumWindowEnd (array : Fin 16384)
  /-- An array serving 1,048,576 read cycles without a new flag returns PERSIST to 0. (R165) -/
  | persistClear (array : Fin 16384)
  /-- Every 1,024 read cycles the Grain publishes reference ratios and the tracker updates gain and offset. (R140) -/
  | refRatioPublish (array : Fin 16384)
  /-- The digital matrix array computes one fallback row group from the working copy at the next pass boundary. (R302) -/
  | fallbackRowGroup (grain : Fin 1024)
  /-- The digital matrix array completes one tile pass of a product, quantising a finished output tile. (R282) -/
  | tilePass (grain : Fin 1024)
  /-- The sampled tile is recomputed digitally and its RMS error compared with tolerance. (R444) -/
  | wideRecomputation (peck : Fin 128)
  /-- The vector engine runs one vector descriptor over all its iterations. (R322) -/
  | vectorDescriptor (grain : Fin 1024)
  /-- A DMA engine moves one Chain program unit, waiting on and signalling segment objects. (R360) -/
  | chainUnit (grain : Fin 1024) (peckDma : Bool)
  /-- A Chain task that met a stream fault ends once its outstanding reads have returned, cutting the attempt short. (R365) -/
  | taskAbortedStreamFault (task : Fin 65536)
  /-- A mailbox wait's timeout expires, withdrawing it with TIMEOUT. (R383) -/
  | mailboxWaitTimeout (ctx : Fin 16) (slot : Fin 8)
  /-- When a tensor's TRIG object reaches its threshold, the exchange unit compresses the gradient and sends contributions. (R411) -/
  | compression (tensor : Fin 65536)
  /-- An owner accepts, sums or discards an arriving exchange contribution message. (R416) -/
  | exchContributionReceived (port : Fin 8) (p : Packet)
  /-- A replica takes, holds or discards a working-copy message; the last chunk makes the tensor present. (R431) -/
  | workingCopyReceived (port : Fin 8) (p : Packet)
  /-- The home hub takes a participant's barrier signal and decides the outcome when all have arrived. (R388) -/
  | barrierSignal (port : Fin 8) (p : Packet)
  /-- A participant acts on an outcome message: commit or refusal of the attempt. (R389) -/
  | barrierOutcome (message : Option (Fin 8 × Packet))
  /-- The buddy acknowledges a barrier's fields and the home hub sends the outcome messages. (R480) -/
  | barrierMirrorAck (phys : Fin 16384)
  /-- After CHECK_FAILED, firmware recomputes tensor scales of affected entries before the next attempt. (R455) -/
  | scaleRecomputation
  /-- The update sequencer runs one owned chunk: transfer in, update rule, transfer out and all-gather. (R423) -/
  | updateChunk (grain : Fin 1024)
  /-- After a commit firmware writes the mirror record to a home slot and sends it to the buddy. (R479) -/
  | mirrorRecordWrite
  /-- The buddy's acknowledgement of a mirror record is recorded in FLT_MIRROR_STATUS and FLT_MIRROR_STEP. (R479) -/
  | mirrorAck
  /-- After a committed update the snapshot engine copies the chunks due under the policy count. (R484) -/
  | snapshotCopy
  /-- Firmware reconstructs failed owned chunks from the newer slot and the journal. (R488) -/
  | reconstruction (tensor : BitVec 32) (chunk : Nat) (errorFeedback : Bool) (slots : List SnapSlot) (entries : List (List Byte))
  /-- A due residual decision starts once no forward task naming the array is running. (R267) -/
  | residualDecisionStart (array : Fin 16384)
  /-- A decision writes a new residual list, or overflows and drains the array, and queues it by thresholds. (R263) -/
  | residualDecisionComplete (array : Fin 16384)
  /-- Firmware selects programs from the queue whose budget, engine, branch and working-copy conditions hold. (R240) -/
  | programSelect
  /-- An array's started read cycles have converted, and it enters PROGRAMMING or RETIRED. (R226) -/
  | drainComplete (array : Fin 16384)
  /-- The programming engine completes the program-and-verify loop of one row, failing the attempt on stuck limit. (R219) -/
  | programRow (array : Fin 16384) (reads : List (List (List Int)))
  /-- Verification of a programmed array passes or fails, leading to SERVING, a new attempt or retirement. (R222) -/
  | verificationComplete (array : Fin 16384) (cycles : List (List Rat)) (results : List (BitVec 32))
  /-- A halted program attempt restarts at row 0 once its cause is gone. (R226) -/
  | attemptRestart (array : Fin 16384)
  /-- Firmware rebuilds an array's checksum correction table from its program record. (R138) -/
  | checksumTableRebuild (array : Fin 16384)
  /-- A branch fault condition held for its duration latches the programming branch off. (R216) -/
  | branchFault (bushel : Fin 16) (sample : BranchSample)
  /-- Batched array metadata is flushed to flash every 10 minutes or after 60 life-count steps. (R243) -/
  | metadataFlush
  /-- The spare slice hands over at a convert boundary and the slice at that position is calibrated. (R188) -/
  | calibrationDwell (array : Fin 16384) (gains : List Int) (offsets : List Int)
  /-- At the end of a dwell trims are checked and a slice failing twice is substituted. (R190) -/
  | calibrationCheck (array : Fin 16384)
  /-- A changed converter reference finishes settling and SETTLED is set. (R194) -/
  | referenceSettled (bushel : Fin 16)
  /-- The external reference leaves its window and the Bushel falls back to the bandgap. (R195) -/
  | extRefFault (bushel : Fin 16) (millivolts : Nat)
  /-- The Bushel monitor completes a reading set and the correction tracker updates gain, offset and nu. (R204) -/
  | monitorReading (bushel : Fin 16) (entry : Fin 512) (array : Fin 16) (sample : MonSample)
  /-- At the end of a scan pass the monitor self-checks and switches to its spare or fails. (R205) -/
  | monitorPassEnd (bushel : Fin 16) (deviation : Int)
  /-- The fault collection unit records a fault and acts by its class. (R468) -/
  | faultDetected (source : Fin 256) (unit : Fin 256) (code : BitVec 16)
  /-- A correctable error is corrected, counted and logged, raising CE_RATE above 1,000 per second. (R470) -/
  | correctableError (source : Fin 256) (unit : Fin 256) (code : BitVec 16)
  /-- An uncorrectable HBM read, at an address within a stack, aborts its transfer and firmware repairs the region. (R469) -/
  | hbmUncorrectable (stack : Fin 6) (address : Nat) (reader : HbmReader)
  /-- A Block reset closes a unit's isolation wrapper and resets the unit. (R471) -/
  | blockReset (unit : Fin 137)
  /-- A reset unit completes its recovery phases, restores control state and opens its wrapper. (R474) -/
  | blockResetRelease (unit : Fin 137)
  /-- A device-lost fault ends every run, raises DEVICE_LOST and performs a Device reset. (R477) -/
  | deviceLost (source : Fin 256)
  /-- A rail overcurrent, undervoltage or overvoltage held for its duration shuts the rail. (R613) -/
  | railFault (rail : Fin 32) (cause : Fin 4)
  /-- The power controller restarts a faulted VCORE rail after 1 ms. (R614) -/
  | vcoreRestart (bushel : Fin 16)
  /-- The power controller restarts VPRG once 100 ms after its fault. (R615) -/
  | vprgRestart
  /-- An open remote-sense pair makes the regulator regulate locally with a raised set point. (R611) -/
  | senseLost (rail : Fin 32)
  /-- An open regulator phase is shed and the rail continues on the rest. (R612) -/
  | phaseShed (rail : Fin 32) (phase : Fin 16)
  /-- An input undervoltage, overvoltage or sustained overcurrent takes the module to Off. (R619) -/
  | inputFault (cause : Fin 4)
  /-- The input returns above 40 V for 100 ms and the module starts from Off. (R666) -/
  | inputRestored
  /-- Input power above 1,800 W for 50 µs raises the module power level by 4. (R624) -/
  | peakPower
  /-- Every 200 µs the mean input power is compared with the limit and the power level moves by one. (R622) -/
  | powerEvaluation (mean : BitVec 16) (volt : BitVec 16) (current : BitVec 16)
  /-- The power controller moves a VCORE rail by one 5 mV step toward the trimmed timing margin. (R626) -/
  | avsStep (bushel : Fin 16) (up : Bool) (measured : BitVec 16)
  /-- Loss or drift of the module reference switches every consumer to the internal oscillator. (R628) -/
  | refclkLost (ppm : Int)
  /-- A Bushel's thermal level rises or falls after its reading holds above or below threshold. (R632) -/
  | thermalThrottle (bushel : Fin 16) (reading : Int) (held : Bool)
  /-- The HBM level rises or falls after HBM stack readings hold above or below threshold. (R633) -/
  | hbmLevelChange (reading : Int) (held : Bool)
  /-- A sensor at trip temperature causes a device-lost fault and entry to Off. (R634) -/
  | thermalTrip (unit : Fin 32) (reading : Int)
  /-- A Peck that has been quiet for IDLE_DELAY clocks stops its island clock. (R661) -/
  | peckIdleEntry (peck : Fin 128)
  /-- A task, due decision or CSR access resumes a Peck from Idle. (R661) -/
  | peckIdleExit (peck : Fin 128)
  /-- A DOWN port whose RETRY interval has passed enters DETECT. (R597) -/
  | portRetry (port : Fin 8)
  /-- Lane detection ends and the port enters TRAIN or DOWN with OPEN or SHORT. (R571) -/
  | detectComplete (port : Fin 8) (opens : Fin 16) (shorts : Fin 16)
  /-- All lanes lock with FEC aligned and the port enters IDENTIFY. (R597) -/
  | trainComplete (port : Fin 8) (polarity : Fin 16) (logical : List (Fin 4))
  /-- Training exceeds 500 ms and the port goes DOWN. (R597) -/
  | trainTmo (port : Fin 8)
  /-- The partner's IDENTIFY flit is taken and the port enters ATTEST or goes DOWN. (R598) -/
  | identifyFlitReceived (port : Fin 8) (theirPort : Fin 8) (node : Fin 4096) (valid : Bool) (version : BitVec 32) (identity : BitVec 256)
  /-- IDENTIFY exceeds 10 ms and the port goes DOWN. (R597) -/
  | idTmo (port : Fin 8)
  /-- An ATTEST message is taken; on verification keys are derived and the port enters UP. (R599) -/
  | attestMessageReceived (port : Fin 8) (msg : BitVec 8) (index : BitVec 16) (count : BitVec 16) (length : BitVec 32) (zeros : BitVec 16) (bytes : List Byte)
  /-- ATTEST exceeds 50 ms and the port goes DOWN. (R597) -/
  | attestTmo (port : Fin 8)
  /-- Lock lost on a lane for 2 µs takes an UP port DOWN with cause LOCK. (R597) -/
  | laneLockLost (port : Fin 8) (lanes : Fin 16)
  /-- A LINK flit delivers ACK, NACK, DOWN, epoch change and credits, or takes the port DOWN on tag failure. (R575) -/
  | linkFlitReceived (port : Fin 8) (ack : BitVec 24) (flags : BitVec 8) (epochSeq : BitVec 24) (credits : List (BitVec 12)) (tagHolds : Bool)
  /-- An UP port sends a LINK flit at least once every 1 µs. (R575) -/
  | linkFlitSend (port : Fin 8)
  /-- A sender starts a new key epoch after 3,600 s or 2^31 packets and announces it. (R578) -/
  | keyEpochChange (port : Fin 8)
  /-- A packet is accepted, NACKed or discarded by SEQ and tag, then delivered locally or forwarded. (R579) -/
  | headPacketReceived (port : Fin 8) (seq : BitVec 24) (uncorrectable : Nat) (corrected : Nat) (tagHolds : Bool) (dflits : BitVec 8) (p : Packet) (message : MgmtContent)
  /-- An outstanding packet unanswered after 20 ms completes with LINK_DOWN. (R588) -/
  | e2eTimeout (ttag : Fin 16384)
  /-- A MEM_WR packet is checked against windows, written and answered with a DELIVERY pair. (R589) -/
  | memWrReceived (port : Fin 8) (p : Packet)
  /-- A MEM_RD packet is checked against windows and answered with a MEM_CPL. (R589) -/
  | memRdReceived (port : Fin 8) (p : Packet)
  /-- A MEM_CPL packet completes an outstanding read of a Chain unit. (R586) -/
  | memCplReceived (port : Fin 8) (p : Packet)
  /-- A DELIVERY packet completes outstanding packets with their statuses. (R586) -/
  | deliveryReceived (port : Fin 8) (p : Packet)
  /-- A fabric RESET_REQ is verified and performs a Device or Context reset, or is refused. (R643) -/
  | resetReqReceived (port : Fin 8) (p : Packet)
  /-- A firmware-to-firmware MGMT_MSG packet is taken and answered. (R586) -/
  | mgmtMsgReceived (port : Fin 8) (p : Packet) (message : MgmtContent)
  /-- A remote signal arrives at the object's home hub and is applied. (R384) -/
  | syncOpSignal (port : Fin 8) (p : Packet)
  /-- A remote wait arrives at the object's home hub and is posted or answered. (R384) -/
  | syncOpWait (port : Fin 8) (p : Packet)
  /-- A release or status answer from a home hub completes the waiter or remote signal. (R721) -/
  | syncOpRelease (port : Fin 8) (p : Packet)
  /-- A withdraw message removes a remote wait at the home hub. (R374) -/
  | syncOpWithdraw (port : Fin 8) (p : Packet)
  /-- A map probe arrives at the home and is answered with a probe reply. (R397) -/
  | mapProbe (port : Fin 8) (p : Packet)
  /-- A probe reply completes SYNC_MAP_REMOTE. (R397) -/
  | probeReply (port : Fin 8) (p : Packet)
  /-- An SPDM request over DOE or MCTP is answered by the responder. (R693) -/
  | spdmRequest (request : SpdmRequest)
  /-- An IDE integrity failure puts the stream Insecure and discards its TLPs. (R694) -/
  | ideFail (stream : Fin 4)
  /-- 1 ms after POWER_DOWN posts its response, the rails stop in reverse order with VPRG first, and the module enters Off. (R665) -/
  | powerDownRailStop
  /-- Due DELIVERY pairs are sent in one DELIVERY packet 1 µs after the first pair fell due, or once 48 pairs are due. (R589) -/
  | deliveryPairsDue
  /-- A Chain read of host memory whose PCIe completion does not arrive in time meets a stream fault with cause TIMEOUT. (R365) -/
  | pcieCompletionTimeout (tag : Fin 65536)
  /-- A PCIe completion for a Chain program read of host memory arrives with data, Unsupported Request, Completer Abort or poison. (R555) -/
  | pcieCompletionReceived (tag : Fin 65536) (data : Option (List Byte))
  /-- VANA18 or a VCORE rail leaves its UV or OV window, the compute stack's programming drivers are inhibited within 1 µs, and attempts halt as on a branch fault. (R617) -/
  | programmingInhibit (unit : Fin 20) (outside : Bool)
  deriving DecidableEq, Repr

end Sys2Proof
end

