-- ==== Sys2Proof/Decode.lean ====
section
/-! DEFINITION. The block has no instruction words: every row of spec/opcode_table.json has an empty list of fields and no bits, so no
word of the table spells a command. -/
namespace Sys2Proof

/-- The command a word spells by the table's bits: none, for the table gives no row any bits. -/
def decodeTableWord (_nbits _w : Nat) : Option Instr := none

end Sys2Proof
end

