-- ==== Sys2Proof/Machine/Tables.lean ====
section
/-! DEFINITION. Sparse tables: lists of (key, value) pairs with strictly rising keys. They hold every large piece of
state (registers, memories, objects, arrays): a key that is not listed has the table's default, and a table with a
default lists no entry equal to it, so that equal contents are equal lists. Bit-field helpers stand here too. -/
namespace Sys2Proof.Machine

/-- A sparse table with natural-number keys. -/
abbrev Tbl (α : Type) := List (Nat × α)

/-- The entry at key `k`, if it is listed. -/
def Tbl.find {α : Type} (m : Tbl α) (k : Nat) : Option α :=
  match m with
  | [] => none
  | (k', v) :: rest => if k = k' then some v else if k < k' then none else Tbl.find rest k

/-- Lists `v` at key `k`, in place of what was listed there. -/
def Tbl.put {α : Type} (m : Tbl α) (k : Nat) (v : α) : Tbl α :=
  match m with
  | [] => [(k, v)]
  | (k', v') :: rest =>
    if k = k' then (k, v) :: rest
    else if k < k' then (k, v) :: (k', v') :: rest
    else (k', v') :: Tbl.put rest k v

/-- Takes the entry at key `k` out of the list. -/
def Tbl.del {α : Type} (m : Tbl α) (k : Nat) : Tbl α :=
  match m with
  | [] => []
  | (k', v') :: rest =>
    if k = k' then rest
    else if k < k' then (k', v') :: rest
    else (k', v') :: Tbl.del rest k

/-- The value at key `k`, where an unlisted key has the value `dflt`. -/
def Tbl.get {α : Type} (dflt : α) (m : Tbl α) (k : Nat) : α :=
  (Tbl.find m k).getD dflt

/-- Writes `v` at key `k` of a table whose default there is `dflt`: writing the default removes the entry. -/
def Tbl.set {α : Type} [DecidableEq α] (dflt : α) (m : Tbl α) (k : Nat) (v : α) : Tbl α :=
  if v = dflt then Tbl.del m k else Tbl.put m k v

/-- Changes the value at key `k` by `f`. -/
def Tbl.modify {α : Type} [DecidableEq α] (dflt : α) (m : Tbl α) (k : Nat) (f : α → α) : Tbl α :=
  Tbl.set dflt m k (f (Tbl.get dflt m k))

/-- Strictly rising keys, all above the bound. -/
def Tbl.risingFrom {α : Type} (lo : Nat) (m : Tbl α) : Bool :=
  match m with
  | [] => true
  | (k, _) :: rest => decide (lo ≤ k) && Tbl.risingFrom (k + 1) rest

/-- The canonical form of a table: strictly rising keys. -/
def Tbl.rising {α : Type} (m : Tbl α) : Bool := Tbl.risingFrom 0 m

/-- The canonical form of a table with the default `dflt`: strictly rising keys and no entry equal to the default. -/
def Tbl.wf {α : Type} [DecidableEq α] (dflt : α) (m : Tbl α) : Bool :=
  Tbl.rising m && m.all (fun e => decide (e.2 ≠ dflt))

/-- Bits [hi:lo] of a number. -/
def bits (x hi lo : Nat) : Nat := (x >>> lo) % 2 ^ (hi + 1 - lo)

/-- Bit `i` of a number. -/
def bit (x i : Nat) : Bool := x.testBit i

/-- 1 for true and 0 for false. -/
def b2n (b : Bool) : Nat := if b then 1 else 0

/-- The number whose bits [hi:lo] are `v` (cut to the field's width) and whose other bits are those of `x`. -/
def setBits (x hi lo v : Nat) : Nat :=
  x - bits x hi lo * 2 ^ lo + (v % 2 ^ (hi + 1 - lo)) * 2 ^ lo

/-- Two's complement reading of the low `n` bits. -/
def signed (n x : Nat) : Int :=
  if (x % 2 ^ n) < 2 ^ (n - 1) then Int.ofNat (x % 2 ^ n) else Int.ofNat (x % 2 ^ n) - Int.ofNat (2 ^ n)

/-- The low `n` bits of the two's complement form of an integer. -/
def unsigned (n : Nat) (x : Int) : Nat := (x % Int.ofNat (2 ^ n)).toNat

/-- Saturating increment of an `n`-bit counter. -/
def satAdd (n a b : Nat) : Nat := min (a + b) (2 ^ n - 1)

/-- A list with element `i` replaced. -/
def setAt {α : Type} (l : List α) (i : Nat) (v : α) : List α :=
  match l, i with
  | [], _ => []
  | _ :: t, 0 => v :: t
  | h :: t, i + 1 => h :: setAt t i v

/-- Element `i` of a list of numbers, 0 beyond its end. -/
def nth (l : List Nat) (i : Nat) : Nat := l.getD i 0

end Sys2Proof.Machine
end

