-- ==== Sys2Proof/Machine/Status.lean ====
section
/-! DEFINITION. The shared status codes (R8, R516). -/
namespace Sys2Proof.Machine

/-- The master status table (R516). -/
inductive Status where
  | ok | okZeroWork | okFallback | badArg | badLength | notPermitted | busy | unknownOpcode
  | streamFault | isolated | abandoned | timeout | saturated | stepSkew | checkFailed | arrayRetired
  | writeBudget | clockUnstable | trimInvalid | refUnsettled | authFailed | rollback | linkDown
  | partnerChanged | routeSuspended | internal
  deriving DecidableEq, Repr, Inhabited

/-- The 8-bit code of a status (R516). -/
def Status.code : Status → Nat
  | .ok => 0x00 | .okZeroWork => 0x01 | .okFallback => 0x02 | .badArg => 0x10 | .badLength => 0x11
  | .notPermitted => 0x12 | .busy => 0x13 | .unknownOpcode => 0x14 | .streamFault => 0x20
  | .isolated => 0x21 | .abandoned => 0x22 | .timeout => 0x23 | .saturated => 0x24 | .stepSkew => 0x30
  | .checkFailed => 0x31 | .arrayRetired => 0x32 | .writeBudget => 0x33 | .clockUnstable => 0x40
  | .trimInvalid => 0x41 | .refUnsettled => 0x42 | .authFailed => 0x50 | .rollback => 0x51
  | .linkDown => 0x60 | .partnerChanged => 0x61 | .routeSuspended => 0x62 | .internal => 0xFF

/-- R350: the statuses with which a task performs its signals. -/
def Status.signals : Status → Bool
  | .ok => true | .okZeroWork => true | .okFallback => true | .saturated => true | _ => false

end Sys2Proof.Machine
end

