-- ==== Sys2Proof/Config.lean ====
section
/-! DEFINITION. What the spec leaves open or an implementation fixes: constants without a body, of which no proof can
see a value. Each is named in the assumption log. -/
namespace Sys2Proof

/-- The random number of stochastic rounding for activations and gradients (R100, R101): RNG state of the issuing Peck
at step start, the task's tag, the element's index. -/
opaque Config.srTask : (rng tag index : Nat) → BitVec 16

/-- The random number of stochastic rounding for momentum (R101): step number, parameter index. -/
opaque Config.srMomentum : (step param : Nat) → BitVec 16

/-- The momentum code of a parameter whose new momentum is not finite, in a block that keeps its scale code because it holds
a frozen parameter (R114 and R424 do not agree there): step number, parameter index. -/
opaque Config.momentumCode : (step param : Nat) → BitVec 8

/-- sgn of a NaN (R425 states none), an FP32 word: step number, parameter index. -/
opaque Config.sgnNan : (step param : Nat) → BitVec 32

/-- The correction a residual decision finds where its terms make a NaN (R261): array, row, output. -/
opaque Config.nanDelta : (array row out : Nat) → Int

/-- Whether a change of a gain or of nu that is not a finite number counts as more than a limit (R274, R277). -/
opaque Config.nanMoves : Bool

/-- A Peck’s RNG state after a committed step: a fixed function of its state at the start of the step and of the step number (R42, R475). -/
opaque Config.rngAdvance : (rng step : Nat) → BitVec 256

/-- A value the spec leaves open, fresh at each use: the argument is a counter that State holds. -/
opaque Config.free : (counter : Nat) → BitVec 64

/-- What a read of a byte that no memory has finds (log entry 99): open. -/
opaque Config.absentByte : (cell : Nat) → BitVec 8

/-- The committed step value of a run where nothing the module holds gives one (R334, R336): the argument is the counter of open
values. -/
opaque Config.unknownCommitted : (counter : Nat) → BitVec 32

/-- Trims in fuses (R649): the five sets, copy A; the word number. -/
opaque Config.trimWord : (set word : Nat) → BitVec 32

/-- The factory trim of a converter slice, from the stack's trim shadow (R192, R209): array, slice, gain code. -/
opaque Config.factoryGainTrim : (array slice gain : Nat) → BitVec 6
opaque Config.factoryOffsetTrim : (array slice gain : Nat) → BitVec 7

/-- The severity a log entry of a diagnostic or fixed event carries where no rule states it (R526, R531). -/
opaque Config.severity : (event : Nat) → Fin 6

/-- STATUS of a log entry where no rule names it, from the event and the status of what it reports; its SOURCE where it concerns
no array, Grain, Peck, Bushel, context, port or HBM stack, from the event and the unit that reports it; its context where it
concerns none (R526, R527). -/
opaque Config.logStatus : (event : Nat) → (about : Machine.Status) → Machine.Status
opaque Config.logSource : (event : Nat) → (unit : Nat) → BitVec 16
opaque Config.logContext : (event : Nat) → Fin 16

/-- EVENT code and DATA bytes the firmware release gives a diagnostic entry (R531). -/
opaque Config.diagCode : (kind : Nat) → BitVec 16
opaque Config.diagData : (kind : Nat) → List Nat → (byte : Nat) → BitVec 8

/-- The value a 24-bit integer accumulator starts from where ACC_IN names the FP32 word `w` (R286): the spec does not say
how it is converted. -/
opaque Config.accStart : (w : Nat) → BitVec 24

/-- Whether top-k selection (R412) takes a NaN before every number: the rule does not place a NaN in the order. -/
opaque Config.nanLargest : Bool

/-- SHA3-256 of a byte string (FIPS 202), as a number with byte 0 lowest. -/
opaque Config.sha3 : List Nat → BitVec 256

/-- ML-DSA-65 verification (FIPS 204): public key, signed bytes, signature. -/
opaque Config.mldsaVerify : (key message signature : List Nat) → Bool

/-- Fused identity of the module (R532, R679): serial number, image-signing key hashes, debug key hash; the device identity hash (R689). -/
opaque Config.serial : BitVec 64
opaque Config.imgKey : (slot : Nat) → BitVec 256
opaque Config.dbgKey : BitVec 256
opaque Config.identityHash : BitVec 256

/-- SHA3-256 of the Tvednor root CA public key, in fuses (R679); the device certificate chain in module flash (R690). -/
opaque Config.rootHash : BitVec 256
opaque Config.deviceChain : List Nat

/-- The certificates of a chain in X.509 v3 DER, root first, or none where the bytes are no such chain (R690): X.509 lays them out. -/
opaque Config.parseChain : List Nat → Option (List Machine.Cert)

/-- SHA3-256 hash H of the transcript of ATTEST (R599), from the partner's messages and the number of the session: the module's own
nonce, key and ciphertext are not held. -/
opaque Config.transcript : (messages : List (List Nat)) → (port : Nat) → List Nat

/-- The image the module is delivered with (R681): firmware version, SVN, key slot and the keys it revokes; the boot ROM version. -/
opaque Config.factoryVersion : BitVec 32
opaque Config.factorySvn : Fin 65
opaque Config.factoryKey : Fin 4
opaque Config.factoryRevoke : BitVec 4
opaque Config.romVersion : BitVec 32

/-- What a measurement register is extended with (R691): the register, and the numbers the table names for it. -/
opaque Config.measured : (index : Nat) → (inputs : List Nat) → List Nat

/-- Session secret of a Furlong port (R599), from both sides' ATTEST messages. -/
opaque Config.sessionSecret : (messages : List (List Nat)) → BitVec 256

/-- Answer of the SPDM responder to a request (R693): its bytes are laid down in SPDM 1.3; the argument numbers the requests. -/
opaque Config.spdmAnswer : (request : Nat) → List Nat

/-- Answer of firmware to a firmware-to-firmware message (R586: the layout belongs to firmware). -/
opaque Config.mgmtAnswer : (message : List Nat) → List Nat

/-- Bytes of a mirror record (R478) and of a snapshot slot's header with its CRC (R483): the places of their fields are not given. -/
opaque Config.mirrorByte : Machine.MirrorRecord → (byte : Nat) → BitVec 8
opaque Config.snapHeader : (fields : List Nat) → (byte : Nat) → BitVec 8

/-- Highest junction frequency 0.85 V supports, and the voltage a frequency needs (R626): trim table of a stack, units 25 MHz and mV. -/
opaque Config.vcoreFor : (stack freq : Nat) → Nat

end Sys2Proof
end

