-- ==== Sys2Proof/Machine/RegBase.lean ====
section
/-! DEFINITION. What a register is: its place (the level and unit it belongs to and its offset there), and its fields
with their access codes (R11), reset values and Kept entries (R12). -/
namespace Sys2Proof.Machine

/-- Access codes of R11. -/
inductive Access where
  | ro | rw | w1c | w1s | rc | wo
  deriving DecidableEq, Repr

/-- Reset kinds in order of depth (R12); `none` is shallower than every kind. -/
inductive ResetKind where
  | none | block | context | device | cold
  deriving DecidableEq, Repr

/-- Power states in order of depth (R12); `none` is shallower than Idle. -/
inductive PowerDepth where
  | none | idle | standby | sleep | off
  deriving DecidableEq, Repr

/-- Depth of a reset kind (R12). -/
def ResetKind.depth : ResetKind → Nat
  | .none => 0 | .block => 1 | .context => 2 | .device => 3 | .cold => 4

/-- Depth of a power state (R12). -/
def PowerDepth.depth : PowerDepth → Nat
  | .none => 0 | .idle => 1 | .standby => 2 | .sleep => 3 | .off => 4

/-- A Kept entry (R12): the deepest reset kind and power state survived, and whether the loss is silent. -/
structure Kept where
  reset  : ResetKind
  power  : PowerDepth
  silent : Bool
  deriving DecidableEq, Repr

def keptNothing : Kept := ⟨.none, .none, false⟩
def keptNoneIdle : Kept := ⟨.none, .idle, false⟩
def keptNoneIdleSilent : Kept := ⟨.none, .idle, true⟩
def keptNoneStandby : Kept := ⟨.none, .standby, false⟩
def keptNoneSleep : Kept := ⟨.none, .sleep, false⟩
def keptBlockSleep : Kept := ⟨.block, .sleep, false⟩
def keptContextStandby : Kept := ⟨.context, .standby, false⟩
def keptContextStandbySilent : Kept := ⟨.context, .standby, true⟩
def keptContextSleep : Kept := ⟨.context, .sleep, false⟩
def keptContextSleepSilent : Kept := ⟨.context, .sleep, true⟩
def keptDeviceSleep : Kept := ⟨.device, .sleep, false⟩
def keptDeviceOff : Kept := ⟨.device, .off, false⟩
def keptColdOff : Kept := ⟨.cold, .off, false⟩

/-- The unit a register stands in: a Grain, a Peck (its common block), a Bushel, a compute stack, the X-die (one unit
code, or one per port), or a PCIe function's BAR0 (R60, R61, R556). -/
inductive Scope where
  | grain | peck | bushel | die | xdie | fn
  deriving DecidableEq, Repr

/-- LVL of the scope (R60); BAR0 registers stand outside the internal CSR space and take 4. -/
def Scope.lvl : Scope → Nat
  | .grain => 0 | .peck => 0 | .bushel => 1 | .die => 2 | .xdie => 3 | .fn => 4

/-- Where the unit number stands in the address (R59: the Grain ID is bits [31:22], the Peck ID bits [31:25], the
Bushel number bits [31:28], the die bits [31:30], the port number bits [24:22] of the unit code); each BAR0 has 16 MiB. -/
def Scope.shift : Scope → Nat
  | .grain => 22 | .peck => 25 | .bushel => 28 | .die => 30 | .xdie => 22 | .fn => 24

/-- One field of a register map. -/
structure FieldDef where
  name   : String
  hi     : Nat
  lo     : Nat
  access : Access
  reset  : Nat
  kept   : Kept
  deriving DecidableEq, Repr

/-- One register, or a family of like registers: `n1` of them `s1` bytes apart (arrays, ports' classes, slots), and
inside each `n2` of them `s2` bytes apart. -/
structure Reg where
  name   : String
  scope  : Scope
  base   : Nat
  n1     : Nat
  s1     : Nat
  n2     : Nat
  s2     : Nat
  fields : List FieldDef
  deriving DecidableEq, Repr

/-- A named field of a register. -/
structure Fld where
  reg : Reg
  hi  : Nat
  lo  : Nat
  deriving DecidableEq, Repr

/-- The key of a register in State's register table: LVL above the 32-bit internal CSR address (R59). -/
def Reg.key (r : Reg) (u : Nat) (n : Nat := 0) (k : Nat := 0) : Nat :=
  r.scope.lvl * 2 ^ 40 + u * 2 ^ r.scope.shift + r.base + n * r.s1 + k * r.s2

/-- The word the fields' reset values make. -/
def Reg.fieldsReset (r : Reg) : Nat :=
  r.fields.foldl (fun w f => w + (f.reset % 2 ^ (f.hi + 1 - f.lo)) * 2 ^ f.lo) 0

end Sys2Proof.Machine
end

