-- ==== Sys2Proof/Machine/Registers.lean ====
section
/-! DEFINITION. The registers of the part: one entry per row of the register maps of spec/, with its place in its
unit's address range (R59 to R61, R507, R556) and, for every field, its bits, access code (R11), reset value and
Kept entry (R12). Registers that stand once per array, counter, slot and so on are one entry with a count and a stride. -/
namespace Sys2Proof.Machine

/-- R170 of 04_analogue_arrays.md. -/
def ARR_STATE : Reg :=
  ⟨"ARR_STATE", .grain, 0x0, 16, 0x10000, 1, 4, [
    ⟨"STATE", 2, 0, .ro, 0, keptColdOff⟩]⟩
def ARR_STATE_STATE : Fld := ⟨ARR_STATE, 2, 0⟩

/-- R170 of 04_analogue_arrays.md. -/
def ARR_PROG_GEN : Reg :=
  ⟨"ARR_PROG_GEN", .grain, 0x4, 16, 0x10000, 1, 4, [
    ⟨"GEN", 23, 0, .ro, 0, keptColdOff⟩]⟩
def ARR_PROG_GEN_GEN : Fld := ⟨ARR_PROG_GEN, 23, 0⟩

/-- R170 of 04_analogue_arrays.md. -/
def ARR_BIND_TENSOR : Reg :=
  ⟨"ARR_BIND_TENSOR", .grain, 0x8, 16, 0x10000, 1, 4, [
    ⟨"TENSOR_ID", 31, 0, .ro, 4294967295, keptColdOff⟩]⟩
def ARR_BIND_TENSOR_TENSOR_ID : Fld := ⟨ARR_BIND_TENSOR, 31, 0⟩

/-- R170 of 04_analogue_arrays.md. -/
def ARR_BIND_TILE : Reg :=
  ⟨"ARR_BIND_TILE", .grain, 0xc, 16, 0x10000, 1, 4, [
    ⟨"ROW_TILE", 31, 16, .ro, 0, keptColdOff⟩,
    ⟨"COL_TILE", 15, 0, .ro, 0, keptColdOff⟩]⟩
def ARR_BIND_TILE_ROW_TILE : Fld := ⟨ARR_BIND_TILE, 31, 16⟩
def ARR_BIND_TILE_COL_TILE : Fld := ⟨ARR_BIND_TILE, 15, 0⟩

/-- R170 of 04_analogue_arrays.md. -/
def ARR_ROWGRP_CFG : Reg :=
  ⟨"ARR_ROWGRP_CFG", .grain, 0x10, 16, 0x10000, 1, 4, [
    ⟨"SIZE", 7, 0, .rw, 128, keptContextStandbySilent⟩]⟩
def ARR_ROWGRP_CFG_SIZE : Fld := ⟨ARR_ROWGRP_CFG, 7, 0⟩

/-- R170 of 04_analogue_arrays.md. -/
def ARR_CHK_CFG : Reg :=
  ⟨"ARR_CHK_CFG", .grain, 0x20, 16, 0x10000, 1, 4, [
    ⟨"EN", 31, 31, .rw, 1, keptContextStandbySilent⟩,
    ⟨"DIV_LOG2", 26, 24, .ro, 0, keptColdOff⟩,
    ⟨"THRESH", 23, 16, .rw, 6, keptContextStandbySilent⟩,
    ⟨"LIMIT", 15, 8, .rw, 4, keptContextStandbySilent⟩,
    ⟨"WINDOW", 7, 0, .rw, 64, keptContextStandbySilent⟩]⟩
def ARR_CHK_CFG_EN : Fld := ⟨ARR_CHK_CFG, 31, 31⟩
def ARR_CHK_CFG_DIV_LOG2 : Fld := ⟨ARR_CHK_CFG, 26, 24⟩
def ARR_CHK_CFG_THRESH : Fld := ⟨ARR_CHK_CFG, 23, 16⟩
def ARR_CHK_CFG_LIMIT : Fld := ⟨ARR_CHK_CFG, 15, 8⟩
def ARR_CHK_CFG_WINDOW : Fld := ⟨ARR_CHK_CFG, 7, 0⟩

/-- R170 of 04_analogue_arrays.md. -/
def ARR_CHK_STATUS : Reg :=
  ⟨"ARR_CHK_STATUS", .grain, 0x24, 16, 0x10000, 1, 4, [
    ⟨"FLAGGED", 31, 31, .w1c, 0, keptNothing⟩,
    ⟨"CHK_READY", 30, 30, .ro, 0, keptNothing⟩,
    ⟨"PERSIST", 29, 28, .ro, 0, keptColdOff⟩,
    ⟨"LAST_RG", 9, 4, .ro, 0, keptNothing⟩,
    ⟨"LAST_CG", 3, 0, .ro, 0, keptNothing⟩]⟩
def ARR_CHK_STATUS_FLAGGED : Fld := ⟨ARR_CHK_STATUS, 31, 31⟩
def ARR_CHK_STATUS_CHK_READY : Fld := ⟨ARR_CHK_STATUS, 30, 30⟩
def ARR_CHK_STATUS_PERSIST : Fld := ⟨ARR_CHK_STATUS, 29, 28⟩
def ARR_CHK_STATUS_LAST_RG : Fld := ⟨ARR_CHK_STATUS, 9, 4⟩
def ARR_CHK_STATUS_LAST_CG : Fld := ⟨ARR_CHK_STATUS, 3, 0⟩

/-- R170 of 04_analogue_arrays.md. -/
def ARR_CHK_MISMATCH_CNT : Reg :=
  ⟨"ARR_CHK_MISMATCH_CNT", .grain, 0x28, 16, 0x10000, 1, 4, [
    ⟨"COUNT", 31, 0, .rc, 0, keptNothing⟩]⟩
def ARR_CHK_MISMATCH_CNT_COUNT : Fld := ⟨ARR_CHK_MISMATCH_CNT, 31, 0⟩

/-- R170 of 04_analogue_arrays.md. -/
def ARR_CHK_SKIP_CNT : Reg :=
  ⟨"ARR_CHK_SKIP_CNT", .grain, 0x2c, 16, 0x10000, 1, 4, [
    ⟨"COUNT", 31, 0, .rc, 0, keptNothing⟩]⟩
def ARR_CHK_SKIP_CNT_COUNT : Fld := ⟨ARR_CHK_SKIP_CNT, 31, 0⟩

/-- R170 of 04_analogue_arrays.md. -/
def ARR_CLIP_CNT : Reg :=
  ⟨"ARR_CLIP_CNT", .grain, 0x30, 16, 0x10000, 1, 4, [
    ⟨"COUNT", 31, 0, .rc, 0, keptNothing⟩]⟩
def ARR_CLIP_CNT_COUNT : Fld := ⟨ARR_CLIP_CNT, 31, 0⟩

/-- R170 of 04_analogue_arrays.md. -/
def ARR_CYCLE_CNT : Reg :=
  ⟨"ARR_CYCLE_CNT", .grain, 0x34, 16, 0x10000, 1, 4, [
    ⟨"COUNT", 31, 0, .ro, 0, keptNothing⟩]⟩
def ARR_CYCLE_CNT_COUNT : Fld := ⟨ARR_CYCLE_CNT, 31, 0⟩

/-- R170 of 04_analogue_arrays.md. -/
def ARR_REF_RATIO : Reg :=
  ⟨"ARR_REF_RATIO", .grain, 0x40, 16, 0x10000, 4, 4, [
    ⟨"RATIO", 31, 0, .ro, 1065353216, keptNothing⟩]⟩
def ARR_REF_RATIO_RATIO : Fld := ⟨ARR_REF_RATIO, 31, 0⟩

/-- R171 of 04_analogue_arrays.md. -/
def ARR_GRAIN_CONC : Reg :=
  ⟨"ARR_GRAIN_CONC", .grain, 0xf00, 1, 4, 1, 4, [
    ⟨"ACTIVE", 19, 16, .ro, 0, keptNothing⟩,
    ⟨"LIMIT", 3, 0, .ro, 8, keptNothing⟩]⟩
def ARR_GRAIN_CONC_ACTIVE : Fld := ⟨ARR_GRAIN_CONC, 19, 16⟩
def ARR_GRAIN_CONC_LIMIT : Fld := ⟨ARR_GRAIN_CONC, 3, 0⟩

/-- R171 of 04_analogue_arrays.md. -/
def ARR_GRAIN_STALL_CNT : Reg :=
  ⟨"ARR_GRAIN_STALL_CNT", .grain, 0xf04, 1, 4, 1, 4, [
    ⟨"COUNT", 31, 0, .rc, 0, keptNothing⟩]⟩
def ARR_GRAIN_STALL_CNT_COUNT : Fld := ⟨ARR_GRAIN_STALL_CNT, 31, 0⟩

/-- R209 of 05_column_converters.md. -/
def CNV_SEQ_CTRL : Reg :=
  ⟨"CNV_SEQ_CTRL", .grain, 0x100000, 16, 0x10000, 1, 4, [
    ⟨"ARM", 31, 31, .wo, 0, keptNothing⟩,
    ⟨"DEFAULT", 30, 30, .wo, 0, keptNothing⟩,
    ⟨"LEN", 4, 0, .rw, 0, keptNoneIdleSilent⟩]⟩
def CNV_SEQ_CTRL_ARM : Fld := ⟨CNV_SEQ_CTRL, 31, 31⟩
def CNV_SEQ_CTRL_DEFAULT : Fld := ⟨CNV_SEQ_CTRL, 30, 30⟩
def CNV_SEQ_CTRL_LEN : Fld := ⟨CNV_SEQ_CTRL, 4, 0⟩

/-- R209 of 05_column_converters.md. -/
def CNV_SEQ_STATUS : Reg :=
  ⟨"CNV_SEQ_STATUS", .grain, 0x100004, 16, 0x10000, 1, 4, [
    ⟨"USER_ACTIVE", 31, 31, .ro, 0, keptNoneIdleSilent⟩,
    ⟨"ARM_BUSY", 30, 30, .ro, 0, keptNothing⟩,
    ⟨"RESULT", 23, 16, .ro, 0, keptNoneIdleSilent⟩,
    ⟨"T_SEQ", 15, 0, .ro, 80, keptNoneIdleSilent⟩]⟩
def CNV_SEQ_STATUS_USER_ACTIVE : Fld := ⟨CNV_SEQ_STATUS, 31, 31⟩
def CNV_SEQ_STATUS_ARM_BUSY : Fld := ⟨CNV_SEQ_STATUS, 30, 30⟩
def CNV_SEQ_STATUS_RESULT : Fld := ⟨CNV_SEQ_STATUS, 23, 16⟩
def CNV_SEQ_STATUS_T_SEQ : Fld := ⟨CNV_SEQ_STATUS, 15, 0⟩

/-- R209 of 05_column_converters.md. -/
def CNV_GAIN_OVR : Reg :=
  ⟨"CNV_GAIN_OVR", .grain, 0x100008, 16, 0x10000, 1, 4, [
    ⟨"EN", 31, 31, .rw, 0, keptNoneIdleSilent⟩,
    ⟨"GAIN", 1, 0, .rw, 0, keptNoneIdleSilent⟩]⟩
def CNV_GAIN_OVR_EN : Fld := ⟨CNV_GAIN_OVR, 31, 31⟩
def CNV_GAIN_OVR_GAIN : Fld := ⟨CNV_GAIN_OVR, 1, 0⟩

/-- R209 of 05_column_converters.md. -/
def CNV_CAL_CFG : Reg :=
  ⟨"CNV_CAL_CFG", .grain, 0x100010, 16, 0x10000, 1, 4, [
    ⟨"EN", 31, 31, .rw, 1, keptNoneIdleSilent⟩,
    ⟨"CAL_NOW", 30, 30, .wo, 0, keptNothing⟩,
    ⟨"ROT_GAP", 15, 0, .rw, 0, keptNoneIdleSilent⟩]⟩
def CNV_CAL_CFG_EN : Fld := ⟨CNV_CAL_CFG, 31, 31⟩
def CNV_CAL_CFG_CAL_NOW : Fld := ⟨CNV_CAL_CFG, 30, 30⟩
def CNV_CAL_CFG_ROT_GAP : Fld := ⟨CNV_CAL_CFG, 15, 0⟩

/-- R209 of 05_column_converters.md. -/
def CNV_CAL_STATUS : Reg :=
  ⟨"CNV_CAL_STATUS", .grain, 0x100014, 16, 0x10000, 1, 4, [
    ⟨"SUBST", 31, 31, .ro, 0, keptColdOff⟩,
    ⟨"ROTATING", 30, 30, .ro, 0, keptNothing⟩,
    ⟨"RESULT", 23, 16, .ro, 0, keptNothing⟩,
    ⟨"SUBST_POS", 14, 8, .ro, 0, keptColdOff⟩,
    ⟨"POS", 6, 0, .ro, 0, keptNothing⟩]⟩
def CNV_CAL_STATUS_SUBST : Fld := ⟨CNV_CAL_STATUS, 31, 31⟩
def CNV_CAL_STATUS_ROTATING : Fld := ⟨CNV_CAL_STATUS, 30, 30⟩
def CNV_CAL_STATUS_RESULT : Fld := ⟨CNV_CAL_STATUS, 23, 16⟩
def CNV_CAL_STATUS_SUBST_POS : Fld := ⟨CNV_CAL_STATUS, 14, 8⟩
def CNV_CAL_STATUS_POS : Fld := ⟨CNV_CAL_STATUS, 6, 0⟩

/-- R209 of 05_column_converters.md. -/
def CNV_UNSETTLED_CNT : Reg :=
  ⟨"CNV_UNSETTLED_CNT", .grain, 0x100018, 16, 0x10000, 1, 4, [
    ⟨"COUNT", 31, 0, .rc, 0, keptNothing⟩]⟩
def CNV_UNSETTLED_CNT_COUNT : Fld := ⟨CNV_UNSETTLED_CNT, 31, 0⟩

/-- R209 of 05_column_converters.md. -/
def CNV_TRIM_SEL : Reg :=
  ⟨"CNV_TRIM_SEL", .grain, 0x100020, 16, 0x10000, 1, 4, [
    ⟨"GAIN", 9, 8, .rw, 0, keptNothing⟩,
    ⟨"SLICE", 6, 0, .rw, 0, keptNothing⟩]⟩
def CNV_TRIM_SEL_GAIN : Fld := ⟨CNV_TRIM_SEL, 9, 8⟩
def CNV_TRIM_SEL_SLICE : Fld := ⟨CNV_TRIM_SEL, 6, 0⟩

/-- R209 of 05_column_converters.md. -/
def CNV_TRIM_DATA : Reg :=
  ⟨"CNV_TRIM_DATA", .grain, 0x100024, 16, 0x10000, 1, 4, [
    ⟨"GAIN_TRIM", 13, 8, .ro, 0, keptNothing⟩,
    ⟨"OFFSET_TRIM", 6, 0, .ro, 0, keptNothing⟩]⟩
def CNV_TRIM_DATA_GAIN_TRIM : Fld := ⟨CNV_TRIM_DATA, 13, 8⟩
def CNV_TRIM_DATA_OFFSET_TRIM : Fld := ⟨CNV_TRIM_DATA, 6, 0⟩

/-- R209 of 05_column_converters.md. -/
def CNV_SEQ_ENTRY : Reg :=
  ⟨"CNV_SEQ_ENTRY", .grain, 0x100040, 16, 0x10000, 16, 4, [
    ⟨"ENTRY", 31, 0, .rw, 0, keptNoneIdleSilent⟩]⟩
def CNV_SEQ_ENTRY_ENTRY : Fld := ⟨CNV_SEQ_ENTRY, 31, 0⟩

/-- R209 of 05_column_converters.md. -/
def CNV_SEQ_ACTIVE : Reg :=
  ⟨"CNV_SEQ_ACTIVE", .grain, 0x100080, 16, 0x10000, 16, 4, [
    ⟨"ENTRY", 31, 0, .ro, 0, keptNoneIdleSilent⟩]⟩
def CNV_SEQ_ACTIVE_ENTRY : Fld := ⟨CNV_SEQ_ACTIVE, 31, 0⟩

/-- R255 of 06_array_programming.md. -/
def PRG_ENG_STATUS : Reg :=
  ⟨"PRG_ENG_STATUS", .grain, 0x200000, 1, 4, 1, 4, [
    ⟨"BUSY", 31, 31, .ro, 0, keptNothing⟩,
    ⟨"ARRAY", 27, 24, .ro, 0, keptNothing⟩,
    ⟨"ATTEMPT", 23, 22, .ro, 0, keptNothing⟩,
    ⟨"PHASE", 21, 20, .ro, 0, keptNothing⟩,
    ⟨"ROW", 19, 10, .ro, 0, keptNothing⟩]⟩
def PRG_ENG_STATUS_BUSY : Fld := ⟨PRG_ENG_STATUS, 31, 31⟩
def PRG_ENG_STATUS_ARRAY : Fld := ⟨PRG_ENG_STATUS, 27, 24⟩
def PRG_ENG_STATUS_ATTEMPT : Fld := ⟨PRG_ENG_STATUS, 23, 22⟩
def PRG_ENG_STATUS_PHASE : Fld := ⟨PRG_ENG_STATUS, 21, 20⟩
def PRG_ENG_STATUS_ROW : Fld := ⟨PRG_ENG_STATUS, 19, 10⟩

/-- R255 of 06_array_programming.md. -/
def PRG_LAST_RESULT : Reg :=
  ⟨"PRG_LAST_RESULT", .grain, 0x200004, 1, 4, 1, 4, [
    ⟨"RESULT", 31, 24, .ro, 0, keptNothing⟩,
    ⟨"ARRAY", 23, 20, .ro, 0, keptNothing⟩,
    ⟨"STUCK", 15, 0, .ro, 0, keptNothing⟩]⟩
def PRG_LAST_RESULT_RESULT : Fld := ⟨PRG_LAST_RESULT, 31, 24⟩
def PRG_LAST_RESULT_ARRAY : Fld := ⟨PRG_LAST_RESULT, 23, 20⟩
def PRG_LAST_RESULT_STUCK : Fld := ⟨PRG_LAST_RESULT, 15, 0⟩

/-- R255 of 06_array_programming.md. -/
def PRG_PULSE_CNT : Reg :=
  ⟨"PRG_PULSE_CNT", .grain, 0x200008, 1, 4, 1, 4, [
    ⟨"COUNT", 31, 0, .rc, 0, keptNothing⟩]⟩
def PRG_PULSE_CNT_COUNT : Fld := ⟨PRG_PULSE_CNT, 31, 0⟩

/-- R255 of 06_array_programming.md. -/
def PRG_PULSE_CFG : Reg :=
  ⟨"PRG_PULSE_CFG", .grain, 0x200010, 1, 4, 1, 4, [
    ⟨"MAX_PULSES", 31, 24, .ro, 32, keptNothing⟩,
    ⟨"WIDTH", 23, 16, .ro, 50, keptNothing⟩,
    ⟨"STEP_V", 15, 8, .ro, 10, keptNothing⟩,
    ⟨"START_V", 7, 0, .ro, 120, keptNothing⟩]⟩
def PRG_PULSE_CFG_MAX_PULSES : Fld := ⟨PRG_PULSE_CFG, 31, 24⟩
def PRG_PULSE_CFG_WIDTH : Fld := ⟨PRG_PULSE_CFG, 23, 16⟩
def PRG_PULSE_CFG_STEP_V : Fld := ⟨PRG_PULSE_CFG, 15, 8⟩
def PRG_PULSE_CFG_START_V : Fld := ⟨PRG_PULSE_CFG, 7, 0⟩

/-- R255 of 06_array_programming.md. -/
def PRG_VERIFY_CFG : Reg :=
  ⟨"PRG_VERIFY_CFG", .grain, 0x200014, 1, 4, 1, 4, [
    ⟨"REF_TOL", 23, 16, .rw, 20, keptContextStandbySilent⟩,
    ⟨"STUCK_LIMIT", 15, 8, .rw, 64, keptContextStandbySilent⟩,
    ⟨"TOL", 7, 0, .ro, 6, keptNothing⟩]⟩
def PRG_VERIFY_CFG_REF_TOL : Fld := ⟨PRG_VERIFY_CFG, 23, 16⟩
def PRG_VERIFY_CFG_STUCK_LIMIT : Fld := ⟨PRG_VERIFY_CFG, 15, 8⟩
def PRG_VERIFY_CFG_TOL : Fld := ⟨PRG_VERIFY_CFG, 7, 0⟩

/-- R255 of 06_array_programming.md. -/
def PRG_LIFE_CNT : Reg :=
  ⟨"PRG_LIFE_CNT", .grain, 0x200040, 16, 4, 1, 4, [
    ⟨"COUNT", 23, 0, .ro, 0, keptColdOff⟩]⟩
def PRG_LIFE_CNT_COUNT : Fld := ⟨PRG_LIFE_CNT, 23, 0⟩

/-- R255 of 06_array_programming.md. -/
def PRG_STUCK_CNT : Reg :=
  ⟨"PRG_STUCK_CNT", .grain, 0x200080, 16, 4, 1, 4, [
    ⟨"COUNT", 15, 0, .ro, 0, keptColdOff⟩]⟩
def PRG_STUCK_CNT_COUNT : Fld := ⟨PRG_STUCK_CNT, 15, 0⟩

/-- R281 of 07_working_copies_drift.md. -/
def RSD_CTRL : Reg :=
  ⟨"RSD_CTRL", .grain, 0x210000, 1, 4, 1, 4, [
    ⟨"REBUILD", 15, 0, .wo, 0, keptNothing⟩]⟩
def RSD_CTRL_REBUILD : Fld := ⟨RSD_CTRL, 15, 0⟩

/-- R281 of 07_working_copies_drift.md. -/
def RSD_THRESH_CNT : Reg :=
  ⟨"RSD_THRESH_CNT", .grain, 0x210004, 1, 4, 1, 4, [
    ⟨"COUNT", 13, 0, .rw, 4096, keptNoneIdleSilent⟩]⟩
def RSD_THRESH_CNT_COUNT : Fld := ⟨RSD_THRESH_CNT, 13, 0⟩

/-- R281 of 07_working_copies_drift.md. -/
def RSD_THRESH_L1 : Reg :=
  ⟨"RSD_THRESH_L1", .grain, 0x210008, 1, 4, 1, 4, [
    ⟨"L1", 19, 0, .rw, 16384, keptNoneIdleSilent⟩]⟩
def RSD_THRESH_L1_L1 : Fld := ⟨RSD_THRESH_L1, 19, 0⟩

/-- R281 of 07_working_copies_drift.md. -/
def RSD_CORR_CFG : Reg :=
  ⟨"RSD_CORR_CFG", .grain, 0x21000c, 1, 4, 1, 4, [
    ⟨"EN", 31, 31, .rw, 1, keptNoneIdleSilent⟩,
    ⟨"REDECIDE", 23, 16, .rw, 10, keptNoneIdleSilent⟩,
    ⟨"JUMP", 15, 8, .rw, 20, keptNoneIdleSilent⟩,
    ⟨"SHIFT", 3, 0, .rw, 2, keptNoneIdleSilent⟩]⟩
def RSD_CORR_CFG_EN : Fld := ⟨RSD_CORR_CFG, 31, 31⟩
def RSD_CORR_CFG_REDECIDE : Fld := ⟨RSD_CORR_CFG, 23, 16⟩
def RSD_CORR_CFG_JUMP : Fld := ⟨RSD_CORR_CFG, 15, 8⟩
def RSD_CORR_CFG_SHIFT : Fld := ⟨RSD_CORR_CFG, 3, 0⟩

/-- R281 of 07_working_copies_drift.md. -/
def RSD_STALL_CNT : Reg :=
  ⟨"RSD_STALL_CNT", .grain, 0x210010, 1, 4, 1, 4, [
    ⟨"COUNT", 31, 0, .rc, 0, keptNothing⟩]⟩
def RSD_STALL_CNT_COUNT : Fld := ⟨RSD_STALL_CNT, 31, 0⟩

/-- R281 of 07_working_copies_drift.md. -/
def RSD_STATUS : Reg :=
  ⟨"RSD_STATUS", .grain, 0x210040, 16, 4, 1, 4, [
    ⟨"READY", 31, 31, .ro, 0, keptNoneIdle⟩,
    ⟨"VALID", 30, 30, .ro, 0, keptNoneIdle⟩,
    ⟨"OVF", 29, 29, .w1c, 0, keptNoneIdle⟩,
    ⟨"JUMP", 28, 28, .w1c, 0, keptNoneIdle⟩,
    ⟨"PENDING", 27, 27, .ro, 0, keptNothing⟩,
    ⟨"COUNT", 13, 0, .ro, 0, keptNoneIdle⟩]⟩
def RSD_STATUS_READY : Fld := ⟨RSD_STATUS, 31, 31⟩
def RSD_STATUS_VALID : Fld := ⟨RSD_STATUS, 30, 30⟩
def RSD_STATUS_OVF : Fld := ⟨RSD_STATUS, 29, 29⟩
def RSD_STATUS_JUMP : Fld := ⟨RSD_STATUS, 28, 28⟩
def RSD_STATUS_PENDING : Fld := ⟨RSD_STATUS, 27, 27⟩
def RSD_STATUS_COUNT : Fld := ⟨RSD_STATUS, 13, 0⟩

/-- R281 of 07_working_copies_drift.md. -/
def RSD_L1 : Reg :=
  ⟨"RSD_L1", .grain, 0x210080, 16, 4, 1, 4, [
    ⟨"L1", 19, 0, .ro, 0, keptNoneIdle⟩]⟩
def RSD_L1_L1 : Fld := ⟨RSD_L1, 19, 0⟩

/-- R281 of 07_working_copies_drift.md. -/
def RSD_GAIN : Reg :=
  ⟨"RSD_GAIN", .grain, 0x210100, 16, 4, 1, 4, [
    ⟨"G", 31, 0, .ro, 1065353216, keptNoneIdle⟩]⟩
def RSD_GAIN_G : Fld := ⟨RSD_GAIN, 31, 0⟩

/-- R281 of 07_working_copies_drift.md. -/
def RSD_OFS : Reg :=
  ⟨"RSD_OFS", .grain, 0x210140, 16, 4, 1, 4, [
    ⟨"O", 31, 0, .ro, 0, keptNoneIdle⟩]⟩
def RSD_OFS_O : Fld := ⟨RSD_OFS, 31, 0⟩

/-- R281 of 07_working_copies_drift.md. -/
def RSD_NU : Reg :=
  ⟨"RSD_NU", .grain, 0x210180, 16, 4, 1, 4, [
    ⟨"NU", 31, 0, .ro, 0, keptNoneIdle⟩]⟩
def RSD_NU_NU : Fld := ⟨RSD_NU, 31, 0⟩

/-- R308 of 08_backward_digital.md. -/
def DMX_STATUS : Reg :=
  ⟨"DMX_STATUS", .grain, 0x220000, 1, 4, 1, 4, [
    ⟨"BUSY", 31, 31, .ro, 0, keptNothing⟩,
    ⟨"GEN1", 30, 30, .ro, 0, keptNothing⟩,
    ⟨"CLASS", 29, 28, .ro, 0, keptNothing⟩,
    ⟨"PAIR_SIDE", 27, 27, .ro, 0, keptNothing⟩,
    ⟨"FB_QUEUE", 23, 16, .ro, 0, keptNothing⟩,
    ⟨"TAG", 15, 0, .ro, 0, keptNothing⟩]⟩
def DMX_STATUS_BUSY : Fld := ⟨DMX_STATUS, 31, 31⟩
def DMX_STATUS_GEN1 : Fld := ⟨DMX_STATUS, 30, 30⟩
def DMX_STATUS_CLASS : Fld := ⟨DMX_STATUS, 29, 28⟩
def DMX_STATUS_PAIR_SIDE : Fld := ⟨DMX_STATUS, 27, 27⟩
def DMX_STATUS_FB_QUEUE : Fld := ⟨DMX_STATUS, 23, 16⟩
def DMX_STATUS_TAG : Fld := ⟨DMX_STATUS, 15, 0⟩

/-- R308 of 08_backward_digital.md. -/
def DMX_LAST_ERR : Reg :=
  ⟨"DMX_LAST_ERR", .grain, 0x220004, 1, 4, 1, 4, [
    ⟨"STATUS", 31, 24, .rc, 0, keptNothing⟩,
    ⟨"TAG", 15, 0, .rc, 0, keptNothing⟩]⟩
def DMX_LAST_ERR_STATUS : Fld := ⟨DMX_LAST_ERR, 31, 24⟩
def DMX_LAST_ERR_TAG : Fld := ⟨DMX_LAST_ERR, 15, 0⟩

/-- R308 of 08_backward_digital.md. -/
def DMX_PASS_CNT : Reg :=
  ⟨"DMX_PASS_CNT", .grain, 0x220010, 1, 4, 1, 4, [
    ⟨"COUNT", 31, 0, .ro, 0, keptNothing⟩]⟩
def DMX_PASS_CNT_COUNT : Fld := ⟨DMX_PASS_CNT, 31, 0⟩

/-- R308 of 08_backward_digital.md. -/
def DMX_FB_PASS_CNT : Reg :=
  ⟨"DMX_FB_PASS_CNT", .grain, 0x220014, 1, 4, 1, 4, [
    ⟨"COUNT", 31, 0, .rc, 0, keptNothing⟩]⟩
def DMX_FB_PASS_CNT_COUNT : Fld := ⟨DMX_FB_PASS_CNT, 31, 0⟩

/-- R308 of 08_backward_digital.md. -/
def DMX_WR_PASS_CNT : Reg :=
  ⟨"DMX_WR_PASS_CNT", .grain, 0x220018, 1, 4, 1, 4, [
    ⟨"COUNT", 31, 0, .rc, 0, keptNothing⟩]⟩
def DMX_WR_PASS_CNT_COUNT : Fld := ⟨DMX_WR_PASS_CNT, 31, 0⟩

/-- R308 of 08_backward_digital.md. -/
def DMX_UNALIGNED_CNT : Reg :=
  ⟨"DMX_UNALIGNED_CNT", .grain, 0x22001c, 1, 4, 1, 4, [
    ⟨"COUNT", 31, 0, .rc, 0, keptNothing⟩]⟩
def DMX_UNALIGNED_CNT_COUNT : Fld := ⟨DMX_UNALIGNED_CNT, 31, 0⟩

/-- R308 of 08_backward_digital.md. -/
def DMX_PREEMPT_CNT : Reg :=
  ⟨"DMX_PREEMPT_CNT", .grain, 0x220020, 1, 4, 1, 4, [
    ⟨"COUNT", 31, 0, .rc, 0, keptNothing⟩]⟩
def DMX_PREEMPT_CNT_COUNT : Fld := ⟨DMX_PREEMPT_CNT, 31, 0⟩

/-- R308 of 08_backward_digital.md. -/
def DMX_SAT_CNT : Reg :=
  ⟨"DMX_SAT_CNT", .grain, 0x220024, 1, 4, 1, 4, [
    ⟨"COUNT", 31, 0, .rc, 0, keptNothing⟩]⟩
def DMX_SAT_CNT_COUNT : Fld := ⟨DMX_SAT_CNT, 31, 0⟩

/-- R328 of 09_vector_engine.md. -/
def VEC_STATUS : Reg :=
  ⟨"VEC_STATUS", .grain, 0x230000, 1, 4, 1, 4, [
    ⟨"BUSY", 31, 31, .ro, 0, keptNothing⟩,
    ⟨"LANES", 30, 30, .ro, 0, keptNothing⟩,
    ⟨"OP", 29, 26, .ro, 0, keptNothing⟩,
    ⟨"INDEX", 23, 20, .ro, 0, keptNothing⟩,
    ⟨"TAG", 15, 0, .ro, 0, keptNothing⟩]⟩
def VEC_STATUS_BUSY : Fld := ⟨VEC_STATUS, 31, 31⟩
def VEC_STATUS_LANES : Fld := ⟨VEC_STATUS, 30, 30⟩
def VEC_STATUS_OP : Fld := ⟨VEC_STATUS, 29, 26⟩
def VEC_STATUS_INDEX : Fld := ⟨VEC_STATUS, 23, 20⟩
def VEC_STATUS_TAG : Fld := ⟨VEC_STATUS, 15, 0⟩

/-- R328 of 09_vector_engine.md. -/
def VEC_LAST_ERR : Reg :=
  ⟨"VEC_LAST_ERR", .grain, 0x230004, 1, 4, 1, 4, [
    ⟨"STATUS", 31, 24, .rc, 0, keptNothing⟩,
    ⟨"INDEX", 23, 20, .rc, 0, keptNothing⟩,
    ⟨"TAG", 15, 0, .rc, 0, keptNothing⟩]⟩
def VEC_LAST_ERR_STATUS : Fld := ⟨VEC_LAST_ERR, 31, 24⟩
def VEC_LAST_ERR_INDEX : Fld := ⟨VEC_LAST_ERR, 23, 20⟩
def VEC_LAST_ERR_TAG : Fld := ⟨VEC_LAST_ERR, 15, 0⟩

/-- R328 of 09_vector_engine.md. -/
def VEC_DESC_CNT : Reg :=
  ⟨"VEC_DESC_CNT", .grain, 0x230010, 1, 4, 1, 4, [
    ⟨"COUNT", 31, 0, .ro, 0, keptNothing⟩]⟩
def VEC_DESC_CNT_COUNT : Fld := ⟨VEC_DESC_CNT, 31, 0⟩

/-- R328 of 09_vector_engine.md. -/
def VEC_STALL_CNT : Reg :=
  ⟨"VEC_STALL_CNT", .grain, 0x230014, 1, 4, 1, 4, [
    ⟨"COUNT", 31, 0, .rc, 0, keptNothing⟩]⟩
def VEC_STALL_CNT_COUNT : Fld := ⟨VEC_STALL_CNT, 31, 0⟩

/-- R328 of 09_vector_engine.md. -/
def VEC_NAN_CNT : Reg :=
  ⟨"VEC_NAN_CNT", .grain, 0x230018, 1, 4, 1, 4, [
    ⟨"COUNT", 31, 0, .rc, 0, keptNothing⟩]⟩
def VEC_NAN_CNT_COUNT : Fld := ⟨VEC_NAN_CNT, 31, 0⟩

/-- R367 of 10_tasks_and_streams.md. -/
def CHN_STATUS : Reg :=
  ⟨"CHN_STATUS", .grain, 0x240000, 1, 4, 1, 4, [
    ⟨"BUSY", 31, 31, .ro, 0, keptNothing⟩,
    ⟨"SEG_WAITING", 30, 30, .ro, 0, keptNothing⟩,
    ⟨"MODE", 19, 16, .ro, 0, keptNothing⟩,
    ⟨"TAG", 15, 0, .ro, 0, keptNothing⟩]⟩
def CHN_STATUS_BUSY : Fld := ⟨CHN_STATUS, 31, 31⟩
def CHN_STATUS_SEG_WAITING : Fld := ⟨CHN_STATUS, 30, 30⟩
def CHN_STATUS_MODE : Fld := ⟨CHN_STATUS, 19, 16⟩
def CHN_STATUS_TAG : Fld := ⟨CHN_STATUS, 15, 0⟩

/-- R367 of 10_tasks_and_streams.md. -/
def CHN_LAST_ERR : Reg :=
  ⟨"CHN_LAST_ERR", .grain, 0x240004, 1, 4, 1, 4, [
    ⟨"STATUS", 31, 24, .rc, 0, keptNothing⟩,
    ⟨"CAUSE", 23, 16, .rc, 0, keptNothing⟩,
    ⟨"TAG", 15, 0, .rc, 0, keptNothing⟩]⟩
def CHN_LAST_ERR_STATUS : Fld := ⟨CHN_LAST_ERR, 31, 24⟩
def CHN_LAST_ERR_CAUSE : Fld := ⟨CHN_LAST_ERR, 23, 16⟩
def CHN_LAST_ERR_TAG : Fld := ⟨CHN_LAST_ERR, 15, 0⟩

/-- R367 of 10_tasks_and_streams.md. -/
def CHN_BYTES_CNT : Reg :=
  ⟨"CHN_BYTES_CNT", .grain, 0x240008, 1, 4, 1, 4, [
    ⟨"COUNT", 31, 0, .ro, 0, keptNothing⟩]⟩
def CHN_BYTES_CNT_COUNT : Fld := ⟨CHN_BYTES_CNT, 31, 0⟩

/-- R367 of 10_tasks_and_streams.md. -/
def CHN_WASTE_CNT : Reg :=
  ⟨"CHN_WASTE_CNT", .grain, 0x24000c, 1, 4, 1, 4, [
    ⟨"COUNT", 31, 0, .rc, 0, keptNothing⟩]⟩
def CHN_WASTE_CNT_COUNT : Fld := ⟨CHN_WASTE_CNT, 31, 0⟩

/-- R367 of 10_tasks_and_streams.md. -/
def CHN_POS : Reg :=
  ⟨"CHN_POS", .grain, 0x240010, 6, 4, 1, 4, [
    ⟨"INDEX", 31, 0, .ro, 0, keptNothing⟩]⟩
def CHN_POS_INDEX : Fld := ⟨CHN_POS, 31, 0⟩

/-- R367 of 10_tasks_and_streams.md. -/
def PCHN_STATUS : Reg :=
  ⟨"CHN_STATUS", .peck, 0x3f0100, 1, 4, 1, 4, [
    ⟨"BUSY", 31, 31, .ro, 0, keptNothing⟩,
    ⟨"SEG_WAITING", 30, 30, .ro, 0, keptNothing⟩,
    ⟨"MODE", 19, 16, .ro, 0, keptNothing⟩,
    ⟨"TAG", 15, 0, .ro, 0, keptNothing⟩]⟩
def PCHN_STATUS_BUSY : Fld := ⟨PCHN_STATUS, 31, 31⟩
def PCHN_STATUS_SEG_WAITING : Fld := ⟨PCHN_STATUS, 30, 30⟩
def PCHN_STATUS_MODE : Fld := ⟨PCHN_STATUS, 19, 16⟩
def PCHN_STATUS_TAG : Fld := ⟨PCHN_STATUS, 15, 0⟩

/-- R367 of 10_tasks_and_streams.md. -/
def PCHN_LAST_ERR : Reg :=
  ⟨"CHN_LAST_ERR", .peck, 0x3f0104, 1, 4, 1, 4, [
    ⟨"STATUS", 31, 24, .rc, 0, keptNothing⟩,
    ⟨"CAUSE", 23, 16, .rc, 0, keptNothing⟩,
    ⟨"TAG", 15, 0, .rc, 0, keptNothing⟩]⟩
def PCHN_LAST_ERR_STATUS : Fld := ⟨PCHN_LAST_ERR, 31, 24⟩
def PCHN_LAST_ERR_CAUSE : Fld := ⟨PCHN_LAST_ERR, 23, 16⟩
def PCHN_LAST_ERR_TAG : Fld := ⟨PCHN_LAST_ERR, 15, 0⟩

/-- R367 of 10_tasks_and_streams.md. -/
def PCHN_BYTES_CNT : Reg :=
  ⟨"CHN_BYTES_CNT", .peck, 0x3f0108, 1, 4, 1, 4, [
    ⟨"COUNT", 31, 0, .ro, 0, keptNothing⟩]⟩
def PCHN_BYTES_CNT_COUNT : Fld := ⟨PCHN_BYTES_CNT, 31, 0⟩

/-- R367 of 10_tasks_and_streams.md. -/
def PCHN_WASTE_CNT : Reg :=
  ⟨"CHN_WASTE_CNT", .peck, 0x3f010c, 1, 4, 1, 4, [
    ⟨"COUNT", 31, 0, .rc, 0, keptNothing⟩]⟩
def PCHN_WASTE_CNT_COUNT : Fld := ⟨PCHN_WASTE_CNT, 31, 0⟩

/-- R367 of 10_tasks_and_streams.md. -/
def PCHN_POS : Reg :=
  ⟨"CHN_POS", .peck, 0x3f0110, 6, 4, 1, 4, [
    ⟨"INDEX", 31, 0, .ro, 0, keptNothing⟩]⟩
def PCHN_POS_INDEX : Fld := ⟨PCHN_POS, 31, 0⟩

/-- R366 of 10_tasks_and_streams.md. -/
def TSK_PORT_STATUS : Reg :=
  ⟨"TSK_PORT_STATUS", .grain, 0x250000, 1, 4, 1, 4, [
    ⟨"FWD", 31, 28, .ro, 0, keptNothing⟩,
    ⟨"PRODUCT_BUSY", 27, 27, .ro, 0, keptNothing⟩,
    ⟨"VECTOR_BUSY", 26, 26, .ro, 0, keptNothing⟩,
    ⟨"CHAIN_BUSY", 25, 25, .ro, 0, keptNothing⟩,
    ⟨"STOLEN_RUN", 24, 24, .ro, 0, keptNothing⟩,
    ⟨"READY", 23, 16, .ro, 0, keptNothing⟩,
    ⟨"TAG", 15, 0, .ro, 0, keptNothing⟩]⟩
def TSK_PORT_STATUS_FWD : Fld := ⟨TSK_PORT_STATUS, 31, 28⟩
def TSK_PORT_STATUS_PRODUCT_BUSY : Fld := ⟨TSK_PORT_STATUS, 27, 27⟩
def TSK_PORT_STATUS_VECTOR_BUSY : Fld := ⟨TSK_PORT_STATUS, 26, 26⟩
def TSK_PORT_STATUS_CHAIN_BUSY : Fld := ⟨TSK_PORT_STATUS, 25, 25⟩
def TSK_PORT_STATUS_STOLEN_RUN : Fld := ⟨TSK_PORT_STATUS, 24, 24⟩
def TSK_PORT_STATUS_READY : Fld := ⟨TSK_PORT_STATUS, 23, 16⟩
def TSK_PORT_STATUS_TAG : Fld := ⟨TSK_PORT_STATUS, 15, 0⟩

/-- R366 of 10_tasks_and_streams.md. -/
def TSK_DONE_CNT : Reg :=
  ⟨"TSK_DONE_CNT", .grain, 0x250004, 1, 4, 1, 4, [
    ⟨"COUNT", 31, 0, .ro, 0, keptNothing⟩]⟩
def TSK_DONE_CNT_COUNT : Fld := ⟨TSK_DONE_CNT, 31, 0⟩

/-- R366 of 10_tasks_and_streams.md. -/
def TSK_STEAL_IN_CNT : Reg :=
  ⟨"TSK_STEAL_IN_CNT", .grain, 0x250008, 1, 4, 1, 4, [
    ⟨"COUNT", 31, 0, .rc, 0, keptNothing⟩]⟩
def TSK_STEAL_IN_CNT_COUNT : Fld := ⟨TSK_STEAL_IN_CNT, 31, 0⟩

/-- R366 of 10_tasks_and_streams.md. -/
def TSK_LAST_ERR : Reg :=
  ⟨"TSK_LAST_ERR", .grain, 0x25000c, 1, 4, 1, 4, [
    ⟨"STATUS", 31, 24, .rc, 0, keptNothing⟩,
    ⟨"KIND", 23, 20, .rc, 0, keptNothing⟩,
    ⟨"TAG", 15, 0, .rc, 0, keptNothing⟩]⟩
def TSK_LAST_ERR_STATUS : Fld := ⟨TSK_LAST_ERR, 31, 24⟩
def TSK_LAST_ERR_KIND : Fld := ⟨TSK_LAST_ERR, 23, 20⟩
def TSK_LAST_ERR_TAG : Fld := ⟨TSK_LAST_ERR, 15, 0⟩

/-- R366 of 10_tasks_and_streams.md. -/
def TSK_SCHED_STATUS : Reg :=
  ⟨"TSK_SCHED_STATUS", .peck, 0x3f0000, 1, 4, 1, 4, [
    ⟨"RUN", 31, 30, .ro, 0, keptNothing⟩,
    ⟨"ATTEMPT", 23, 16, .ro, 0, keptNothing⟩,
    ⟨"INFLIGHT", 6, 0, .ro, 0, keptNothing⟩]⟩
def TSK_SCHED_STATUS_RUN : Fld := ⟨TSK_SCHED_STATUS, 31, 30⟩
def TSK_SCHED_STATUS_ATTEMPT : Fld := ⟨TSK_SCHED_STATUS, 23, 16⟩
def TSK_SCHED_STATUS_INFLIGHT : Fld := ⟨TSK_SCHED_STATUS, 6, 0⟩

/-- R366 of 10_tasks_and_streams.md. -/
def TSK_SCHED_CFG : Reg :=
  ⟨"TSK_SCHED_CFG", .peck, 0x3f0004, 1, 4, 1, 4, [
    ⟨"STEAL_EN", 31, 31, .rw, 1, keptNoneIdleSilent⟩,
    ⟨"BUSHEL_STEAL_EN", 30, 30, .rw, 1, keptNoneIdleSilent⟩,
    ⟨"STEAL_DELAY", 15, 0, .rw, 2000, keptNoneIdleSilent⟩]⟩
def TSK_SCHED_CFG_STEAL_EN : Fld := ⟨TSK_SCHED_CFG, 31, 31⟩
def TSK_SCHED_CFG_BUSHEL_STEAL_EN : Fld := ⟨TSK_SCHED_CFG, 30, 30⟩
def TSK_SCHED_CFG_STEAL_DELAY : Fld := ⟨TSK_SCHED_CFG, 15, 0⟩

/-- R366 of 10_tasks_and_streams.md. -/
def TSK_STEAL_OUT_CNT : Reg :=
  ⟨"TSK_STEAL_OUT_CNT", .peck, 0x3f0008, 1, 4, 1, 4, [
    ⟨"COUNT", 31, 0, .rc, 0, keptNothing⟩]⟩
def TSK_STEAL_OUT_CNT_COUNT : Fld := ⟨TSK_STEAL_OUT_CNT, 31, 0⟩

/-- R366 of 10_tasks_and_streams.md. -/
def TSK_BUSHEL_STEAL_CNT : Reg :=
  ⟨"TSK_BUSHEL_STEAL_CNT", .peck, 0x3f000c, 1, 4, 1, 4, [
    ⟨"COUNT", 31, 0, .rc, 0, keptNothing⟩]⟩
def TSK_BUSHEL_STEAL_CNT_COUNT : Fld := ⟨TSK_BUSHEL_STEAL_CNT, 31, 0⟩

/-- R366 of 10_tasks_and_streams.md. -/
def TSK_SLOT_STALL_CNT : Reg :=
  ⟨"TSK_SLOT_STALL_CNT", .peck, 0x3f0010, 1, 4, 1, 4, [
    ⟨"COUNT", 31, 0, .rc, 0, keptNothing⟩]⟩
def TSK_SLOT_STALL_CNT_COUNT : Fld := ⟨TSK_SLOT_STALL_CNT, 31, 0⟩

/-- R402 of 11_synchronisation.md. -/
def SYN_LC : Reg :=
  ⟨"SYN_LC", .peck, 0x3f0200, 48, 4, 1, 4, [
    ⟨"SAT_HI", 31, 31, .w1c, 0, keptNothing⟩,
    ⟨"SAT_LO", 30, 30, .w1c, 0, keptNothing⟩,
    ⟨"NWAIT", 29, 24, .ro, 0, keptNothing⟩,
    ⟨"VALUE", 15, 0, .ro, 0, keptNothing⟩]⟩
def SYN_LC_SAT_HI : Fld := ⟨SYN_LC, 31, 31⟩
def SYN_LC_SAT_LO : Fld := ⟨SYN_LC, 30, 30⟩
def SYN_LC_NWAIT : Fld := ⟨SYN_LC, 29, 24⟩
def SYN_LC_VALUE : Fld := ⟨SYN_LC, 15, 0⟩

/-- R402 of 11_synchronisation.md. -/
def SYN_LC_SEL : Reg :=
  ⟨"SYN_LC_SEL", .peck, 0x3f02c0, 1, 4, 1, 4, [
    ⟨"COUNTER", 21, 16, .rw, 0, keptNothing⟩,
    ⟨"INDEX", 5, 0, .rw, 0, keptNothing⟩]⟩
def SYN_LC_SEL_COUNTER : Fld := ⟨SYN_LC_SEL, 21, 16⟩
def SYN_LC_SEL_INDEX : Fld := ⟨SYN_LC_SEL, 5, 0⟩

/-- R402 of 11_synchronisation.md. -/
def SYN_LC_LAST : Reg :=
  ⟨"SYN_LC_LAST", .peck, 0x3f02c4, 1, 4, 1, 4, [
    ⟨"VALID", 31, 31, .ro, 0, keptNothing⟩,
    ⟨"CTX", 27, 24, .ro, 0, keptNothing⟩,
    ⟨"GRAIN", 2, 0, .ro, 0, keptNothing⟩]⟩
def SYN_LC_LAST_VALID : Fld := ⟨SYN_LC_LAST, 31, 31⟩
def SYN_LC_LAST_CTX : Fld := ⟨SYN_LC_LAST, 27, 24⟩
def SYN_LC_LAST_GRAIN : Fld := ⟨SYN_LC_LAST, 2, 0⟩

/-- R402 of 11_synchronisation.md. -/
def SYN_LC_TIME_LO : Reg :=
  ⟨"SYN_LC_TIME_LO", .peck, 0x3f02c8, 1, 4, 1, 4, [
    ⟨"TIME", 31, 0, .ro, 0, keptNothing⟩]⟩
def SYN_LC_TIME_LO_TIME : Fld := ⟨SYN_LC_TIME_LO, 31, 0⟩

/-- R402 of 11_synchronisation.md. -/
def SYN_LC_TIME_HI : Reg :=
  ⟨"SYN_LC_TIME_HI", .peck, 0x3f02cc, 1, 4, 1, 4, [
    ⟨"TIME", 31, 0, .ro, 0, keptNothing⟩]⟩
def SYN_LC_TIME_HI_TIME : Fld := ⟨SYN_LC_TIME_HI, 31, 0⟩

/-- R402 of 11_synchronisation.md. -/
def SYN_LC_WAITER : Reg :=
  ⟨"SYN_LC_WAITER", .peck, 0x3f02d0, 1, 4, 1, 4, [
    ⟨"VALID", 31, 31, .ro, 0, keptNothing⟩,
    ⟨"MODE", 30, 30, .ro, 0, keptNothing⟩,
    ⟨"KIND", 29, 28, .ro, 0, keptNothing⟩,
    ⟨"GRAIN", 26, 24, .ro, 0, keptNothing⟩,
    ⟨"TAG", 15, 0, .ro, 0, keptNothing⟩]⟩
def SYN_LC_WAITER_VALID : Fld := ⟨SYN_LC_WAITER, 31, 31⟩
def SYN_LC_WAITER_MODE : Fld := ⟨SYN_LC_WAITER, 30, 30⟩
def SYN_LC_WAITER_KIND : Fld := ⟨SYN_LC_WAITER, 29, 28⟩
def SYN_LC_WAITER_GRAIN : Fld := ⟨SYN_LC_WAITER, 26, 24⟩
def SYN_LC_WAITER_TAG : Fld := ⟨SYN_LC_WAITER, 15, 0⟩

/-- R402 of 11_synchronisation.md. -/
def SYN_LC_WTHRESH : Reg :=
  ⟨"SYN_LC_WTHRESH", .peck, 0x3f02d4, 1, 4, 1, 4, [
    ⟨"THRESH", 15, 0, .ro, 0, keptNothing⟩]⟩
def SYN_LC_WTHRESH_THRESH : Fld := ⟨SYN_LC_WTHRESH, 15, 0⟩

/-- R402 of 11_synchronisation.md. -/
def SYN_LC_SAT_CNT : Reg :=
  ⟨"SYN_LC_SAT_CNT", .peck, 0x3f02d8, 1, 4, 1, 4, [
    ⟨"COUNT", 31, 0, .rc, 0, keptNothing⟩]⟩
def SYN_LC_SAT_CNT_COUNT : Fld := ⟨SYN_LC_SAT_CNT, 31, 0⟩

/-- R467 of 13_numeric_watch_replay.md. -/
def WCH_CFG : Reg :=
  ⟨"WCH_CFG", .peck, 0x3f0300, 1, 4, 1, 4, [
    ⟨"EN", 31, 31, .rw, 1, keptNoneIdleSilent⟩,
    ⟨"REF_GEN1", 30, 30, .rw, 0, keptNoneIdleSilent⟩,
    ⟨"TOL", 7, 0, .rw, 30, keptNoneIdleSilent⟩]⟩
def WCH_CFG_EN : Fld := ⟨WCH_CFG, 31, 31⟩
def WCH_CFG_REF_GEN1 : Fld := ⟨WCH_CFG, 30, 30⟩
def WCH_CFG_TOL : Fld := ⟨WCH_CFG, 7, 0⟩

/-- R467 of 13_numeric_watch_replay.md. -/
def WCH_ROT : Reg :=
  ⟨"WCH_ROT", .peck, 0x3f0304, 1, 4, 1, 4, [
    ⟨"POINTER", 6, 0, .ro, 0, keptNoneIdleSilent⟩]⟩
def WCH_ROT_POINTER : Fld := ⟨WCH_ROT, 6, 0⟩

/-- R467 of 13_numeric_watch_replay.md. -/
def WCH_SAMPLE : Reg :=
  ⟨"WCH_SAMPLE", .peck, 0x3f0308, 1, 4, 1, 4, [
    ⟨"RESULT", 31, 30, .ro, 0, keptNothing⟩,
    ⟨"UNSETTLED", 29, 29, .ro, 0, keptNothing⟩,
    ⟨"ARRAY", 22, 16, .ro, 0, keptNothing⟩,
    ⟨"RMS", 15, 0, .ro, 0, keptNothing⟩]⟩
def WCH_SAMPLE_RESULT : Fld := ⟨WCH_SAMPLE, 31, 30⟩
def WCH_SAMPLE_UNSETTLED : Fld := ⟨WCH_SAMPLE, 29, 29⟩
def WCH_SAMPLE_ARRAY : Fld := ⟨WCH_SAMPLE, 22, 16⟩
def WCH_SAMPLE_RMS : Fld := ⟨WCH_SAMPLE, 15, 0⟩

/-- R467 of 13_numeric_watch_replay.md. -/
def WCH_SAMPLE_MAX : Reg :=
  ⟨"WCH_SAMPLE_MAX", .peck, 0x3f030c, 1, 4, 1, 4, [
    ⟨"MAX", 31, 0, .ro, 0, keptNothing⟩]⟩
def WCH_SAMPLE_MAX_MAX : Fld := ⟨WCH_SAMPLE_MAX, 31, 0⟩

/-- R467 of 13_numeric_watch_replay.md. -/
def WCH_FAIL_CNT : Reg :=
  ⟨"WCH_FAIL_CNT", .peck, 0x3f0310, 1, 4, 1, 4, [
    ⟨"COUNT", 31, 0, .rc, 0, keptNothing⟩]⟩
def WCH_FAIL_CNT_COUNT : Fld := ⟨WCH_FAIL_CNT, 31, 0⟩

/-- R467 of 13_numeric_watch_replay.md. -/
def WCH_VOID_CNT : Reg :=
  ⟨"WCH_VOID_CNT", .peck, 0x3f0314, 1, 4, 1, 4, [
    ⟨"COUNT", 31, 0, .rc, 0, keptNothing⟩]⟩
def WCH_VOID_CNT_COUNT : Fld := ⟨WCH_VOID_CNT, 31, 0⟩

/-- R467 of 13_numeric_watch_replay.md. -/
def WCH_PASS_CNT : Reg :=
  ⟨"WCH_PASS_CNT", .peck, 0x3f0318, 1, 4, 1, 4, [
    ⟨"COUNT", 31, 0, .ro, 0, keptNothing⟩]⟩
def WCH_PASS_CNT_COUNT : Fld := ⟨WCH_PASS_CNT, 31, 0⟩

/-- R467 of 13_numeric_watch_replay.md. -/
def WCH_VERDICT : Reg :=
  ⟨"WCH_VERDICT", .peck, 0x3f0320, 1, 4, 1, 4, [
    ⟨"VALID", 31, 31, .ro, 0, keptNothing⟩,
    ⟨"SAMPLE_FAIL", 30, 30, .ro, 0, keptNothing⟩,
    ⟨"NORM_FAIL", 29, 29, .ro, 0, keptNothing⟩,
    ⟨"NONFINITE", 28, 28, .ro, 0, keptNothing⟩,
    ⟨"CAUSE", 23, 16, .ro, 0, keptNothing⟩,
    ⟨"FIRST_NORM", 15, 0, .ro, 65535, keptNothing⟩]⟩
def WCH_VERDICT_VALID : Fld := ⟨WCH_VERDICT, 31, 31⟩
def WCH_VERDICT_SAMPLE_FAIL : Fld := ⟨WCH_VERDICT, 30, 30⟩
def WCH_VERDICT_NORM_FAIL : Fld := ⟨WCH_VERDICT, 29, 29⟩
def WCH_VERDICT_NONFINITE : Fld := ⟨WCH_VERDICT, 28, 28⟩
def WCH_VERDICT_CAUSE : Fld := ⟨WCH_VERDICT, 23, 16⟩
def WCH_VERDICT_FIRST_NORM : Fld := ⟨WCH_VERDICT, 15, 0⟩

/-- R467 of 13_numeric_watch_replay.md. -/
def WCH_NORM_TRIG_CNT : Reg :=
  ⟨"WCH_NORM_TRIG_CNT", .peck, 0x3f0324, 1, 4, 1, 4, [
    ⟨"COUNT", 31, 0, .rc, 0, keptNothing⟩]⟩
def WCH_NORM_TRIG_CNT_COUNT : Fld := ⟨WCH_NORM_TRIG_CNT, 31, 0⟩

/-- R636 of 18_power_clocks_thermal.md. -/
def CLK_ISL_CFG : Reg :=
  ⟨"CLK_ISL_CFG", .peck, 0x3f0400, 1, 4, 1, 4, [
    ⟨"FREQ_REQ", 6, 0, .rw, 80, keptNoneIdleSilent⟩]⟩
def CLK_ISL_CFG_FREQ_REQ : Fld := ⟨CLK_ISL_CFG, 6, 0⟩

/-- R636 of 18_power_clocks_thermal.md. -/
def CLK_ISL_STATUS : Reg :=
  ⟨"CLK_ISL_STATUS", .peck, 0x3f0404, 1, 4, 1, 4, [
    ⟨"CLK_GOOD", 31, 31, .ro, 0, keptNothing⟩,
    ⟨"STOPPED", 30, 30, .ro, 0, keptNothing⟩,
    ⟨"BAD_REQ", 29, 29, .w1c, 0, keptNothing⟩,
    ⟨"UNSTABLE", 28, 28, .ro, 0, keptNothing⟩,
    ⟨"LEVEL", 19, 16, .ro, 0, keptNothing⟩,
    ⟨"CUR_FREQ", 6, 0, .ro, 0, keptNothing⟩]⟩
def CLK_ISL_STATUS_CLK_GOOD : Fld := ⟨CLK_ISL_STATUS, 31, 31⟩
def CLK_ISL_STATUS_STOPPED : Fld := ⟨CLK_ISL_STATUS, 30, 30⟩
def CLK_ISL_STATUS_BAD_REQ : Fld := ⟨CLK_ISL_STATUS, 29, 29⟩
def CLK_ISL_STATUS_UNSTABLE : Fld := ⟨CLK_ISL_STATUS, 28, 28⟩
def CLK_ISL_STATUS_LEVEL : Fld := ⟨CLK_ISL_STATUS, 19, 16⟩
def CLK_ISL_STATUS_CUR_FREQ : Fld := ⟨CLK_ISL_STATUS, 6, 0⟩

/-- R678 of 19_reset_startup_states.md. -/
def RST_PECK_CTRL : Reg :=
  ⟨"RST_PECK_CTRL", .peck, 0x3f0500, 1, 4, 1, 4, [
    ⟨"IDLE_EN", 31, 31, .rw, 1, keptNoneIdleSilent⟩,
    ⟨"FORCE_REL", 30, 30, .wo, 0, keptNothing⟩,
    ⟨"IDLE_DELAY", 15, 0, .rw, 4096, keptNoneIdleSilent⟩]⟩
def RST_PECK_CTRL_IDLE_EN : Fld := ⟨RST_PECK_CTRL, 31, 31⟩
def RST_PECK_CTRL_FORCE_REL : Fld := ⟨RST_PECK_CTRL, 30, 30⟩
def RST_PECK_CTRL_IDLE_DELAY : Fld := ⟨RST_PECK_CTRL, 15, 0⟩

/-- R678 of 19_reset_startup_states.md. -/
def RST_PECK_STATUS : Reg :=
  ⟨"RST_PECK_STATUS", .peck, 0x3f0504, 1, 4, 1, 4, [
    ⟨"IN_RESET", 31, 31, .ro, 1, keptNothing⟩,
    ⟨"WRAPPER", 30, 30, .ro, 0, keptNothing⟩,
    ⟨"IDLE", 29, 29, .ro, 0, keptNothing⟩,
    ⟨"SRAM_OFF", 28, 28, .ro, 0, keptNothing⟩]⟩
def RST_PECK_STATUS_IN_RESET : Fld := ⟨RST_PECK_STATUS, 31, 31⟩
def RST_PECK_STATUS_WRAPPER : Fld := ⟨RST_PECK_STATUS, 30, 30⟩
def RST_PECK_STATUS_IDLE : Fld := ⟨RST_PECK_STATUS, 29, 29⟩
def RST_PECK_STATUS_SRAM_OFF : Fld := ⟨RST_PECK_STATUS, 28, 28⟩

/-- R638 of 18_power_clocks_thermal.md. -/
def PWR_BUSHEL_CTRL : Reg :=
  ⟨"PWR_BUSHEL_CTRL", .bushel, 0x0, 1, 4, 1, 4, [
    ⟨"GATE", 31, 31, .rw, 0, keptContextStandby⟩,
    ⟨"PENDING", 30, 30, .ro, 0, keptContextStandby⟩,
    ⟨"GATED", 29, 29, .ro, 0, keptContextStandby⟩]⟩
def PWR_BUSHEL_CTRL_GATE : Fld := ⟨PWR_BUSHEL_CTRL, 31, 31⟩
def PWR_BUSHEL_CTRL_PENDING : Fld := ⟨PWR_BUSHEL_CTRL, 30, 30⟩
def PWR_BUSHEL_CTRL_GATED : Fld := ⟨PWR_BUSHEL_CTRL, 29, 29⟩

/-- R638 of 18_power_clocks_thermal.md. -/
def PWR_VCORE : Reg :=
  ⟨"PWR_VCORE", .bushel, 0x4, 1, 4, 1, 4, [
    ⟨"SET", 31, 16, .ro, 800, keptNothing⟩,
    ⟨"MEAS", 15, 0, .ro, 0, keptNothing⟩]⟩
def PWR_VCORE_SET : Fld := ⟨PWR_VCORE, 31, 16⟩
def PWR_VCORE_MEAS : Fld := ⟨PWR_VCORE, 15, 0⟩

/-- R256 of 06_array_programming.md. -/
def PRG_BRANCH_STATUS : Reg :=
  ⟨"PRG_BRANCH_STATUS", .bushel, 0x10000, 1, 4, 1, 4, [
    ⟨"ON", 31, 31, .ro, 0, keptContextStandby⟩,
    ⟨"LATCHED", 30, 30, .ro, 0, keptContextStandby⟩,
    ⟨"OVC", 23, 23, .ro, 0, keptContextStandby⟩,
    ⟨"UV", 22, 22, .ro, 0, keptContextStandby⟩,
    ⟨"OV", 21, 21, .ro, 0, keptContextStandby⟩,
    ⟨"LEAK", 20, 20, .ro, 0, keptContextStandby⟩,
    ⟨"ACTIVE", 6, 0, .ro, 0, keptNothing⟩]⟩
def PRG_BRANCH_STATUS_ON : Fld := ⟨PRG_BRANCH_STATUS, 31, 31⟩
def PRG_BRANCH_STATUS_LATCHED : Fld := ⟨PRG_BRANCH_STATUS, 30, 30⟩
def PRG_BRANCH_STATUS_OVC : Fld := ⟨PRG_BRANCH_STATUS, 23, 23⟩
def PRG_BRANCH_STATUS_UV : Fld := ⟨PRG_BRANCH_STATUS, 22, 22⟩
def PRG_BRANCH_STATUS_OV : Fld := ⟨PRG_BRANCH_STATUS, 21, 21⟩
def PRG_BRANCH_STATUS_LEAK : Fld := ⟨PRG_BRANCH_STATUS, 20, 20⟩
def PRG_BRANCH_STATUS_ACTIVE : Fld := ⟨PRG_BRANCH_STATUS, 6, 0⟩

/-- R256 of 06_array_programming.md. -/
def PRG_BRANCH_CFG : Reg :=
  ⟨"PRG_BRANCH_CFG", .bushel, 0x10004, 1, 4, 1, 4, [
    ⟨"MAX_CONC", 6, 0, .rw, 16, keptContextStandbySilent⟩]⟩
def PRG_BRANCH_CFG_MAX_CONC : Fld := ⟨PRG_BRANCH_CFG, 6, 0⟩

/-- R256 of 06_array_programming.md. -/
def PRG_BRANCH_FAULT_CNT : Reg :=
  ⟨"PRG_BRANCH_FAULT_CNT", .bushel, 0x10008, 1, 4, 1, 4, [
    ⟨"COUNT", 31, 0, .rc, 0, keptContextStandby⟩]⟩
def PRG_BRANCH_FAULT_CNT_COUNT : Fld := ⟨PRG_BRANCH_FAULT_CNT, 31, 0⟩

/-- R210 of 05_column_converters.md. -/
def CNV_REF_SEL : Reg :=
  ⟨"CNV_REF_SEL", .bushel, 0x20000, 1, 4, 1, 4, [
    ⟨"SEL", 1, 0, .rw, 0, keptContextStandbySilent⟩]⟩
def CNV_REF_SEL_SEL : Fld := ⟨CNV_REF_SEL, 1, 0⟩

/-- R210 of 05_column_converters.md. -/
def CNV_REF_STATUS : Reg :=
  ⟨"CNV_REF_STATUS", .bushel, 0x20004, 1, 4, 1, 4, [
    ⟨"SETTLED", 31, 31, .ro, 0, keptNothing⟩,
    ⟨"EXT_FAULT", 30, 30, .w1c, 0, keptContextStandby⟩,
    ⟨"BAD_SEL", 29, 29, .w1c, 0, keptContextStandby⟩,
    ⟨"ACTIVE", 1, 0, .ro, 0, keptContextStandby⟩]⟩
def CNV_REF_STATUS_SETTLED : Fld := ⟨CNV_REF_STATUS, 31, 31⟩
def CNV_REF_STATUS_EXT_FAULT : Fld := ⟨CNV_REF_STATUS, 30, 30⟩
def CNV_REF_STATUS_BAD_SEL : Fld := ⟨CNV_REF_STATUS, 29, 29⟩
def CNV_REF_STATUS_ACTIVE : Fld := ⟨CNV_REF_STATUS, 1, 0⟩

/-- R210 of 05_column_converters.md. -/
def CNV_MON_CTRL : Reg :=
  ⟨"CNV_MON_CTRL", .bushel, 0x20008, 1, 4, 1, 4, [
    ⟨"ARM", 31, 31, .wo, 0, keptNothing⟩,
    ⟨"RUN", 30, 30, .rw, 1, keptContextStandby⟩,
    ⟨"LEN", 9, 0, .rw, 92, keptContextStandby⟩]⟩
def CNV_MON_CTRL_ARM : Fld := ⟨CNV_MON_CTRL, 31, 31⟩
def CNV_MON_CTRL_RUN : Fld := ⟨CNV_MON_CTRL, 30, 30⟩
def CNV_MON_CTRL_LEN : Fld := ⟨CNV_MON_CTRL, 9, 0⟩

/-- R210 of 05_column_converters.md. -/
def CNV_MON_STATUS : Reg :=
  ⟨"CNV_MON_STATUS", .bushel, 0x2000c, 1, 4, 1, 4, [
    ⟨"MON_FAIL", 31, 31, .ro, 0, keptContextStandby⟩,
    ⟨"UNIT", 30, 30, .ro, 0, keptContextStandby⟩,
    ⟨"RESULT", 23, 16, .ro, 0, keptContextStandby⟩,
    ⟨"ENTRY", 8, 0, .ro, 0, keptNothing⟩]⟩
def CNV_MON_STATUS_MON_FAIL : Fld := ⟨CNV_MON_STATUS, 31, 31⟩
def CNV_MON_STATUS_UNIT : Fld := ⟨CNV_MON_STATUS, 30, 30⟩
def CNV_MON_STATUS_RESULT : Fld := ⟨CNV_MON_STATUS, 23, 16⟩
def CNV_MON_STATUS_ENTRY : Fld := ⟨CNV_MON_STATUS, 8, 0⟩

/-- R210 of 05_column_converters.md. -/
def CNV_MON_PASS : Reg :=
  ⟨"CNV_MON_PASS", .bushel, 0x20010, 1, 4, 1, 4, [
    ⟨"PASS", 31, 0, .ro, 0, keptContextStandby⟩]⟩
def CNV_MON_PASS_PASS : Fld := ⟨CNV_MON_PASS, 31, 0⟩

/-- R210 of 05_column_converters.md. -/
def CNV_MON_SKIP_CNT : Reg :=
  ⟨"CNV_MON_SKIP_CNT", .bushel, 0x20014, 1, 4, 1, 4, [
    ⟨"COUNT", 31, 0, .rc, 0, keptContextStandby⟩]⟩
def CNV_MON_SKIP_CNT_COUNT : Fld := ⟨CNV_MON_SKIP_CNT, 31, 0⟩

/-- R210 of 05_column_converters.md. -/
def CNV_MON_ENTRY : Reg :=
  ⟨"CNV_MON_ENTRY", .bushel, 0x21000, 1024, 4, 1, 4, [
    ⟨"ENTRY", 31, 0, .rw, 0, keptContextStandby⟩]⟩
def CNV_MON_ENTRY_ENTRY : Fld := ⟨CNV_MON_ENTRY, 31, 0⟩

/-- R210 of 05_column_converters.md. -/
def CNV_MON_ACTIVE : Reg :=
  ⟨"CNV_MON_ACTIVE", .bushel, 0x22000, 1024, 4, 1, 4, [
    ⟨"ENTRY", 31, 0, .ro, 0, keptContextStandby⟩]⟩
def CNV_MON_ACTIVE_ENTRY : Fld := ⟨CNV_MON_ACTIVE, 31, 0⟩

/-- R210 of 05_column_converters.md. -/
def CNV_MON_RES_REF : Reg :=
  ⟨"CNV_MON_RES_REF", .bushel, 0x24000, 4096, 4, 1, 4, [
    ⟨"VALUE", 31, 0, .ro, 0, keptContextStandby⟩]⟩
def CNV_MON_RES_REF_VALUE : Fld := ⟨CNV_MON_RES_REF, 31, 0⟩

/-- R210 of 05_column_converters.md. -/
def CNV_MON_RES_FLAG : Reg :=
  ⟨"CNV_MON_RES_FLAG", .bushel, 0x28000, 1024, 4, 1, 4, [
    ⟨"UNSETTLED", 31, 31, .ro, 0, keptContextStandby⟩,
    ⟨"SKIPPED", 30, 30, .ro, 0, keptContextStandby⟩,
    ⟨"PASS", 15, 0, .ro, 0, keptContextStandby⟩]⟩
def CNV_MON_RES_FLAG_UNSETTLED : Fld := ⟨CNV_MON_RES_FLAG, 31, 31⟩
def CNV_MON_RES_FLAG_SKIPPED : Fld := ⟨CNV_MON_RES_FLAG, 30, 30⟩
def CNV_MON_RES_FLAG_PASS : Fld := ⟨CNV_MON_RES_FLAG, 15, 0⟩

/-- R210 of 05_column_converters.md. -/
def CNV_MON_RES_DIODE : Reg :=
  ⟨"CNV_MON_RES_DIODE", .bushel, 0x29000, 16, 8, 1, 4, [
    ⟨"VALUE", 31, 0, .ro, 0, keptContextStandby⟩]⟩
def CNV_MON_RES_DIODE_VALUE : Fld := ⟨CNV_MON_RES_DIODE, 31, 0⟩

/-- R210 of 05_column_converters.md. -/
def CNV_MON_RES_DIODE_FLAG : Reg :=
  ⟨"CNV_MON_RES_DIODE_FLAG", .bushel, 0x29004, 16, 8, 1, 4, [
    ⟨"UNSETTLED", 31, 31, .ro, 0, keptContextStandby⟩,
    ⟨"SKIPPED", 30, 30, .ro, 0, keptContextStandby⟩,
    ⟨"PASS", 15, 0, .ro, 0, keptContextStandby⟩]⟩
def CNV_MON_RES_DIODE_FLAG_UNSETTLED : Fld := ⟨CNV_MON_RES_DIODE_FLAG, 31, 31⟩
def CNV_MON_RES_DIODE_FLAG_SKIPPED : Fld := ⟨CNV_MON_RES_DIODE_FLAG, 30, 30⟩
def CNV_MON_RES_DIODE_FLAG_PASS : Fld := ⟨CNV_MON_RES_DIODE_FLAG, 15, 0⟩

/-- R210 of 05_column_converters.md. -/
def CNV_MON_RES_TAP : Reg :=
  ⟨"CNV_MON_RES_TAP", .bushel, 0x29080, 12, 8, 1, 4, [
    ⟨"VALUE", 31, 0, .ro, 0, keptContextStandby⟩]⟩
def CNV_MON_RES_TAP_VALUE : Fld := ⟨CNV_MON_RES_TAP, 31, 0⟩

/-- R210 of 05_column_converters.md. -/
def CNV_MON_RES_TAP_FLAG : Reg :=
  ⟨"CNV_MON_RES_TAP_FLAG", .bushel, 0x29084, 12, 8, 1, 4, [
    ⟨"UNSETTLED", 31, 31, .ro, 0, keptContextStandby⟩,
    ⟨"SKIPPED", 30, 30, .ro, 0, keptContextStandby⟩,
    ⟨"PASS", 15, 0, .ro, 0, keptContextStandby⟩]⟩
def CNV_MON_RES_TAP_FLAG_UNSETTLED : Fld := ⟨CNV_MON_RES_TAP_FLAG, 31, 31⟩
def CNV_MON_RES_TAP_FLAG_SKIPPED : Fld := ⟨CNV_MON_RES_TAP_FLAG, 30, 30⟩
def CNV_MON_RES_TAP_FLAG_PASS : Fld := ⟨CNV_MON_RES_TAP_FLAG, 15, 0⟩

/-- R638 of 18_power_clocks_thermal.md. -/
def PWR_TEMP : Reg :=
  ⟨"PWR_TEMP", .bushel, 0x30000, 1, 4, 1, 4, [
    ⟨"PEAK", 31, 16, .rc, 32768, keptNothing⟩,
    ⟨"NOW", 15, 0, .ro, 0, keptNothing⟩]⟩
def PWR_TEMP_PEAK : Fld := ⟨PWR_TEMP, 31, 16⟩
def PWR_TEMP_NOW : Fld := ⟨PWR_TEMP, 15, 0⟩

/-- R638 of 18_power_clocks_thermal.md. -/
def PWR_THERM_LEVEL : Reg :=
  ⟨"PWR_THERM_LEVEL", .bushel, 0x30004, 1, 4, 1, 4, [
    ⟨"LEVEL", 3, 0, .ro, 0, keptNothing⟩]⟩
def PWR_THERM_LEVEL_LEVEL : Fld := ⟨PWR_THERM_LEVEL, 3, 0⟩

/-- R677 of 19_reset_startup_states.md. -/
def RST_STACK_STATUS : Reg :=
  ⟨"RST_STACK_STATUS", .die, 0x0, 1, 4, 1, 4, [
    ⟨"TRIM_VALID", 31, 31, .ro, 0, keptContextSleep⟩,
    ⟨"HELD", 30, 30, .ro, 0, keptContextSleep⟩,
    ⟨"COPY", 1, 0, .ro, 0, keptContextSleep⟩]⟩
def RST_STACK_STATUS_TRIM_VALID : Fld := ⟨RST_STACK_STATUS, 31, 31⟩
def RST_STACK_STATUS_HELD : Fld := ⟨RST_STACK_STATUS, 30, 30⟩
def RST_STACK_STATUS_COPY : Fld := ⟨RST_STACK_STATUS, 1, 0⟩

/-- R677 of 19_reset_startup_states.md. -/
def RST_TRIM_SHADOW : Reg :=
  ⟨"RST_TRIM_SHADOW", .die, 0x1000, 1024, 4, 1, 4, [
    ⟨"WORD", 31, 0, .ro, 0, keptContextSleep⟩]⟩
def RST_TRIM_SHADOW_WORD : Fld := ⟨RST_TRIM_SHADOW, 31, 0⟩

/-- R501 of 14_faults_recovery.md. -/
def FLT_BOND_STATUS : Reg :=
  ⟨"FLT_BOND_STATUS", .die, 0x10000, 1, 4, 1, 4, [
    ⟨"DONE", 31, 31, .ro, 0, keptContextStandby⟩,
    ⟨"PASS", 30, 30, .ro, 0, keptContextStandby⟩,
    ⟨"FAILED", 15, 0, .ro, 0, keptContextStandby⟩]⟩
def FLT_BOND_STATUS_DONE : Fld := ⟨FLT_BOND_STATUS, 31, 31⟩
def FLT_BOND_STATUS_PASS : Fld := ⟨FLT_BOND_STATUS, 30, 30⟩
def FLT_BOND_STATUS_FAILED : Fld := ⟨FLT_BOND_STATUS, 15, 0⟩

/-- R567 of 16_pcie_host.md. -/
def PCI_LINK_STATUS : Reg :=
  ⟨"PCI_LINK_STATUS", .xdie, 0xf0000000, 1, 4, 1, 4, [
    ⟨"RATE", 19, 16, .ro, 0, keptNothing⟩,
    ⟨"FLIT", 15, 15, .ro, 0, keptNothing⟩,
    ⟨"WIDTH", 4, 0, .ro, 0, keptNothing⟩]⟩
def PCI_LINK_STATUS_RATE : Fld := ⟨PCI_LINK_STATUS, 19, 16⟩
def PCI_LINK_STATUS_FLIT : Fld := ⟨PCI_LINK_STATUS, 15, 15⟩
def PCI_LINK_STATUS_WIDTH : Fld := ⟨PCI_LINK_STATUS, 4, 0⟩

/-- R567 of 16_pcie_host.md. -/
def PCI_UR_CNT : Reg :=
  ⟨"PCI_UR_CNT", .xdie, 0xf0000004, 1, 4, 1, 4, [
    ⟨"COUNT", 31, 0, .rc, 0, keptDeviceSleep⟩]⟩
def PCI_UR_CNT_COUNT : Fld := ⟨PCI_UR_CNT, 31, 0⟩

/-- R567 of 16_pcie_host.md. -/
def PCI_WIN_BASE_LO : Reg :=
  ⟨"PCI_WIN_BASE_LO", .xdie, 0xf0000100, 16, 8, 1, 4, [
    ⟨"BASE", 31, 21, .rw, 0, keptBlockSleep⟩]⟩
def PCI_WIN_BASE_LO_BASE : Fld := ⟨PCI_WIN_BASE_LO, 31, 21⟩

/-- R567 of 16_pcie_host.md. -/
def PCI_WIN_BASE_HI : Reg :=
  ⟨"PCI_WIN_BASE_HI", .xdie, 0xf0000104, 16, 8, 1, 4, [
    ⟨"BASE", 15, 0, .rw, 0, keptBlockSleep⟩]⟩
def PCI_WIN_BASE_HI_BASE : Fld := ⟨PCI_WIN_BASE_HI, 15, 0⟩

/-- R544 of 15_management_mailbox.md. -/
def MBX_MP_STATUS : Reg :=
  ⟨"MBX_MP_STATUS", .xdie, 0xf0400000, 1, 4, 1, 4, [
    ⟨"BUSY", 31, 24, .ro, 0, keptNothing⟩,
    ⟨"RESTARTS", 23, 16, .ro, 0, keptDeviceSleep⟩,
    ⟨"LAST_CAUSE", 15, 8, .ro, 0, keptDeviceSleep⟩,
    ⟨"SHED", 2, 0, .ro, 0, keptNothing⟩]⟩
def MBX_MP_STATUS_BUSY : Fld := ⟨MBX_MP_STATUS, 31, 24⟩
def MBX_MP_STATUS_RESTARTS : Fld := ⟨MBX_MP_STATUS, 23, 16⟩
def MBX_MP_STATUS_LAST_CAUSE : Fld := ⟨MBX_MP_STATUS, 15, 8⟩
def MBX_MP_STATUS_SHED : Fld := ⟨MBX_MP_STATUS, 2, 0⟩

/-- R544 of 15_management_mailbox.md. -/
def MBX_LOAD : Reg :=
  ⟨"MBX_LOAD", .xdie, 0xf0400004, 1, 4, 1, 4, [
    ⟨"P0", 31, 24, .ro, 0, keptNothing⟩,
    ⟨"P1", 23, 16, .ro, 0, keptNothing⟩,
    ⟨"P2", 15, 8, .ro, 0, keptNothing⟩,
    ⟨"P3", 7, 0, .ro, 0, keptNothing⟩]⟩
def MBX_LOAD_P0 : Fld := ⟨MBX_LOAD, 31, 24⟩
def MBX_LOAD_P1 : Fld := ⟨MBX_LOAD, 23, 16⟩
def MBX_LOAD_P2 : Fld := ⟨MBX_LOAD, 15, 8⟩
def MBX_LOAD_P3 : Fld := ⟨MBX_LOAD, 7, 0⟩

/-- R544 of 15_management_mailbox.md. -/
def MBX_BUSY_CNT : Reg :=
  ⟨"MBX_BUSY_CNT", .xdie, 0xf0400008, 1, 4, 1, 4, [
    ⟨"COUNT", 31, 0, .rc, 0, keptDeviceSleep⟩]⟩
def MBX_BUSY_CNT_COUNT : Fld := ⟨MBX_BUSY_CNT, 31, 0⟩

/-- R544 of 15_management_mailbox.md. -/
def MBX_DEFER_CNT : Reg :=
  ⟨"MBX_DEFER_CNT", .xdie, 0xf040000c, 1, 4, 1, 4, [
    ⟨"COUNT", 31, 0, .rc, 0, keptDeviceSleep⟩]⟩
def MBX_DEFER_CNT_COUNT : Fld := ⟨MBX_DEFER_CNT, 31, 0⟩

/-- R544 of 15_management_mailbox.md. -/
def LOG_WR_CNT : Reg :=
  ⟨"LOG_WR_CNT", .xdie, 0xf0800000, 1, 4, 1, 4, [
    ⟨"COUNT", 31, 0, .ro, 0, keptDeviceSleep⟩]⟩
def LOG_WR_CNT_COUNT : Fld := ⟨LOG_WR_CNT, 31, 0⟩

/-- R544 of 15_management_mailbox.md. -/
def LOG_EPOCH : Reg :=
  ⟨"LOG_EPOCH", .xdie, 0xf0800004, 1, 4, 1, 4, [
    ⟨"EPOCH", 31, 0, .ro, 0, keptDeviceSleep⟩]⟩
def LOG_EPOCH_EPOCH : Fld := ⟨LOG_EPOCH, 31, 0⟩

/-- R544 of 15_management_mailbox.md. -/
def LOG_TIME_LO : Reg :=
  ⟨"LOG_TIME_LO", .xdie, 0xf0800008, 1, 4, 1, 4, [
    ⟨"TIME", 31, 0, .ro, 0, keptDeviceOff⟩]⟩
def LOG_TIME_LO_TIME : Fld := ⟨LOG_TIME_LO, 31, 0⟩

/-- R544 of 15_management_mailbox.md. -/
def LOG_TIME_HI : Reg :=
  ⟨"LOG_TIME_HI", .xdie, 0xf080000c, 1, 4, 1, 4, [
    ⟨"TIME", 31, 0, .ro, 0, keptDeviceOff⟩]⟩
def LOG_TIME_HI_TIME : Fld := ⟨LOG_TIME_HI, 31, 0⟩

/-- R544 of 15_management_mailbox.md. -/
def LOG_CFG : Reg :=
  ⟨"LOG_CFG", .xdie, 0xf0800010, 1, 4, 1, 4, [
    ⟨"MIN_SEV", 2, 0, .rw, 1, keptDeviceSleep⟩]⟩
def LOG_CFG_MIN_SEV : Fld := ⟨LOG_CFG, 2, 0⟩

/-- R544 of 15_management_mailbox.md. -/
def LOG_COALESCE_CNT : Reg :=
  ⟨"LOG_COALESCE_CNT", .xdie, 0xf0800014, 1, 4, 1, 4, [
    ⟨"COUNT", 31, 0, .rc, 0, keptDeviceSleep⟩]⟩
def LOG_COALESCE_CNT_COUNT : Fld := ⟨LOG_COALESCE_CNT, 31, 0⟩

/-- R403 of 11_synchronisation.md. -/
def SYN_HUB_STATUS : Reg :=
  ⟨"SYN_HUB_STATUS", .xdie, 0xf0c00000, 1, 4, 1, 4, [
    ⟨"BARRIERS", 20, 16, .ro, 0, keptContextSleep⟩,
    ⟨"PHYS_USED", 14, 0, .ro, 0, keptContextSleep⟩]⟩
def SYN_HUB_STATUS_BARRIERS : Fld := ⟨SYN_HUB_STATUS, 20, 16⟩
def SYN_HUB_STATUS_PHYS_USED : Fld := ⟨SYN_HUB_STATUS, 14, 0⟩

/-- R403 of 11_synchronisation.md. -/
def SYN_SAT_CNT : Reg :=
  ⟨"SYN_SAT_CNT", .xdie, 0xf0c00004, 1, 4, 1, 4, [
    ⟨"COUNT", 31, 0, .rc, 0, keptContextSleep⟩]⟩
def SYN_SAT_CNT_COUNT : Fld := ⟨SYN_SAT_CNT, 31, 0⟩

/-- R403 of 11_synchronisation.md. -/
def SYN_ABANDON_CNT : Reg :=
  ⟨"SYN_ABANDON_CNT", .xdie, 0xf0c00008, 1, 4, 1, 4, [
    ⟨"COUNT", 31, 0, .rc, 0, keptContextSleep⟩]⟩
def SYN_ABANDON_CNT_COUNT : Fld := ⟨SYN_ABANDON_CNT, 31, 0⟩

/-- R403 of 11_synchronisation.md. -/
def SYN_REMOTE_DROP_CNT : Reg :=
  ⟨"SYN_REMOTE_DROP_CNT", .xdie, 0xf0c0000c, 1, 4, 1, 4, [
    ⟨"COUNT", 31, 0, .rc, 0, keptContextSleep⟩]⟩
def SYN_REMOTE_DROP_CNT_COUNT : Fld := ⟨SYN_REMOTE_DROP_CNT, 31, 0⟩

/-- R403 of 11_synchronisation.md. -/
def SYN_STALE_CNT : Reg :=
  ⟨"SYN_STALE_CNT", .xdie, 0xf0c00010, 1, 4, 1, 4, [
    ⟨"COUNT", 31, 0, .rc, 0, keptContextSleep⟩]⟩
def SYN_STALE_CNT_COUNT : Fld := ⟨SYN_STALE_CNT, 31, 0⟩

/-- R403 of 11_synchronisation.md. -/
def SYN_BARRIER_DROP_CNT : Reg :=
  ⟨"SYN_BARRIER_DROP_CNT", .xdie, 0xf0c00014, 1, 4, 1, 4, [
    ⟨"COUNT", 31, 0, .rc, 0, keptContextSleep⟩]⟩
def SYN_BARRIER_DROP_CNT_COUNT : Fld := ⟨SYN_BARRIER_DROP_CNT, 31, 0⟩

/-- R440 of 12_exchange_and_update.md. -/
def XCH_STATUS : Reg :=
  ⟨"XCH_STATUS", .xdie, 0xf1000000, 1, 4, 1, 4, [
    ⟨"CHECK", 31, 30, .ro, 0, keptNoneSleep⟩,
    ⟨"SENDING", 29, 29, .ro, 0, keptNoneSleep⟩,
    ⟨"GATHER", 28, 28, .ro, 0, keptNoneSleep⟩,
    ⟨"CTX", 27, 24, .ro, 0, keptNoneSleep⟩,
    ⟨"ATTEMPT", 23, 16, .ro, 0, keptNoneSleep⟩,
    ⟨"PENDING", 15, 0, .ro, 0, keptNoneSleep⟩]⟩
def XCH_STATUS_CHECK : Fld := ⟨XCH_STATUS, 31, 30⟩
def XCH_STATUS_SENDING : Fld := ⟨XCH_STATUS, 29, 29⟩
def XCH_STATUS_GATHER : Fld := ⟨XCH_STATUS, 28, 28⟩
def XCH_STATUS_CTX : Fld := ⟨XCH_STATUS, 27, 24⟩
def XCH_STATUS_ATTEMPT : Fld := ⟨XCH_STATUS, 23, 16⟩
def XCH_STATUS_PENDING : Fld := ⟨XCH_STATUS, 15, 0⟩

/-- R440 of 12_exchange_and_update.md. -/
def XCH_LAST_SKEW : Reg :=
  ⟨"XCH_LAST_SKEW", .xdie, 0xf1000004, 1, 4, 1, 4, [
    ⟨"NODE", 11, 0, .ro, 0, keptNoneSleep⟩]⟩
def XCH_LAST_SKEW_NODE : Fld := ⟨XCH_LAST_SKEW, 11, 0⟩

/-- R440 of 12_exchange_and_update.md. -/
def XCH_LAST_SKEW_STEP : Reg :=
  ⟨"XCH_LAST_SKEW_STEP", .xdie, 0xf1000008, 1, 4, 1, 4, [
    ⟨"STEP", 31, 0, .ro, 0, keptNoneSleep⟩]⟩
def XCH_LAST_SKEW_STEP_STEP : Fld := ⟨XCH_LAST_SKEW_STEP, 31, 0⟩

/-- R440 of 12_exchange_and_update.md. -/
def XCH_SCALE_MAX : Reg :=
  ⟨"XCH_SCALE_MAX", .xdie, 0xf100000c, 1, 4, 1, 4, [
    ⟨"SCALE", 31, 0, .ro, 0, keptNoneSleep⟩]⟩
def XCH_SCALE_MAX_SCALE : Fld := ⟨XCH_SCALE_MAX, 31, 0⟩

/-- R440 of 12_exchange_and_update.md. -/
def XCH_SENT_CNT : Reg :=
  ⟨"XCH_SENT_CNT", .xdie, 0xf1000010, 1, 4, 1, 4, [
    ⟨"COUNT", 31, 0, .ro, 0, keptNoneSleep⟩]⟩
def XCH_SENT_CNT_COUNT : Fld := ⟨XCH_SENT_CNT, 31, 0⟩

/-- R440 of 12_exchange_and_update.md. -/
def XCH_SUMMED_CNT : Reg :=
  ⟨"XCH_SUMMED_CNT", .xdie, 0xf1000014, 1, 4, 1, 4, [
    ⟨"COUNT", 31, 0, .ro, 0, keptNoneSleep⟩]⟩
def XCH_SUMMED_CNT_COUNT : Fld := ⟨XCH_SUMMED_CNT, 31, 0⟩

/-- R440 of 12_exchange_and_update.md. -/
def XCH_SKEW_CNT : Reg :=
  ⟨"XCH_SKEW_CNT", .xdie, 0xf1000018, 1, 4, 1, 4, [
    ⟨"COUNT", 31, 0, .rc, 0, keptNoneSleep⟩]⟩
def XCH_SKEW_CNT_COUNT : Fld := ⟨XCH_SKEW_CNT, 31, 0⟩

/-- R440 of 12_exchange_and_update.md. -/
def XCH_STALE_CNT : Reg :=
  ⟨"XCH_STALE_CNT", .xdie, 0xf100001c, 1, 4, 1, 4, [
    ⟨"COUNT", 31, 0, .rc, 0, keptNoneSleep⟩]⟩
def XCH_STALE_CNT_COUNT : Fld := ⟨XCH_STALE_CNT, 31, 0⟩

/-- R440 of 12_exchange_and_update.md. -/
def XCH_DUP_CNT : Reg :=
  ⟨"XCH_DUP_CNT", .xdie, 0xf1000020, 1, 4, 1, 4, [
    ⟨"COUNT", 31, 0, .rc, 0, keptNoneSleep⟩]⟩
def XCH_DUP_CNT_COUNT : Fld := ⟨XCH_DUP_CNT, 31, 0⟩

/-- R440 of 12_exchange_and_update.md. -/
def XCH_FOREIGN_CNT : Reg :=
  ⟨"XCH_FOREIGN_CNT", .xdie, 0xf1000024, 1, 4, 1, 4, [
    ⟨"COUNT", 31, 0, .rc, 0, keptNoneSleep⟩]⟩
def XCH_FOREIGN_CNT_COUNT : Fld := ⟨XCH_FOREIGN_CNT, 31, 0⟩

/-- R440 of 12_exchange_and_update.md. -/
def XCH_WC_DROP_CNT : Reg :=
  ⟨"XCH_WC_DROP_CNT", .xdie, 0xf1000028, 1, 4, 1, 4, [
    ⟨"COUNT", 31, 0, .rc, 0, keptNoneSleep⟩]⟩
def XCH_WC_DROP_CNT_COUNT : Fld := ⟨XCH_WC_DROP_CNT, 31, 0⟩

/-- R440 of 12_exchange_and_update.md. -/
def UPD_STATUS : Reg :=
  ⟨"UPD_STATUS", .xdie, 0xf1400000, 1, 4, 1, 4, [
    ⟨"PHASE", 31, 30, .ro, 0, keptNoneSleep⟩,
    ⟨"JOURNAL_LOST", 29, 29, .w1c, 0, keptContextSleep⟩,
    ⟨"CHUNKS_LEFT", 23, 0, .ro, 0, keptNoneSleep⟩]⟩
def UPD_STATUS_PHASE : Fld := ⟨UPD_STATUS, 31, 30⟩
def UPD_STATUS_JOURNAL_LOST : Fld := ⟨UPD_STATUS, 29, 29⟩
def UPD_STATUS_CHUNKS_LEFT : Fld := ⟨UPD_STATUS, 23, 0⟩

/-- R440 of 12_exchange_and_update.md. -/
def UPD_LAST_STEP : Reg :=
  ⟨"UPD_LAST_STEP", .xdie, 0xf1400004, 1, 4, 1, 4, [
    ⟨"STEP", 31, 0, .ro, 0, keptContextSleep⟩]⟩
def UPD_LAST_STEP_STEP : Fld := ⟨UPD_LAST_STEP, 31, 0⟩

/-- R440 of 12_exchange_and_update.md. -/
def UPD_JOURNAL_HEAD : Reg :=
  ⟨"UPD_JOURNAL_HEAD", .xdie, 0xf1400008, 1, 4, 1, 4, [
    ⟨"HEAD", 31, 0, .ro, 0, keptContextSleep⟩]⟩
def UPD_JOURNAL_HEAD_HEAD : Fld := ⟨UPD_JOURNAL_HEAD, 31, 0⟩

/-- R440 of 12_exchange_and_update.md. -/
def UPD_JOURNAL_KEEP : Reg :=
  ⟨"UPD_JOURNAL_KEEP", .xdie, 0xf140000c, 1, 4, 1, 4, [
    ⟨"KEEP", 31, 0, .rw, 0, keptContextSleep⟩]⟩
def UPD_JOURNAL_KEEP_KEEP : Fld := ⟨UPD_JOURNAL_KEEP, 31, 0⟩

/-- R440 of 12_exchange_and_update.md. -/
def UPD_MOM_SAT_CNT : Reg :=
  ⟨"UPD_MOM_SAT_CNT", .xdie, 0xf1400010, 1, 4, 1, 4, [
    ⟨"COUNT", 31, 0, .rc, 0, keptContextSleep⟩]⟩
def UPD_MOM_SAT_CNT_COUNT : Fld := ⟨UPD_MOM_SAT_CNT, 31, 0⟩

/-- R440 of 12_exchange_and_update.md. -/
def UPD_NONFINITE_CNT : Reg :=
  ⟨"UPD_NONFINITE_CNT", .xdie, 0xf1400014, 1, 4, 1, 4, [
    ⟨"COUNT", 31, 0, .rc, 0, keptContextSleep⟩]⟩
def UPD_NONFINITE_CNT_COUNT : Fld := ⟨UPD_NONFINITE_CNT, 31, 0⟩

/-- R440 of 12_exchange_and_update.md. -/
def UPD_FROZEN_CNT : Reg :=
  ⟨"UPD_FROZEN_CNT", .xdie, 0xf1400018, 1, 4, 1, 4, [
    ⟨"COUNT", 31, 0, .rc, 0, keptContextSleep⟩]⟩
def UPD_FROZEN_CNT_COUNT : Fld := ⟨UPD_FROZEN_CNT, 31, 0⟩

/-- R608 of 17_furlong_fabric.md. -/
def FUR_PORT_STATUS : Reg :=
  ⟨"FUR_PORT_STATUS", .xdie, 0xf2000000, 1, 4, 1, 4, [
    ⟨"STATE", 31, 29, .ro, 0, keptNoneStandby⟩,
    ⟨"SUSPENDED", 28, 28, .ro, 0, keptContextSleep⟩,
    ⟨"EN", 27, 27, .ro, 1, keptContextSleep⟩,
    ⟨"PARTNER_GEN", 23, 16, .ro, 0, keptContextSleep⟩,
    ⟨"DOWN_CAUSE", 15, 8, .ro, 0, keptContextSleep⟩,
    ⟨"LANES_OK", 3, 0, .ro, 0, keptNoneStandby⟩]⟩
def FUR_PORT_STATUS_STATE : Fld := ⟨FUR_PORT_STATUS, 31, 29⟩
def FUR_PORT_STATUS_SUSPENDED : Fld := ⟨FUR_PORT_STATUS, 28, 28⟩
def FUR_PORT_STATUS_EN : Fld := ⟨FUR_PORT_STATUS, 27, 27⟩
def FUR_PORT_STATUS_PARTNER_GEN : Fld := ⟨FUR_PORT_STATUS, 23, 16⟩
def FUR_PORT_STATUS_DOWN_CAUSE : Fld := ⟨FUR_PORT_STATUS, 15, 8⟩
def FUR_PORT_STATUS_LANES_OK : Fld := ⟨FUR_PORT_STATUS, 3, 0⟩

/-- R608 of 17_furlong_fabric.md. -/
def FUR_PARTNER : Reg :=
  ⟨"FUR_PARTNER", .xdie, 0xf2000004, 1, 4, 1, 4, [
    ⟨"VALID", 31, 31, .ro, 0, keptNoneStandby⟩,
    ⟨"PORT", 18, 16, .ro, 0, keptNoneStandby⟩,
    ⟨"NODE", 11, 0, .ro, 0, keptNoneStandby⟩]⟩
def FUR_PARTNER_VALID : Fld := ⟨FUR_PARTNER, 31, 31⟩
def FUR_PARTNER_PORT : Fld := ⟨FUR_PARTNER, 18, 16⟩
def FUR_PARTNER_NODE : Fld := ⟨FUR_PARTNER, 11, 0⟩

/-- R608 of 17_furlong_fabric.md. -/
def FUR_CONFIRMED : Reg :=
  ⟨"FUR_CONFIRMED", .xdie, 0xf2000008, 1, 4, 1, 4, [
    ⟨"VALID", 31, 31, .ro, 0, keptContextSleep⟩,
    ⟨"PORT", 18, 16, .ro, 0, keptContextSleep⟩,
    ⟨"NODE", 11, 0, .ro, 0, keptContextSleep⟩]⟩
def FUR_CONFIRMED_VALID : Fld := ⟨FUR_CONFIRMED, 31, 31⟩
def FUR_CONFIRMED_PORT : Fld := ⟨FUR_CONFIRMED, 18, 16⟩
def FUR_CONFIRMED_NODE : Fld := ⟨FUR_CONFIRMED, 11, 0⟩

/-- R608 of 17_furlong_fabric.md. -/
def FUR_LANE_STATUS : Reg :=
  ⟨"FUR_LANE_STATUS", .xdie, 0xf200000c, 1, 4, 1, 4, [
    ⟨"LANE0", 7, 0, .ro, 0, keptNoneStandby⟩,
    ⟨"LANE1", 15, 8, .ro, 0, keptNoneStandby⟩,
    ⟨"LANE2", 23, 16, .ro, 0, keptNoneStandby⟩,
    ⟨"LANE3", 31, 24, .ro, 0, keptNoneStandby⟩]⟩
def FUR_LANE_STATUS_LANE0 : Fld := ⟨FUR_LANE_STATUS, 7, 0⟩
def FUR_LANE_STATUS_LANE1 : Fld := ⟨FUR_LANE_STATUS, 15, 8⟩
def FUR_LANE_STATUS_LANE2 : Fld := ⟨FUR_LANE_STATUS, 23, 16⟩
def FUR_LANE_STATUS_LANE3 : Fld := ⟨FUR_LANE_STATUS, 31, 24⟩

/-- R608 of 17_furlong_fabric.md. -/
def FUR_RETRY_CFG : Reg :=
  ⟨"FUR_RETRY_CFG", .xdie, 0xf2000010, 1, 4, 1, 4, [
    ⟨"RETRY", 15, 0, .ro, 100, keptContextSleep⟩]⟩
def FUR_RETRY_CFG_RETRY : Fld := ⟨FUR_RETRY_CFG, 15, 0⟩

/-- R608 of 17_furlong_fabric.md. -/
def FUR_TX_SEQ : Reg :=
  ⟨"FUR_TX_SEQ", .xdie, 0xf2000014, 1, 4, 1, 4, [
    ⟨"SEQ", 23, 0, .ro, 0, keptNoneStandby⟩]⟩
def FUR_TX_SEQ_SEQ : Fld := ⟨FUR_TX_SEQ, 23, 0⟩

/-- R608 of 17_furlong_fabric.md. -/
def FUR_RX_SEQ : Reg :=
  ⟨"FUR_RX_SEQ", .xdie, 0xf2000018, 1, 4, 1, 4, [
    ⟨"SEQ", 23, 0, .ro, 0, keptNoneStandby⟩]⟩
def FUR_RX_SEQ_SEQ : Fld := ⟨FUR_RX_SEQ, 23, 0⟩

/-- R608 of 17_furlong_fabric.md. -/
def FUR_KEY_EPOCH : Reg :=
  ⟨"FUR_KEY_EPOCH", .xdie, 0xf200001c, 1, 4, 1, 4, [
    ⟨"EPOCH", 31, 0, .ro, 0, keptNoneStandby⟩]⟩
def FUR_KEY_EPOCH_EPOCH : Fld := ⟨FUR_KEY_EPOCH, 31, 0⟩

/-- R608 of 17_furlong_fabric.md. -/
def FUR_REPLAY_CNT : Reg :=
  ⟨"FUR_REPLAY_CNT", .xdie, 0xf2000020, 1, 4, 1, 4, [
    ⟨"COUNT", 31, 0, .rc, 0, keptContextSleep⟩]⟩
def FUR_REPLAY_CNT_COUNT : Fld := ⟨FUR_REPLAY_CNT, 31, 0⟩

/-- R608 of 17_furlong_fabric.md. -/
def FUR_FEC_CORR_CNT : Reg :=
  ⟨"FUR_FEC_CORR_CNT", .xdie, 0xf2000024, 1, 4, 1, 4, [
    ⟨"COUNT", 31, 0, .rc, 0, keptContextSleep⟩]⟩
def FUR_FEC_CORR_CNT_COUNT : Fld := ⟨FUR_FEC_CORR_CNT, 31, 0⟩

/-- R608 of 17_furlong_fabric.md. -/
def FUR_FEC_UNCORR_CNT : Reg :=
  ⟨"FUR_FEC_UNCORR_CNT", .xdie, 0xf2000028, 1, 4, 1, 4, [
    ⟨"COUNT", 31, 0, .rc, 0, keptContextSleep⟩]⟩
def FUR_FEC_UNCORR_CNT_COUNT : Fld := ⟨FUR_FEC_UNCORR_CNT, 31, 0⟩

/-- R608 of 17_furlong_fabric.md. -/
def FUR_AUTH_FAIL_CNT : Reg :=
  ⟨"FUR_AUTH_FAIL_CNT", .xdie, 0xf200002c, 1, 4, 1, 4, [
    ⟨"COUNT", 31, 0, .rc, 0, keptContextSleep⟩]⟩
def FUR_AUTH_FAIL_CNT_COUNT : Fld := ⟨FUR_AUTH_FAIL_CNT, 31, 0⟩

/-- R608 of 17_furlong_fabric.md. -/
def FUR_SUSP_DROP_CNT : Reg :=
  ⟨"FUR_SUSP_DROP_CNT", .xdie, 0xf2000030, 1, 4, 1, 4, [
    ⟨"COUNT", 31, 0, .rc, 0, keptContextSleep⟩]⟩
def FUR_SUSP_DROP_CNT_COUNT : Fld := ⟨FUR_SUSP_DROP_CNT, 31, 0⟩

/-- R608 of 17_furlong_fabric.md. -/
def FUR_CREDIT : Reg :=
  ⟨"FUR_CREDIT", .xdie, 0xf2000040, 6, 4, 1, 4, [
    ⟨"SUB1", 27, 16, .ro, 0, keptNoneStandby⟩,
    ⟨"SUB0", 11, 0, .ro, 0, keptNoneStandby⟩]⟩
def FUR_CREDIT_SUB1 : Fld := ⟨FUR_CREDIT, 27, 16⟩
def FUR_CREDIT_SUB0 : Fld := ⟨FUR_CREDIT, 11, 0⟩

/-- R608 of 17_furlong_fabric.md. -/
def FUR_NODE : Reg :=
  ⟨"FUR_NODE", .xdie, 0xf2000080, 1, 4, 1, 4, [
    ⟨"VALID", 31, 31, .ro, 0, keptContextSleep⟩,
    ⟨"NODE", 11, 0, .ro, 0, keptContextSleep⟩]⟩
def FUR_NODE_VALID : Fld := ⟨FUR_NODE, 31, 31⟩
def FUR_NODE_NODE : Fld := ⟨FUR_NODE, 11, 0⟩

/-- R608 of 17_furlong_fabric.md. -/
def FUR_HOP_DROP_CNT : Reg :=
  ⟨"FUR_HOP_DROP_CNT", .xdie, 0xf2000084, 1, 4, 1, 4, [
    ⟨"COUNT", 31, 0, .rc, 0, keptContextSleep⟩]⟩
def FUR_HOP_DROP_CNT_COUNT : Fld := ⟨FUR_HOP_DROP_CNT, 31, 0⟩

/-- R608 of 17_furlong_fabric.md. -/
def FUR_E2E_TIMEOUT_CNT : Reg :=
  ⟨"FUR_E2E_TIMEOUT_CNT", .xdie, 0xf2000088, 1, 4, 1, 4, [
    ⟨"COUNT", 31, 0, .rc, 0, keptContextSleep⟩]⟩
def FUR_E2E_TIMEOUT_CNT_COUNT : Fld := ⟨FUR_E2E_TIMEOUT_CNT, 31, 0⟩

/-- R608 of 17_furlong_fabric.md. -/
def FUR_TTAG_USED : Reg :=
  ⟨"FUR_TTAG_USED", .xdie, 0xf200008c, 1, 4, 1, 4, [
    ⟨"COUNT", 14, 0, .ro, 0, keptNoneStandby⟩]⟩
def FUR_TTAG_USED_COUNT : Fld := ⟨FUR_TTAG_USED, 14, 0⟩

/-- R639 of 18_power_clocks_thermal.md. -/
def PWR_INPUT : Reg :=
  ⟨"PWR_INPUT", .xdie, 0xf4000000, 1, 4, 1, 4, [
    ⟨"VOLT", 31, 16, .ro, 0, keptNothing⟩,
    ⟨"CURR", 15, 0, .ro, 0, keptNothing⟩]⟩
def PWR_INPUT_VOLT : Fld := ⟨PWR_INPUT, 31, 16⟩
def PWR_INPUT_CURR : Fld := ⟨PWR_INPUT, 15, 0⟩

/-- R639 of 18_power_clocks_thermal.md. -/
def PWR_INPUT_P : Reg :=
  ⟨"PWR_INPUT_P", .xdie, 0xf4000004, 1, 4, 1, 4, [
    ⟨"POWER", 15, 0, .ro, 0, keptNothing⟩]⟩
def PWR_INPUT_P_POWER : Fld := ⟨PWR_INPUT_P, 15, 0⟩

/-- R639 of 18_power_clocks_thermal.md. -/
def PWR_LIMIT : Reg :=
  ⟨"PWR_LIMIT", .xdie, 0xf4000008, 1, 4, 1, 4, [
    ⟨"LIMIT", 15, 0, .ro, 1500, keptContextSleepSilent⟩]⟩
def PWR_LIMIT_LIMIT : Fld := ⟨PWR_LIMIT, 15, 0⟩

/-- R639 of 18_power_clocks_thermal.md. -/
def PWR_LEVEL : Reg :=
  ⟨"PWR_LEVEL", .xdie, 0xf400000c, 1, 4, 1, 4, [
    ⟨"HBM", 11, 8, .ro, 0, keptNothing⟩,
    ⟨"POWER", 3, 0, .ro, 0, keptNothing⟩]⟩
def PWR_LEVEL_HBM : Fld := ⟨PWR_LEVEL, 11, 8⟩
def PWR_LEVEL_POWER : Fld := ⟨PWR_LEVEL, 3, 0⟩

/-- R639 of 18_power_clocks_thermal.md. -/
def PWR_RAIL_STATUS : Reg :=
  ⟨"PWR_RAIL_STATUS", .xdie, 0xf4000010, 1, 4, 1, 4, [
    ⟨"GOOD", 31, 0, .ro, 0, keptNothing⟩]⟩
def PWR_RAIL_STATUS_GOOD : Fld := ⟨PWR_RAIL_STATUS, 31, 0⟩

/-- R639 of 18_power_clocks_thermal.md. -/
def PWR_RAIL_FAULT : Reg :=
  ⟨"PWR_RAIL_FAULT", .xdie, 0xf4000014, 1, 4, 1, 4, [
    ⟨"RAIL", 15, 8, .ro, 0, keptDeviceOff⟩,
    ⟨"CAUSE", 7, 0, .ro, 0, keptDeviceOff⟩]⟩
def PWR_RAIL_FAULT_RAIL : Fld := ⟨PWR_RAIL_FAULT, 15, 8⟩
def PWR_RAIL_FAULT_CAUSE : Fld := ⟨PWR_RAIL_FAULT, 7, 0⟩

/-- R639 of 18_power_clocks_thermal.md. -/
def PWR_SENSE_STATUS : Reg :=
  ⟨"PWR_SENSE_STATUS", .xdie, 0xf4000018, 1, 4, 1, 4, [
    ⟨"OPEN", 31, 0, .ro, 0, keptNothing⟩]⟩
def PWR_SENSE_STATUS_OPEN : Fld := ⟨PWR_SENSE_STATUS, 31, 0⟩

/-- R639 of 18_power_clocks_thermal.md. -/
def PWR_PHASE_SHED : Reg :=
  ⟨"PWR_PHASE_SHED", .xdie, 0xf400001c, 1, 4, 1, 4, [
    ⟨"SHED", 31, 0, .ro, 0, keptNothing⟩]⟩
def PWR_PHASE_SHED_SHED : Fld := ⟨PWR_PHASE_SHED, 31, 0⟩

/-- R639 of 18_power_clocks_thermal.md. -/
def PWR_FAULT_CNT : Reg :=
  ⟨"PWR_FAULT_CNT", .xdie, 0xf4000020, 1, 4, 1, 4, [
    ⟨"COUNT", 31, 0, .rc, 0, keptDeviceOff⟩]⟩
def PWR_FAULT_CNT_COUNT : Fld := ⟨PWR_FAULT_CNT, 31, 0⟩

/-- R637 of 18_power_clocks_thermal.md. -/
def CLK_REF_STATUS : Reg :=
  ⟨"CLK_REF_STATUS", .xdie, 0xf4400000, 1, 4, 1, 4, [
    ⟨"INTERNAL", 31, 31, .ro, 0, keptContextSleep⟩,
    ⟨"EXT_OK", 30, 30, .ro, 0, keptNothing⟩,
    ⟨"LOST", 29, 29, .w1c, 0, keptContextSleep⟩,
    ⟨"PPM", 15, 0, .ro, 0, keptNothing⟩]⟩
def CLK_REF_STATUS_INTERNAL : Fld := ⟨CLK_REF_STATUS, 31, 31⟩
def CLK_REF_STATUS_EXT_OK : Fld := ⟨CLK_REF_STATUS, 30, 30⟩
def CLK_REF_STATUS_LOST : Fld := ⟨CLK_REF_STATUS, 29, 29⟩
def CLK_REF_STATUS_PPM : Fld := ⟨CLK_REF_STATUS, 15, 0⟩

/-- R637 of 18_power_clocks_thermal.md. -/
def CLK_REF_CTRL : Reg :=
  ⟨"CLK_REF_CTRL", .xdie, 0xf4400004, 1, 4, 1, 4, [
    ⟨"RESTORE", 31, 31, .wo, 0, keptNothing⟩]⟩
def CLK_REF_CTRL_RESTORE : Fld := ⟨CLK_REF_CTRL, 31, 31⟩

/-- R676 of 19_reset_startup_states.md. -/
def RST_CAUSE : Reg :=
  ⟨"RST_CAUSE", .xdie, 0xf4800000, 1, 4, 1, 4, [
    ⟨"KIND", 31, 30, .ro, 0, keptDeviceOff⟩,
    ⟨"RECOVERY", 29, 29, .ro, 0, keptDeviceOff⟩,
    ⟨"REC_WHY", 27, 24, .ro, 0, keptDeviceOff⟩,
    ⟨"SOURCE", 15, 8, .ro, 1, keptDeviceOff⟩]⟩
def RST_CAUSE_KIND : Fld := ⟨RST_CAUSE, 31, 30⟩
def RST_CAUSE_RECOVERY : Fld := ⟨RST_CAUSE, 29, 29⟩
def RST_CAUSE_REC_WHY : Fld := ⟨RST_CAUSE, 27, 24⟩
def RST_CAUSE_SOURCE : Fld := ⟨RST_CAUSE, 15, 8⟩

/-- R676 of 19_reset_startup_states.md. -/
def RST_START : Reg :=
  ⟨"RST_START", .xdie, 0xf4800004, 1, 4, 1, 4, [
    ⟨"RUN_ACK", 31, 31, .ro, 0, keptNothing⟩,
    ⟨"TRIM_VALID", 30, 30, .ro, 0, keptContextSleep⟩,
    ⟨"START_CNT", 2, 0, .ro, 0, keptDeviceOff⟩]⟩
def RST_START_RUN_ACK : Fld := ⟨RST_START, 31, 31⟩
def RST_START_TRIM_VALID : Fld := ⟨RST_START, 30, 30⟩
def RST_START_START_CNT : Fld := ⟨RST_START, 2, 0⟩

/-- R676 of 19_reset_startup_states.md. -/
def RST_TRIM_STATUS : Reg :=
  ⟨"RST_TRIM_STATUS", .xdie, 0xf4800008, 1, 4, 1, 4, [
    ⟨"RESULT", 31, 24, .ro, 0, keptContextSleep⟩,
    ⟨"COPY", 9, 0, .ro, 0, keptContextSleep⟩]⟩
def RST_TRIM_STATUS_RESULT : Fld := ⟨RST_TRIM_STATUS, 31, 24⟩
def RST_TRIM_STATUS_COPY : Fld := ⟨RST_TRIM_STATUS, 9, 0⟩

/-- R676 of 19_reset_startup_states.md. -/
def RST_PWR_STATE : Reg :=
  ⟨"RST_PWR_STATE", .xdie, 0xf480000c, 1, 4, 1, 4, [
    ⟨"STATE", 31, 30, .ro, 0, keptNothing⟩,
    ⟨"PENDING", 29, 29, .ro, 0, keptNothing⟩,
    ⟨"IDLE_PECKS", 7, 0, .ro, 0, keptNothing⟩]⟩
def RST_PWR_STATE_STATE : Fld := ⟨RST_PWR_STATE, 31, 30⟩
def RST_PWR_STATE_PENDING : Fld := ⟨RST_PWR_STATE, 29, 29⟩
def RST_PWR_STATE_IDLE_PECKS : Fld := ⟨RST_PWR_STATE, 7, 0⟩

/-- R676 of 19_reset_startup_states.md. -/
def RST_OFF_CAUSE : Reg :=
  ⟨"RST_OFF_CAUSE", .xdie, 0xf4800010, 1, 4, 1, 4, [
    ⟨"CAUSE", 7, 0, .ro, 0, keptDeviceOff⟩]⟩
def RST_OFF_CAUSE_CAUSE : Fld := ⟨RST_OFF_CAUSE, 7, 0⟩

/-- R676 of 19_reset_startup_states.md. -/
def RST_START_TOTAL : Reg :=
  ⟨"RST_START_TOTAL", .xdie, 0xf4800014, 1, 4, 1, 4, [
    ⟨"COUNT", 31, 0, .ro, 0, keptDeviceOff⟩]⟩
def RST_START_TOTAL_COUNT : Fld := ⟨RST_START_TOTAL, 31, 0⟩

/-- R676 of 19_reset_startup_states.md. -/
def RST_CTX_CNT : Reg :=
  ⟨"RST_CTX_CNT", .xdie, 0xf4800018, 1, 4, 1, 4, [
    ⟨"COUNT", 31, 0, .rc, 0, keptDeviceSleep⟩]⟩
def RST_CTX_CNT_COUNT : Fld := ⟨RST_CTX_CNT, 31, 0⟩

/-- R501 of 14_faults_recovery.md. -/
def FLT_STATUS : Reg :=
  ⟨"FLT_STATUS", .xdie, 0xf4c00000, 1, 4, 1, 4, [
    ⟨"LOST", 31, 31, .ro, 0, keptDeviceSleep⟩,
    ⟨"RECOVERING", 30, 30, .ro, 0, keptNothing⟩,
    ⟨"ISO_COUNT", 7, 0, .ro, 0, keptContextSleep⟩]⟩
def FLT_STATUS_LOST : Fld := ⟨FLT_STATUS, 31, 31⟩
def FLT_STATUS_RECOVERING : Fld := ⟨FLT_STATUS, 30, 30⟩
def FLT_STATUS_ISO_COUNT : Fld := ⟨FLT_STATUS, 7, 0⟩

/-- R501 of 14_faults_recovery.md. -/
def FLT_LAST : Reg :=
  ⟨"FLT_LAST", .xdie, 0xf4c00004, 1, 4, 1, 4, [
    ⟨"CLASS", 31, 30, .ro, 0, keptDeviceSleep⟩,
    ⟨"SOURCE", 29, 24, .ro, 0, keptDeviceSleep⟩,
    ⟨"UNIT", 23, 16, .ro, 0, keptDeviceSleep⟩,
    ⟨"CODE", 15, 0, .ro, 0, keptDeviceSleep⟩]⟩
def FLT_LAST_CLASS : Fld := ⟨FLT_LAST, 31, 30⟩
def FLT_LAST_SOURCE : Fld := ⟨FLT_LAST, 29, 24⟩
def FLT_LAST_UNIT : Fld := ⟨FLT_LAST, 23, 16⟩
def FLT_LAST_CODE : Fld := ⟨FLT_LAST, 15, 0⟩

/-- R501 of 14_faults_recovery.md. -/
def FLT_LAST_TIME_LO : Reg :=
  ⟨"FLT_LAST_TIME_LO", .xdie, 0xf4c00008, 1, 4, 1, 4, [
    ⟨"TIME", 31, 0, .ro, 0, keptDeviceSleep⟩]⟩
def FLT_LAST_TIME_LO_TIME : Fld := ⟨FLT_LAST_TIME_LO, 31, 0⟩

/-- R501 of 14_faults_recovery.md. -/
def FLT_LAST_TIME_HI : Reg :=
  ⟨"FLT_LAST_TIME_HI", .xdie, 0xf4c0000c, 1, 4, 1, 4, [
    ⟨"TIME", 31, 0, .ro, 0, keptDeviceSleep⟩]⟩
def FLT_LAST_TIME_HI_TIME : Fld := ⟨FLT_LAST_TIME_HI, 31, 0⟩

/-- R501 of 14_faults_recovery.md. -/
def FLT_CE_CNT : Reg :=
  ⟨"FLT_CE_CNT", .xdie, 0xf4c00010, 1, 4, 1, 4, [
    ⟨"COUNT", 31, 0, .rc, 0, keptDeviceSleep⟩]⟩
def FLT_CE_CNT_COUNT : Fld := ⟨FLT_CE_CNT, 31, 0⟩

/-- R501 of 14_faults_recovery.md. -/
def FLT_BLOCK_CNT : Reg :=
  ⟨"FLT_BLOCK_CNT", .xdie, 0xf4c00014, 1, 4, 1, 4, [
    ⟨"COUNT", 31, 0, .rc, 0, keptDeviceSleep⟩]⟩
def FLT_BLOCK_CNT_COUNT : Fld := ⟨FLT_BLOCK_CNT, 31, 0⟩

/-- R501 of 14_faults_recovery.md. -/
def FLT_INT_LAST : Reg :=
  ⟨"FLT_INT_LAST", .xdie, 0xf4c00018, 1, 4, 1, 4, [
    ⟨"TIME", 31, 0, .ro, 0, keptDeviceSleep⟩]⟩
def FLT_INT_LAST_TIME : Fld := ⟨FLT_INT_LAST, 31, 0⟩

/-- R501 of 14_faults_recovery.md. -/
def FLT_ISO : Reg :=
  ⟨"FLT_ISO", .xdie, 0xf4c00020, 4, 4, 1, 4, [
    ⟨"CLOSED", 31, 0, .ro, 0, keptContextSleep⟩]⟩
def FLT_ISO_CLOSED : Fld := ⟨FLT_ISO, 31, 0⟩

/-- R501 of 14_faults_recovery.md. -/
def FLT_ISO_X : Reg :=
  ⟨"FLT_ISO_X", .xdie, 0xf4c00030, 1, 4, 1, 4, [
    ⟨"XCH", 8, 8, .ro, 0, keptContextSleep⟩,
    ⟨"PORTS", 7, 0, .ro, 0, keptContextSleep⟩]⟩
def FLT_ISO_X_XCH : Fld := ⟨FLT_ISO_X, 8, 8⟩
def FLT_ISO_X_PORTS : Fld := ⟨FLT_ISO_X, 7, 0⟩

/-- R501 of 14_faults_recovery.md. -/
def FLT_MIRROR_STATUS : Reg :=
  ⟨"FLT_MIRROR_STATUS", .xdie, 0xf4c00040, 1, 4, 1, 4, [
    ⟨"EN", 31, 31, .ro, 0, keptContextSleep⟩,
    ⟨"HOME_OK", 30, 30, .ro, 0, keptContextSleep⟩,
    ⟨"BUDDY_OK", 29, 29, .ro, 0, keptContextSleep⟩,
    ⟨"BUDDY", 11, 0, .ro, 0, keptContextSleep⟩]⟩
def FLT_MIRROR_STATUS_EN : Fld := ⟨FLT_MIRROR_STATUS, 31, 31⟩
def FLT_MIRROR_STATUS_HOME_OK : Fld := ⟨FLT_MIRROR_STATUS, 30, 30⟩
def FLT_MIRROR_STATUS_BUDDY_OK : Fld := ⟨FLT_MIRROR_STATUS, 29, 29⟩
def FLT_MIRROR_STATUS_BUDDY : Fld := ⟨FLT_MIRROR_STATUS, 11, 0⟩

/-- R501 of 14_faults_recovery.md. -/
def FLT_MIRROR_STEP : Reg :=
  ⟨"FLT_MIRROR_STEP", .xdie, 0xf4c00044, 1, 4, 1, 4, [
    ⟨"STAMP", 31, 0, .ro, 0, keptContextSleep⟩]⟩
def FLT_MIRROR_STEP_STAMP : Fld := ⟨FLT_MIRROR_STEP, 31, 0⟩

/-- R701 of 20_security.md. -/
def SEC_STATUS : Reg :=
  ⟨"SEC_STATUS", .xdie, 0xf5000000, 1, 4, 1, 4, [
    ⟨"UNLOCKED", 31, 31, .ro, 0, keptContextSleep⟩,
    ⟨"SCOPE", 30, 29, .ro, 0, keptContextSleep⟩,
    ⟨"SLOT", 28, 28, .ro, 0, keptContextSleep⟩,
    ⟨"REVOKED", 27, 24, .ro, 0, keptColdOff⟩,
    ⟨"RB_COUNT", 6, 0, .ro, 0, keptColdOff⟩]⟩
def SEC_STATUS_UNLOCKED : Fld := ⟨SEC_STATUS, 31, 31⟩
def SEC_STATUS_SCOPE : Fld := ⟨SEC_STATUS, 30, 29⟩
def SEC_STATUS_SLOT : Fld := ⟨SEC_STATUS, 28, 28⟩
def SEC_STATUS_REVOKED : Fld := ⟨SEC_STATUS, 27, 24⟩
def SEC_STATUS_RB_COUNT : Fld := ⟨SEC_STATUS, 6, 0⟩

/-- R701 of 20_security.md. -/
def SEC_FMKEY_CTRL : Reg :=
  ⟨"SEC_FMKEY_CTRL", .xdie, 0xf5000004, 1, 4, 1, 4, [
    ⟨"LOCK", 31, 31, .w1s, 0, keptContextSleep⟩,
    ⟨"VALID", 30, 30, .ro, 0, keptContextSleep⟩]⟩
def SEC_FMKEY_CTRL_LOCK : Fld := ⟨SEC_FMKEY_CTRL, 31, 31⟩
def SEC_FMKEY_CTRL_VALID : Fld := ⟨SEC_FMKEY_CTRL, 30, 30⟩

/-- R701 of 20_security.md. -/
def SEC_RESET_CTR_LO : Reg :=
  ⟨"SEC_RESET_CTR_LO", .xdie, 0xf5000008, 1, 4, 1, 4, [
    ⟨"CTR", 31, 0, .ro, 0, keptDeviceOff⟩]⟩
def SEC_RESET_CTR_LO_CTR : Fld := ⟨SEC_RESET_CTR_LO, 31, 0⟩

/-- R701 of 20_security.md. -/
def SEC_RESET_CTR_HI : Reg :=
  ⟨"SEC_RESET_CTR_HI", .xdie, 0xf500000c, 1, 4, 1, 4, [
    ⟨"CTR", 31, 0, .ro, 0, keptDeviceOff⟩]⟩
def SEC_RESET_CTR_HI_CTR : Fld := ⟨SEC_RESET_CTR_HI, 31, 0⟩

/-- R701 of 20_security.md. -/
def SEC_AUTH_FAIL_CNT : Reg :=
  ⟨"SEC_AUTH_FAIL_CNT", .xdie, 0xf5000010, 1, 4, 1, 4, [
    ⟨"COUNT", 31, 0, .rc, 0, keptDeviceSleep⟩]⟩
def SEC_AUTH_FAIL_CNT_COUNT : Fld := ⟨SEC_AUTH_FAIL_CNT, 31, 0⟩

/-- R701 of 20_security.md. -/
def SEC_FMKEY_HASH : Reg :=
  ⟨"SEC_FMKEY_HASH", .xdie, 0xf5000020, 8, 4, 1, 4, [
    ⟨"HASH", 31, 0, .rw, 0, keptContextSleep⟩]⟩
def SEC_FMKEY_HASH_HASH : Fld := ⟨SEC_FMKEY_HASH, 31, 0⟩

/-- R507 of 15_management_mailbox.md. -/
def MBX_CMD : Reg :=
  ⟨"MBX_CMD", .fn, 0x1000, 8, 128, 16, 4, [
    ⟨"WORD", 31, 0, .rw, 0, keptBlockSleep⟩]⟩
def MBX_CMD_WORD : Fld := ⟨MBX_CMD, 31, 0⟩

/-- R507 of 15_management_mailbox.md. -/
def MBX_RSP : Reg :=
  ⟨"MBX_RSP", .fn, 0x1040, 8, 128, 16, 4, [
    ⟨"WORD", 31, 0, .ro, 0, keptBlockSleep⟩]⟩
def MBX_RSP_WORD : Fld := ⟨MBX_RSP, 31, 0⟩

/-- R543 of 15_management_mailbox.md. -/
def MBX_GO : Reg :=
  ⟨"MBX_GO", .fn, 0x1400, 1, 4, 1, 4, [
    ⟨"GO", 7, 0, .w1s, 0, keptBlockSleep⟩]⟩
def MBX_GO_GO : Fld := ⟨MBX_GO, 7, 0⟩

/-- R543 of 15_management_mailbox.md. -/
def MBX_SLOT_STATE : Reg :=
  ⟨"MBX_SLOT_STATE", .fn, 0x1404, 1, 4, 1, 4, [
    ⟨"STATE", 15, 0, .ro, 0, keptBlockSleep⟩]⟩
def MBX_SLOT_STATE_STATE : Fld := ⟨MBX_SLOT_STATE, 15, 0⟩

/-- R543 of 15_management_mailbox.md. -/
def MBX_DONE : Reg :=
  ⟨"MBX_DONE", .fn, 0x1408, 1, 4, 1, 4, [
    ⟨"DONE", 7, 0, .w1c, 0, keptBlockSleep⟩]⟩
def MBX_DONE_DONE : Fld := ⟨MBX_DONE, 7, 0⟩

/-- R543 of 15_management_mailbox.md. -/
def MBX_IRQ_CFG : Reg :=
  ⟨"MBX_IRQ_CFG", .fn, 0x140c, 1, 4, 1, 4, [
    ⟨"DONE_EN", 31, 31, .rw, 0, keptBlockSleep⟩,
    ⟨"EVT_EN", 30, 30, .rw, 0, keptBlockSleep⟩,
    ⟨"DONE_VEC", 13, 8, .rw, 0, keptBlockSleep⟩,
    ⟨"EVT_VEC", 5, 0, .rw, 0, keptBlockSleep⟩]⟩
def MBX_IRQ_CFG_DONE_EN : Fld := ⟨MBX_IRQ_CFG, 31, 31⟩
def MBX_IRQ_CFG_EVT_EN : Fld := ⟨MBX_IRQ_CFG, 30, 30⟩
def MBX_IRQ_CFG_DONE_VEC : Fld := ⟨MBX_IRQ_CFG, 13, 8⟩
def MBX_IRQ_CFG_EVT_VEC : Fld := ⟨MBX_IRQ_CFG, 5, 0⟩

/-- R543 of 15_management_mailbox.md. -/
def MBX_PAGE_STATUS : Reg :=
  ⟨"MBX_PAGE_STATUS", .fn, 0x1410, 1, 4, 1, 4, [
    ⟨"MP_STATE", 31, 30, .ro, 0, keptNothing⟩,
    ⟨"SHED", 29, 27, .ro, 0, keptNothing⟩,
    ⟨"WR_BUSY", 26, 26, .w1c, 0, keptBlockSleep⟩,
    ⟨"GO_IGN", 25, 25, .w1c, 0, keptBlockSleep⟩,
    ⟨"SEQ_ERR", 24, 24, .w1c, 0, keptBlockSleep⟩,
    ⟨"SEQ_HIGH", 15, 8, .ro, 0, keptBlockSleep⟩]⟩
def MBX_PAGE_STATUS_MP_STATE : Fld := ⟨MBX_PAGE_STATUS, 31, 30⟩
def MBX_PAGE_STATUS_SHED : Fld := ⟨MBX_PAGE_STATUS, 29, 27⟩
def MBX_PAGE_STATUS_WR_BUSY : Fld := ⟨MBX_PAGE_STATUS, 26, 26⟩
def MBX_PAGE_STATUS_GO_IGN : Fld := ⟨MBX_PAGE_STATUS, 25, 25⟩
def MBX_PAGE_STATUS_SEQ_ERR : Fld := ⟨MBX_PAGE_STATUS, 24, 24⟩
def MBX_PAGE_STATUS_SEQ_HIGH : Fld := ⟨MBX_PAGE_STATUS, 15, 8⟩

/-- R543 of 15_management_mailbox.md. -/
def MBX_DATA_RD : Reg :=
  ⟨"MBX_DATA_RD", .fn, 0x1420, 1, 4, 1, 4, [
    ⟨"DATA", 31, 0, .ro, 0, keptNothing⟩]⟩
def MBX_DATA_RD_DATA : Fld := ⟨MBX_DATA_RD, 31, 0⟩

/-- R543 of 15_management_mailbox.md. -/
def MBX_DATA_WR : Reg :=
  ⟨"MBX_DATA_WR", .fn, 0x1424, 1, 4, 1, 4, [
    ⟨"DATA", 31, 0, .wo, 0, keptNothing⟩]⟩
def MBX_DATA_WR_DATA : Fld := ⟨MBX_DATA_WR, 31, 0⟩

/-- R543 of 15_management_mailbox.md. -/
def MBX_DATA_STATUS : Reg :=
  ⟨"MBX_DATA_STATUS", .fn, 0x1428, 1, 4, 1, 4, [
    ⟨"OPEN", 31, 31, .ro, 0, keptNothing⟩,
    ⟨"DIR", 30, 30, .ro, 0, keptNothing⟩,
    ⟨"UNDERRUN", 29, 29, .w1c, 0, keptNothing⟩,
    ⟨"OVERRUN", 28, 28, .w1c, 0, keptNothing⟩,
    ⟨"SLOT", 27, 25, .ro, 0, keptNothing⟩,
    ⟨"REMAIN", 23, 0, .ro, 0, keptNothing⟩]⟩
def MBX_DATA_STATUS_OPEN : Fld := ⟨MBX_DATA_STATUS, 31, 31⟩
def MBX_DATA_STATUS_DIR : Fld := ⟨MBX_DATA_STATUS, 30, 30⟩
def MBX_DATA_STATUS_UNDERRUN : Fld := ⟨MBX_DATA_STATUS, 29, 29⟩
def MBX_DATA_STATUS_OVERRUN : Fld := ⟨MBX_DATA_STATUS, 28, 28⟩
def MBX_DATA_STATUS_SLOT : Fld := ⟨MBX_DATA_STATUS, 27, 25⟩
def MBX_DATA_STATUS_REMAIN : Fld := ⟨MBX_DATA_STATUS, 23, 0⟩

/-- R543 of 15_management_mailbox.md. -/
def MBX_DATA_FIFO : Reg :=
  ⟨"MBX_DATA_FIFO", .fn, 0x142c, 1, 4, 1, 4, [
    ⟨"AVAIL", 22, 16, .ro, 0, keptNothing⟩,
    ⟨"SPACE", 6, 0, .ro, 0, keptNothing⟩]⟩
def MBX_DATA_FIFO_AVAIL : Fld := ⟨MBX_DATA_FIFO, 22, 16⟩
def MBX_DATA_FIFO_SPACE : Fld := ⟨MBX_DATA_FIFO, 6, 0⟩

/-- R543 of 15_management_mailbox.md. -/
def MBX_EVT_CTRL : Reg :=
  ⟨"MBX_EVT_CTRL", .fn, 0x1460, 1, 4, 1, 4, [
    ⟨"POP", 31, 31, .wo, 0, keptNothing⟩,
    ⟨"OVF", 30, 30, .w1c, 0, keptBlockSleep⟩,
    ⟨"COUNT", 6, 0, .ro, 0, keptBlockSleep⟩]⟩
def MBX_EVT_CTRL_POP : Fld := ⟨MBX_EVT_CTRL, 31, 31⟩
def MBX_EVT_CTRL_OVF : Fld := ⟨MBX_EVT_CTRL, 30, 30⟩
def MBX_EVT_CTRL_COUNT : Fld := ⟨MBX_EVT_CTRL, 6, 0⟩

/-- R543 of 15_management_mailbox.md. -/
def MBX_EVT : Reg :=
  ⟨"MBX_EVT", .fn, 0x1440, 8, 4, 1, 4, [
    ⟨"ENTRY", 31, 0, .ro, 0, keptBlockSleep⟩]⟩
def MBX_EVT_ENTRY : Fld := ⟨MBX_EVT, 31, 0⟩

/-- R566 of 16_pcie_host.md. -/
def PCI_ID : Reg :=
  ⟨"PCI_ID", .fn, 0x0, 1, 4, 1, 4, [
    ⟨"ID", 31, 0, .ro, 270798851, keptColdOff⟩]⟩
def PCI_ID_ID : Fld := ⟨PCI_ID, 31, 0⟩

/-- R566 of 16_pcie_host.md. -/
def PCI_FUNC : Reg :=
  ⟨"PCI_FUNC", .fn, 0x4, 1, 4, 1, 4, [
    ⟨"VF", 4, 4, .ro, 0, keptColdOff⟩,
    ⟨"CTX", 3, 0, .ro, 0, keptColdOff⟩]⟩
def PCI_FUNC_VF : Fld := ⟨PCI_FUNC, 4, 4⟩
def PCI_FUNC_CTX : Fld := ⟨PCI_FUNC, 3, 0⟩

/-- R566 of 16_pcie_host.md. -/
def PCI_SERIAL_LO : Reg :=
  ⟨"PCI_SERIAL_LO", .fn, 0x8, 1, 4, 1, 4, [
    ⟨"SERIAL", 31, 0, .ro, 0, keptColdOff⟩]⟩
def PCI_SERIAL_LO_SERIAL : Fld := ⟨PCI_SERIAL_LO, 31, 0⟩

/-- R566 of 16_pcie_host.md. -/
def PCI_SERIAL_HI : Reg :=
  ⟨"PCI_SERIAL_HI", .fn, 0xc, 1, 4, 1, 4, [
    ⟨"SERIAL", 31, 0, .ro, 0, keptColdOff⟩]⟩
def PCI_SERIAL_HI_SERIAL : Fld := ⟨PCI_SERIAL_HI, 31, 0⟩

/-- R566 of 16_pcie_host.md. -/
def PCI_IRQ_STATUS : Reg :=
  ⟨"PCI_IRQ_STATUS", .fn, 0x2000, 1, 4, 1, 4, [
    ⟨"DONE_ANY", 31, 31, .ro, 0, keptNothing⟩,
    ⟨"EVT_ANY", 30, 30, .ro, 0, keptNothing⟩,
    ⟨"MP_STATE", 29, 28, .ro, 0, keptNothing⟩]⟩
def PCI_IRQ_STATUS_DONE_ANY : Fld := ⟨PCI_IRQ_STATUS, 31, 31⟩
def PCI_IRQ_STATUS_EVT_ANY : Fld := ⟨PCI_IRQ_STATUS, 30, 30⟩
def PCI_IRQ_STATUS_MP_STATE : Fld := ⟨PCI_IRQ_STATUS, 29, 28⟩

/-- R556 of 16_pcie_host.md. -/
def PCI_TIME_LO : Reg :=
  ⟨"PCI_TIME_LO", .fn, 0x3000, 1, 4, 1, 4, [
    ⟨"TIME", 31, 0, .ro, 0, keptDeviceOff⟩]⟩
def PCI_TIME_LO_TIME : Fld := ⟨PCI_TIME_LO, 31, 0⟩

/-- R556 of 16_pcie_host.md. -/
def PCI_TIME_HI : Reg :=
  ⟨"PCI_TIME_HI", .fn, 0x3004, 1, 4, 1, 4, [
    ⟨"TIME", 31, 0, .ro, 0, keptDeviceOff⟩]⟩
def PCI_TIME_HI_TIME : Fld := ⟨PCI_TIME_HI, 31, 0⟩

/-- R566 of 16_pcie_host.md. -/
def PCI_DBG_SEL : Reg :=
  ⟨"PCI_DBG_SEL", .fn, 0x800000, 1, 4, 1, 4, [
    ⟨"ADDR_HI", 31, 16, .rw, 0, keptNothing⟩,
    ⟨"LVL", 15, 14, .rw, 0, keptNothing⟩,
    ⟨"UNLOCKED", 13, 13, .ro, 0, keptNothing⟩,
    ⟨"STATUS", 7, 0, .ro, 0, keptNothing⟩]⟩
def PCI_DBG_SEL_ADDR_HI : Fld := ⟨PCI_DBG_SEL, 31, 16⟩
def PCI_DBG_SEL_LVL : Fld := ⟨PCI_DBG_SEL, 15, 14⟩
def PCI_DBG_SEL_UNLOCKED : Fld := ⟨PCI_DBG_SEL, 13, 13⟩
def PCI_DBG_SEL_STATUS : Fld := ⟨PCI_DBG_SEL, 7, 0⟩

def regTable0 : List Reg := [ARR_STATE, ARR_PROG_GEN, ARR_BIND_TENSOR, ARR_BIND_TILE, ARR_ROWGRP_CFG, ARR_CHK_CFG, ARR_CHK_STATUS, ARR_CHK_MISMATCH_CNT, ARR_CHK_SKIP_CNT, ARR_CLIP_CNT, ARR_CYCLE_CNT, ARR_REF_RATIO, ARR_GRAIN_CONC, ARR_GRAIN_STALL_CNT, CNV_SEQ_CTRL, CNV_SEQ_STATUS, CNV_GAIN_OVR, CNV_CAL_CFG, CNV_CAL_STATUS, CNV_UNSETTLED_CNT, CNV_TRIM_SEL, CNV_TRIM_DATA, CNV_SEQ_ENTRY, CNV_SEQ_ACTIVE]
def regTable1 : List Reg := [PRG_ENG_STATUS, PRG_LAST_RESULT, PRG_PULSE_CNT, PRG_PULSE_CFG, PRG_VERIFY_CFG, PRG_LIFE_CNT, PRG_STUCK_CNT, RSD_CTRL, RSD_THRESH_CNT, RSD_THRESH_L1, RSD_CORR_CFG, RSD_STALL_CNT, RSD_STATUS, RSD_L1, RSD_GAIN, RSD_OFS, RSD_NU, DMX_STATUS, DMX_LAST_ERR, DMX_PASS_CNT, DMX_FB_PASS_CNT, DMX_WR_PASS_CNT, DMX_UNALIGNED_CNT, DMX_PREEMPT_CNT]
def regTable2 : List Reg := [DMX_SAT_CNT, VEC_STATUS, VEC_LAST_ERR, VEC_DESC_CNT, VEC_STALL_CNT, VEC_NAN_CNT, CHN_STATUS, CHN_LAST_ERR, CHN_BYTES_CNT, CHN_WASTE_CNT, CHN_POS, PCHN_STATUS, PCHN_LAST_ERR, PCHN_BYTES_CNT, PCHN_WASTE_CNT, PCHN_POS, TSK_PORT_STATUS, TSK_DONE_CNT, TSK_STEAL_IN_CNT, TSK_LAST_ERR, TSK_SCHED_STATUS, TSK_SCHED_CFG, TSK_STEAL_OUT_CNT, TSK_BUSHEL_STEAL_CNT]
def regTable3 : List Reg := [TSK_SLOT_STALL_CNT, SYN_LC, SYN_LC_SEL, SYN_LC_LAST, SYN_LC_TIME_LO, SYN_LC_TIME_HI, SYN_LC_WAITER, SYN_LC_WTHRESH, SYN_LC_SAT_CNT, WCH_CFG, WCH_ROT, WCH_SAMPLE, WCH_SAMPLE_MAX, WCH_FAIL_CNT, WCH_VOID_CNT, WCH_PASS_CNT, WCH_VERDICT, WCH_NORM_TRIG_CNT, CLK_ISL_CFG, CLK_ISL_STATUS, RST_PECK_CTRL, RST_PECK_STATUS, PWR_BUSHEL_CTRL, PWR_VCORE]
def regTable4 : List Reg := [PRG_BRANCH_STATUS, PRG_BRANCH_CFG, PRG_BRANCH_FAULT_CNT, CNV_REF_SEL, CNV_REF_STATUS, CNV_MON_CTRL, CNV_MON_STATUS, CNV_MON_PASS, CNV_MON_SKIP_CNT, CNV_MON_ENTRY, CNV_MON_ACTIVE, CNV_MON_RES_REF, CNV_MON_RES_FLAG, CNV_MON_RES_DIODE, CNV_MON_RES_DIODE_FLAG, CNV_MON_RES_TAP, CNV_MON_RES_TAP_FLAG, PWR_TEMP, PWR_THERM_LEVEL, RST_STACK_STATUS, RST_TRIM_SHADOW, FLT_BOND_STATUS, PCI_LINK_STATUS, PCI_UR_CNT]
def regTable5 : List Reg := [PCI_WIN_BASE_LO, PCI_WIN_BASE_HI, MBX_MP_STATUS, MBX_LOAD, MBX_BUSY_CNT, MBX_DEFER_CNT, LOG_WR_CNT, LOG_EPOCH, LOG_TIME_LO, LOG_TIME_HI, LOG_CFG, LOG_COALESCE_CNT, SYN_HUB_STATUS, SYN_SAT_CNT, SYN_ABANDON_CNT, SYN_REMOTE_DROP_CNT, SYN_STALE_CNT, SYN_BARRIER_DROP_CNT, XCH_STATUS, XCH_LAST_SKEW, XCH_LAST_SKEW_STEP, XCH_SCALE_MAX, XCH_SENT_CNT, XCH_SUMMED_CNT]
def regTable6 : List Reg := [XCH_SKEW_CNT, XCH_STALE_CNT, XCH_DUP_CNT, XCH_FOREIGN_CNT, XCH_WC_DROP_CNT, UPD_STATUS, UPD_LAST_STEP, UPD_JOURNAL_HEAD, UPD_JOURNAL_KEEP, UPD_MOM_SAT_CNT, UPD_NONFINITE_CNT, UPD_FROZEN_CNT, FUR_PORT_STATUS, FUR_PARTNER, FUR_CONFIRMED, FUR_LANE_STATUS, FUR_RETRY_CFG, FUR_TX_SEQ, FUR_RX_SEQ, FUR_KEY_EPOCH, FUR_REPLAY_CNT, FUR_FEC_CORR_CNT, FUR_FEC_UNCORR_CNT, FUR_AUTH_FAIL_CNT]
def regTable7 : List Reg := [FUR_SUSP_DROP_CNT, FUR_CREDIT, FUR_NODE, FUR_HOP_DROP_CNT, FUR_E2E_TIMEOUT_CNT, FUR_TTAG_USED, PWR_INPUT, PWR_INPUT_P, PWR_LIMIT, PWR_LEVEL, PWR_RAIL_STATUS, PWR_RAIL_FAULT, PWR_SENSE_STATUS, PWR_PHASE_SHED, PWR_FAULT_CNT, CLK_REF_STATUS, CLK_REF_CTRL, RST_CAUSE, RST_START, RST_TRIM_STATUS, RST_PWR_STATE, RST_OFF_CAUSE, RST_START_TOTAL, RST_CTX_CNT]
def regTable8 : List Reg := [FLT_STATUS, FLT_LAST, FLT_LAST_TIME_LO, FLT_LAST_TIME_HI, FLT_CE_CNT, FLT_BLOCK_CNT, FLT_INT_LAST, FLT_ISO, FLT_ISO_X, FLT_MIRROR_STATUS, FLT_MIRROR_STEP, SEC_STATUS, SEC_FMKEY_CTRL, SEC_RESET_CTR_LO, SEC_RESET_CTR_HI, SEC_AUTH_FAIL_CNT, SEC_FMKEY_HASH, MBX_CMD, MBX_RSP, MBX_GO, MBX_SLOT_STATE, MBX_DONE, MBX_IRQ_CFG, MBX_PAGE_STATUS]
def regTable9 : List Reg := [MBX_DATA_RD, MBX_DATA_WR, MBX_DATA_STATUS, MBX_DATA_FIFO, MBX_EVT_CTRL, MBX_EVT, PCI_ID, PCI_FUNC, PCI_SERIAL_LO, PCI_SERIAL_HI, PCI_IRQ_STATUS, PCI_TIME_LO, PCI_TIME_HI, PCI_DBG_SEL]

/-- Every register of the part. -/
def regTable : List Reg :=
  regTable0 ++ regTable1 ++ regTable2 ++ regTable3 ++ regTable4 ++ regTable5 ++ regTable6 ++ regTable7 ++ regTable8 ++ regTable9

end Sys2Proof.Machine
end

