-- ==== Sys2Proof/Machine/StateFabric.lean ====
section
/-! DEFINITION. State of the Furlong ports and of packets under way (17) that no register shows. -/
namespace Sys2Proof.Machine

/-- Whom the answer to an outstanding packet concerns (R588). -/
inductive Purpose where
  | forgotten
  | chainWrite (task unit : Nat)
  | chainRead (task unit off : Nat)
  | taskSignal (task : Nat)
  /-- The exchange unit's signal of SUMMED (R417). -/
  | summed
  | hostSignal (ctx slot : Nat)
  | taskWait (task : Nat) (second : Bool)
  | segWait (task : Nat)
  | mailboxWait (ctx slot : Nat)
  | triggerWait (tensor : Nat)
  | probe (ctx slot : Nat)
  | exchange (tensor chunk : Nat)
  /-- Part of a written-ahead entry (R486), or of a snapshot slot (R484), or of a mirror record (R479). -/
  | writeAhead
  | snapshot
  | barrierSignal
  | mirror (step : Nat)
  /-- Fields of a barrier homed here, sent to the buddy (R480). -/
  | barrierCopy (phys : Nat)
  /-- A read of a working copy for REC_RESTORE or R469: where its bytes go in device memory. -/
  | copyRead (addr : Nat) (restore : Bool)
  /-- A firmware message a RUNNING command awaits the answer to. -/
  | command (ctx slot : Nat)
  deriving DecidableEq, Repr

/-- An outstanding packet (R588). -/
structure Outstanding where
  dst     : Nat
  purpose : Purpose
  sent    : Nat
  deriving DecidableEq, Repr

/-- A packet sent and not acknowledged (R580). -/
structure Held where
  seq     : Nat
  packet  : Packet
  resends : Nat := 0
  deriving DecidableEq, Repr

/-- One Furlong port, beside its registers. -/
structure PortRec where
  /-- Device time of the last state change (R597). -/
  since : Nat := 0
  /-- RETRY is passed over: ENABLE, RETRAIN or release from Block reset (R597). -/
  retryNow : Bool := false
  held : List Held := []
  queued : List Packet := []
  /-- Packet number in the epoch, the epoch's start, an epoch change to announce with its first SEQ (R577, R578). -/
  packetNo : Nat := 0
  epochStart : Nat := 0
  nextEpoch : Option Nat := none
  /-- First SEQ of the partner's announced epoch (R575, R578). -/
  rxNextEpoch : Option Nat := none
  /-- LINK flits sent (R575), a NACK to send, the E a NACK was sent for. -/
  lcount : Nat := 0
  nackDue : Bool := false
  /-- A packet of the partner has been accepted since the port went UP (R575). -/
  accepted : Bool := false
  nackedFor : Option Nat := none
  /-- Credits to return, key 2 × class + sub-channel (R583). -/
  freed : Tbl Nat := []
  /-- Identity hash of the partner, of the confirmed partner, and whether there is a confirmed partner (R598, R600). -/
  partnerHash : Nat := 0
  confirmedHash : Nat := 0
  confirmed : Bool := false
  /-- ATTEST messages of the partner (R599), 0x02 to 0x04: fragments received, by message × 65536 + fragment; the session
  secret S. -/
  attest : Tbl (List Nat) := []
  secret : Nat := 0
  /-- The port has stored training coefficients; it was released from a Block reset (R597). -/
  blockReleased : Bool := false
  deriving DecidableEq, Repr

/-- A DELIVERY pair due to a node (R589): its TTAG and status. -/
structure DuePair where
  node   : Nat
  ttag   : Nat
  status : Nat
  due    : Nat
  deriving DecidableEq, Repr

/-- A remote-access window (R593). -/
structure Window where
  base : Nat
  size : Nat
  src  : Nat
  any  : Bool
  wr   : Bool
  rd   : Bool
  deriving DecidableEq, Repr

end Sys2Proof.Machine
end

