-- ==== Sys2Proof/Machine/StateHost.lean ====
section
/-! DEFINITION. State of the mailbox, the log, the event FIFOs, the PCIe functions and the memory maps (15, 16) that
no register shows. -/
namespace Sys2Proof.Machine

/-- Log entries a rule requires without naming their EVENT code (R531). -/
inductive Diag where
  | programStart | attemptFailed | attemptHalted | attemptRestarted | programCompleted
  | lifeAdded | chkTableRebuilt | substitution | monitorSwitched | scanTableReloaded | residualOverflow
  | listsRebuilt | correctableError | faultRecord | satSignal | windowReset | updateWait | efRestored
  | syncFreed | blockReset | contextReset | standbyEntered | skewDiscard | watchReset | other
  deriving DecidableEq, Repr

/-- The number of a diagnostic kind, for the firmware's own coding of it. -/
def Diag.num : Diag → Nat
  | .programStart => 0 | .attemptFailed => 1 | .attemptHalted => 2 | .attemptRestarted => 3
  | .programCompleted => 4 | .lifeAdded => 5 | .chkTableRebuilt => 6 | .substitution => 7
  | .monitorSwitched => 8 | .scanTableReloaded => 9 | .residualOverflow => 10 | .listsRebuilt => 11
  | .correctableError => 12 | .faultRecord => 13 | .satSignal => 14 | .windowReset => 15 | .updateWait => 16
  | .efRestored => 17 | .syncFreed => 18 | .blockReset => 19 | .contextReset => 20 | .standbyEntered => 21
  | .skewDiscard => 22 | .watchReset => 23 | .other => 24

/-- What an entry reports: an event code of the interface, or a diagnostic kind (R531). -/
inductive LogEvent where
  | fixed (code : Nat)
  | diag (what : Diag)
  deriving DecidableEq, Repr

/-- A log entry (R526). `data` is DATA from byte 12 for a fixed code, and the reported numbers for a diagnostic. -/
structure LogEntry where
  stamp  : Nat
  source : Nat
  event  : LogEvent
  status : Nat
  sev    : Nat
  host   : Bool
  ctx    : Nat
  rep    : Nat
  data   : List Nat
  /-- Device time at which the entry was written, for R529's 1 ms. -/
  time   : Nat
  deriving DecidableEq, Repr

/-- A region of a context's memory map (R534): address and size in bytes. -/
structure Region where
  addr : Nat
  size : Nat
  deriving DecidableEq, Repr

/-- What a command that holds its slot RUNNING waits for. -/
inductive SlotWait where
  | nothing
  /-- STEP_SUBMIT: until its run ends (R334). -/
  | run
  /-- SYNC_WAIT: until release, outcome or timeout (R396). -/
  | sync
  /-- A remote signal or probe awaits its answer (R395, R397); VID concerned. -/
  | remote (vid : Nat)
  /-- A data window moves its words (R522). -/
  | window
  /-- A reset or power transition completes it (R671 to R673). -/
  | reset
  /-- REC_RESTORE, FW work and the like, with the step it has reached. -/
  | work (stage : Nat)
  deriving DecidableEq, Repr

/-- One PCIe function and its context (15, 16). -/
structure CtxRec where
  /-- GO order of the slots, and what each RUNNING one waits for. -/
  goOrder : Tbl Nat := []
  waits : Tbl SlotWait := []
  /-- Device time at which a posted SYNC_WAIT with a timeout expires (R383). -/
  deadline : Tbl Nat := []
  /-- Device time of each slot's GO (R518). -/
  goTime : Tbl Nat := []
  /-- SEQ values not consumed, of the 64 at and behind HIGH (R513). -/
  seqOpen : List Nat := []
  /-- Data window: words not yet moved (device to host) or received (host to device), last access (R520 to R522). -/
  window : List Nat := []
  /-- Status code and response words with which a window from device to host completes its command (R537, R542). -/
  windowReply : Nat × List Nat := (0, [])
  windowAccess : Nat := 0
  /-- Event FIFO, oldest first (R530). -/
  events : List LogEntry := []
  /-- Memory map (R534). -/
  map : List Region := []
  /-- MSI-X (R556, R564): address and data words of the table (key 4 × entry + word), unmasked vectors, Function Mask, pending bits;
  every vector is masked at reset (PCIe). -/
  msixTable : Tbl Nat := []
  unmasked : List Nat := []
  functionMask : Bool := false
  pba : List Nat := []
  /-- Bus Master Enable (R565); Max_Payload_Size and Max_Read_Request_Size are sizes of its TLPs only. -/
  busMaster : Bool := false
  /-- Latched upper device time of the BAR0 copy (R524, R556). -/
  timeHi : Nat := 0
  deriving DecidableEq, Repr

end Sys2Proof.Machine
end

