-- ==== Sys2Proof/Machine/StateModule.lean ====
section
/-! DEFINITION. State of starts, resets and power (18, 19), of the security complex (20), of recovery (14) and of telemetry
(15) that no register shows. -/
namespace Sys2Proof.Machine

/-- Where the module stands between Off and RUN acknowledgement (R646, R657, R660). -/
inductive Life where
  | off
  /-- From the reset or the leaving of Off until RUN acknowledgement. -/
  | starting
  | recovery
  | run
  deriving DecidableEq, Repr

/-- A reset that waits for its moment (R670, R687), or for the end of the PERST# assertion (R640). -/
structure PendingReset where
  cold   : Bool
  source : Nat
  due    : Nat
  deriving DecidableEq, Repr

/-- Content of a firmware image slot (R681): the image the module is delivered with, or bytes taken by FW_STAGE. -/
inductive Image where
  | factory
  | bytes (b : List Nat)
  deriving DecidableEq, Repr

/-- What the recovery state of this module holds of a mirror record it wrote: the record itself and whether its CRC holds (R478, R479). -/
structure HomeSlot where
  record : MirrorRecord
  ok     : Bool
  deriving DecidableEq, Repr

/-- A region accepted for another module's mirror records (R498): node, address, bytes. -/
structure BuddyRegion where
  node : Nat
  addr : Nat
  size : Nat
  deriving DecidableEq, Repr

/-- A REC_RESTORE in progress (R499): its slot, what the answer gave (remaining steps, committed step value), chunks and residuals
still to reconstruct (tensor index, chunk, error feedback), reads of working copies outstanding, journal sections applied. -/
structure Restore where
  ctx       : Nat
  slot      : Nat
  /-- The mirror record has come. -/
  known     : Bool := false
  committed : Nat := 0
  remaining : Nat := 0
  todo      : List (Nat × Nat × Bool) := []
  reads     : Nat := 0
  applied   : Nat := 0
  /-- METHOD 1 tensors of the mirror record, with its STAMP. -/
  stamp     : Nat := 0
  tensors   : List MirrorTensor := []
  deriving DecidableEq, Repr

/-- A chunk snapshot slot (R483): tensor ID, chunk, error feedback. -/
structure SlotStamp where
  tensor : Nat
  chunk  : Nat
  efr    : Bool
  /-- Stamps of the two slots, as this module last wrote them. -/
  first  : Option Nat
  second : Option Nat
  deriving DecidableEq, Repr

/-- The last telemetry sample (R538): number, device time, words 4 to 9. -/
structure Telemetry where
  number : Nat := 0
  time   : Nat := 0
  words  : List Nat := [0, 0, 0, 0, 0, 0]
  deriving DecidableEq, Repr

end Sys2Proof.Machine
end

