-- ==== Sys2Proof/Machine/Formats.lean ====
section
/-! DEFINITION. Number formats (03): exact values as rationals, and one rounding step into each format. -/
namespace Sys2Proof.Machine

/-- Rounding modes of R99; code 3 is reserved. -/
inductive RoundMode where
  | rne | sr | rtz
  deriving DecidableEq, Repr

/-- A rounding code of R99, where code 3 names no mode. -/
def RoundMode.ofCode : Nat → Option RoundMode
  | 0 => some .rne
  | 1 => some .sr
  | 2 => some .rtz
  | _ => none

/-- The nearest whole number, ties to even, of a non-negative rational. -/
def roundHalfEven (q : Rat) : Nat :=
  let n := q.num.toNat
  let d := q.den
  let w := n / d
  let r := 2 * (n % d)
  if r < d then w else if d < r then w + 1 else if w % 2 = 0 then w else w + 1

/-- R99, R100: a non-negative rational rounded to a whole number in a mode; `r` is the 16-bit random number of SR. -/
def roundNat (mode : RoundMode) (r : Nat) (q : Rat) : Nat :=
  match mode with
  | .rne => roundHalfEven q
  | .rtz => q.num.toNat / q.den
  | .sr =>
    let w := q.num.toNat / q.den
    if r < ((q.num.toNat % q.den) * 2 ^ 16) / q.den then w + 1 else w

/-- 2 to an integer power. -/
def pow2 (e : Int) : Rat :=
  if 0 ≤ e then ((2 ^ e.toNat : Nat) : Rat) else mkRat 1 (2 ^ (-e).toNat)

/-- floor(log2 q) of a positive rational. -/
def floorLog2 (q : Rat) : Int :=
  let n := q.num.toNat
  let e : Int := Int.ofNat n.log2 - Int.ofNat q.den.log2
  if pow2 e ≤ q then e else e - 1

/-- The magnitude code of a binary float format with `f` fraction bits and smallest normal exponent `emin`: exponent
field above the fraction, unbounded above (the caller saturates or takes infinity). -/
def floatCode (f : Nat) (emin : Int) (mode : RoundMode) (r : Nat) (q : Rat) : Nat :=
  if q = 0 then 0
  else
    let e := floorLog2 q
    if e < emin then roundNat mode r (q / pow2 (emin - f))
    else (e - emin).toNat * 2 ^ f + roundNat mode r (q / pow2 (e - f))

/-- The magnitude of a code of such a format. -/
def floatMag (f : Nat) (emin : Int) (code : Nat) : Rat :=
  let e := code / 2 ^ f
  let m := code % 2 ^ f
  if e = 0 then (m : Rat) * pow2 (emin - f)
  else ((2 ^ f + m : Nat) : Rat) * pow2 (emin - f + Int.ofNat (e - 1))

/-- A floating-point value: NaN, an infinity, or a finite magnitude with its sign (zero keeps one). -/
inductive Fp where
  | nan
  | inf (neg : Bool)
  | fin (neg : Bool) (mag : Rat)
  deriving DecidableEq, Repr

/-- The rational of a finite value; 0 for NaN and infinities. -/
def Fp.val : Fp → Rat
  | .fin neg m => if neg then -m else m
  | _ => 0

/-- A rational as a value; zero is +0. -/
def Fp.ofRat (q : Rat) : Fp := if q < 0 then .fin true (-q) else .fin false q

def Fp.isNan : Fp → Bool
  | .nan => true
  | _ => false

def Fp.isFinite : Fp → Bool
  | .fin _ _ => true
  | _ => false

def Fp.isNeg : Fp → Bool
  | .nan => false
  | .inf n => n
  | .fin n _ => n

def Fp.negate : Fp → Fp
  | .nan => .nan
  | .inf n => .inf (!n)
  | .fin n m => .fin (!n) m

def Fp.abs : Fp → Fp
  | .nan => .nan
  | .inf _ => .inf false
  | .fin _ m => .fin false m

/-- Canonical quiet NaN of FP32 (R103). -/
def fp32Nan : Nat := 0x7FC00000

/-- An FP32 word's value (IEEE 754 binary32). -/
def fp32Decode (w : Nat) : Fp :=
  let neg := bit w 31
  let mag := w % 2 ^ 31
  if mag < 0x7F800000 then .fin neg (floatMag 23 (-126) mag)
  else if mag = 0x7F800000 then .inf neg else .nan

/-- R103: a value rounded to FP32; overflow is a signed infinity, every NaN the canonical one. -/
def fp32EncodeMode (mode : RoundMode) (r : Nat) (v : Fp) : Nat :=
  match v with
  | .nan => fp32Nan
  | .inf n => b2n n * 2 ^ 31 + 0x7F800000
  | .fin n m => b2n n * 2 ^ 31 + min (floatCode 23 (-126) mode r m) 0x7F800000

/-- A value rounded to FP32 with RNE. -/
def fp32Encode (v : Fp) : Nat := fp32EncodeMode .rne 0 v

/-- A value rounded to FP32 and read back. -/
def fp32Round (v : Fp) : Fp := fp32Decode (fp32Encode v)

/-- A BF16 code's value: the upper 16 bits of binary32 (R103). -/
def bf16Decode (w : Nat) : Fp := fp32Decode ((w % 2 ^ 16) * 2 ^ 16)

/-- A value rounded to BF16. -/
def bf16EncodeMode (mode : RoundMode) (r : Nat) (v : Fp) : Nat :=
  match v with
  | .nan => 0x7FC0
  | .inf n => b2n n * 2 ^ 15 + 0x7F80
  | .fin n m => b2n n * 2 ^ 15 + min (floatCode 7 (-126) mode r m) 0x7F80

def bf16Encode (v : Fp) : Nat := bf16EncodeMode .rne 0 v

/-- The exact sum of two values; opposite infinities give NaN, and an exact zero sum is +0 unless both are -0 (RNE). -/
def Fp.addExact (a b : Fp) : Fp :=
  match a, b with
  | .nan, _ => .nan
  | _, .nan => .nan
  | .inf x, .inf y => if x = y then .inf x else .nan
  | .inf x, .fin _ _ => .inf x
  | .fin _ _, .inf y => .inf y
  | .fin x m, .fin y n =>
    let s := (Fp.fin x m).val + (Fp.fin y n).val
    if s = 0 then .fin (x && y) 0 else Fp.ofRat s

/-- The exact product of two values; zero times infinity gives NaN. -/
def Fp.mulExact (a b : Fp) : Fp :=
  match a, b with
  | .nan, _ => .nan
  | _, .nan => .nan
  | .inf x, .inf y => .inf (x != y)
  | .inf x, .fin y n => if n = 0 then .nan else .inf (x != y)
  | .fin x m, .inf y => if m = 0 then .nan else .inf (x != y)
  | .fin x m, .fin y n => .fin (x != y) (m * n)

/-- The exact quotient; 0/0 and infinity/infinity give NaN, a finite value over zero a signed infinity. -/
def Fp.divExact (a b : Fp) : Fp :=
  match a, b with
  | .nan, _ => .nan
  | _, .nan => .nan
  | .inf _, .inf _ => .nan
  | .inf x, .fin y _ => .inf (x != y)
  | .fin x _, .inf y => .fin (x != y) 0
  | .fin x m, .fin y n =>
    if n = 0 then (if m = 0 then .nan else .inf (x != y)) else .fin (x != y) (m / n)

/-- FP32 sum with RNE. -/
def Fp.add (a b : Fp) : Fp := fp32Round (Fp.addExact a b)

/-- FP32 product with RNE. -/
def Fp.mul (a b : Fp) : Fp := fp32Round (Fp.mulExact a b)

/-- FP32 quotient with RNE. -/
def Fp.div (a b : Fp) : Fp := fp32Round (Fp.divExact a b)

/-- FP32 difference with RNE. -/
def Fp.sub (a b : Fp) : Fp := Fp.add a b.negate

/-- FP32 fused multiply-add: one rounding. -/
def Fp.fma (a b c : Fp) : Fp := fp32Round (Fp.addExact (Fp.mulExact a b) c)

/-- a < b for values neither of which is NaN. -/
def Fp.lt (a b : Fp) : Bool :=
  match a, b with
  | .nan, _ => false
  | _, .nan => false
  | .inf x, .inf y => x && !y
  | .inf x, .fin _ _ => x
  | .fin _ _, .inf y => !y
  | .fin x m, .fin y n => decide ((Fp.fin x m).val < (Fp.fin y n).val)

/-- Format codes of R93. -/
inductive Fmt where
  | fp32 | bf16 | e4m3 | e5m2 | mxint8 | mxfp4 | int4 | int2 | ternary | m32 | mom8
  deriving DecidableEq, Repr

/-- R93: codes 0xB to 0xF are reserved. -/
def Fmt.ofCode : Nat → Option Fmt
  | 0 => some .fp32 | 1 => some .bf16 | 2 => some .e4m3 | 3 => some .e5m2 | 4 => some .mxint8
  | 5 => some .mxfp4 | 6 => some .int4 | 7 => some .int2 | 8 => some .ternary | 9 => some .m32
  | 10 => some .mom8 | _ => none

/-- Element bits of R93. -/
def Fmt.bits : Fmt → Nat
  | .fp32 => 32 | .bf16 => 16 | .e4m3 => 8 | .e5m2 => 8 | .mxint8 => 8 | .mxfp4 => 4 | .int4 => 4
  | .int2 => 2 | .ternary => 2 | .m32 => 32 | .mom8 => 8

/-- Formats with blocks of 32 elements and an E8M0 scale (R93). -/
def Fmt.blocked : Fmt → Bool
  | .fp32 => false | .bf16 => false | .m32 => false | _ => true

/-- Formats that may be placed in arrays and may drive them (R117, R120). -/
def Fmt.placeable : Fmt → Bool
  | .mxfp4 => true | .int4 => true | .int2 => true | .ternary => true | _ => false

/-- Integer operand formats of the 24-bit accumulator (R112). -/
def Fmt.narrowInt : Fmt → Bool
  | .int4 => true | .int2 => true | .ternary => true | _ => false

/-- EMAX of R96. -/
def Fmt.emax : Fmt → Int
  | .mxfp4 => 2 | .e4m3 => 8 | .e5m2 => 15 | .mxint8 => 0 | .mom8 => 0 | .int4 => 2 | _ => 0

/-- R94: the value of an E8M0 scale code; 0xFF is NaN. -/
def scaleVal (c : Nat) : Rat := pow2 (Int.ofNat c - 127)

/-- R96, R98, R103 to R105: the value of an element code, before scales. -/
def elemDecode (f : Fmt) (code : Nat) : Fp :=
  match f with
  | .fp32 => fp32Decode code
  | .bf16 => bf16Decode code
  | .e4m3 => if code % 128 = 127 then .nan else .fin (bit code 7) (floatMag 3 (-6) (code % 128))
  | .e5m2 =>
    if code % 128 < 0x7C then .fin (bit code 7) (floatMag 2 (-14) (code % 128))
    else if code % 128 = 0x7C then .inf (bit code 7) else .nan
  | .mxint8 => Fp.ofRat ((signed 8 code : Rat) / 64)
  | .mom8 => Fp.ofRat ((signed 8 code : Rat) / 64)
  | .mxfp4 => .fin (bit code 3) (floatMag 1 0 (code % 8))
  | .int4 => Fp.ofRat (signed 4 code : Rat)
  | .int2 => Fp.ofRat (signed 2 code : Rat)
  | .ternary => if code % 4 = 1 then .fin false 1 else if code % 4 = 3 then .fin true 1 else .fin false 0
  | .m32 => .fin (bit code 31) (floatMag 25 (-30) (code % 2 ^ 31))

/-- A magnitude code cut to the largest, with the flag that it was. -/
def cutCode (limit code : Nat) : Nat × Bool := if limit < code then (limit, true) else (code, false)

/-- R97, R98, R114: the element code of an exact quotient `q`, and whether it saturated. Zero elements are +0, and
the codes INT4 0b1000, MXINT8 0x80 and ternary 0b10 are never written. -/
def elemEncode (f : Fmt) (mode : RoundMode) (r : Nat) (q : Rat) : Nat × Bool :=
  let neg := decide (q < 0)
  let m := if q < 0 then -q else q
  let sign := fun (w : Nat) (c : Nat × Bool) => (if c.1 = 0 then 0 else b2n neg * 2 ^ (w - 1) + c.1, c.2)
  let twos := fun (w : Nat) (c : Nat × Bool) => ((if neg then (2 ^ w - c.1) % 2 ^ w else c.1), c.2)
  match f with
  | .mxfp4 => sign 4 (cutCode 7 (floatCode 1 0 mode r m))
  | .e4m3 => sign 8 (cutCode 0x7E (floatCode 3 (-6) mode r m))
  | .e5m2 => sign 8 (cutCode 0x7B (floatCode 2 (-14) mode r m))
  | .mxint8 => twos 8 (cutCode 127 (roundNat mode r (m * 64)))
  | .mom8 => twos 8 (cutCode 127 (roundNat mode r (m * 64)))
  | .int4 => twos 4 (cutCode 7 (roundNat mode r m))
  | .int2 => twos 2 (cutCode 1 (roundNat mode r m))
  | .ternary => twos 2 (cutCode 1 (roundNat mode r m))
  | .fp32 => (fp32EncodeMode mode r (Fp.ofRat q), false)
  | .bf16 => (bf16EncodeMode mode r (Fp.ofRat q), false)
  | .m32 => (b2n neg * 2 ^ 31 + min (floatCode 25 (-30) mode r m) (2 ^ 31 - 1), false)

/-- Largest finite magnitude of the values, or none where one of them is not finite. -/
def maxMag (vs : List Fp) : Option Rat :=
  vs.foldl (fun acc v => match acc, v with
    | some a, .fin _ m => some (if a < m then m else a)
    | _, _ => none) (some 0)

/-- R97: the scale code for a largest quotient `a`. -/
def scaleCode (f : Fmt) (a : Rat) : Nat :=
  if a = 0 then 0 else (min (max (floorLog2 a - f.emax + 127) 0) 254).toNat

/-- One quantised block: its scale code, its element codes and how many elements saturated. -/
structure QBlock where
  scale : Nat
  codes : List Nat
  sats  : Nat
  deriving DecidableEq, Repr

/-- R97 with a scale code already chosen; `rs` gives each element's random number. -/
def quantiseWith (f : Fmt) (mode : RoundMode) (S : Rat) (c : Nat) (vs : List Fp) (rs : Nat → Nat) : QBlock :=
  let es := (vs.zipIdx).map (fun (v, i) => elemEncode f mode (rs i) (v.val / (S * scaleVal c)))
  ⟨c, es.map (·.1), es.foldl (fun n e => n + b2n e.2) 0⟩

/-- R97, R114: quantisation of a block; a block with a non-finite source gets scale 0xFF and zero elements. -/
def quantiseBlock (f : Fmt) (mode : RoundMode) (S : Rat) (vs : List Fp) (rs : Nat → Nat) : QBlock :=
  match maxMag vs with
  | none => ⟨0xFF, vs.map (fun _ => 0), 0⟩
  | some m =>
    if m = 0 then ⟨0, vs.map (fun _ => 0), 0⟩
    else quantiseWith f mode S (scaleCode f (m / S)) vs rs

/-- R125: what a block enters into AMAX_LAST: NaN, +infinity, or the largest |v| / S as an FP32 value. -/
def blockAmax (S : Rat) (vs : List Fp) : Fp :=
  if vs.any Fp.isNan then .nan
  else match maxMag vs with
    | none => .inf false
    | some m => fp32Round (.fin false (m / S))

/-- R316's maximum as R125 uses it: NaN stays NaN. -/
def amaxMax (a b : Fp) : Fp :=
  if a.isNan || b.isNan then .nan else if a.lt b then b else a

/-- R95: an element's value with its block scale and tensor scale; scale 0xFF makes it NaN (R114). -/
def elemValue (f : Fmt) (c : Nat) (S : Rat) (code : Nat) : Fp :=
  if c = 0xFF then .nan
  else match elemDecode f code with
    | .fin n m => .fin n (m * scaleVal c * S)
    | v => v

/-- R106, R107: an exact result rounded once to M32 with RNE; saturation is silent and an exact zero is +0. -/
def m32Encode (q : Rat) : Nat :=
  if q = 0 then 0
  else
    let m := if q < 0 then -q else q
    b2n (decide (q < 0)) * 2 ^ 31 + min (floatCode 25 (-30) .rne 0 m) (2 ^ 31 - 1)

/-- The rational of an M32 word (R105). -/
def m32Val (w : Nat) : Rat := (elemDecode .m32 w).val

/-- R128, master precision in Gen-1 exact mode: 24 significant bits, flushing below 2^-30, silent saturation. -/
def m32EncodeGen1 (q : Rat) : Nat :=
  let m := if q < 0 then -q else q
  if m = 0 then 0
  else
    let e := floorLog2 m
    let r := (roundHalfEven (m / pow2 (e - 23)) : Rat) * pow2 (e - 23)
    if r < pow2 (-30) then 0
    else
      let top := (2 - pow2 (-23)) * pow2 32
      b2n (decide (q < 0)) * 2 ^ 31 + floatCode 25 (-30) .rne 0 (if top < r then top else r)

/-- R108: conversion of an FP32 value to M32 outside the update datapath. -/
def m32OfFp (v : Fp) : Nat :=
  match v with
  | .nan => 0
  | .inf n => b2n n * 2 ^ 31 + (2 ^ 31 - 1)
  | .fin n m => b2n n * 2 ^ 31 + min (floatCode 25 (-30) .rne 0 m) (2 ^ 31 - 1)

/-- Levels per unit of a placeable weight format (R116). -/
def Fmt.levelsPerUnit : Fmt → Nat
  | .mxfp4 => 2 | .int4 => 2 | .int2 => 5 | .ternary => 12 | _ => 1

/-- Slots per unit of a driving input format (R119). -/
def Fmt.slotsPerUnit : Fmt → Nat
  | .mxfp4 => 2 | .int4 => 2 | _ => 1

/-- Slots per cycle of an input format (R119). -/
def Fmt.slotsPerCycle : Fmt → Nat
  | .mxfp4 => 16 | .int4 => 16 | _ => 4

/-- R116: the signed level of a working weight element. -/
def weightLevel (f : Fmt) (code : Nat) : Int :=
  match f with
  | .mxfp4 => ((elemDecode .mxfp4 code).val * 2).num
  | .int4 => 2 * signed 4 code
  | .int2 => 5 * signed 2 code
  | .ternary => 12 * (elemDecode .ternary code).val.num
  | _ => 0

/-- R115: the signed level a working weight element is programmed as; INT4 -8 is programmed as -7. -/
def programLevel (f : Fmt) (code : Nat) : Int := max (weightLevel f code) (if f = .int4 then -14 else -16)

/-- R98: an open code among those the device may write; the codes it never writes become zero. -/
def legalCode (f : Fmt) (code : Nat) : Nat :=
  let never := match f with
    | .mxfp4 => 8 | .int4 => 8 | .e4m3 => 0x80 | .e5m2 => 0x80 | .mxint8 => 0x80 | .mom8 => 0x80 | .ternary => 2 | _ => 2 ^ f.bits
  if code % 2 ^ f.bits = never then 0 else code % 2 ^ f.bits

/-- R119: the signed slot count of an input element. DESIGN CHOICE (log entry 107): an INT4 element of -8, which the table's largest count
leaves out, takes 16 slots. -/
def inputSlots (f : Fmt) (code : Nat) : Int :=
  ((elemDecode f code).val * (f.slotsPerUnit : Rat)).num

/-- R121: a slot count aligned from scale code `c` to `cmax`, RNE. -/
def alignSlots (c cmax : Nat) (slots : Int) : Int :=
  let m := roundHalfEven ((slots.natAbs : Rat) / pow2 (Int.ofNat (cmax - c)))
  if slots < 0 then -(m : Int) else m

/-- Largest whole number whose square is at most `n`. -/
def isqrt (n : Nat) : Nat :=
  (List.range (n.log2 / 2 + 2)).foldl (fun x i =>
    let b := 2 ^ (n.log2 / 2 + 1 - i)
    if (x + b) * (x + b) ≤ n then x + b else x) 0

/-- The FP32 square root of a value, RNE; negative values give NaN. -/
def Fp.sqrt (v : Fp) : Fp :=
  match v with
  | .nan => .nan
  | .inf n => if n then .nan else .inf false
  | .fin n m =>
    if m = 0 then .fin n 0
    else if n then .nan
    else
      -- 40 bits below the unit position decide every RNE rounding of a root to 24 bits but an exact one
      let e := (floorLog2 m) / 2
      let s := m / pow2 (2 * (e - 60))
      let w := s.num.toNat / s.den
      let r := isqrt w
      let exact := decide (r * r = w ∧ s.den = 1)
      let q := ((2 * r + (if exact then 0 else 1) : Nat) : Rat) * pow2 (e - 61)
      fp32Round (.fin false q)

/-- CRC-32 of the tables (IEEE 802.3, reflected), one byte. -/
def crc32Byte (crc b : Nat) : Nat :=
  (List.range 8).foldl (fun c _ => if c % 2 = 1 then (c / 2) ^^^ 0xEDB88320 else c / 2) (crc ^^^ b)

/-- CRC-32 of a list of bytes. -/
def crc32 (bs : List Nat) : Nat := (bs.foldl crc32Byte 0xFFFFFFFF) ^^^ 0xFFFFFFFF

end Sys2Proof.Machine
end

