-- ==== Sys2Proof/Machine/StateArrays.lean ====
section
/-! DEFINITION. State of the arrays that no register shows: the program record, the programming attempt, the queue,
checksum and correction sums, residual lists, trims, and the default conversion and scan tables. What a register
shows (state, generation, binding, counters) lives in the register table. -/
namespace Sys2Proof.Machine

/-- One entry of a residual list (R257). -/
structure Residual where
  row   : Nat
  out   : Nat
  delta : Int
  deriving DecidableEq, Repr

/-- Why a residual decision is due (R265). -/
inductive DecisionWhy where
  | newCopy | program | drift | rebuild | software
  deriving DecidableEq, Repr

/-- Why an attempt stands halted (R230 to R232). -/
inductive HaltWhy where
  | blockReset | branch | power
  deriving DecidableEq, Repr

/-- A binding: tensor, row tile, column tile (R134). -/
structure Binding where
  tensor  : Nat
  rowTile : Nat
  colTile : Nat
  deriving DecidableEq, Repr

/-- A started read cycle of a FWD task on an array (R154): the task's index, the token, the array entry of the task
and the start row of the group; and the aligned code and the signed slot counts its row drivers were armed with at its start (R121,
R147). A row group that waits for the fallback path has none yet. -/
structure StartedCycle where
  task  : Nat
  token : Nat
  entry : Nat
  row   : Nat
  cmax  : Nat := 0
  slots : List Int := []
  deriving DecidableEq, Repr

/-- What the programming engine drives a cell of its row with (R212, R219): pulses so far, the polarity of the last one (`true` SET)
and its amplitude in units of 10 mV. -/
structure CellDrive where
  pulses    : Nat := 0
  polarity  : Option Bool := none
  amplitude : Nat := 0
  deriving DecidableEq, Repr

/-- What the module keeps for one array beside its registers. -/
structure ArrayRec where
  /-- Retirement cause of the metadata (R229, R242); 0 = not retired. -/
  cause : Nat := 0
  /-- Segment scale codes of the programmed base (R242), key output × 8 + segment. -/
  baseCodes : Tbl Nat := []
  /-- Levels of the 528 cells as the last program verified them (R219, R244), key row × 528 + cell column. -/
  verified : Tbl Nat := []
  /-- Target levels of the target set in work or last programmed (R218), key row × 528 + cell column. -/
  target : Tbl Nat := []
  /-- The target set's segment scale codes (R218). -/
  targetCodes : Tbl Nat := []
  /-- True while the target set of the program in work is held (R226: it is lost at Device reset, Cold reset and Off). -/
  targetHeld : Bool := false
  /-- The record's GEN and whether its CRC holds; whether its targets are known (R244, R245). -/
  recGen : Nat := 0
  recOk : Bool := true
  targetsKnown : Bool := true
  /-- The binding set by ARRAY_BIND and not yet in effect (R249). -/
  pendingBind : Option Binding := none
  /-- A retirement decided and not yet in effect, with its cause (R229). -/
  pendingRetire : Option Nat := none
  /-- Current attempt 1 to 3, 0 = none; failed attempts; halt; row in work; stuck cells so far (R219 to R226). -/
  attempt : Nat := 0
  failed : Nat := 0
  halted : Option HaltWhy := none
  row : Nat := 0
  stuck : Nat := 0
  /-- Drive of the 528 cells of the last row that was programmed (R219). -/
  drive : List CellDrive := []
  /-- The program in work had a checksum flag among its causes (R240). -/
  checksumCaused : Bool := false
  /-- Its program was selected and waits for the drain (R240). -/
  selected : Bool := false
  /-- Its verification has passed and the decision of R224 is outstanding (R266). -/
  passed : Bool := false
  /-- Exempt from R237 (R238). -/
  exempt : Bool := false
  /-- Device time of the last program start, or of the start that followed the last Cold reset or Off (R237, R251). -/
  lastStart : Nat := 0
  /-- The first overflow-caused program after a start has not been used yet (R238). -/
  firstOverflow : Bool := true
  /-- LIFE_COUNT growth since the last metadata flush (R243). -/
  lifeGrowth : Nat := 0
  /-- Checksum correction table (R137, R138), key row × 4 + group. -/
  chkTable : Tbl Int := []
  /-- Sums of R140 for reference outputs 260 to 263: measured, ideal; slots driven; cycles since the publication. -/
  refMeasured : List Rat := [0, 0, 0, 0]
  refIdeal : List Int := [0, 0, 0, 0]
  refSlots : Int := 0
  refCycles : Nat := 0
  /-- Cycles in the checksum window and cycles of it with a mismatching group (R162). -/
  windowCycles : Nat := 0
  windowMismatch : Nat := 0
  /-- Cycles served since the array returned to SERVING or the last flag, and whether its last program was
  checksum-caused (R165). -/
  served : Nat := 0
  lastWasChecksum : Bool := false
  /-- Read cycles started and not past their convert phase (R154, R226). -/
  cycles : List StartedCycle := []
  /-- Start number of the FWD task that started the last read cycle (R349). -/
  turn : Nat := 0
  /-- The residual list, in ascending order of row and output (R257). -/
  residuals : List Residual := []
  /-- A list has been decided since the last loss or overflow (R281). -/
  listed : Bool := false
  /-- Its lists were lost and the decision that rebuilds them has not completed: that decision waits for VALID (R268). -/
  lostList : Bool := false
  /-- A decision that is due, and one that runs (R265 to R268). -/
  decisionDue : Option DecisionWhy := none
  decisionRuns : Option DecisionWhy := none
  /-- nu (FP32) of the last decision (R277); the last rejected 1/rhoH (FP32, R274); the diode's last reading (FP32, R273). -/
  nuUsed : Nat := 0
  rejected : Option Nat := none
  diodePrev : Option Nat := none
  /-- VALID waits for the first complete monitor pass (R276). -/
  awaitsMonitor : Bool := true
  /-- The monitor has read the array since its Bushel's results were last lost (R276). -/
  monSeen : Bool := false
  /-- Calibration trims, key slice × 8 + gain × 2 + (0 gain trim, 1 offset trim), signed (R190, R209). -/
  trims : Tbl Int := []
  /-- Slices whose last dwell left a trim at the end of its range (R190). -/
  endOfRange : List Nat := []
  /-- Dwells still to run of a CAL_NOW rotation; 0 = none (R191). -/
  calNow : Nat := 0
  /-- Row group the next monitor cycle drives (R203). -/
  monGroup : Nat := 0
  deriving DecidableEq, Repr

/-- An entry of the program queue (R240). -/
structure QueueEntry where
  array    : Nat
  cls      : Nat
  now      : Bool
  checksum : Bool
  deriving DecidableEq, Repr

/-- R177: the entries of default-4 and default-2. -/
def defaultSeq4 : List Nat := [0x18010042, 0x18020042, 0x18040042, 0x18080042]
def defaultSeq2 : List Nat := [0x00010042, 0x00020042, 0x00040042, 0x00080042]

/-- R207: entry `n` of the default scan table, a 64-bit word. -/
def defaultScan (n : Nat) : Nat :=
  if n < 64 then 0xFFFF * 2 ^ 32 + n * 2 ^ 24 + 1 * 2 ^ 16
  else if n < 80 then 1 * 2 ^ 61 + (n - 64) * 2 ^ 24 + 4 * 2 ^ 16
  else if n < 92 then 2 * 2 ^ 61 + (n - 80) * 2 ^ 24 + 8 * 2 ^ 16
  else 0

end Sys2Proof.Machine
end

