-- ==== Sys2Proof/Machine/StateSync.lean ====
section
/-! DEFINITION. State of the synchronisation objects (11) that no register shows: waiters, last signals, virtual objects
and the translation tables. -/
namespace Sys2Proof.Machine

/-- Who waits on an object (R401); a task and a Chain segment by the task's index in the running attempt. -/
inductive WaiterWho where
  | task (index : Nat) (second : Bool)
  | seg (index : Nat)
  | mailbox (ctx slot : Nat)
  /-- A waiter of a partner module: its node and the waiter ID it sent (R592). -/
  | partner (node id : Nat)
  /-- The exchange unit's watch of a tensor's trigger (R411), by the tensor's index. -/
  | trigger (tensor : Nat)
  deriving DecidableEq, Repr

/-- A queued wait (R370): `id` is its waiter ID under R401. -/
structure Waiter where
  who    : WaiterWho
  id     : Nat
  take   : Bool
  thresh : Nat
  deriving DecidableEq, Repr

/-- The last signal of an object (R400, R402). -/
structure LastSignal where
  src   : Nat
  ctx   : Nat
  port  : Nat
  grain : Nat
  time  : Nat
  deriving DecidableEq, Repr

/-- An outcome message (R389): status code, COMMITTED and ATTEMPT. -/
structure Outcome where
  status    : Nat
  committed : Nat
  attempt   : Nat
  deriving DecidableEq, Repr

/-- An outcome that waits for the buddy's acknowledgement (R480): the participants it was decided for (R391), and the message. -/
structure Decided where
  members : List Nat
  message : Outcome
  deriving DecidableEq, Repr

/-- The fields of a commit barrier (R387). -/
structure Barrier where
  committed    : Nat
  attempt      : Nat
  participants : List Nat
  arrived      : List Nat
  worst        : Nat
  outcome      : Nat
  decided      : Option Decided := none
  deriving DecidableEq, Repr

/-- What a virtual object is. -/
inductive ObjKind where
  | ordinary
  | ready (tensor : Nat)
  | barrier (b : Barrier)
  deriving DecidableEq, Repr

/-- A mapped physical object (R368, R377). -/
structure SyncObj where
  owner    : Nat
  vid      : Nat
  value    : Nat := 0
  satHi    : Bool := false
  satLo    : Bool := false
  exported : Bool := false
  kind     : ObjKind := .ordinary
  waiters  : List Waiter := []
  last     : Option LastSignal := none
  deriving DecidableEq, Repr

/-- An entry of a context's translation table (R377); an unmapped one is not listed. -/
inductive VMap where
  | object (phys : Nat)
  | remote (node ctx vid gen : Nat)
  deriving DecidableEq, Repr

/-- What a task's wait or signal entry names once it is translated (R379). -/
inductive ObjRef where
  | unused
  | counter (n : Nat)
  | object (phys : Nat)
  | remote (node ctx vid gen : Nat)
  deriving DecidableEq, Repr

/-- A wait posted to an object of a partner module and not answered yet (R384, R385): who waits, the home node, the
owner context, VID and generation there, and the waiter ID sent. -/
structure RemoteWait where
  who  : WaiterWho
  node : Nat
  ctx  : Nat
  vid  : Nat
  gen  : Nat
  id   : Nat
  deriving DecidableEq, Repr

end Sys2Proof.Machine
end

