-- ==== Sys2Proof/Machine/StateTasks.lean ====
section
/-! DEFINITION. State of step programs, runs, attempts and tasks (10, 12, 13) that no register shows. -/
namespace Sys2Proof.Machine

/-- Where a task of the running attempt stands (R337, R342, R347, R350). -/
inductive TaskPhase where
  | eligible | ready | running | done | stopped
  deriving DecidableEq, Repr

/-- What a FWD task latches of one of its arrays when it starts (R142, R184, R272). -/
structure LatchedArray where
  array    : Nat
  startRow : Nat
  rowCount : Nat
  rowTile  : Nat
  size     : Nat
  /-- The active sequence's entries; `user` = false stands for the default sequence of the input width. -/
  user     : Bool
  seq      : List Nat
  gainOvr  : Option Nat
  gain     : Nat
  offset   : Nat
  deriving DecidableEq, Repr

/-- A task of the running attempt. -/
structure TaskRun where
  /-- The four descriptor words (R340). -/
  desc : List Nat := []
  phase : TaskPhase := .eligible
  /-- Home Grain ID (R340), and the translations of WAIT0, WAIT1, SIG0, SIG1, SEG_SIG and SEG_WAIT (R379). -/
  home : Nat := 0
  refs : List ObjRef := []
  /-- Wait entries 0 and 1 hold (R342, R370). -/
  held0 : Bool := false
  held1 : Bool := false
  /-- The Grain that runs it, whether it was stolen (R357), whether its slot is from the shared pool (R348). -/
  grain : Nat := 0
  stolen : Bool := false
  /-- Start number within the attempt (R349). -/
  order : Nat := 0
  sharedSlot : Bool := false
  hasSlot : Bool := false
  /-- The argument block's words as read at the start (R347). -/
  arg : List Nat := []
  /-- The status its work or its checks have led to, once known. -/
  ending : Option Status := none
  /-- Sideband (R352, R353). -/
  fallback : Bool := false
  unsettled : Bool := false
  saturated : Bool := false
  reused : Bool := false
  /-- FWD: latched arrays, the terms of finished row groups (key (token × 16 + entry) × 64 + row / 16; 256 FP32
  words, empty where the group was not driven), and an input block with scale 0xFF was met (R146). -/
  arrays : List LatchedArray := []
  started : List Nat := []
  terms : Tbl (List Nat) := []
  nanInput : Bool := false
  /-- PRODUCT: output tiles finished of the first product and of its partner, the side and chunk in progress, and the
  accumulators of that tile, 64 × 64 in row-major order (FP32 words or 24-bit sums); a FWD task in Gen-1 exact mode
  counts its passes in `tile` (R294, R295, R305). -/
  tile : Nat := 0
  tile2 : Nat := 0
  side : Nat := 0
  chunk : Nat := 0
  acc : List Int := []
  /-- VECTOR: descriptors finished. -/
  vecIndex : Nat := 0
  /-- CHAIN: indices i[1..6], unit next in order, segment, the wait on SEG_WAIT (posted, held), units whose reads are
  outstanding, and the stream fault met (R360, R365). -/
  unit : Nat := 0
  seg : Nat := 0
  segPosted : Bool := false
  segHeld : Bool := false
  outstanding : List Nat := []
  /-- The unit that closes the segment has been issued, and its signal waits for outstanding transfers. -/
  closing : Bool := false
  faultCause : Option Status := none
  /-- The 512-byte unit of the scale plane that a PACK or UNPACK used last (R364). -/
  planeUnit : Option Nat := none
  deriving DecidableEq, Repr

/-- One tensor entry of an exchange table (R408), as XCH_LOAD reads it and UPD_SET changes it. -/
structure XchTensor where
  words : List Nat
  deriving DecidableEq, Repr

/-- An exchange table attached to a program (R405 to R410, R434): header words, group entries, tensor entries, and the
changes UPD_SET keeps for the next commit (R436). -/
structure XchTable where
  base    : Nat
  header  : List Nat
  groups  : List (List Nat)
  members : List (List Nat)
  tensors : List XchTensor
  pending : List (Nat × List Nat)
  deriving DecidableEq, Repr

/-- A watch table attached to a program (R448, R464); the table itself stands in device memory. -/
structure WchTable where
  base    : Nat
  deriving DecidableEq, Repr

/-- An array's watch record (R458): failures and the time of the first one in the window. -/
structure WatchRec where
  count : Nat
  first : Nat
  deriving DecidableEq, Repr

/-- A recovery policy table attached to a program, with its policy count (R482 to R484). -/
structure RecPolicy where
  base    : Nat
  header  : List Nat
  entries : List (List Nat)
  count   : Nat
  /-- Next entry of the journal copy ring, units of 64 bytes (R486). -/
  jhead   : Nat := 0
  deriving DecidableEq, Repr

/-- A loaded step program (R333); its image stands in device memory. -/
structure Program where
  base   : Nat
  length : Nat
  xch    : Option XchTable := none
  wch    : Option WchTable := none
  policy : Option RecPolicy := none
  /-- Consecutive CHECK_FAILED refusals of one step, and that step (R457). -/
  refusals : Nat := 0
  refusedStep : Nat := 0
  deriving DecidableEq, Repr

/-- A run queued or running (R334): its context, handle, mailbox slot and SEQ, steps asked for and committed. -/
structure Run where
  ctx       : Nat
  handle    : Nat
  slot      : Nat
  steps     : Nat
  committed : Nat := 0
  deriving DecidableEq, Repr

/-- Where the running attempt stands. -/
inductive AttemptPhase where
  | running   -- tasks start and run
  | cutShort  -- R351, ISOLATED or a stream fault; the refusal is sent once no unit recovers
  | halted    -- R351, another error status: the run is ending
  | signalled -- the participant's signal is sent (R33); waiting for the outcome
  | refused   -- the outcome was a refusal: the next attempt may start (R43)
  | committed -- the outcome was a commit: the next step, or the end of the run
  deriving DecidableEq, Repr

/-- The watch sample of one Peck (R441 to R447). -/
structure WatchSample where
  /-- Index sampled, grain × 16 + array, the task chosen and its array entries that name the array. -/
  index   : Nat
  task    : Nat
  entries : List Nat
  /-- Captured row groups, key as in `TaskRun.terms`: the 256 values y as FP32 words, and the 256 LSBs. -/
  cols  : Tbl (List Nat) := []
  lsbs  : Tbl (List Nat) := []
  unsettled : Bool := false
  /-- The sample has resolved (R445, R446, R451), as failed, with WCH_SAMPLE_MAX as it was then (R454, R455). -/
  resolved : Bool := false
  failed : Bool := false
  max : Nat := 0
  deriving DecidableEq, Repr

/-- An update after a commit point (R423): its context, program and table as they stood there, the step, COMMITTED after the
commit, the chunks still to do (tensor index, chunk), and what each chunk adds to the sums of R461, as FP32 words by chunk. -/
structure UpdateRun where
  ctx       : Nat
  base      : Nat
  table     : XchTable
  wch       : Option WchTable
  step      : Nat
  committed : Nat
  gen1      : Bool
  todo      : List (Nat × Nat)
  sums      : Tbl (Nat × Nat) := []
  /-- After a fault of the exchange unit (R438): chunks that await reconstruction, and chunks whose working copy is sent again. -/
  broken    : List (Nat × Nat) := []
  resend    : List (Nat × Nat) := []
  /-- Copies the snapshot engine makes once the update is complete (R484): program key, tensor index, chunk, error feedback. -/
  copies    : List (Nat × Nat × Nat × Bool) := []
  deriving DecidableEq, Repr

/-- The attempt in progress of the running run. -/
structure Attempt where
  step   : Nat
  number : Nat
  /-- Attempt of the step as records and registers show it: it saturates at 255 (R352, R366). -/
  shown  : Nat := 0
  phase  : AttemptPhase := .running
  gen1   : Bool := false
  tasks  : Tbl TaskRun := []
  /-- FWD tasks started so far (R349). -/
  starts_ : Nat := 0
  /-- A task cut the attempt short (R351). -/
  cut : Bool := false
  /-- A block-contained fault was met in the attempt (R34). -/
  blockFault : Bool := false
  /-- Own checks failed: the sample of some Peck, a norm entry (R451). -/
  sampleFail : Bool := false
  normFail : Bool := false
  firstNorm : Nat := 0xFFFF
  nonfinite : Bool := false
  /-- The exchange check: 0 unresolved, 1 PASS, 2 STEP_SKEW, 3 no table (R417). -/
  check : Nat := 0
  /-- Tensors triggered (R411) and the contributions accepted: (tensor, chunk, contributor) (R416). -/
  triggered : List Nat := []
  /-- Tensors compressed in the attempt (R411). -/
  compressed : List Nat := []
  summed : List (Nat × Nat × Nat) := []
  /-- Parts of the written-ahead entry that are not acknowledged (R486). -/
  ahead : Nat := 0
  /-- Watch samples by Peck. -/
  samples : Tbl WatchSample := []
  /-- The halting task's TAG and status (R334, R351). -/
  haltTag : Nat := 0
  haltStatus : Option Status := none
  /-- Scale recomputation still to be done before the next attempt (R456). -/
  rescale : Bool := false
  deriving DecidableEq, Repr

end Sys2Proof.Machine
end

