-- ==== Sys2Proof/Machine/State.lean ====
section
/-! DEFINITION. The state of the block, as plain data: the queue of waiting commands, the fuses, and everything else
the spec gives the module. Registers live in one table keyed by their internal CSR address (R59); an unlisted register
holds its reset value. -/
namespace Sys2Proof.Machine

/-- A message that has left the module on its PCIe link, pins or management bus: the model's own record of it. -/
inductive OutMsg where
  /-- An MSI-X message of a function on a vector (R564). -/
  | msix (fn vector addr data : Nat)
  /-- A packet's flits on a port (R573). -/
  | packet (port : Nat) (seq : Nat) (p : Packet)
  /-- A LINK flit on a port (R575). -/
  | linkFlit (port lcount ack flags epochSeq : Nat) (credits : Tbl Nat)
  /-- A memory read request of a PCIe function to the host: address and length (R365, R555). -/
  | hostRead (fn tag addr length : Nat)
  /-- A posted memory write of a PCIe function to the host. -/
  | hostWrite (fn addr : Nat) (data : List Nat)
  /-- A TRAINING flit on a port, by its MSG (R598, R599). -/
  | training (port msg : Nat)
  /-- Data of a host read, or its Unsupported Request (`none`) (R557, R560). -/
  | readData (fn : Nat) (data : Option (List Nat))
  /-- An answer of the SPDM responder (R693). -/
  | spdm (answer : SpdmAnswer)
  deriving DecidableEq, Repr

/-- Everything of the module but the queue and the fuses. -/
structure Dev where
  /-- Registers, key `Reg.key`, words; unlisted = reset value. -/
  regs : Tbl Nat := []
  /-- Device memory, Peck SRAM and Grain SRAM, one byte a cell; unlisted = 0 (see `Mem` in Ops). -/
  mem : List Host.Cell := []
  /-- How many open values have been taken; the model's own field. -/
  freeCount : Nat := 0
  /-- Device time in ns (R523). -/
  time : Nat := 0
  arrays : Tbl ArrayRec := []
  queue : List QueueEntry := []
  /-- Arrays whose program is due under ARRAY_BIND or R233, oldest first (R240). -/
  due : List Nat := []
  programs : Tbl Program := []
  runs : List Run := []
  /-- The first of `runs` has been started (R334). -/
  runStarted : Bool := false
  attempt : Option Attempt := none
  ctxs : Tbl CtxRec := []
  /-- Flash copy of the metadata registers and of the base's segment codes, and the clean marker (R242, R243). -/
  flash : Tbl Nat := []
  flashCodes : Tbl (Tbl Nat) := []
  clean : Bool := true
  /-- Device time of the last metadata flush (R243). -/
  lastFlush : Nat := 0
  /-- Device time of the start that followed the last Cold reset or Off (R251). -/
  coldStart : Nat := 0
  /-- MIN_INTERVAL and LIFE_LIMIT in flash (R237, R239, R253). -/
  minInterval : Nat := 100
  lifeLimit : Nat := 180000
  /-- Chunks of a tensor's working copy that have not arrived since the last commit (R432), key tensor ID. -/
  wcMissing : Tbl (List Nat) := []
  /-- Device time at which what keeps a Peck out of Idle last ended (R661), and at which a Grain last stopped being busy for a task
kind, key Grain × 4 + kind (R356). -/
  quietAt : Tbl Nat := []
  idleAt : Tbl Nat := []
  /-- Grains in which a monitor cycle waits for an integrate slot (R203). Per Bushel: readings of the current pass that are done, and the
device time of the last one or of the pass's start (R200, R202). -/
  monWaits : List Nat := []
  monAt : Tbl Nat := []
  monSince : Tbl Nat := []
  /-- Per Bushel: the external reference lies in its window (R195); a staged scan table waits for the next pass (R206);
  LEN of the active table; the last table armed with OK and its length (R207). -/
  extRefBad : List Nat := []
  monArmed : List Nat := []
  monLen : Tbl Nat := []
  monLast : Tbl (List Nat) := []
  /-- Local counters' waiters and last signals, key Peck × 48 + counter (R375, R402). -/
  lcWaiters : Tbl (List Waiter) := []
  lcLast : Tbl LastSignal := []
  /-- Mapped physical objects, generations of all 16,384, translation tables with key context × 4096 + VID (R377, R378). -/
  objects : Tbl SyncObj := []
  gens : Tbl Nat := []
  vmap : Tbl VMap := []
  /-- The physical object a VID named before it was unmapped, by the same key (R378). -/
  formerly : Tbl Nat := []
  remoteWaits : List RemoteWait := []
  /-- Fallback row groups waiting, by Grain (R302). -/
  fbQueue : Tbl (List StartedCycle) := []
  /-- Indices of the step's ingest tasks that completed with OK (R339). -/
  ingestDone : List Nat := []
  /-- An outcome message of a barrier homed here that waits to be acted on, and the last outcome acted on (R389). -/
  outcomeDue : Option Outcome := none
  lastOutcome : Option Outcome := none
  /-- Step of the last commit outcome received (R431), working-copy messages held, by 2 × port + sub-channel (R431), updates not finished. -/
  lastCommit : Option Nat := none
  /-- Key of the program that the last step was committed under (R431). -/
  lastKey : Option Nat := none
  heldWc : List (Nat × List Nat) := []
  updates : List UpdateRun := []
  /-- A mirror record is to be written before a task of the next attempt starts (R479). -/
  mirrorDue : Bool := false
  /-- Watch records of the arrays (R458, R459). -/
  watchRecs : Tbl WatchRec := []
  /-- RNG states of the Pecks at step start (R42, R101). -/
  rng : Tbl Nat := []
  /-- Reads of host memory whose PCIe completion is outstanding, by request tag: task and unit (R365, R555). -/
  hostReads : Tbl (Nat × Nat) := []
  ports : Tbl PortRec := []
  outstanding : Tbl Outstanding := []
  /-- Packets of local originators that wait for a free TTAG (R588). -/
  unsent : List (Packet × Purpose) := []
  duePairs : List DuePair := []
  /-- Packets of this module for its own node, oldest first (R587). -/
  own : List Packet := []
  windows : List Window := []
  routes : Tbl Nat := []
  maxHops : Nat := 16
  log : List LogEntry := []
  /-- Events logged during a start, with the one context they concern, if any (R675). -/
  heldEvents : List (Option Nat × LogEntry) := []
  /-- Where the module stands (R646, R660); device time at which the start began; its phases have completed (R647). -/
  life : Life := .starting
  startedAt : Nat := 0
  startDone : Bool := false
  pendingReset : Option PendingReset := none
  /-- PERST# is asserted; it was asserted while the module was in Off (R640, R666). -/
  perst : Bool := false
  perstOff : Bool := false
  /-- PERST# has been deasserted in Off before the wait of R666 was over: the start waits for it. -/
  startDue : Bool := false
  /-- Device time of the trip or fault that led to Off (R666), and of the response of POWER_DOWN (R665). -/
  offAt : Nat := 0
  powerDown : Option Nat := none
  /-- The MP restarts; device times of restart causes since the last start (R503). -/
  mpDown : Bool := false
  /-- Device time at which firmware last kicked the watchdog (R503). -/
  mpKicked : Nat := 0
  mpCauses : List Nat := []
  /-- SR-IOV: VF Enable and NumVFs (R548, R549). -/
  vfEnable : Bool := false
  numVFs : Nat := 0
  /-- BAR2 sizes as n for 2^n GiB: PF0's, and every VF's (R552). -/
  bar2Pf : Nat := 5
  bar2Vf : Nat := 2
  /-- The first of a pair of window writes: context, whether it was _HI, value (R568). -/
  winPending : Tbl (Bool × Nat) := []
  /-- Telemetry (R538, R539). -/
  telemetry : Telemetry := {}
  telemetryPeriod : Nat := 1000
  /-- Correctable errors of the current second: its first instant, counts by unit code, units reported (R470, R538). -/
  ceSince : Nat := 0
  ceCounts : Tbl Nat := []
  ceRaised : List Nat := []
  /-- Units between detection and release: unit code, device time of detection, source code (R474). -/
  recovering : Tbl (Nat × Nat) := []
  /-- Mirror records of this module in its two home slots, and which is the newer (R479); regions accepted from others (R498). -/
  homeSlots : List (Option HomeSlot) := [none, none]
  homeNewest : Nat := 0
  /-- The buddy's region: address and size (R479, R481); the record being sent: STAMP and pieces not acknowledged. -/
  buddyPlace : Nat × Nat := (0, 0)
  mirrorSent : Option (Nat × Nat) := none
  buddyRegions : List BuddyRegion := []
  /-- Snapshot slots this module wrote (R484). -/
  slotStamps : List SlotStamp := []
  /-- Copies of the snapshot engine still to make for the last commit: (program key, tensor index, chunk, error feedback) (R484). -/
  snapshots : List (Nat × Nat × Nat × Bool) := []
  /-- Owned chunks that await reconstruction: (tensor ID, chunk, error feedback) (R438, R488), and a REC_RESTORE in progress. -/
  rebuild : List (Nat × Nat × Bool) := []
  restore : Option Restore := none
  /-- Device time of the last fault of a Bushel's core rail (R614); VPRG faults since the last start (R615). -/
  vcoreFaults : Tbl Nat := []
  vprgFaults : Nat := 0
  /-- Rails that are enabled, as bits by rail code (R609, R618). -/
  railsOn : Nat := 0
  /-- Device time of the last change of the module power level (R622). -/
  levelAt : Nat := 0
  /-- Programming drivers of a Bushel are inhibited (R617). -/
  inhibited : List Nat := []
  /-- TRIP_N is held low (R707). -/
  tripN : Bool := false
  /-- Image slots of module flash, and whether OTHER is valid (R681, R686). -/
  active : Image := .factory
  other : Image := .bytes []
  otherValid : Bool := false
  /-- Image that runs, kept at the start (R684). -/
  runningSlot : Nat := 0
  runningImage : Image := .factory
  /-- The eight measurement registers and their extension counts (R691). -/
  measures : List (Nat × Nat) := List.replicate 8 (0, 0)
  /-- The debug challenge and the device time of its issue (R695). -/
  challenge : Option (List Nat × Nat) := none
  /-- Open SPDM sessions (R693), IDE streams in the Insecure state (R694). -/
  spdmSessions : Nat := 0
  ideInsecure : List Nat := []
  out : List OutMsg := []
  deriving DecidableEq, Repr

/-- How the read of a fuse lies to the blown and intact thresholds (R680). -/
inductive FuseRead where
  | intact
  | between
  | blown
  deriving DecidableEq, Repr

/-- The security fuses software can see advance (R679, R684): the fuses of IMG_REVOKE and of RB_COUNT, from bit 0 on (one not listed
is intact); and which copies of the five trim sets (0 to 3 stacks, 4 X-die) fail their CRC (R649). -/
structure Fuses where
  imgRevoke : List FuseRead := []
  rb : List FuseRead := []
  badCopyA : List Nat := []
  badCopyB : List Nat := []
  deriving DecidableEq, Repr

/-- R680: a fuse that reads between the thresholds counts as blown. -/
def FuseRead.counts : FuseRead → Bool
  | .intact => false
  | .between => true
  | .blown => true

/-- R680: fuse k of a list counts as blown. -/
def fuseBlown (l : List FuseRead) (k : Nat) : Bool :=
  match l[k]? with
  | some r => r.counts
  | none => false

/-- IMG_REVOKE as bits (R679, R680). -/
def Fuses.revoked (f : Fuses) : Nat :=
  (List.range 4).foldl (fun n k => if fuseBlown f.imgRevoke k then n + 2 ^ k else n) 0

/-- The anti-rollback count (R679, R680): the fuses of RB_COUNT that count as blown (log entry 106). -/
def Fuses.rbCount (f : Fuses) : Nat := (f.rb.filter FuseRead.counts).length

/-- The state of the block. -/
structure State where
  /-- Commands that wait, oldest first. -/
  pending : List Instr
  fuses : Fuses
  dev : Dev
  deriving DecidableEq, Repr

/-- Faults: why the machine stops. No rule of the spec stops the block for good, so no meaning raises one. -/
inductive Fault where
  /-- Kept for the interface; raised by no meaning (safe). -/
  | unreachable
  deriving DecidableEq, Repr

/-- Refusals. -/
inductive Refusal where
  /-- A command that has no meaning yet; raised by its arm of `exec` only (safe). -/
  | notModelled (mnemonic : String)
  deriving DecidableEq, Repr

/-- The block right after reset: nothing waits, every register at its reset value, every memory and table empty. -/
def State.reset : State := ⟨[], {}, {}⟩

/-- The outcome that leaves the queue and the fuses alone and takes the rest of the module to `d`. -/
def State.to (s : State) (d : Dev) : Host.Outcome State Fault Refusal := .next { s with dev := d }

end Sys2Proof.Machine
end

