-- ==== Sys2Proof/Machine/Ops.lean ====
section
/-! DEFINITION. The named operations over the state: registers, memories, the log and host events, arrays, tasks. -/
namespace Sys2Proof.Machine

/-! ### Registers -/

/-- The reset word of register `r`, instance `n`, `k`: its fields' reset values, but the default sequence and the
default scan table where the register shows those (R177, R207, R209, R210). -/
def Reg.resetAt (r : Reg) (n k : Nat) : Nat :=
  if r.scope = .grain ∧ r.base = CNV_SEQ_ACTIVE.base then nth defaultSeq4 k
  else if r.scope = .bushel ∧ (r.base = CNV_MON_ENTRY.base ∨ r.base = CNV_MON_ACTIVE.base) then
    (defaultScan (n / 2) / 2 ^ (32 * (n % 2))) % 2 ^ 32
  else r.fieldsReset

/-- The stored word of a register. -/
def Dev.word (d : Dev) (r : Reg) (u : Nat) (n : Nat := 0) (k : Nat := 0) : Nat :=
  Tbl.get (r.resetAt n k) d.regs (r.key u n k)

/-- Stores a register's word. -/
def Dev.setWord (d : Dev) (r : Reg) (u : Nat) (n k v : Nat) : Dev :=
  { d with regs := Tbl.set (r.resetAt n k) d.regs (r.key u n k) (v % 2 ^ 32) }

/-- A field's value. -/
def Dev.rd (d : Dev) (f : Fld) (u : Nat) (n : Nat := 0) (k : Nat := 0) : Nat :=
  bits (d.word f.reg u n k) f.hi f.lo

/-- Writes a field, by the part itself (no access code applies). -/
def Dev.wr (d : Dev) (f : Fld) (u n k v : Nat) : Dev :=
  d.setWord f.reg u n k (setBits (d.word f.reg u n k) f.hi f.lo v)

/-- A one-bit field as a truth value. -/
def Dev.on (d : Dev) (f : Fld) (u : Nat) (n : Nat := 0) (k : Nat := 0) : Bool := d.rd f u n k == 1

/-- Adds to a counter field that saturates at its largest value. -/
def Dev.count (d : Dev) (f : Fld) (u n : Nat) (by_ : Nat := 1) : Dev :=
  d.wr f u n 0 (satAdd (f.hi + 1 - f.lo) (d.rd f u n) by_)

/-- Adds to a counter field that wraps. -/
def Dev.countWrap (d : Dev) (f : Fld) (u n : Nat) (by_ : Nat := 1) : Dev :=
  d.wr f u n 0 (d.rd f u n + by_)

/-! ### Identifiers (R58) -/

/-- Grain of an array address. -/
def grainOf (a : Nat) : Nat := a / 16
/-- Index of an array within its Grain. -/
def slotOf (a : Nat) : Nat := a % 16
/-- Peck of a Grain. -/
def peckOfGrain (g : Nat) : Nat := g / 8
/-- Peck of an array. -/
def peckOf (a : Nat) : Nat := a / 128
/-- Bushel number of a Peck. -/
def bushelOfPeck (p : Nat) : Nat := p / 8
/-- Bushel number of an array. -/
def bushelOf (a : Nat) : Nat := a / 1024

/-! ### Memories (R9, R56, R344) -/

/-- Size of device memory in bytes (R56: 480 GB). -/
def deviceMemory : Nat := 480000000000

/-- Cell number of a byte of device memory. -/
def devCell (a : Nat) : Nat := a
/-- Cell number of a byte of a Peck's shared SRAM (8 MiB). -/
def peckCell (p a : Nat) : Nat := 2 ^ 64 * (1 + p) + a
/-- Cell number of a byte of a Grain's SRAM (2 MiB). -/
def grainCell (g a : Nat) : Nat := 2 ^ 64 * (129 + g) + a

/-- A memory has the cell: a byte of device memory, of a Peck's SRAM or of a Grain's. -/
def cellExists (cell : Nat) : Bool :=
  let space := cell / 2 ^ 64
  let a := cell % 2 ^ 64
  if space = 0 then decide (a < deviceMemory)
  else if space < 129 then decide (a < 2 ^ 23)
  else if space < 1153 then decide (a < 2 ^ 21)
  else false
/-- A cell that no memory has. -/
def noCell : Nat := 2 ^ 64 * 1153

/-- What a byte of memory that nothing has written reads as: 0 (DESIGN CHOICE: the spec gives device memory no contents
at reset; SRAM is zeroed under R474). -/
def memDefault : Byte := 0

/-- The canonical form of the memory: cells strictly rising, none that holds what an unlisted cell reads as. -/
def Memory.wf (m : List Host.Cell) : Bool := Tbl.wf memDefault m

/-- One byte; open where no memory has it. -/
def Dev.byte (d : Dev) (cell : Nat) : Nat :=
  if cellExists cell then (Tbl.get memDefault d.mem cell).toNat else (Config.absentByte cell).toNat

/-- Writes one byte; nothing where no memory has it. -/
def Dev.setByte (d : Dev) (cell v : Nat) : Dev :=
  { d with mem := if cellExists cell then Tbl.set memDefault d.mem cell (BitVec.ofNat 8 v) else d.mem }

/-- `n` bytes, little-endian, as one number (R9). -/
def Dev.le (d : Dev) (cell n : Nat) : Nat :=
  match n with
  | 0 => 0
  | n + 1 => d.byte cell + 256 * Dev.le d (cell + 1) n

/-- Writes `n` bytes of a number, little-endian. -/
def Dev.setLe (d : Dev) (cell n v : Nat) : Dev :=
  match n with
  | 0 => d
  | n + 1 => Dev.setLe (d.setByte cell (v % 256)) (cell + 1) n (v / 256)

/-- `n` bytes as a list. -/
def Dev.bytes (d : Dev) (cell n : Nat) : List Nat := (List.range n).map (fun i => d.byte (cell + i))

/-- Writes a list of bytes. -/
def Dev.setBytes (d : Dev) (cell : Nat) (bs : List Nat) : Dev :=
  match bs with
  | [] => d
  | b :: rest => Dev.setBytes (d.setByte cell b) (cell + 1) rest

/-- Fills `n` bytes with zero: the listed cells of the range go. -/
def Dev.clearBytes (d : Dev) (cell n : Nat) : Dev :=
  { d with mem := d.mem.filter (fun c => !(decide (cell ≤ c.1) && decide (c.1 < cell + n))) }

/-- A 64-bit word of device memory. -/
def Dev.mem64 (d : Dev) (a : Nat) : Nat := d.le (devCell a) 8

/-- `n` 64-bit words of device memory. -/
def Dev.words64 (d : Dev) (cell n : Nat) : List Nat := (List.range n).map (fun i => d.le (cell + 8 * i) 8)

/-! ### Free values -/

/-- Takes a fresh open value: nothing is known of it. -/
def Dev.fresh (d : Dev) : Nat × Dev :=
  ((Config.free d.freeCount).toNat, { d with freeCount := d.freeCount + 1 })

/-! ### Arrays -/

/-- The record of an array. -/
def Dev.arr (d : Dev) (a : Nat) : ArrayRec := Tbl.get {} d.arrays a

/-- Changes the record of an array. -/
def Dev.modArr (d : Dev) (a : Nat) (f : ArrayRec → ArrayRec) : Dev :=
  { d with arrays := Tbl.modify {} d.arrays a f }

/-- Array states (R225). -/
def SERVING : Nat := 0
def DRAINING : Nat := 1
def PROGRAMMING : Nat := 2
def VERIFYING : Nat := 3
def RETIRED : Nat := 4

/-- An array's state. -/
def Dev.arrState (d : Dev) (a : Nat) : Nat := d.rd ARR_STATE_STATE (grainOf a) (slotOf a)

/-- Moves an array to a state. RETIRED is permanent (R229). -/
def Dev.setArrState (d : Dev) (a st : Nat) : Dev :=
  if d.arrState a = RETIRED then d else d.wr ARR_STATE_STATE (grainOf a) (slotOf a) 0 st

/-- The binding in effect (R134). -/
def Dev.binding (d : Dev) (a : Nat) : Binding :=
  ⟨d.rd ARR_BIND_TENSOR_TENSOR_ID (grainOf a) (slotOf a), d.rd ARR_BIND_TILE_ROW_TILE (grainOf a) (slotOf a),
    d.rd ARR_BIND_TILE_COL_TILE (grainOf a) (slotOf a)⟩

/-- The tensor ID of no tensor (R135). -/
def noTensor : Nat := 0xFFFFFFFF

/-- R135: an array is unbound while its tensor ID is 0xFFFF_FFFF. -/
def Dev.unbound (d : Dev) (a : Nat) : Bool := (d.binding a).tensor == noTensor

/-- The binding R152 checks against: the pending one from ARRAY_BIND's OK on (R249). -/
def Dev.taskBinding (d : Dev) (a : Nat) : Binding := ((d.arr a).pendingBind).getD (d.binding a)

/-! ### Power states, gating, clocks of a Peck (R66, R85, R627, R660, R661) -/

/-- Stacks, Bushels: the Bushel of a Peck is `bushelOfPeck`; its compute stack. -/
def stackOfBushel (b : Nat) : Nat := b / 4

/-- RST_PWR_STATE.STATE: 0 Run, 1 Standby, 2 Sleep. -/
def Dev.powerState (d : Dev) : Nat := d.rd RST_PWR_STATE_STATE 0

/-- A unit lies between its Block reset and its release, by its code in FLT_LAST.UNIT (R474). -/
def Dev.inRecovery (d : Dev) (u : Nat) : Bool := (Tbl.find d.recovering u).isSome

/-- The compute stacks are held in reset: before the Pecks' release at a start, and in minimal recovery mode (R646, R657). -/
def Dev.held (d : Dev) : Bool := decide (d.life = .off) || decide (d.life = .recovery) || (decide (d.life = .starting) && !d.startDone)

/-- The Peck is in reset. -/
def Dev.inReset (d : Dev) (p : Nat) : Bool := d.held || d.inRecovery p

/-- The Peck's logic is powered: the module in Run, its Bushel not gated and its core rail on. -/
def Dev.powered (d : Dev) (p : Nat) : Bool :=
  decide (d.powerState = 0) && !d.on PWR_BUSHEL_CTRL_GATED (bushelOfPeck p) && bit d.railsOn (bushelOfPeck p)

/-- R66, R653: the island is locked; a Peck released early never shows it. -/
def Dev.clockGood (d : Dev) (p : Nat) : Bool := !d.inReset p && d.powered p && !d.on CLK_ISL_STATUS_UNSTABLE p

/-- The island clock is stopped: in Idle, or without power. -/
def Dev.clockStopped (d : Dev) (p : Nat) : Bool := d.on RST_PECK_STATUS_IDLE p || !d.powered p

/-- R620: frequency cap of a level in units of 25 MHz, and ARR_GRAIN_CONC.LIMIT. -/
def levelCap (l : Nat) : Nat := nth [88, 80, 72, 64, 64, 56, 48, 48, 40, 40, 32, 20] (min l 11)
def levelLimit (l : Nat) : Nat := nth [8, 8, 8, 8, 6, 6, 6, 4, 4, 2, 2, 1] (min l 11)

/-- R621: the effective level of a Bushel. -/
def Dev.effLevel (d : Dev) (b : Nat) : Nat :=
  max (max (d.rd PWR_LEVEL_POWER 0) (d.rd PWR_THERM_LEVEL_LEVEL b)) (d.rd PWR_LEVEL_HBM 0)

/-- R151, R620: arrays a Grain may integrate or convert at once. -/
def Dev.grainLimit (d : Dev) (g : Nat) : Nat := levelLimit (d.effLevel (bushelOfPeck (peckOfGrain g)))

/-- R626: the highest frequency at or below `f` that 0.85 V supports, in units of 25 MHz; the lowest of all is 20. -/
def granted (stack f : Nat) : Nat :=
  (((List.range 69).map (fun i => f - i)).find? (fun g => decide (Config.vcoreFor stack g ≤ 850) || decide (g ≤ 20))).getD 20

/-- R621, R626, R630: the frequency a Peck's island runs at once it has slewed; 0 while it has no clock-good. -/
def Dev.curFreq (d : Dev) (p : Nat) : Nat :=
  if d.clockGood p then
    granted (stackOfBushel (bushelOfPeck p)) (min (d.rd CLK_ISL_CFG_FREQ_REQ p) (levelCap (d.effLevel (bushelOfPeck p))))
  else 0

/-- What keeps a Peck out of Idle has just ended: IDLE_DELAY counts from now (R661). -/
def Dev.stir (d : Dev) (p : Nat) : Dev := { d with quietAt := Tbl.set 0 d.quietAt p d.time }

/-- A Grain has just stopped being busy for a task kind: STEAL_DELAY counts from now (R356). -/
def Dev.stirKind (d : Dev) (g kind : Nat) : Dev := { d with idleAt := Tbl.set 0 d.idleAt (g * 4 + kind) d.time }

/-- A number of a Peck's island clocks has passed since a device time (R4): the clock runs at CLK_ISL_STATUS.CUR_FREQ × 25 MHz. -/
def Dev.clocksPast (d : Dev) (p since clocks : Nat) : Bool := decide (clocks * 40 ≤ (d.time - since) * d.curFreq p)

/-- A Peck leaves Idle (R661). -/
def Dev.wake (d : Dev) (p : Nat) : Dev := if d.on RST_PECK_STATUS_IDLE p then (d.wr RST_PECK_STATUS_IDLE p 0 0 0).stir p else d

/-! ### Log and host events (R525 to R531) -/

/-- SOURCE codes (R527). -/
def srcArray (a : Nat) : Nat := 0xC000 + a
def srcGrain (g : Nat) : Nat := 0x4000 + g
def srcPeck (p : Nat) : Nat := p
def srcBushel (b : Nat) : Nat := 0x1000 + b
def srcDie (n : Nat) : Nat := 0x2000 + n
def srcModule : Nat := 0x3000
def srcUnit (u : Nat) : Nat := 0x8000 + u
def srcCtx (c : Nat) : Nat := 0x9000 + c
def srcHbm (h : Nat) : Nat := 0xB000 + h

/-- The record of a context. -/
def Dev.ctx (d : Dev) (c : Nat) : CtxRec := Tbl.get {} d.ctxs c

/-- Changes the record of a context. -/
def Dev.modCtx (d : Dev) (c : Nat) (f : CtxRec → CtxRec) : Dev :=
  { d with ctxs := Tbl.modify {} d.ctxs c f }

/-- R564: sends an MSI-X message of a function on a vector, or sets its PBA bit while it is masked. -/
def Dev.msix (d : Dev) (c v : Nat) : Dev :=
  if (d.ctx c).functionMask || !((d.ctx c).unmasked.contains v) then
    d.modCtx c (fun x => { x with pba := if x.pba.contains v then x.pba else x.pba ++ [v] })
  else
    let w := fun k => Tbl.get 0 (d.ctx c).msixTable (4 * v + k)
    { d with out := d.out ++ [.msix c v (w 0 + 2 ^ 32 * w 1) (w 2)] }

/-- The event's number, as `Config.severity` takes it: the code, or above all codes the diagnostic kind. -/
def LogEvent.num : LogEvent → Nat
  | .fixed c => c
  | .diag k => 0x10000 + k.num

/-- STATUS of an entry (R526): a rule names it for a failed tag (R581) and an early release (R653), which are diagnostics of kind
`other`; for every other entry it is open. -/
def LogEvent.status (ev : LogEvent) (about : Status) : Status :=
  match ev with
  | .diag .other => about
  | _ => Config.logStatus ev.num about

/-- SOURCE of an entry (R527): the array, Grain, Peck, Bushel, context, port or HBM stack it concerns; open for every other. -/
def LogEvent.source (ev : LogEvent) (unit : Nat) : Nat :=
  if unit < 0x2000 ∨ (0x4000 ≤ unit ∧ unit < 0x8000) ∨ (0x8008 ≤ unit ∧ unit < 0x8010) ∨ 0x9000 ≤ unit then unit
  else (Config.logSource ev.num unit).toNat

/-- The 8,192-entry ring (R525): the oldest entry goes when a new one is written to a full ring. -/
def logDepth : Nat := 8192

/-- R525: writes an entry to the ring and counts it. -/
def Dev.writeEntry (d : Dev) (e : LogEntry) : Dev :=
  let log := if d.log.length < logDepth then d.log else d.log.drop 1
  { d.countWrap LOG_WR_CNT_COUNT 0 0 with log := log ++ [e] }

/-- Microseconds of device time. -/
def Dev.micros (d : Dev) : Nat := d.time / 1000

/-- R528: writes the EPOCH entry. -/
def Dev.writeEpoch (d : Dev) : Dev :=
  let up := (d.micros / 2 ^ 32) % 2 ^ 32
  let data := (List.range 4).map (fun i => (up / 256 ^ i) % 256) ++ (List.range 8).map (fun i => (d.time / 256 ^ i) % 256)
  (d.wr LOG_EPOCH_EPOCH 0 0 0 up).writeEntry
    ⟨d.micros % 2 ^ 32, (LogEvent.fixed 0x0001).source (srcUnit 0x02), .fixed 0x0001, ((LogEvent.fixed 0x0001).status .ok).code, 2, false,
      (Config.logContext 0x0001).val, 1, data, d.time⟩

/-- R529: adds 1 to the newest entry of a source if it matches and is at most 1 ms old. -/
def coalesce (log : List LogEntry) (src : Nat) (ev : LogEvent) (st now : Nat) : Option (List LogEntry) :=
  match log.reverse.findIdx? (fun e => e.source == src) with
  | none => none
  | some i =>
    let j := log.length - 1 - i
    match log[j]? with
    | some e =>
      if e.event = ev ∧ e.status = st ∧ now - e.time ≤ 1000000 then
        some (setAt log j { e with rep := min (e.rep + 1) 0xFFFF })
      else none
    | none => none

/-- R525, R529: logs an entry of a given severity. Entries below MIN_SEV are not written; correctable errors are
always coalesced, every other entry in shedding stages 3 and 4. -/
def Dev.logSev (d : Dev) (sev : Nat) (src : Nat) (ev : LogEvent) (st : Status) (host : Bool) (c : Nat)
    (data : List Nat) : Dev :=
  if sev < d.rd LOG_CFG_MIN_SEV 0 then d
  else
    let merges := decide (ev = .diag .correctableError) || decide (3 ≤ d.rd MBX_MP_STATUS_SHED 0)
    match (if merges then coalesce d.log (ev.source src) ev (ev.status st).code d.time else none) with
    | some log => { d with log := log }.count LOG_COALESCE_CNT_COUNT 0 0
    | none =>
      let d1 := if d.rd LOG_EPOCH_EPOCH 0 = (d.micros / 2 ^ 32) % 2 ^ 32 then d else d.writeEpoch
      d1.writeEntry ⟨d.micros % 2 ^ 32, ev.source src, ev, (ev.status st).code, sev, host, c, 1, data, d.time⟩

/-- Logs an entry whose severity no rule states (a free value). -/
def Dev.logEntry (d : Dev) (src : Nat) (ev : LogEvent) (st : Status) (host : Bool) (c : Nat) (data : List Nat) : Dev :=
  d.logSev (Config.severity ev.num) src ev st host c data

/-- A diagnostic entry (R531). -/
def Dev.diag (d : Dev) (src : Nat) (k : Diag) (st : Status) (data : List Nat) : Dev :=
  d.logEntry src (.diag k) st false (Config.logContext (LogEvent.diag k).num).val data

/-- R530: an event enters one context's FIFO. -/
def Dev.pushEvent (d : Dev) (c : Nat) (e : LogEntry) : Dev :=
  let q := (d.ctx c).events
  if 64 ≤ q.length then d.wr MBX_EVT_CTRL_OVF c 0 0 1
  else
    let d1 := d.modCtx c (fun x => { x with events := x.events ++ [e] })
    if q.isEmpty && d.on MBX_IRQ_CFG_EVT_EN c then d1.msix c (d.rd MBX_IRQ_CFG_EVT_VEC c) else d1

/-- R530: an event enters the FIFO of the one context it concerns, or of all 16. -/
def Dev.deliverEvent (d : Dev) (only : Option Nat) (e : LogEntry) : Dev :=
  match only with
  | some x => d.pushEvent x e
  | none => (List.range 16).foldl (fun d c => d.pushEvent c e) d

/-- R530, R531, R675: a host event with a fixed code; `only` names the context it concerns, else all 16 take it. -/
def Dev.hostEvent (d : Dev) (src code : Nat) (st : Status) (only : Option Nat) (data : List Nat) : Dev :=
  let ev : LogEvent := .fixed code
  let c := only.getD (Config.logContext code).val
  let sev := (Config.severity code).val
  let e : LogEntry := ⟨d.micros % 2 ^ 32, ev.source src, ev, (ev.status st).code, sev, true, c, 1, data, d.time⟩
  let d1 := d.logSev sev src ev st true c data
  if d.life = .run then d1.deliverEvent only e else { d1 with heldEvents := d1.heldEvents ++ [(only, e)] }

/-- The `n` low bytes of a number, low first. -/
def leBytes (n v : Nat) : List Nat := (List.range n).map (fun i => (v / 256 ^ i) % 256)

/-! ### The running attempt's tasks -/

/-- Changes the attempt in progress. -/
def Dev.modAttempt (d : Dev) (f : Attempt → Attempt) : Dev :=
  { d with attempt := d.attempt.map f }

/-- Task `i` of the attempt in progress. -/
def Dev.task (d : Dev) (i : Nat) : Option TaskRun := d.attempt.bind (fun a => Tbl.find a.tasks i)

/-- Changes task `i`. -/
def Dev.modTask (d : Dev) (i : Nat) (f : TaskRun → TaskRun) : Dev :=
  d.modAttempt (fun a => { a with tasks := a.tasks.map (fun e => if e.1 = i then (e.1, f e.2) else e) })

/-- KIND of a descriptor (R340, R341). -/
def TaskRun.kind (t : TaskRun) : Nat := bits (nth t.desc 0) 63 60
/-- TAG of a descriptor. -/
def TaskRun.tag (t : TaskRun) : Nat := bits (nth t.desc 0) 15 0

/-- True while a FWD task that names the array is running (R267). -/
def Dev.fwdRunsOn (d : Dev) (a : Nat) : Bool :=
  match d.attempt with
  | none => false
  | some at_ => at_.tasks.any (fun e => decide (e.2.phase = .running) && e.2.arrays.any (fun l => l.array == a))

end Sys2Proof.Machine
end

