-- ==== Sys2Proof/Machine/Link.lean ====
section
/-! DEFINITION. Sending over the Furlong fabric (17): routes, originating packets, credits, the replay buffer. -/
namespace Sys2Proof.Machine

/-! ### Packets -/

/-- Packet types of R586. -/
def tyExch : Nat := 1
def tySync : Nat := 2
def tyMemWr : Nat := 3
def tyMemRd : Nat := 4
def tyMemCpl : Nat := 5
def tyDelivery : Nat := 6
def tyReset : Nat := 8
def tyMgmt : Nat := 9

/-- R584: the class of a packet. -/
def Packet.cls (p : Packet) : Nat :=
  match p.typ with
  | 1 => if nth p.body 0 = 3 then 2 else 1
  | 2 => 0
  | 3 => 3
  | 4 => 3
  | 5 => 4
  | 6 => 4
  | _ => 5

/-- R574: data flits that follow the HEAD flit. -/
def Packet.dflits (p : Packet) : Nat :=
  match p.typ with
  | 3 => (p.addr % 256 + p.length + 255) / 256
  | 5 => if p.status = 0 then (p.addr % 256 + p.length + 255) / 256 else 0
  | 4 => 0
  | 6 => 0
  | _ => (p.length - 192 + 255) / 256

/-- R573, R574: type, LENGTH and DFLITS of an arriving packet are lawful. -/
def Packet.lawful (p : Packet) (dflits : Nat) : Bool :=
  decide (p.typ ∈ [1, 2, 3, 4, 5, 6, 8, 9]) && decide (0 < p.length) && decide (dflits = p.dflits)
    && decide (p.length ≤ if p.typ = 3 ∨ p.typ = 4 ∨ p.typ = 5 then 8192 else 8384)

/-! ### Ports and routes (R594, R595, R601) -/

/-- Port states (R597). -/
def pDown : Nat := 0
def pDetect : Nat := 1
def pTrain : Nat := 2
def pIdentify : Nat := 3
def pAttest : Nat := 4
def pUp : Nat := 5

def Dev.portState (d : Dev) (p : Nat) : Nat := d.rd FUR_PORT_STATUS_STATE p
def Dev.suspended (d : Dev) (p : Nat) : Bool := d.on FUR_PORT_STATUS_SUSPENDED p
def Dev.port (d : Dev) (p : Nat) : PortRec := Tbl.get {} d.ports p
def Dev.modPort (d : Dev) (p : Nat) (f : PortRec → PortRec) : Dev := { d with ports := Tbl.modify {} d.ports p f }

/-- The module's node ID, where it has one (R595). -/
def Dev.node (d : Dev) : Option Nat := if d.on FUR_NODE_VALID 0 then some (d.rd FUR_NODE_NODE 0) else none

/-- R594, R595: the port a packet for a destination goes out on, or the status its originator receives. MGMT-class
packets use a suspended port too (R601). -/
def Dev.route (d : Dev) (dst : Nat) (mgmt : Bool) : Sum Nat Status :=
  let e := Tbl.get 0 d.routes dst
  let main := bits e 2 0
  let alt := bits e 10 8
  let usable := fun p => decide (d.portState p = pUp) && (mgmt || !d.suspended p)
  if d.node.isNone || !bit e 31 then .inr .linkDown
  else if usable main then .inl main
  else if bit e 29 && usable alt then .inl alt
  else if d.portState main = pUp then .inr .routeSuspended
  else .inr .linkDown

/-! ### Credits and the link (R578 to R583) -/

/-- Credits held for a (class, sub-channel) pair. -/
def Dev.credits (d : Dev) (p c sub : Nat) : Nat :=
  if sub = 0 then d.rd FUR_CREDIT_SUB0 p c else d.rd FUR_CREDIT_SUB1 p c

/-- Adds to or takes from a pair's credits. -/
def Dev.setCredits (d : Dev) (p c sub v : Nat) : Dev :=
  if sub = 0 then d.wr FUR_CREDIT_SUB0 p c 0 (min v 4095) else d.wr FUR_CREDIT_SUB1 p c 0 (min v 4095)

/-- Bytes of a packet in the replay buffer. -/
def Packet.bytes (p : Packet) : Nat := 256 * (1 + p.dflits)

/-- R580: the replay buffer has room for one more packet. -/
def PortRec.roomFor (r : PortRec) (p : Packet) : Bool :=
  decide (r.held.length < 2048)
    && decide (r.held.foldl (fun s h => s + h.packet.bytes) 0 + p.bytes ≤ 2 ^ 20)

/-- R601: a port carries a packet outward. -/
def Dev.carries (d : Dev) (p : Nat) (pk : Packet) : Bool :=
  decide (d.portState p = pUp) && (!d.suspended p || decide (pk.cls = 5))

/-- Sends one packet on a port: it takes its credits and its SEQ and is held until acknowledged. -/
def Dev.transmit (d : Dev) (p : Nat) (pk : Packet) : Dev :=
  let seq := d.rd FUR_TX_SEQ_SEQ p
  let c := pk.cls
  let d1 := (d.setCredits p c pk.sub (d.credits p c pk.sub - (1 + pk.dflits))).wr FUR_TX_SEQ_SEQ p 0 0 (seq + 1)
  let d2 := d1.modPort p (fun r => { r with
    held := r.held ++ [⟨seq, pk, 0⟩], packetNo := r.packetNo + 1 })
  { d2 with out := d2.out ++ [.packet p seq pk] }

/-- R580, R583: sends what the credits and the replay buffer let go, each pair in its own order; the rest stays queued. -/
def Dev.pump (d : Dev) (p : Nat) : Dev :=
  let step := fun (acc : Dev × List Packet × List Nat) (pk : Packet) =>
    let (d, kept, blocked) := acc
    let pair := 2 * pk.cls + pk.sub
    if !blocked.contains pair && d.carries p pk && (d.port p).roomFor pk
        && decide (1 + pk.dflits ≤ d.credits p pk.cls pk.sub) then (d.transmit p pk, kept, blocked)
    else (d, kept ++ [pk], blocked ++ [pair])
  let (d1, kept, _) := (d.port p).queued.foldl step (d, [], [])
  d1.modPort p (fun r => { r with queued := kept })

/-- Queues a packet on a port and sends what may go. -/
def Dev.enqueuePacket (d : Dev) (p : Nat) (pk : Packet) : Dev :=
  (d.modPort p (fun r => { r with queued := r.queued ++ [pk] })).pump p

/-- R575: a LINK flit leaves the port. LCOUNT is the number sent before it since ATTEST; a DOWN notice sets FLAGS bit 2. -/
def Dev.sendLink (d : Dev) (p : Nat) (down : Bool) : Dev :=
  let r := d.port p
  let flags := b2n r.accepted + 2 * b2n r.nackDue + 4 * b2n down + 8 * b2n r.nextEpoch.isSome
  let ack := (d.rd FUR_RX_SEQ_SEQ p + 2 ^ 24 - 1) % 2 ^ 24
  let d1 := d.modPort p (fun r => { r with lcount := r.lcount + 1, nackDue := false, freed := [] })
  { d1 with out := d1.out ++ [.linkFlit p r.lcount ack flags (r.nextEpoch.getD 0) r.freed] }

/-- A TTAG that no outstanding packet has, for a new one (R588). -/
def Dev.freeTtag (d : Dev) : Option Nat := (List.range 16384).find? (fun t => (Tbl.find d.outstanding t).isNone)

/-- Shows the number of outstanding packets. -/
def Dev.showTtags (d : Dev) : Dev := d.wr FUR_TTAG_USED_COUNT 0 0 0 d.outstanding.length

/-- R587: the way of a packet that leaves this module: none for the module's own node, to which it is delivered locally, otherwise
a port; or the status its originator receives. -/
def Dev.wayTo (d : Dev) (dst : Nat) (mgmt : Bool) : Sum (Option Nat) Status :=
  if d.node = some dst then .inl none
  else match d.route dst mgmt with
    | .inl p => .inl (some p)
    | .inr st => .inr st

/-- The status that the originator of a packet for a node receives, where the packet cannot leave (R385, R594). -/
def Dev.unreachable (d : Dev) (node : Nat) (mgmt : Bool) : Option Status :=
  match d.wayTo node mgmt with
  | .inl _ => none
  | .inr st => some st

/-- A packet under way: on a port, or to this module itself (log entry 117). -/
def Dev.depart (d : Dev) (way : Option Nat) (pk : Packet) : Dev :=
  match way with
  | some p => d.enqueuePacket p pk
  | none => { d with own := d.own ++ [pk] }

/-- R585, R587, R588: sends a packet of a local originator. The answer is OK when it is under way (or waits for a TTAG),
otherwise the status its originator receives. `answered` = false for MEM_CPL and DELIVERY. -/
def Dev.originate (d : Dev) (pk : Packet) (why : Purpose) (answered : Bool := true) : Status × Dev :=
  match d.wayTo pk.dst (decide (pk.cls = 5)) with
  | .inr st => (st, d)
  | .inl way =>
    let pk1 := { pk with src := d.node.getD 0, hops := d.maxHops, sub := 0 }
    if answered then
      match d.freeTtag with
      | none => (.ok, { d with unsent := d.unsent ++ [(pk, why)] })
      | some t =>
        let d1 := ({ d with outstanding := Tbl.put d.outstanding t ⟨pk.dst, why, d.time⟩ }).showTtags
        (.ok, d1.depart way { pk1 with ttag := t })
    else (.ok, d.depart way pk1)

/-- A SYNC_OP packet (R592): a body of 21 bytes. -/
def syncPacket (dst op flags octx vid gen value waiter status step attempt : Nat) : Packet :=
  { typ := tySync, dst := dst, src := 0, length := 21
    body := [op, flags] ++ leBytes 2 (vid % 4096 + octx * 4096) ++ leBytes 2 gen ++ leBytes 2 value
      ++ leBytes 4 waiter ++ [status, 0, 0, 0] ++ leBytes 4 step ++ [attempt % 256] }

end Sys2Proof.Machine
end

