-- ==== Sys2Proof/Machine/Mailbox.lean ====
section
/-! DEFINITION. The Flimbe mailbox (15): opcodes, slots and their completion, sequence numbers. -/
namespace Sys2Proof.Machine

/-! ### Slots (R508, R509) -/

def slotFree : Nat := 0
def slotAccepted : Nat := 1
def slotRunning : Nat := 2
def slotDone : Nat := 3

/-- State of slot `s` of context `c`. -/
def Dev.slotState (d : Dev) (c s : Nat) : Nat := bits (d.word MBX_SLOT_STATE c) (2 * s + 1) (2 * s)

/-- Moves a slot. -/
def Dev.setSlot (d : Dev) (c s st : Nat) : Dev :=
  d.setWord MBX_SLOT_STATE c 0 0 (setBits (d.word MBX_SLOT_STATE c) (2 * s + 1) (2 * s) st)

/-- What a command leads to when it starts: a status with response words 1 on, or a wait that holds the slot RUNNING. -/
inductive Reply where
  | done (st : Status) (words : List Nat)
  | wait (w : SlotWait)
  deriving DecidableEq, Repr

/-- A reply without response words. -/
def Reply.st (s : Status) : Reply := .done s []

/-- Command word `w` of a slot. -/
def Dev.cmd (d : Dev) (c s w : Nat) : Nat := d.rd MBX_CMD_WORD c s w

/-- Opcodes and their classes (R515): (opcode, class, PF0 only). -/
def opcodeTable : List (Nat × Nat × Bool) :=
  [(0x00, 1, false), (0x01, 1, false), (0x10, 1, false), (0x11, 1, false), (0x12, 3, false),
    (0x20, 1, false), (0x21, 2, false), (0x22, 1, false), (0x23, 1, false), (0x28, 1, false),
    (0x29, 1, false), (0x2A, 1, false), (0x2B, 1, false), (0x2C, 1, false), (0x30, 1, true),
    (0x31, 1, true), (0x32, 1, true), (0x33, 3, false), (0x34, 0, true), (0x35, 1, true)] ++
  [(0x40, 1, false), (0x41, 1, false), (0x42, 2, false), (0x43, 2, false), (0x44, 3, false),
    (0x45, 1, false), (0x46, 0, false), (0x47, 1, false), (0x50, 0, true), (0x51, 3, false),
    (0x52, 1, true), (0x53, 3, false), (0x60, 1, false), (0x61, 1, true), (0x62, 0, false),
    (0x63, 3, false), (0x6A, 1, false), (0x70, 3, false), (0x71, 3, false), (0x72, 1, true)] ++
  [(0x74, 3, true), (0x75, 1, true), (0x76, 3, true), (0x80, 1, true), (0x81, 1, true),
    (0x82, 3, false), (0x90, 0, true), (0x91, 0, false), (0x92, 0, true), (0x93, 1, true),
    (0x94, 0, true), (0x95, 1, true), (0xA0, 1, true), (0xA1, 3, false), (0xA2, 1, true)]

/-- The row of an opcode. -/
def opcodeRow (op : Nat) : Option (Nat × Bool) := (opcodeTable.find? (fun r => r.1 == op)).map (·.2)

/-- R515: the class of an opcode; one outside the table is of class P3. -/
def opcodeClass (op : Nat) : Nat := ((opcodeRow op).map (·.1)).getD 3

/-- R510: word 0 of a response. -/
def Dev.responseHeader (d : Dev) (c s : Nat) (st : Status) : Nat :=
  let w := d.cmd c s 0
  d.rd MBX_MP_STATUS_SHED 0 * 2 ^ 26 + opcodeClass (bits w 7 0) * 2 ^ 24 + st.code * 2 ^ 16 + bits w 15 0

/-- Writes the response words from word `k` on. -/
def Dev.putWords (d : Dev) (c s k : Nat) (ws : List Nat) : Dev :=
  match ws with
  | [] => d
  | w :: rest => Dev.putWords (d.wr MBX_RSP_WORD c s k w) c s (k + 1) rest

/-- R509: completes a slot: the response words first, then DONE, its bit, and the MSI-X message. `words` are words 1 on. -/
def Dev.finishSlot (d : Dev) (c s : Nat) (st : Status) (words : List Nat := []) : Dev :=
  let d1 := d.putWords c s 0 (d.responseHeader c s st :: words.take 15)
  let d2 := (d1.setSlot c s slotDone).modCtx c (fun x => { x with
    waits := Tbl.del x.waits s, goOrder := Tbl.del x.goOrder s })
  let old := d2.rd MBX_DONE_DONE c
  let d3 := d2.wr MBX_DONE_DONE c 0 0 (if bit old s then old else old + 2 ^ s)
  if !bit old s && d3.on MBX_IRQ_CFG_DONE_EN c then d3.msix c (d3.rd MBX_IRQ_CFG_DONE_VEC c) else d3

/-- What a RUNNING slot waits for. -/
def Dev.slotWait (d : Dev) (c s : Nat) : SlotWait := (Tbl.find (d.ctx c).waits s).getD .nothing

/-- Completes a slot that waits for `w`; any other slot is left alone. -/
def Dev.finishWaiting (d : Dev) (c s : Nat) (w : SlotWait) (st : Status) (words : List Nat := []) : Dev :=
  if d.slotState c s = slotRunning ∧ d.slotWait c s = w then d.finishSlot c s st words else d

/-- The status a code stands for; the codes are those of R516. -/
def Status.ofCode (c : Nat) : Status :=
  ([Status.ok, .okZeroWork, .okFallback, .badArg, .badLength, .notPermitted, .busy, .unknownOpcode, .streamFault,
    .isolated, .abandoned, .timeout, .saturated, .stepSkew, .checkFailed, .arrayRetired, .writeBudget, .clockUnstable,
    .trimInvalid, .refUnsettled, .authFailed, .rollback, .linkDown, .partnerChanged, .routeSuspended].find?
    (fun s => s.code == c)).getD .internal

end Sys2Proof.Machine
end

