-- ==== Sys2Proof/Machine/WorkingCopy.lean ====
section
/-! DEFINITION. Reading the tables of a loaded program and a tensor's working copy in device memory (R123, R329, R404,
R408). -/
namespace Sys2Proof.Machine

/-- Header word `i` of the program image at `base` (R329). -/
def Dev.header (d : Dev) (base i : Nat) : Nat := d.mem64 (base + 8 * i)

/-- A scale table entry (R123). -/
structure ScaleEntry where
  addr   : Nat
  scale  : Nat
  format : Nat
  round  : Nat
  shared : Bool
  amax   : Nat
  sats   : Nat
  deriving DecidableEq, Repr

/-- Reads the scale table entry at an address. -/
def Dev.scaleAt (d : Dev) (a : Nat) : ScaleEntry :=
  let lo := d.mem64 a
  let hi := d.mem64 (a + 8)
  ⟨a, bits lo 31 0, bits lo 43 40, bits lo 47 46, bit lo 45, bits hi 31 0, bits hi 63 48⟩

/-- Entry `i` of a program's scale table, if `i` is below SCALE_COUNT (R720). -/
def Dev.scaleEntry (d : Dev) (base i : Nat) : Option ScaleEntry :=
  let w := d.header base 1
  if i < bits w 63 48 then some (d.scaleAt (bits w 47 0 + 16 * i)) else none

/-- R124: the checks of a scale table entry. -/
def ScaleEntry.valid (e : ScaleEntry) : Bool :=
  let exp := bits e.scale 30 23
  !(bit e.scale 31) && decide (0 < exp) && decide (exp < 255)
    && (Fmt.ofCode e.format).isSome && decide (e.round ≠ 3)
    && !(e.shared && !(((Fmt.ofCode e.format).map Fmt.placeable).getD false))
    && !(e.shared && decide (e.round ≠ 0))

/-- The tensor scale as a rational. -/
def ScaleEntry.s (e : ScaleEntry) : Rat := (fp32Decode e.scale).val

/-- R125: what a quantisation adds to an entry's SAT_ELEMS and AMAX_LAST. -/
def Dev.scaleStats (d : Dev) (e : ScaleEntry) (amax : Fp) (sats : Nat) : Dev :=
  let old := d.scaleAt e.addr
  let m := amaxMax (fp32Decode old.amax) amax
  (d.setLe (e.addr + 8) 4 (fp32Encode m)).setLe (e.addr + 14) 2 (min (old.sats + sats) 0xFFFF)

/-! ### Tensor entries of an exchange table (R408) -/

def XchTensor.w (t : XchTensor) (i : Nat) : Nat := nth t.words i
def XchTensor.tensorId (t : XchTensor) : Nat := bits (t.w 0) 63 32
def XchTensor.group (t : XchTensor) : Nat := bits (t.w 0) 31 24
def XchTensor.rule (t : XchTensor) : Nat := bits (t.w 0) 23 20
def XchTensor.comp (t : XchTensor) : Nat := bits (t.w 0) 19 19
def XchTensor.topk (t : XchTensor) : Nat := bits (t.w 0) 18 11
def XchTensor.mround (t : XchTensor) : Nat := bits (t.w 0) 10 10
def XchTensor.freezeEn (t : XchTensor) : Bool := bit (t.w 0) 9
def XchTensor.k (t : XchTensor) : Nat := bits (t.w 1) 63 40
def XchTensor.p (t : XchTensor) : Nat := bits (t.w 1) 39 0
def XchTensor.trig (t : XchTensor) : Nat := bits (t.w 2) 59 48
def XchTensor.grad (t : XchTensor) : Nat := bits (t.w 2) 47 0
def XchTensor.trigThresh (t : XchTensor) : Nat := bits (t.w 3) 63 48
def XchTensor.efUse (t : XchTensor) : Nat := bits (t.w 3) 47 0
def XchTensor.efPend (t : XchTensor) : Nat := bits (t.w 4) 47 0
def XchTensor.wcScale (t : XchTensor) : Nat := bits (t.w 5) 63 48
def XchTensor.wcopy (t : XchTensor) : Nat := bits (t.w 5) 47 0
def XchTensor.wcPlane (t : XchTensor) : Nat := bits (t.w 6) 47 0
def XchTensor.master (t : XchTensor) : Nat := bits (t.w 7) 47 0
def XchTensor.mom (t : XchTensor) : Nat := bits (t.w 8) 47 0
def XchTensor.momPlane (t : XchTensor) : Nat := bits (t.w 9) 47 0
def XchTensor.mask (t : XchTensor) : Nat := bits (t.w 10) 47 0
def XchTensor.eta (t : XchTensor) : Nat := bits (t.w 11) 63 32
def XchTensor.lambda (t : XchTensor) : Nat := bits (t.w 11) 31 0
def XchTensor.beta (t : XchTensor) : Nat := bits (t.w 12) 63 32
def XchTensor.theta (t : XchTensor) : Nat := bits (t.w 12) 31 0
def XchTensor.bcBase (t : XchTensor) : Nat := bits (t.w 13) 31 0
def XchTensor.vote (t : XchTensor) : Nat := bits (t.w 14) 47 0
/-- R405: chunks of 4,096 parameters. -/
def XchTensor.chunks (t : XchTensor) : Nat := (t.p + 4095) / 4096
/-- Parameters of chunk `c`. -/
def XchTensor.chunkLen (t : XchTensor) (c : Nat) : Nat := min 4096 (t.p - 4096 * c)
/-- Outputs N of the tensor. -/
def XchTensor.n (t : XchTensor) : Nat := if t.k = 0 then 0 else t.p / t.k

/-- The loaded programs. -/
def Dev.programList (d : Dev) : List Program := d.programs.map (·.2)

/-- The tensor entry that names a tensor, and the base of the program whose exchange table holds it. -/
def Dev.tensorEntry (d : Dev) (tensor : Nat) : Option (Nat × XchTensor) :=
  d.programList.findSome? (fun p => p.xch.bind (fun x =>
    (x.tensors.find? (fun t => t.tensorId == tensor)).map (fun t => (p.base, t))))

/-- The tensor's working copy is present: a table names it and no chunk of it is outstanding (R432). -/
def Dev.wcPresent (d : Dev) (tensor : Nat) : Bool :=
  (d.tensorEntry tensor).isSome && (Tbl.get [] d.wcMissing tensor).isEmpty

/-- Element `p` of a planar run of `w`-bit elements at an address of device memory (R345). -/
def Dev.planarElem (d : Dev) (base w p : Nat) : Nat :=
  if 8 ≤ w then d.le (base + p * (w / 8)) (w / 8)
  else bits (d.byte (base + p * w / 8)) ((p * w) % 8 + w - 1) ((p * w) % 8)

/-- Writes element `p` of a planar run. -/
def Dev.setPlanarElem (d : Dev) (base w p v : Nat) : Dev :=
  if 8 ≤ w then d.setLe (base + p * (w / 8)) (w / 8) v
  else
    let c := base + p * w / 8
    d.setByte c (setBits (d.byte c) ((p * w) % 8 + w - 1) ((p * w) % 8) v)

/-- The format of a tensor's working copy: FORMAT of its WC_SCALE entry. -/
def Dev.wcFormat (d : Dev) (base : Nat) (t : XchTensor) : Fmt :=
  ((d.scaleEntry base t.wcScale).bind (fun e => Fmt.ofCode e.format)).getD .mxfp4

/-- What a binding's tile holds at tile row `i` and output `j`: the element code and the scale code of its segment, or
none outside the tile (R136, R404). -/
def Dev.wcElem (d : Dev) (b : Binding) (i j : Nat) : Option (Fmt × Nat × Nat) :=
  match d.tensorEntry b.tensor with
  | none => none
  | some (base, t) =>
    let row := b.rowTile * 1024 + i
    let out := b.colTile * 256 + j
    if row < t.k ∧ out < t.n then
      let f := d.wcFormat base t
      let p := out * t.k + row
      some (f, d.planarElem t.wcopy f.bits p, d.byte (t.wcPlane + p / 32))
    else none

end Sys2Proof.Machine
end

