-- ==== Sys2Proof/Machine/Sync.lean ====
section
/-! DEFINITION. Synchronisation counters (11): signals, waits, releases, withdrawal, the commit barrier. -/
namespace Sys2Proof.Machine

/-! ### Values and releases (R369 to R371) -/

/-- R369: a signed increment on a 16-bit value, with the flags it sets. -/
def addSigned (v : Nat) (inc : Int) : Nat × Bool × Bool :=
  let x := (v : Int) + inc
  if 0xFFFF < x then (0xFFFF, true, false) else if x < 0 then (0, false, true) else (x.toNat, false, false)

/-- R371 step 2: takes TAKE waiters in order of arrival while the first one's wait holds; the released ones with the
value each held on, the rest, and the value left. -/
def takeInOrder (v : Nat) (ws : List Waiter) : List (Waiter × Nat) × List Waiter × Nat :=
  match ws with
  | [] => ([], [], v)
  | w :: rest =>
    if w.thresh ≤ v then
      let (r, l, v') := takeInOrder (v - w.thresh) rest
      ((w, v) :: r, l, v')
    else ([], w :: rest, v)

/-- R371: releases after a signal that produced `v`: the OBSERVE waiters that hold on it, then TAKE waiters in order. The
rest keep their order of arrival. -/
def releases (v : Nat) (ws : List Waiter) : List (Waiter × Nat) × List Waiter × Nat :=
  let obs := (ws.filter (fun w => !w.take && decide (w.thresh ≤ v))).map (fun w => (w, v))
  let (taken, left, v') := takeInOrder v (ws.filter (·.take))
  (obs ++ taken, ws.filter (fun w => if w.take then left.contains w else !decide (w.thresh ≤ v)), v')

/-- A wait that arrives (R370, R371): it holds at once, with the value after it, or it is queued. -/
def arrives (v : Nat) (ws : List Waiter) (take : Bool) (thresh : Nat) : Bool × Nat :=
  if thresh = 0 then (true, v)
  else if thresh ≤ v && (!take || !ws.any (·.take)) then (true, if take then v - thresh else v)
  else (false, v)

/-! ### Local counters (R375, R376, R402) -/

/-- Key of a counter in the waiter tables. -/
def lcKey (p n : Nat) : Nat := p * 48 + n

/-- Waiters of a counter. -/
def Dev.lcWait (d : Dev) (p n : Nat) : List Waiter := Tbl.get [] d.lcWaiters (lcKey p n)

/-- Stores a counter's waiters, with NWAIT. -/
def Dev.setLcWait (d : Dev) (p n : Nat) (ws : List Waiter) : Dev :=
  ({ d with lcWaiters := Tbl.set [] d.lcWaiters (lcKey p n) ws }).wr SYN_LC_NWAIT p n 0 (min ws.length 63)

/-- R376: clears the 48 counters of a Peck. -/
def Dev.clearCounters (d : Dev) (p : Nat) : Dev :=
  (List.range 48).foldl (fun d n =>
    let d1 := (d.setLcWait p n []).setWord SYN_LC p n 0 0
    { d1 with lcLast := Tbl.del d1.lcLast (lcKey p n) }) d

/-! ### Virtual objects (R377 to R379) -/

/-- The mapped object with a physical number. -/
def Dev.obj (d : Dev) (k : Nat) : Option SyncObj := Tbl.find d.objects k

/-- Stores a mapped object. -/
def Dev.setObj (d : Dev) (k : Nat) (o : SyncObj) : Dev := { d with objects := Tbl.put d.objects k o }

/-- Generation of a physical object. -/
def Dev.gen (d : Dev) (k : Nat) : Nat := Tbl.get 0 d.gens k

/-- What a context's translation table maps a VID to. -/
def Dev.mapped (d : Dev) (c vid : Nat) : Option VMap := Tbl.find d.vmap (c * 4096 + vid)

/-- Shows the numbers of mapped objects and of barriers homed here. -/
def Dev.showHub (d : Dev) : Dev :=
  (d.wr SYN_HUB_STATUS_PHYS_USED 0 0 0 d.objects.length).wr SYN_HUB_STATUS_BARRIERS 0 0 0
    (d.objects.filter (fun e => match e.2.kind with | .barrier _ => true | _ => false)).length

/-- Frees a physical object (R378): it leaves the table, its generation advances and its mapping goes. -/
def Dev.freeObj (d : Dev) (k : Nat) : Dev :=
  match d.obj k with
  | none => d
  | some o =>
    ({ d with
      objects := Tbl.del d.objects k
      gens := Tbl.set 0 d.gens k ((d.gen k + 1) % 2 ^ 16)
      vmap := Tbl.del d.vmap (o.owner * 4096 + o.vid)
      formerly := Tbl.put d.formerly (o.owner * 4096 + o.vid) k }).showHub

/-- The number of a free physical object, the lowest (DESIGN CHOICE: the spec does not say which is taken). -/
def Dev.freePhys (d : Dev) : Option Nat := (List.range 16384).find? (fun k => (d.obj k).isNone)

/-! ### Tasks' entries (R342, R379) -/

/-- Wait or signal entry `e` of a descriptor: 0 WAIT0, 1 WAIT1, 2 SIG0, 3 SIG1 (R340). -/
def TaskRun.entry (t : TaskRun) (e : Nat) : Nat :=
  let w := nth t.desc (1 + e / 2)
  if e % 2 = 0 then bits w 63 32 else bits w 31 0

/-- EN of an entry. -/
def entryOn (e : Nat) : Bool := bit e 31

/-- What entry `e` names; the last two are SEG_SIG (4) and SEG_WAIT (5). -/
def TaskRun.ref (t : TaskRun) (e : Nat) : ObjRef := t.refs.getD e .unused

/-- R379: what a virtual ID names now. -/
def Dev.refOf (d : Dev) (c vid : Nat) : ObjRef :=
  match d.mapped c vid with
  | some (.object k) => .object k
  | some (.remote n x v g) => .remote n x v g
  | none => .unused

/-- The object of this module that a message names, if its generation is current. -/
def Dev.namedObj (d : Dev) (octx vid gen : Nat) : Option Nat :=
  match d.refOf octx vid with
  | .object k => if d.gen k = gen then some k else none
  | _ => none

/-- R587: a remote mapping to the module's own node names an object of this module. -/
def Dev.homeRef (d : Dev) (r : ObjRef) : ObjRef :=
  match r with
  | .remote n c vid g =>
    if d.node = some n then (match d.namedObj c vid g with
      | some k => .object k
      | none => r)
    else r
  | r => r

/-- R379: the translation of an entry of a program of context `c`; none where the ID is unmapped or of a kind that the
use does not allow. -/
def Dev.translate (d : Dev) (c : Nat) (scope : Bool) (id : Nat) (wait take : Bool) : Option ObjRef :=
  if !scope then some (.counter id)
  else match d.refOf c id with
    | .unused => none
    | .object k =>
      match (d.obj k).map SyncObj.kind with
      | some (ObjKind.barrier _) => none
      | some (ObjKind.ready _) => if wait && !take then some (.object k) else none
      | _ => some (.object k)
    | r => some r

/-- R401: waiter ID of a task or Chain segment wait. -/
def TaskRun.waiterId (t : TaskRun) (seg : Bool) : Nat := b2n seg * 2 ^ 29 + t.home * 2 ^ 16 + t.tag

/-- R401: waiter ID of a mailbox wait. -/
def mailboxWaiterId (c s : Nat) : Nat := 2 * 2 ^ 29 + c * 2 ^ 16 + s

/-! ### Cutting an attempt short and the barrier signal (R33 to R35, R351, R385) -/

/-- Causes as WORST ranks them (R387). -/
def rankOf : Status → Nat
  | .checkFailed => 1 | .isolated => 2 | .stepSkew => 3 | _ => 0

def statusOfRank : Nat → Status
  | 1 => .checkFailed | 2 => .isolated | 3 => .stepSkew | _ => .ok

/-- The run in progress. -/
def Dev.run (d : Dev) : Option Run := d.runs.head?

/-- Key of a context's program handle. -/
def progKey (c h : Nat) : Nat := c * 4 + h

/-- The program of the run in progress. -/
def Dev.runProgram (d : Dev) : Option Program := d.run.bind (fun r => Tbl.find d.programs (progKey r.ctx r.handle))

/-- Changes a loaded program. -/
def Dev.modProgram (d : Dev) (key : Nat) (f : Program → Program) : Dev :=
  { d with programs := d.programs.map (fun (e : Nat × Program) => if e.1 = key then (e.1, f e.2) else e) }

/-- Where the run's BARRIER field leads (R329, R390). -/
def Dev.barrierRef (d : Dev) : ObjRef :=
  match d.run, d.runProgram with
  | some r, some p => d.refOf r.ctx (bits (d.header p.base 6) 11 0)
  | _, _ => .unused

/-- R389: sends the outcome of the barrier on object `k` to every participant it was decided for (R391), and answers the waits on it
(R396). The home's own participant takes it from the hub, or by a packet (R587) where its run names the barrier by a remote mapping. -/
def Dev.sendOutcome (d : Dev) (k : Nat) : Dev :=
  match d.obj k with
  | some o =>
    match o.kind with
    | .barrier b =>
      let m := b.decided.getD ⟨b.participants, ⟨b.outcome, b.committed, b.attempt⟩⟩
      let st := m.message.status
      let d1 := d.setObj k { o with kind := .barrier { b with decided := none }, waiters := [] }
      let d2 := m.members.foldl (fun d n =>
        if d.node = some n ∧ d.barrierRef = .object k then { d with outcomeDue := some m.message }
        else (d.originate (syncPacket n 6 0 o.owner o.vid (d.gen k) 0 0 st m.message.committed m.message.attempt) .forgotten).2) d1
      o.waiters.foldl (fun d w =>
        match w.who with
        | .mailbox c s => d.finishWaiting c s .sync (Status.ofCode st) [m.message.committed]
        | .partner n id =>
          (d.originate (syncPacket n 3 0 o.owner o.vid (d.gen k) 0 id st m.message.committed m.message.attempt) .forgotten).2
        | _ => d) d2
    | _ => d
  | none => d

/-- R481: the buddy cannot be reached, or its region is too small. -/
def Dev.mirrorLost (d : Dev) : Dev :=
  ({ d with mirrorSent := none }.wr FLT_MIRROR_STATUS_BUDDY_OK 0 0 0 0).hostEvent (srcUnit 0x13) 0x0303 .linkDown none
    (leBytes 2 (d.rd FLT_MIRROR_STATUS_BUDDY 0))

/-- R480: sends a barrier's fields to the buddy. -/
def Dev.copyBarrier (d : Dev) (k : Nat) : Dev :=
  let (st, d1) := d.originate { typ := tyMgmt, dst := d.rd FLT_MIRROR_STATUS_BUDDY 0, src := 0, length := 1088 } (.barrierCopy k)
  if st = .ok then d1 else d.mirrorLost

/-- R480, R481: the barriers whose outcome still waits send their fields again. -/
def Dev.resendCopies (d : Dev) : Dev :=
  if d.on FLT_MIRROR_STATUS_EN 0 then
    d.objects.foldl (fun (d : Dev) (k, o) => match o.kind with
      | .barrier b => if b.decided.isSome then d.copyBarrier k else d
      | _ => d) d
  else d

/-- R389, R480, R481: the barrier's decision with a given outcome: on commit COMMITTED advances and ATTEMPT becomes 1, on
refusal ATTEMPT advances. With a buddy set the outcome waits for its acknowledgement. -/
def Dev.decideBarrier (d : Dev) (k : Nat) (st : Status) : Dev :=
  match d.obj k with
  | some o =>
    match o.kind with
    | .barrier b =>
      let b1 : Barrier := { b with
        committed := if st = .ok then (b.committed + 1) % 2 ^ 32 else b.committed
        attempt := if st = .ok then 1 else (b.attempt + 1) % 256
        arrived := [], worst := 0, outcome := st.code }
      if d.on FLT_MIRROR_STATUS_EN 0 then
        (d.setObj k { o with value := 0, kind := .barrier { b1 with
          decided := some ⟨b.participants, ⟨st.code, b1.committed, b1.attempt⟩⟩ } }).copyBarrier k
      else (d.setObj k { o with value := 0, kind := .barrier b1 }).sendOutcome k
    | _ => d
  | none => d

/-- R388, R389: a participant's signal arrives at a barrier homed here. -/
def Dev.barrierArrive (d : Dev) (k node step attempt : Nat) (cause : Status) : Dev :=
  match d.obj k with
  | some o =>
    match o.kind with
    | .barrier b =>
      if !b.participants.contains node || decide (attempt ≠ b.attempt) || b.arrived.contains node then
        d.count SYN_BARRIER_DROP_CNT_COUNT 0 0
      else
        let cause := if step ≠ b.committed then Status.stepSkew else cause
        let b1 := { b with arrived := b.arrived ++ [node], worst := max b.worst (rankOf cause) }
        let v := o.value + 1
        let d1 := d.setObj k { o with value := v, kind := .barrier b1 }
        if v = b.participants.length then d1.decideBarrier k (statusOfRank b1.worst) else d1
    | _ => d
  | none => d

/-- R33, R35: the participant signals the barrier, once per attempt and not after its outcome (R391) or a halt (R351); a module without a node ID is no participant (R388), and 4096 is
no node. -/
def Dev.signalBarrier (d : Dev) (cause : Status) : Dev :=
  match d.attempt with
  | none => d
  | some a =>
    if a.phase ≠ .running ∧ a.phase ≠ .cutShort then d
    else
      let d1 := d.modAttempt (fun x => { x with phase := .signalled })
      match d.barrierRef with
      | .object k => d1.barrierArrive k (d.node.getD 4096) a.step a.number cause
      | .remote n c v g =>
        let (st, d2) := d1.originate (syncPacket n 5 (2 * b2n (decide (cause = .ok)) + 4 * rankOf cause) c v g 0 0 0 a.step a.number)
          .barrierSignal
        -- R385: a signal that cannot leave is dropped
        if st = .ok then d2 else d2.count SYN_REMOTE_DROP_CNT_COUNT 0 0
      | _ => d1

/-! ### Withdrawing the waits of tasks that will not start (R374) -/

/-- Takes waiters out of an object's list; a TAKE waiter that only they held back is released. -/
def reexamine (v : Nat) (ws : List Waiter) (drop : Waiter → Bool) : List (Waiter × Nat) × List Waiter × Nat :=
  let keep := ws.filter (fun w => !drop w)
  if keep.length = ws.length then ([], ws, v)
  else
    let (taken, left, v') := takeInOrder v (keep.filter (·.take))
    (taken, keep.filter (fun w => !w.take || left.contains w), v')

/-- Waits of tasks and Chain segments of the running attempt. -/
def Waiter.ofTask (w : Waiter) : Bool := match w.who with | .task _ _ => true | .seg _ => true | _ => false

/-- Whose wait an outstanding packet posts. -/
def Purpose.waiter : Purpose → Option WaiterWho
  | .taskWait i s => some (.task i s)
  | .segWait i => some (.seg i)
  | .mailboxWait c s => some (.mailbox c s)
  | .triggerWait i => some (.trigger i)
  | _ => none

/-- A purpose whose waiter no longer waits is forgotten. -/
def Purpose.without (w : Purpose) (mine : WaiterWho → Bool) : Purpose := if w.waiter.any mine then .forgotten else w

/-- Remote waits that concern nobody any more: they are no longer listed, and the answers to packets that post them lead to nothing. -/
def Dev.forgetWaits (d : Dev) (mine : WaiterWho → Bool) : Dev :=
  { d with
    remoteWaits := d.remoteWaits.filter (fun w => !mine w.who)
    outstanding := d.outstanding.map (fun e => (e.1, { e.2 with purpose := e.2.purpose.without mine }))
    unsent := d.unsent.map (fun e => (e.1, e.2.without mine)) }

/-- Withdraws remote waits at their homes (R374, R592 OP 4). -/
def Dev.withdrawRemote (d : Dev) (mine : WaiterWho → Bool) : Dev :=
  let d1 := d.forgetWaits mine
  (d.remoteWaits.filter (fun w => mine w.who)).foldl (fun d w =>
    (d.originate (syncPacket w.node 4 0 w.ctx w.vid w.gen 0 w.id 0 0 0) .forgotten).2) d1

/-- R411: a tensor's trigger is met in the running attempt. -/
def Dev.triggers (d : Dev) (i : Nat) : Dev :=
  d.modAttempt (fun a => if a.triggered.contains i then a else { a with triggered := a.triggered ++ [i] })

/-- Releases a waiter that is no task's own wait. -/
def Dev.releaseOther (d : Dev) (w : Waiter) (seen : Nat) : Dev :=
  match w.who with
  | .task _ _ => d
  | .seg i => d.modTask i (fun t => { t with segHeld := true })
  | .mailbox c s => d.finishWaiting c s .sync .ok [seen]
  | .partner n id => (d.originate (syncPacket n 3 0 0 0 0 seen id 0 0 0) .forgotten).2
  | .trigger i => d.triggers i

/-- Withdraws every task's own wait from the module's counters and objects and from partner modules. -/
def Dev.withdrawTasks (d : Dev) : Dev :=
  let mine := fun (w : Waiter) => match w.who with | .task _ _ => true | _ => false
  let d1 := d.lcWaiters.foldl (fun d e =>
    let p := e.1 / 48
    let n := e.1 % 48
    let (rel, left, v') := reexamine (d.rd SYN_LC_VALUE p n) (d.lcWait p n) mine
    rel.foldl (fun d w => d.releaseOther w.1 w.2) ((d.wr SYN_LC_VALUE p n 0 v').setLcWait p n left)) d
  let d2 := d1.objects.foldl (fun d e =>
    match d.obj e.1 with
    | none => d
    | some o =>
      let (rel, left, v') := reexamine o.value o.waiters mine
      rel.foldl (fun d w => d.releaseOther w.1 w.2) (d.setObj e.1 { o with value := v', waiters := left })) d1
  d2.withdrawRemote (fun w => match w with | .task _ _ => true | _ => false)

/-- Shows the run state of every Peck scheduler (R366). -/
def Dev.showRun (d : Dev) (v : Nat) : Dev := (List.range 128).foldl (fun d p => d.wr TSK_SCHED_STATUS_RUN p 0 0 v) d

/-- R50, R351: a participant whose attempt was cut short signals REFUSE with cause ISOLATED once no unit recovers. -/
def Dev.refuseCut (d : Dev) : Dev :=
  match d.attempt with
  | some a => if a.phase = .cutShort ∧ d.recovering = [] then d.signalBarrier .isolated else d
  | none => d

/-- R351: the attempt is cut short: no further task starts, and the participant signals REFUSE with cause ISOLATED. -/
def Dev.cutShort (d : Dev) : Dev :=
  match d.attempt with
  | none => d
  | some a =>
    if a.phase = .running then
      (((d.modAttempt (fun x => { x with phase := .cutShort, cut := true, blockFault := true })).showRun 2).withdrawTasks).refuseCut
    else if a.phase = .signalled ∧ a.cut = false then
      ((d.modAttempt (fun x => { x with cut := true, blockFault := true })).showRun 2).withdrawTasks
    else d.modAttempt (fun x => { x with blockFault := true })

/-- R34: a block-contained fault was met: the attempt will be refused. -/
def Dev.markIsolated (d : Dev) : Dev := d.modAttempt (fun a => { a with blockFault := true })

/-- R385: a signal toward a node that cannot be reached is dropped, and the participant will refuse. -/
def Dev.dropSignal (d : Dev) : Dev := (d.count SYN_REMOTE_DROP_CNT_COUNT 0 0).markIsolated

/-! ### Posting waits (R370 to R372) -/

/-- Whose answer a remote wait awaits. -/
def waitPurpose : WaiterWho → Purpose
  | .task i s => .taskWait i s
  | .seg i => .segWait i
  | .mailbox c s => .mailboxWait c s
  | .partner _ _ => .forgotten
  | .trigger i => .triggerWait i

/-- Posts a wait on what `r` names; true where it holds at once, with the value it held on. -/
def Dev.postWait (d : Dev) (peck : Nat) (r : ObjRef) (w : Waiter) : Option Nat × Dev :=
  match r with
  | .unused => (some 0, d)
  | .counter n =>
    let v := d.rd SYN_LC_VALUE peck n
    let ws := d.lcWait peck n
    match arrives v ws w.take w.thresh with
    | (true, v') => (some v, d.wr SYN_LC_VALUE peck n 0 v')
    | (false, _) => (none, d.setLcWait peck n (ws ++ [w]))
  | .object k =>
    match d.obj k with
    | none => (none, d)
    | some o =>
      match arrives o.value o.waiters w.take w.thresh with
      | (true, v') => (some o.value, d.setObj k { o with value := v' })
      | (false, _) => (none, d.setObj k { o with waiters := o.waiters ++ [w] })
  | .remote n c v g =>
    if w.thresh = 0 then (some 0, d)
    else
      let (st, d1) := d.originate (syncPacket n 2 (b2n w.take) c v g w.thresh w.id 0 0 0) (waitPurpose w.who)
      if st = .ok then (none, { d1 with remoteWaits := d1.remoteWaits ++ [⟨w.who, n, c, v, g, w.id⟩] })
      else match w.who with
        | .mailbox c' s => (none, d1.finishWaiting c' s .sync st)
        | _ => (none, d1.cutShort)

/-- Posts wait entry `e` of task `i` (0 or 1); true where it holds at once. -/
def Dev.postEntry (d : Dev) (i : Nat) (t : TaskRun) (e : Nat) : Bool × Dev :=
  let x := t.entry e
  if entryOn x then
    match d.postWait (peckOfGrain t.home) (t.ref e)
        ⟨.task i (decide (e = 1)), t.waiterId false, bit x 29, bits x 15 0⟩ with
    | (some _, d1) => (true, d1)
    | (none, d1) => (false, d1)
  else (true, d)

/-- A task whose waits all hold is ready (R342); its Peck leaves Idle (R661). -/
def Dev.makeReady (d : Dev) (i : Nat) : Dev :=
  let d1 := d.modTask i (fun t => { t with held0 := true, held1 := true, phase := .ready })
  match d1.task i with
  | some t => d1.wake (peckOfGrain t.home)
  | none => d1

/-- R372: after WAIT0 is released, WAIT1 is posted. -/
def Dev.afterWait0 (d : Dev) (i : Nat) : Dev :=
  let d1 := d.modTask i (fun t => { t with held0 := true })
  match d1.task i with
  | none => d1
  | some t =>
    match d1.postEntry i t 1 with
    | (true, d2) => d2.makeReady i
    | (false, d2) => d2

/-- R372: an eligible task posts WAIT0. -/
def Dev.postTask (d : Dev) (i : Nat) : Dev :=
  match d.task i with
  | none => d
  | some t =>
    match d.postEntry i t 0 with
    | (true, d1) => d1.afterWait0 i
    | (false, d1) => d1

/-- Releases a waiter with the value its wait held on. -/
def Dev.release (d : Dev) (w : Waiter) (seen : Nat) : Dev :=
  match w.who with
  | .task i second =>
    match d.task i with
    | some t => if t.phase = .eligible then (if second then d.makeReady i else d.afterWait0 i) else d
    | none => d
  | .seg i => d.modTask i (fun t => { t with segHeld := true })
  | .mailbox c s => d.finishWaiting c s .sync .ok [seen]
  | .partner n id => (d.originate (syncPacket n 3 0 0 0 0 seen id 0 0 0) .forgotten).2
  | .trigger i => d.triggers i

/-- Releases a list of waiters. -/
def Dev.releaseAll (d : Dev) (ws : List (Waiter × Nat)) : Dev := ws.foldl (fun d w => d.release w.1 w.2) d

/-! ### Signals (R369, R380) -/

/-- The TRIG watch of the running program's exchange table (R411): a tensor triggers when its object first reaches
TRIG_THRESH in the attempt. -/
def Dev.checkTriggers (d : Dev) (k : Nat) : Dev :=
  match d.run, d.runProgram.bind (·.xch), d.attempt, d.obj k with
  | some r, some x, some _, some o =>
    let due := (x.tensors.zipIdx).filter (fun (t, _) => decide (d.refOf r.ctx (bits (nth t.words 2) 59 48) = .object k)
      && decide (bits (nth t.words 3) 63 48 ≤ o.value))
    due.foldl (fun (d : Dev) e => d.triggers e.2) d
  | _, _, _, _ => d

/-- A signal on a local counter by a Grain of the Peck. -/
def Dev.signalCounter (d : Dev) (p n : Nat) (inc : Int) (grain ctx : Nat) : Dev :=
  if inc = 0 then d
  else
    let (v, hi, lo) := addSigned (d.rd SYN_LC_VALUE p n) inc
    let (rel, left, v') := releases v (d.lcWait p n)
    let d1 := (d.wr SYN_LC_VALUE p n 0 v').setLcWait p n left
    let d2 := if hi then d1.wr SYN_LC_SAT_HI p n 0 1 else if lo then d1.wr SYN_LC_SAT_LO p n 0 1 else d1
    let d3 := { d2 with lcLast := Tbl.put d2.lcLast (lcKey p n) ⟨1, ctx, 0, grain, d2.time⟩ }
    let d4 := if hi || lo then (d3.count SYN_LC_SAT_CNT_COUNT p 0).diag (srcPeck p) .satSignal .ok [p, n] else d3
    d4.releaseAll rel

/-- A signal on an object of this module: the value after it and its releases, and whether it saturated. -/
def Dev.signalObject (d : Dev) (k : Nat) (inc : Int) (who : LastSignal) : Nat × Bool × Dev :=
  match d.obj k with
  | none => (0, false, d)
  | some o =>
    if inc = 0 then (o.value, false, d)
    else
      let (v, hi, lo) := addSigned o.value inc
      let (rel, left, v') := releases v o.waiters
      let d1 := d.setObj k { o with
        value := v', waiters := left, satHi := o.satHi || hi, satLo := o.satLo || lo, last := some who }
      let d2 := if hi || lo then (d1.count SYN_SAT_CNT_COUNT 0 0).diag (srcUnit 0x03) .satSignal .ok [k] else d1
      -- the trigger watch observes the value the signal produced, before any take
      let d3 := if v = v' then d2.checkTriggers k
        else ((d2.setObj k { o with value := v, kind := o.kind }).checkTriggers k).setObj k { o with
          value := v', waiters := left, satHi := o.satHi || hi, satLo := o.satLo || lo, last := some who }
      (v', hi || lo, d3.releaseAll rel)

/-- R386: the hub writes a ready object's value. -/
def Dev.setReady (d : Dev) (k v : Nat) : Dev :=
  match d.obj k with
  | none => d
  | some o =>
    if o.value = v then d
    else
      let (rel, left, v') := releases v o.waiters
      (d.setObj k { o with value := v', waiters := left }).releaseAll rel

/-- A signal of a task or Chain unit on what an entry names; a remote one that cannot leave is dropped and the
participant will refuse (R385). -/
def Dev.signalRef (d : Dev) (i : Nat) (t : TaskRun) (ctx : Nat) (r : ObjRef) (inc : Int) : Dev :=
  match r with
  | .unused => d
  | .counter n => d.signalCounter (peckOfGrain t.home) n inc (t.grain % 8) ctx
  | .object k => (d.signalObject k inc ⟨1, ctx, 0, t.grain, d.time⟩).2.2
  | .remote n c v g =>
    if inc = 0 then d
    else
      let (st, d1) := d.originate { syncPacket n 1 0 c v g (unsigned 16 inc) (t.waiterId false) 0 0 0 with ctx := ctx }
        (.taskSignal i)
      if st = .ok then d1 else d1.dropSignal

/-- R350: the enabled signals of a task, SIG0 before SIG1. -/
def Dev.performSignals (d : Dev) (i ctx : Nat) : Dev :=
  [2, 3].foldl (fun d e =>
    match d.task i with
    | some t => if entryOn (t.entry e) then d.signalRef i t ctx (t.ref e) (signed 16 (t.entry e)) else d
    | none => d) d

/-! ### Withdrawal of other waits (R374, R381) -/

/-- Withdraws the waits for which `drop` holds, from every counter and object of the module. -/
def Dev.withdraw (d : Dev) (drop : Waiter → Bool) : Dev :=
  let d1 := d.lcWaiters.foldl (fun d e =>
    let p := e.1 / 48
    let n := e.1 % 48
    let (rel, left, v') := reexamine (d.rd SYN_LC_VALUE p n) (d.lcWait p n) drop
    ((d.wr SYN_LC_VALUE p n 0 v').setLcWait p n left).releaseAll rel) d
  d1.objects.foldl (fun d e =>
    match d.obj e.1 with
    | none => d
    | some o =>
      let (rel, left, v') := reexamine o.value o.waiters drop
      (d.setObj e.1 { o with value := v', waiters := left }).releaseAll rel) d1

/-- R385: a wait posted to a node that cannot be reached: a mailbox wait completes with the status of the fabric; a task's, a segment's or
the exchange unit's (log entry 120) is withdrawn and the attempt is cut short. -/
def Dev.waitLost (d : Dev) (who : WaiterWho) (st : Status) : Dev :=
  let d1 := d.forgetWaits (fun w => w == who)
  match who with
  | .mailbox c s => d1.finishWaiting c s .sync st
  | _ => d1.cutShort

/-- R385: the ports or the routes have changed: the waits posted to nodes that can no longer be reached are lost. -/
def Dev.failRemote (d : Dev) : Dev :=
  d.remoteWaits.foldl (fun (d : Dev) w =>
    match d.remoteWaits.contains w, d.unreachable w.node false with
    | true, some st => d.waitLost w.who st
    | _, _ => d) d

end Sys2Proof.Machine
end

