-- ==== Sys2Proof/Machine/Ready.lean ====
section
/-! DEFINITION. Ready objects (11): the residual refresh of a tensor, and the objects that show it. -/
namespace Sys2Proof.Machine

/-- R41, R228, R269: the residual refresh is complete on the module for a tensor: its working copy has arrived, and every SERVING array
bound to it has decided against that copy and is VALID. An array in any other state counts as refreshed. -/
def Dev.refreshed (d : Dev) (tensor : Nat) : Bool :=
  (Tbl.get [] d.wcMissing tensor).isEmpty
    && !d.arrays.any (fun e => (d.binding e.1).tensor == tensor && (d.arrState e.1 == SERVING)
      && (decide (e.2.decisionDue = some .newCopy) || decide (e.2.decisionRuns = some .newCopy)
        || !d.on RSD_STATUS_VALID (grainOf e.1) (slotOf e.1)))

/-- R386: the hub sets the ready objects of tensors whose refresh is complete. -/
def Dev.updateReady (d : Dev) : Dev :=
  d.objects.foldl (fun (d : Dev) e =>
    match (d.obj e.1).map (fun (o : SyncObj) => (o.kind, o.value)) with
    | some (ObjKind.ready t, 0) => if d.refreshed t then d.setReady e.1 1 else d
    | _ => d) d

end Sys2Proof.Machine
end

