-- ==== Sys2Proof/Machine/Arrays.lean ====
section
/-! DEFINITION. Writing the arrays (06): the queue, retirement, program attempts, verification, metadata. -/
namespace Sys2Proof.Machine

/-! ### Levels of the cells -/

/-- R116, R131: the two cell levels of a signed weight level. -/
def cellPair (w : Int) : Nat × Nat := if 0 ≤ w then (w.toNat, 0) else (0, (-w).toNat)

/-- R139: levels of reference output `k` (0 to 3). -/
def refPair : Nat → Nat × Nat
  | 0 => (12, 0) | 1 => (0, 12) | 2 => (4, 0) | _ => (8, 8)

/-- R139: weight of reference output `k` in levels. -/
def refWeight (k : Nat) : Int := ((refPair k).1 : Int) - ((refPair k).2 : Int)

/-- The weight two cells of an array make in a table of cell levels: output `j` of row `i`. -/
def cellWeight (cells : Tbl Nat) (i j : Nat) : Int :=
  ((Tbl.get 0 cells (i * 528 + 2 * j) : Nat) : Int) - ((Tbl.get 0 cells (i * 528 + 2 * j + 1) : Nat) : Int)

/-- Lists the pair of output `j` in row `i`. -/
def setPair (cells : Tbl Nat) (i j : Nat) (p : Nat × Nat) : Tbl Nat :=
  Tbl.set 0 (Tbl.set 0 cells (i * 528 + 2 * j) p.1) (i * 528 + 2 * j + 1) p.2

/-- Sum of the data weights of row `i` on checksum group `k` (R137). -/
def groupSum (cells : Tbl Nat) (i k : Nat) : Int :=
  (List.range 64).foldl (fun s j => s + cellWeight cells i (64 * k + j)) 0

/-- Quotient rounded to the nearest integer, ties to even. -/
def rneDiv (x : Int) (d : Nat) : Int :=
  let m := (roundHalfEven (mkRat (Int.ofNat x.natAbs) d) : Int)
  if x < 0 then -m else m

/-- R137: the smallest divisor exponent 0 to 6 with every checksum weight at most 15 in magnitude. -/
def divLog2 (cells : Tbl Nat) : Nat :=
  ((List.range 7).find? (fun e => (List.range 1024).all (fun i => (List.range 4).all (fun k =>
    decide ((rneDiv (groupSum cells i k) (2 ^ e)).natAbs ≤ 15))))).getD 6

/-- R116, R136, R137, R139: target levels of every cell of an array for a binding, from the working copy in device
memory; returned with the divisor exponent. -/
def Dev.targetLevels (d : Dev) (b : Binding) : Tbl Nat × Nat :=
  let data := (List.range 1024).foldl (fun m i => (List.range 256).foldl (fun m j =>
    match d.wcElem b i j with
    | none => m
    | some (f, q, _) => setPair m i j (cellPair (programLevel f q))) m) []
  let e := divLog2 data
  let full := (List.range 1024).foldl (fun m i =>
    let m1 := (List.range 4).foldl (fun m k => setPair m i (256 + k) (cellPair (rneDiv (groupSum data i k) (2 ^ e)))) m
    (List.range 4).foldl (fun m k => setPair m i (260 + k) (refPair k)) m1) data
  (full, e)

/-- The working copy's segment scale codes of a tile, key output × 8 + segment (R118, R218). -/
def Dev.segmentCodes (d : Dev) (b : Binding) : Tbl Nat :=
  (List.range 256).foldl (fun m j => (List.range 8).foldl (fun m s =>
    match d.wcElem b (128 * s) j with
    | none => m
    | some (_, _, c) => Tbl.set 0 m (j * 8 + s) c) m) []

/-! ### The queue (R164, R240) -/

/-- Rank of an entry in the queue: its class, with NOW entries of class 3 ahead of the others (R240, R248). -/
def QueueEntry.rank (e : QueueEntry) : Nat := 2 * e.cls + (if e.cls = 3 && !e.now then 1 else 0)

/-- Inserts an entry behind every entry of its rank. -/
def insertEntry (q : List QueueEntry) (e : QueueEntry) : List QueueEntry :=
  q.filter (fun x => decide (x.rank ≤ e.rank)) ++ [e] ++ q.filter (fun x => decide (e.rank < x.rank))

/-- The array's queue entry. -/
def Dev.queued (d : Dev) (a : Nat) : Option QueueEntry := d.queue.find? (fun e => e.array == a)

/-- R240, R164: a cause queues an array in a class, or acts on its one entry: a higher class moves it to that class's
end, any other leaves it where it stands; a checksum cause is remembered either way. A RETIRED array is never queued (R229). -/
def Dev.enqueue (d : Dev) (a cls : Nat) (now checksum : Bool) : Dev :=
  if d.arrState a = RETIRED then d else
  match d.queued a with
  | none => { d with queue := insertEntry d.queue ⟨a, cls, now, checksum⟩ }
  | some e =>
    if cls < e.cls then
      { d with queue := insertEntry (d.queue.filter (fun x => x.array != a)) ⟨a, cls, now, e.checksum || checksum⟩ }
    else { d with queue := d.queue.map (fun x => if x.array = a then { x with checksum := x.checksum || checksum } else x) }

/-- Takes an array's entry out of the queue and out of the due list. -/
def Dev.unqueue (d : Dev) (a : Nat) : Dev :=
  { d with queue := d.queue.filter (fun x => x.array != a), due := d.due.filter (fun x => x != a) }

/-- R227, R248: an array is in program while DRAINING, PROGRAMMING or VERIFYING. -/
def Dev.inProgram (d : Dev) (a : Nat) : Bool :=
  let s := d.arrState a
  s == DRAINING || s == PROGRAMMING || s == VERIFYING

/-! ### Metadata (R242, R243) -/

/-- Any change after a complete flush clears the clean marker (R243). -/
def Dev.metaChanged (d : Dev) : Dev := { d with clean := false }

/-- True for a register field of the array metadata: read-only, kept through Cold reset and Off, of a Grain. -/
def FieldDef.isMetadata (f : FieldDef) (r : Reg) : Bool :=
  decide (r.scope = .grain) && decide (f.kept = keptColdOff) && decide (f.access = .ro)

/-- The registers that show array metadata. -/
def metadataRegs : List Reg :=
  [ARR_STATE, ARR_PROG_GEN, ARR_BIND_TENSOR, ARR_BIND_TILE, ARR_CHK_CFG, ARR_CHK_STATUS, CNV_CAL_STATUS, PRG_LIFE_CNT,
    PRG_STUCK_CNT]

/-- True where a key of the register table is one of a register's instances. -/
def Reg.hasKey (r : Reg) (key : Nat) : Bool :=
  let x := key % 2 ^ r.scope.shift
  decide (key / 2 ^ 40 = r.scope.lvl) && decide (r.base ≤ x)
    && (List.range r.n1).any (fun n => (List.range r.n2).any (fun k => r.base + n * r.s1 + k * r.s2 == x))

/-- The registers' listed words that hold metadata. -/
def Dev.metaWords (d : Dev) : Tbl Nat := d.regs.filter (fun e => metadataRegs.any (fun r => r.hasKey e.1))

/-- R243: a complete flush: every metadata item goes to flash and the clean marker is written. -/
def Dev.flushMeta (d : Dev) : Dev :=
  { d with
    flash := d.metaWords
    flashCodes := (d.arrays.filter (fun e => decide (e.2.baseCodes ≠ []))).map (fun e => (e.1, e.2.baseCodes))
    arrays := (d.arrays.map (fun e => (e.1, { e.2 with lifeGrowth := 0 }))).filter (fun e => decide (e.2 ≠ {}))
    clean := true
    lastFlush := d.time }

/-- Writes one field of an array's metadata to flash at once (R242: binding, RETIRED, SUBST). -/
def Dev.flashField (d : Dev) (f : Fld) (u n : Nat) : Dev :=
  let r := f.reg
  let old := Tbl.get (r.resetAt n 0) d.flash (r.key u n 0)
  { d with flash := Tbl.set (r.resetAt n 0) d.flash (r.key u n 0) (setBits old f.hi f.lo (d.rd f u n)) }

/-- Writes a metadata field into the buffer. -/
def Dev.setMeta (d : Dev) (f : Fld) (a v : Nat) : Dev := (d.wr f (grainOf a) (slotOf a) 0 v).metaChanged

/-- LIFE_COUNT of an array. -/
def Dev.lifeCount (d : Dev) (a : Nat) : Nat := d.rd PRG_LIFE_CNT_COUNT (grainOf a) (slotOf a)

/-! ### Engine and branch -/

/-- The array the Grain's programming engine has in work, if any (R212): one with an attempt, a halted one too, or a verification. -/
def Dev.engineArray (d : Dev) (g : Nat) : Option Nat :=
  ((List.range 16).map (fun n => g * 16 + n)).find? (fun a =>
    d.arrState a == PROGRAMMING || (d.arrState a == VERIFYING && !(d.arr a).passed))

/-- Shows an attempt in PRG_ENG_STATUS. -/
def Dev.showEngine (d : Dev) (a attempt phase row : Nat) : Dev :=
  let g := grainOf a
  ((((d.wr PRG_ENG_STATUS_BUSY g 0 0 1).wr PRG_ENG_STATUS_ARRAY g 0 0 (slotOf a)).wr PRG_ENG_STATUS_ATTEMPT g 0 0
    attempt).wr PRG_ENG_STATUS_PHASE g 0 0 phase).wr PRG_ENG_STATUS_ROW g 0 0 row

/-- The engine is free again. -/
def Dev.freeEngine (d : Dev) (g : Nat) : Dev := (d.setWord PRG_ENG_STATUS g 0 0 0).stir (peckOfGrain g)

/-- Records the result of an attempt in PRG_LAST_RESULT. -/
def Dev.lastResult (d : Dev) (a : Nat) (st : Status) (stuck : Nat) : Dev :=
  let g := grainOf a
  ((d.wr PRG_LAST_RESULT_RESULT g 0 0 st.code).wr PRG_LAST_RESULT_ARRAY g 0 0 (slotOf a)).wr PRG_LAST_RESULT_STUCK g 0 0
    (min stuck 0xFFFF)

/-- Arrays of a Bushel in PROGRAMMING, as listed. -/
def Dev.programmingIn (d : Dev) (b : Nat) : List Nat :=
  (d.arrays.map (·.1)).filter (fun a => decide (bushelOf a = b) && (d.arrState a == PROGRAMMING))

/-- Shows the number of arrays in PROGRAMMING in PRG_BRANCH_STATUS.ACTIVE. -/
def Dev.showActive (d : Dev) (b : Nat) : Dev :=
  d.wr PRG_BRANCH_STATUS_ACTIVE b 0 0 (min (d.programmingIn b).length 64)

/-- A closed isolation wrapper of a Peck (R72, FLT_ISO). -/
def Dev.wrapperClosed (d : Dev) (p : Nat) : Bool := bit (d.word FLT_ISO 0 (p / 32)) (p % 32)

/-- A gated Bushel (R77, R627). -/
def Dev.gated (d : Dev) (b : Nat) : Bool := d.on PWR_BUSHEL_CTRL_GATED b

/-- R240: the conditions of a program's start other than R237. -/
def Dev.mayStart (d : Dev) (a : Nat) : Bool :=
  let b := bushelOf a
  (d.engineArray (grainOf a)).isNone && d.on PRG_BRANCH_STATUS_ON b
    && decide ((d.programmingIn b).length < d.rd PRG_BRANCH_CFG_MAX_CONC b)
    && !d.gated b && !d.inhibited.contains b && !d.wrapperClosed (peckOf a) && d.clockGood (peckOf a) && d.wcPresent (d.taskBinding a).tensor

/-- R237: MIN_INTERVAL × 100 ms have passed since the array's last start, or it is exempt (R238). -/
def Dev.budgetOk (d : Dev) (a : Nat) : Bool :=
  (d.arr a).exempt || decide (max (d.arr a).lastStart d.coldStart + d.minInterval * 100000000 ≤ d.time)

/-! ### Retirement (R229) -/

/-- The array enters RETIRED with a cause, both at once in flash, and the host hears of it. DESIGN CHOICE (log entry 110): a binding that is
pending is dropped, and the binding in effect stays. -/
def Dev.retireNow (d : Dev) (a cause : Nat) : Dev :=
  if d.arrState a = RETIRED then d
  else
    let d1 := if d.engineArray (grainOf a) = some a then d.freeEngine (grainOf a) else d
    let d2 := ((d1.unqueue a).setArrState a RETIRED |>.metaChanged).flashField ARR_STATE_STATE (grainOf a) (slotOf a)
    let d3 := d2.modArr a (fun r => { r with
      cause := cause, pendingRetire := none, pendingBind := none, attempt := 0, halted := none, selected := false,
      passed := false, targetHeld := false, decisionDue := none, decisionRuns := none })
    let d4 := (d3.wr RSD_STATUS_PENDING (grainOf a) (slotOf a) 0 0).showActive (bushelOf a)
    (d4.hostEvent (srcArray a) 0x0100 .arrayRetired none (leBytes 2 a ++ [cause])).updateReady

/-- R268: a decision that is due or running is abandoned when the array leaves SERVING. -/
def Dev.dropDecision (d : Dev) (a : Nat) : Dev :=
  ((d.modArr a (fun r => { r with decisionDue := none, decisionRuns := none })).wr RSD_STATUS_PENDING (grainOf a)
    (slotOf a) 0 0).stir (peckOf a)

/-- The array leaves SERVING for DRAINING (R226); the refresh of its layer counts as complete for it at once (R228). -/
def Dev.startDrain (d : Dev) (a : Nat) : Dev := ((d.dropDecision a).setArrState a DRAINING |>.metaChanged).updateReady

/-- R229: a retirement is decided. A running attempt stops at the end of its row, a halted one and a verification at
once; DRAINING and SERVING arrays drain first. -/
def Dev.decideRetire (d : Dev) (a cause : Nat) : Dev :=
  let s := d.arrState a
  if s = RETIRED then d
  else if (d.arr a).pendingRetire.isSome then d
  else if s = VERIFYING then d.retireNow a cause
  else if s = PROGRAMMING then
    if (d.arr a).halted.isSome then d.retireNow a cause
    else d.modArr a (fun r => { r with pendingRetire := some cause })
  else
    let d1 := (d.unqueue a).modArr a (fun r => { r with pendingRetire := some cause, selected := false })
    if s = SERVING then d1.startDrain a else d1

/-! ### Attempts (R218 to R224) -/

/-- An attempt begins row 0 (R239). -/
def Dev.beginRow0 (d : Dev) (a attempt : Nat) : Dev :=
  let d1 := (d.setMeta PRG_LIFE_CNT_COUNT a (d.lifeCount a + 1)).modArr a (fun r => { r with
    attempt := attempt, row := 0, stuck := 0, halted := none, lifeGrowth := r.lifeGrowth + 1 })
  d1.showEngine a attempt 2 0

/-- R218, R237, R239: the array enters PROGRAMMING from DRAINING for its first attempt, or retires where LIFE_COUNT has
reached LIFE_LIMIT. -/
def Dev.startProgram (d : Dev) (a : Nat) (e : Option QueueEntry) : Dev :=
  if d.lifeLimit ≤ d.lifeCount a then d.retireNow a 4
  else
    let b := d.taskBinding a
    let (levels, dv) := d.targetLevels b
    let codes := d.segmentCodes b
    let d1 := (d.unqueue a).setArrState a PROGRAMMING
    let d2 := d1.modArr a (fun r => { r with
      target := levels, targetCodes := codes, targetHeld := true, targetsKnown := true, failed := 0, selected := false,
      passed := false, lastStart := d.time, exempt := false, recOk := true
      checksumCaused := (e.map (·.checksum)).getD r.checksumCaused })
    let d3 := (d2.setMeta ARR_CHK_CFG_DIV_LOG2 a dv).beginRow0 a 1
    (d3.showActive (bushelOf a)).diag (srcArray a) .programStart .ok [a]

/-- R220 to R223: the attempt fails; the third failure retires the array, otherwise the next attempt starts at row 0. Where the branch is
off the next attempt stands halted (R231). -/
def Dev.failAttempt (d : Dev) (a : Nat) : Dev :=
  let r := d.arr a
  let d1 := d.diag (srcArray a) .attemptFailed .checkFailed [a, r.attempt]
  if 3 ≤ r.failed + 1 then (d1.lastResult a .arrayRetired r.stuck).retireNow a 3
  else
    let d2 := ((d1.lastResult a .checkFailed r.stuck).modArr a (fun x => { x with failed := x.failed + 1 })).setArrState
      a PROGRAMMING
    if d.on PRG_BRANCH_STATUS_ON (bushelOf a) then (d2.beginRow0 a (r.attempt + 1)).showActive (bushelOf a)
    else ((d2.modArr a (fun x => { x with attempt := r.attempt + 1, row := 0, stuck := 0, halted := some .branch })).freeEngine
      (grainOf a)).showActive (bushelOf a)

/-- R214: a verify reading of a cell in units of 1/16 level, from the 8 codes of its cycles under default-4 (LSB of a gain code in
slot × level, 16 slots driven): the mean code times the LSB. -/
def verifyLevel (lsb : Nat) (codes : List Int) : Rat :=
  ((codes.take 8).foldl (fun s c => s + max (-255) (min 255 c)) (0 : Int) * (lsb : Int) : Int) / (8 : Rat)

/-- |x|. -/
def ratAbs (x : Rat) : Rat := if x < 0 then -x else x

/-- R219: the drive of one cell for its next pulse: SET where it reads below its target, RESET above; a change of polarity starts the ramp
again at START_V, otherwise the amplitude rises by STEP_V, to 3.0 V at most (units of 10 mV). -/
def CellDrive.next (c : CellDrive) (startV stepV : Nat) (set : Bool) : CellDrive :=
  { pulses := c.pulses + 1, polarity := some set
    amplitude := if c.polarity = some set then min (c.amplitude + stepV) 300 else startV }

/-- R212, R219: one iteration over a row's cells: the drives after pulsing the open cells, and how many were open. A cell that is not open
is inhibited. -/
def pulseStep (tol maxPulses startV stepV : Nat) (tgt : Nat → Nat) (lev : Nat → Rat) (cs : List CellDrive) : List CellDrive × Nat :=
  (cs.zipIdx).foldr (fun (x, c) (acc, k) =>
    if (tol : Rat) < ratAbs (lev c - (16 * tgt c : Nat)) ∧ x.pulses < maxPulses then
      (x.next startV stepV (decide (lev c < (16 * tgt c : Nat))) :: acc, k + 1)
    else (x :: acc, k)) ([], 0)

/-- R219: the loop over verify reads of one row. `levs` are the successive readings, the last of which repeats; the result is the final
reading's index, the pulses applied and the cells' drives. `fuel` bounds the loop by MAX_PULSES per cell. -/
def pulseLoop (tol maxPulses startV stepV : Nat) (tgt : Nat → Nat) (levs : List (Nat → Rat)) (i : Nat) (cs : List CellDrive)
    (pulses fuel : Nat) : Nat × Nat × List CellDrive :=
  match fuel with
  | 0 => (i, pulses, cs)
  | fuel + 1 =>
    let (cs', k) := pulseStep tol maxPulses startV stepV tgt (levs.getD (min i (levs.length - 1)) (fun _ => 0)) cs
    if k = 0 then (i, pulses, cs) else pulseLoop tol maxPulses startV stepV tgt levs (i + 1) cs' (pulses + k) fuel

/-- round_rne(lev / 16) of a verify reading, as a cell level. DESIGN CHOICE (log entry 109): a reading that rounds below zero is recorded as
level 0. -/
def verifiedLevel (lev : Rat) : Nat := if lev < 0 then 0 else roundHalfEven (lev / 16)

/-- R221: the checksum correction table of an array's verified levels with divisor 2^e; none where a remainder leaves
-128 to 127. -/
def correctionTable (verified : Tbl Nat) (e : Nat) : Option (Tbl Int) :=
  (List.range 1024).foldl (fun acc i => (List.range 4).foldl (fun acc k =>
    acc.bind (fun m =>
      let x := groupSum verified i k - (2 ^ e : Nat) * cellWeight verified i (256 + k)
      if -128 ≤ x ∧ x ≤ 127 then some (Tbl.set 0 m (i * 4 + k) x) else none)) acc) (some [])

/-- R174, R177: the LSB of default-4, in slot × level: all its entries convert at one gain. -/
def verifyLsb : Nat := 16

/-- R214, R219 to R222: the program-and-verify loop of the row in work, from its successive verify reads: of each, the 8 codes of each of
the 528 cells. The engine pulses only while the branch is on (R231). -/
def Dev.programRow (d : Dev) (a : Nat) (reads : List (List (List Int))) : Dev :=
  let r := d.arr a
  if d.arrState a = PROGRAMMING ∧ r.halted = none ∧ r.targetHeld = true ∧ r.row < 1024 ∧ reads ≠ []
      ∧ d.engineArray (grainOf a) = some a ∧ d.on PRG_BRANCH_STATUS_ON (bushelOf a) = true then
    let g := grainOf a
    let tol := d.rd PRG_VERIFY_CFG_TOL g
    let mx := d.rd PRG_PULSE_CFG_MAX_PULSES g
    let tgt := fun c => Tbl.get 0 r.target (r.row * 528 + c)
    let levs := reads.map (fun cells c => verifyLevel verifyLsb (cells.getD c []))
    let (i, pulses, drive) := pulseLoop tol mx (d.rd PRG_PULSE_CFG_START_V g) (d.rd PRG_PULSE_CFG_STEP_V g) tgt levs 0
      (List.replicate 528 {}) 0 (528 * mx + 1)
    let lev := levs.getD (min i (levs.length - 1)) (fun _ => 0)
    let stuckHere := ((List.range 528).filter (fun c => decide ((tol : Rat) < ratAbs (lev c - (16 * tgt c : Nat))))).length
    let ver := (List.range 528).foldl (fun m c => Tbl.set 0 m (r.row * 528 + c) (verifiedLevel (lev c))) r.verified
    let d1 := (d.count PRG_PULSE_CNT_COUNT g 0 pulses).modArr a (fun x => { x with
      verified := ver, stuck := r.stuck + stuckHere, drive := drive })
    match r.pendingRetire with
    | some c => d1.retireNow a c
    | none =>
      if d.rd PRG_VERIFY_CFG_STUCK_LIMIT g < r.stuck + stuckHere then d1.failAttempt a
      else if r.row < 1023 then
        (d1.modArr a (fun x => { x with row := r.row + 1 })).showEngine a r.attempt 2 (r.row + 1)
      else
        match correctionTable ver (d.rd ARR_CHK_CFG_DIV_LOG2 g (slotOf a)) with
        | none => d1.failAttempt a
        | some t =>
          let d2 := ((d1.modArr a (fun x => { x with chkTable := t, row := 1024 })).wr ARR_CHK_STATUS_CHK_READY g
            (slotOf a) 0 1).setArrState a VERIFYING |>.metaChanged
          -- R275: the tracker starts the verification from G = 1 and O = 0
          let d3 := (d2.wr RSD_GAIN_G g (slotOf a) 0 0x3F800000).wr RSD_OFS_O g (slotOf a) 0 0
          (d3.showEngine a r.attempt 3 1023).showActive (bushelOf a)
  else d

/-- The mean of two FP32 words (R273: rhoH). -/
def fpMean (x y : Nat) : Fp := Fp.div (Fp.add (fp32Decode x) (fp32Decode y)) (.fin false 2)

/-- FP32 1. -/
def fpOne : Fp := .fin false 1

/-- R273, R275: G, O and nu of monitor or verification results m260 to m263. -/
def trackerFrom (m : List Nat) : Nat × Nat × Nat :=
  let rhoH := fpMean (nth m 0) (nth m 1)
  let rhoL := fp32Decode (nth m 2)
  (fp32Encode (Fp.div fpOne rhoH), nth m 3, fp32Encode (Fp.sub (Fp.div rhoL rhoH) fpOne))

/-- Sets G, O, nu and VALID of an array; READY follows where a list has been decided (R281), and the refresh of its layer may now be
complete (R269). -/
def Dev.setTracker (d : Dev) (a : Nat) (v : Nat × Nat × Nat) : Dev :=
  let g := grainOf a
  let n := slotOf a
  let d1 := (((d.wr RSD_GAIN_G g n 0 v.1).wr RSD_OFS_O g n 0 v.2.1).wr RSD_NU_NU g n 0 v.2.2).wr RSD_STATUS_VALID g n 0 1
  ((d1.wr RSD_STATUS_READY g n 0 (b2n (d.arr a).listed)).modArr a (fun r => { r with awaitsMonitor := false })).updateReady

/-- |x - c| ≤ t for an FP32 word x; false for NaN. -/
def fpWithin (x : Nat) (c t : Rat) : Bool :=
  match fp32Decode x with
  | .fin n m => let v := (Fp.fin n m).val; decide (v - c ≤ t) && decide (c - v ≤ t)
  | _ => false

/-- R222: the cycles of a verification: 512 vectors over eight row groups. -/
def verifyCycles : Nat := 4096

/-- R159, R222: a checksum group mismatches in a cycle of the verification: its difference m, in slot × level, lies beyond THRESH LSB
of the group's checksum output under default-4, whatever EN, WINDOW and LIMIT. -/
def Dev.verifyMismatch (d : Dev) (a : Nat) (cycles : List (List Rat)) : Bool :=
  cycles.any (fun ms => (List.range 4).any (fun k =>
    decide (((d.rd ARR_CHK_CFG_THRESH (grainOf a) (slotOf a) * verifyLsb : Nat) : Rat) < ratAbs (ms.getD k 0))))

/-- R222, R224 steps 1 to 3: the verification ends, with the differences m of R159 of the four checksum groups in each of its 4,096 cycles
and the results of reference outputs 260 to 263. The decision of step 4 is then due. The Grain's engine holds one array at a time
(R212): a verification that a Block reset abandoned waits for it. -/
def Dev.verificationComplete (d : Dev) (a : Nat) (cycles : List (List Rat)) (m : List Nat) : Dev :=
  let g := grainOf a
  let n := slotOf a
  let r := d.arr a
  if d.arrState a = VERIFYING ∧ r.passed = false ∧ r.targetHeld = true ∧ d.on ARR_CHK_STATUS_CHK_READY g n = true
      ∧ d.engineArray g = some a ∧ cycles.length = verifyCycles then
    let mismatch := d.verifyMismatch a cycles
    let tol : Rat := mkRat (d.rd PRG_VERIFY_CFG_REF_TOL g) 1000
    let ok := !mismatch && fpWithin (nth m 0) 1 tol && fpWithin (nth m 1) 1 tol && fpWithin (nth m 2) 1 tol
      && fpWithin (nth m 3) 0 (mkRat 1 4)
    if ok then
      let d1 := match r.pendingBind with
        | none => d
        | some b =>
          ((((d.setMeta ARR_BIND_TENSOR_TENSOR_ID a b.tensor).setMeta ARR_BIND_TILE_ROW_TILE a b.rowTile).setMeta
            ARR_BIND_TILE_COL_TILE a b.colTile).flashField ARR_BIND_TENSOR_TENSOR_ID g n).flashField ARR_BIND_TILE_ROW_TILE
              g n |>.flashField ARR_BIND_TILE_COL_TILE g n
      let gen := (d.rd ARR_PROG_GEN_GEN g n + 1) % 2 ^ 24
      let d2 := (d1.setMeta ARR_PROG_GEN_GEN a gen).setMeta PRG_STUCK_CNT_COUNT a (min r.stuck 0xFFFF)
      let d3 := (d2.setTracker a (trackerFrom m)).modArr a (fun x => { x with
        pendingBind := none, baseCodes := r.targetCodes, recGen := gen, passed := true
        decisionDue := some .program, lastWasChecksum := r.checksumCaused })
      let d4 := ((d3.wr RSD_STATUS_PENDING g n 0 1).lastResult a .ok r.stuck).freeEngine g
      d4.diag (srcArray a) .programCompleted .ok [a, gen, r.stuck]
    else d.failAttempt a
  else d

/-- R230, R231, R232: halts the attempt of an array in PROGRAMMING; the halt is logged (R254), and PRG_LAST_RESULT takes it where a Block
reset or a branch fault halted it. A retirement that is pending takes effect then, since no row goes on; a Block reset changes no state
(R73), so after one it waits for the release (log entry 47). -/
def Dev.haltAttempt (d : Dev) (a : Nat) (why : HaltWhy) : Dev :=
  if d.arrState a = PROGRAMMING ∧ (d.arr a).halted = none then
    let st := match why with | .branch => Status.notPermitted | _ => Status.isolated
    -- the engine has stopped: PRG_ENG_STATUS shows no attempt
    let d1 := ((d.modArr a (fun r => { r with halted := some why })).freeEngine (grainOf a)).diag (srcArray a) .attemptHalted st [a]
    let d2 := match why with
      | .power => d1
      | _ => d1.lastResult a st (d.arr a).stuck
    match (d.arr a).pendingRetire with
    | some c => if why = .blockReset then d2 else d2.retireNow a c
    | none => d2
  else d

/-- R229: a retirement decided in PROGRAMMING takes effect once its halted attempt would restart. -/
def Dev.retireHalted (d : Dev) (a : Nat) : Dev :=
  match (d.arr a).pendingRetire with
  | some c => if d.arrState a = PROGRAMMING ∧ (d.arr a).halted.isSome ∧ d.wrapperClosed (peckOf a) = false then d.retireNow a c else d
  | none => d

/-- R226, R230, R239: a halted attempt restarts at row 0 with the same target set and attempt number. -/
def Dev.restartAttempt (d : Dev) (a : Nat) : Dev :=
  let r := d.arr a
  if r.pendingRetire.isSome then d.retireHalted a
  else if d.arrState a = PROGRAMMING ∧ r.halted.isSome ∧ r.targetHeld = true ∧ d.clockGood (peckOf a) = true ∧ d.on PRG_BRANCH_STATUS_ON (bushelOf a) = true
      ∧ d.wrapperClosed (peckOf a) = false ∧ d.gated (bushelOf a) = false ∧ d.inhibited.contains (bushelOf a) = false
      ∧ d.rd RST_PWR_STATE_STATE 0 = 0
      ∧ (d.engineArray (grainOf a) = none ∨ d.engineArray (grainOf a) = some a) then
    ((d.beginRow0 a r.attempt).showActive (bushelOf a)).diag (srcArray a) .attemptRestarted .ok [a, r.attempt]
  else d

/-- R216: the conditions of the table that a branch's current in mA and voltage in mV meet, held for some µs, as a mask OVC 8, UV 4, OV 2,
LEAK 1; `pulsing` says whether a pulse is applied. -/
def branchCauses (on_ : Bool) (milliamps millivolts : Nat) (pulsing : Bool) (micros : Nat) : Nat :=
  8 * b2n (decide (400 < milliamps) && decide (1 ≤ micros)) + 4 * b2n (on_ && decide (millivolts < 4600) && decide (2 ≤ micros))
    + 2 * b2n (decide (5400 < millivolts) && decide (1 ≤ micros)) + b2n (decide (3 < milliamps) && !pulsing && decide (10 ≤ micros))

/-- R216: a branch latches off; the cause is a mask OVC 8, UV 4, OV 2, LEAK 1. Attempts in PROGRAMMING halt (R231). -/
def Dev.latchBranch (d : Dev) (b cause : Nat) : Dev :=
  let d1 := (((((d.wr PRG_BRANCH_STATUS_LATCHED b 0 0 1).wr PRG_BRANCH_STATUS_ON b 0 0 0).wr PRG_BRANCH_STATUS_OVC b 0 0
    (max (d.rd PRG_BRANCH_STATUS_OVC b) (bits cause 3 3))).wr PRG_BRANCH_STATUS_UV b 0 0
    (max (d.rd PRG_BRANCH_STATUS_UV b) (bits cause 2 2))).wr PRG_BRANCH_STATUS_OV b 0 0
    (max (d.rd PRG_BRANCH_STATUS_OV b) (bits cause 1 1))).wr PRG_BRANCH_STATUS_LEAK b 0 0
    (max (d.rd PRG_BRANCH_STATUS_LEAK b) (bits cause 0 0))
  let d2 := d1.count PRG_BRANCH_FAULT_CNT_COUNT b 0
  let d3 := (d.programmingIn b).foldl (fun d a => d.haltAttempt a .branch) d2
  d3.hostEvent (srcBushel b) 0x010B .notPermitted none [b, cause % 16]

/-- R216: what the detectors of a branch find: a condition held for its duration latches it off. -/
def Dev.branchReading (d : Dev) (b milliamps millivolts : Nat) (pulsing : Bool) (micros : Nat) : Dev :=
  let cause := branchCauses (d.on PRG_BRANCH_STATUS_ON b) milliamps millivolts pulsing micros
  if cause = 0 then d else d.latchBranch b cause

/-- R217: the result of a branch self-test, as a mask UV 4, OV 2, LEAK 1 (0 = passed): a pass switches the branch on and
clears its causes, a failure leaves it latched with its causes shown. -/
def Dev.branchSelfTest (d : Dev) (b result : Nat) : Dev :=
  let put := fun (d : Dev) (v : Nat) => (((d.wr PRG_BRANCH_STATUS_OVC b 0 0 0).wr PRG_BRANCH_STATUS_UV b 0 0
    (bits v 2 2)).wr PRG_BRANCH_STATUS_OV b 0 0 (bits v 1 1)).wr PRG_BRANCH_STATUS_LEAK b 0 0 (bits v 0 0)
  if result % 8 = 0 then
    ((put d 0).wr PRG_BRANCH_STATUS_LATCHED b 0 0 0).wr PRG_BRANCH_STATUS_ON b 0 0 1
  else ((put d result).wr PRG_BRANCH_STATUS_LATCHED b 0 0 1).wr PRG_BRANCH_STATUS_ON b 0 0 0

/-! ### Selection and drain (R226, R240) -/

/-- No started read cycle is before the end of its convert phase. -/
def Dev.drained (d : Dev) (a : Nat) : Bool := (d.arr a).cycles.isEmpty

/-- R237, R240: a drained array in DRAINING starts its program if it may. MIN_INTERVAL holds back every program but the exempt ones and
those due under ARRAY_BIND and R233 (R238). -/
def Dev.tryStart (d : Dev) (a : Nat) (e : Option QueueEntry) : Dev :=
  if d.arrState a = DRAINING ∧ (d.arr a).pendingRetire = none ∧ d.drained a = true ∧ d.mayStart a = true
      ∧ (d.due.contains a || d.budgetOk a) = true then
    d.startProgram a e
  else d

/-- R240: one selection. Programs due under ARRAY_BIND and R233, and selected ones that wait in DRAINING, start first as
far as their conditions hold; then the first queued program whose conditions hold is selected. -/
def Dev.select (d : Dev) : Dev :=
  let waiting := (d.arrays.filter (fun e => e.2.selected)).map (·.1)
  let d1 := d.due.foldl (fun d a => d.tryStart a none) d
  let d2 := waiting.foldl (fun d a => d.tryStart a none) d1
  match d2.queue.find? (fun e => d2.budgetOk e.array && d2.mayStart e.array) with
  | none => d2
  | some e =>
    let d3 := { d2 with queue := d2.queue.filter (fun x => x.array != e.array) }
    let chosen := fun (r : ArrayRec) => { r with selected := true, checksumCaused := e.checksum }
    if d2.arrState e.array = SERVING then (d3.startDrain e.array).modArr e.array chosen
    else (d3.modArr e.array chosen).tryStart e.array (some e)

/-- R226: the drain of an array completes: RETIRED where a retirement is pending, else its program starts where it was
selected or is due and its conditions hold. -/
def Dev.drainComplete (d : Dev) (a : Nat) : Dev :=
  if d.arrState a = DRAINING ∧ d.drained a = true then
    match (d.arr a).pendingRetire with
    | some c => d.retireNow a c
    | none => if (d.arr a).selected || d.due.contains a then d.tryStart a none else d
  else d

/-! ### Loss of the target set (R226, R233) -/

/-- After a Device reset, a Cold reset or Off: an array recorded in DRAINING, PROGRAMMING or VERIFYING starts in
DRAINING with its program due afresh, exempt from R237. -/
def Dev.loseTarget (d : Dev) (a : Nat) : Dev :=
  let s := d.arrState a
  if s = DRAINING ∨ s = PROGRAMMING ∨ s = VERIFYING then
    match (d.arr a).pendingRetire with
    | some c => (d.setArrState a DRAINING |>.metaChanged).modArr a (fun r => { r with
        pendingRetire := some c, target := [], targetHeld := false, attempt := 0, halted := none, passed := false })
    | none =>
      let d1 := (d.setArrState a DRAINING |>.metaChanged).modArr a (fun r => { r with
        target := [], targetHeld := false, attempt := 0, failed := 0, halted := none, passed := false, selected := false
        exempt := true, checksumCaused := false })
      { d1 with due := if d1.due.contains a then d1.due else d1.due ++ [a]
                queue := d1.queue.filter (fun x => x.array != a) }
  else d

end Sys2Proof.Machine
end

