-- ==== Sys2Proof/Machine/Residual.lean ====
section
/-! DEFINITION. Residual decisions and the correction tracker (07). -/
namespace Sys2Proof.Machine

/-- R261: the decision step of a weight format, in levels. -/
def decisionStep (f : Fmt) : Nat := match f with | .mxfp4 => 1 | _ => 2

/-- R261: eff(L) = L × (1 + nu × (12 − L) / 8), FP32 with RNE at each operation. -/
def effLevel (nu : Fp) (l : Nat) : Fp :=
  let x := Fp.ofRat (l : Rat)
  Fp.mul x (Fp.add fpOne (Fp.div (Fp.mul nu (Fp.ofRat (12 - (l : Rat)))) (.fin false 8)))

/-- The integer nearest to a value, ties to even. An infinity is beyond every |delta| a list can hold; that of a NaN is `unstated`. -/
def fpRoundInt (unstated : Int) (v : Fp) : Int :=
  match v with
  | .fin n m => if n then -(roundHalfEven m : Int) else (roundHalfEven m : Int)
  | .inf n => if n then -64 else 64
  | .nan => unstated

/-- R261: the correction of one weight: working level, codes c_wc and c_base, verified levels of its two cells. -/
def decideDelta (unstated : Int) (nu : Fp) (level : Int) (cwc cbase vp vm : Nat) : Int :=
  let t := fp32Round (Fp.ofRat ((level : Rat) * pow2 (Int.ofNat cwc - Int.ofNat cbase)))
  let e := Fp.sub (effLevel nu vp) (effLevel nu vm)
  fpRoundInt unstated (Fp.sub t e)

/-- R257, R258, R261: the entries the running decision of an array writes, in ascending order of row and output; nu is what it was when
the decision began. -/
def Dev.decideEntries (d : Dev) (a : Nat) : List Residual :=
  let r := d.arr a
  let b := d.binding a
  let nu := fp32Decode r.nuUsed
  (List.range 1024).flatMap (fun i => (List.range 256).filterMap (fun j =>
    match d.wcElem b i j with
    | none => none
    | some (f, q, c) =>
      let dl := decideDelta (Config.nanDelta a i j) nu (weightLevel f q) c (Tbl.get 0 r.baseCodes (j * 8 + i / 128))
        (Tbl.get 0 r.verified (i * 528 + 2 * j)) (Tbl.get 0 r.verified (i * 528 + 2 * j + 1))
      if decisionStep f ≤ dl.natAbs then some ⟨i, j, dl⟩ else none))

/-- Sum of |DELTA| over a list (R264). -/
def l1Of (l : List Residual) : Nat := l.foldl (fun s e => s + e.delta.natAbs) 0

/-- R265, R268, R135: makes a decision due on a bound array in SERVING. A decision against a new working copy takes the
place of any that is due; another occasion leaves a due decision as it is. Its Peck leaves Idle (R661). -/
def Dev.makeDue (d : Dev) (a : Nat) (why : DecisionWhy) : Dev :=
  if d.arrState a = SERVING ∧ d.unbound a = false then
    let due := match why, (d.arr a).decisionDue with
      | .newCopy, _ => some DecisionWhy.newCopy
      | w, none => some w
      | _, some w => some w
    ((d.modArr a (fun r => { r with decisionDue := due })).wr RSD_STATUS_PENDING (grainOf a) (slotOf a) 0 1).wake (peckOf a)
  else d

/-- True while a decision of some array of the Grain runs (R266: a Grain decides one array at a time). -/
def Dev.grainDecides (d : Dev) (g : Nat) : Bool :=
  d.arrays.any (fun e => decide (grainOf e.1 = g) && e.2.decisionRuns.isSome)

/-- The states in which a due decision may run: SERVING, or VERIFYING for the decision of R224 (R266). -/
def Dev.mayDecide (d : Dev) (a : Nat) (why : DecisionWhy) : Bool :=
  (d.arrState a == SERVING && decide (why ≠ .program))
    || (d.arrState a == VERIFYING && decide (why = .program) && (d.arr a).passed)

/-- R266, R267: a due decision starts once no forward task that names the array runs, its Grain decides no other array, its Peck's clock is
good (R67) and the working copy of its tile is present; one that rebuilds a lost list, against whichever copy, also waits for VALID
(R268). -/
def Dev.decisionStart (d : Dev) (a : Nat) : Dev :=
  let r := d.arr a
  match r.decisionDue with
  | none => d
  | some why =>
    let g := grainOf a
    let n := slotOf a
    if d.mayDecide a why = true ∧ d.fwdRunsOn a = false ∧ d.grainDecides g = false
        ∧ d.wcPresent (d.binding a).tensor = true ∧ ((why ≠ .rebuild ∧ r.lostList = false) ∨ d.on RSD_STATUS_VALID g n = true)
        ∧ d.wrapperClosed (peckOf a) = false ∧ d.clockGood (peckOf a) = true then
      d.modArr a (fun x => { x with decisionDue := none, decisionRuns := some why, nuUsed := d.rd RSD_NU_NU g n })
    else d

/-- R224 step 5: the array enters SERVING and its checksum window restarts (R166). -/
def Dev.enterServing (d : Dev) (a : Nat) : Dev :=
  (d.setArrState a SERVING |>.metaChanged).modArr a (fun r => { r with
    attempt := 0, failed := 0, halted := none, passed := false, targetHeld := false, windowCycles := 0
    windowMismatch := 0, served := 0, checksumCaused := false })

/-- R263: an overflowing decision: no list, OVF, DRAINING, queue class 2, a log entry; the first overflow-caused program
after a start is exempt from R237 (R238). -/
def Dev.decisionOverflow (d : Dev) (a : Nat) : Dev :=
  let g := grainOf a
  let n := slotOf a
  let r := d.arr a
  let d1 := (((d.wr RSD_STATUS_OVF g n 0 1).wr RSD_STATUS_COUNT g n 0 0).wr RSD_L1_L1 g n 0 0).wr RSD_STATUS_READY g n 0 0
  let d2 := (d1.setArrState a DRAINING |>.metaChanged).modArr a (fun x => { x with
    residuals := [], listed := false, lostList := false, decisionRuns := none, decisionDue := none, passed := false, attempt := 0
    targetHeld := false
    exempt := x.exempt || r.firstOverflow, firstOverflow := false })
  ((((d2.wr RSD_STATUS_PENDING g n 0 0).stir (peckOf a)).enqueue a 2 false false).diag (srcArray a) .residualOverflow .ok [a]).updateReady

/-- R261 to R264, R269: the running decision of an array completes; a refresh that it ends makes its tensor ready (R41). -/
def Dev.decisionComplete (d : Dev) (a : Nat) : Dev :=
  let g := grainOf a
  let n := slotOf a
  match (d.arr a).decisionRuns with
  | none => d
  | some why =>
    if d.mayDecide a why = false then d.dropDecision a
    else
      let l := d.decideEntries a
      if 8192 < l.length ∨ l.any (fun e => decide (63 < e.delta.natAbs)) = true then d.decisionOverflow a
      else
        let d1 := ((d.modArr a (fun r => { r with residuals := l, listed := true, lostList := false, decisionRuns := none })).stir
          (peckOf a)).wr RSD_STATUS_COUNT g n 0 l.length
        let d2 := ((d1.wr RSD_L1_L1 g n 0 (min (l1Of l) (2 ^ 20 - 1))).wr RSD_STATUS_READY g n 0
          (d1.rd RSD_STATUS_VALID g n)).wr RSD_STATUS_PENDING g n 0 (b2n (d.arr a).decisionDue.isSome)
        let d3 := if why = .program then d2.enterServing a else d2
        (if d.rd RSD_THRESH_CNT_COUNT g < l.length ∨ d.rd RSD_THRESH_L1_L1 g < l1Of l then d3.enqueue a 4 false false
        else d3).updateReady

/-! ### The correction tracker (R273 to R277) -/

/-- 2^−SHIFT of the Grain's RSD_CORR_CFG. -/
def Dev.smoothing (d : Dev) (g : Nat) : Fp := .fin false (pow2 (-(Int.ofNat (d.rd RSD_CORR_CFG_SHIFT g))))

/-- R277: makes a drift re-decision due where nu differs from the last decision's by more than REDECIDE. -/
def Dev.driftCheck (d : Dev) (a : Nat) (changed : Bool) : Dev :=
  let g := grainOf a
  let nuWord := fp32Decode (d.rd RSD_NU_NU g (slotOf a))
  let usedWord := fp32Decode (d.arr a).nuUsed
  let nu := nuWord.val
  let used := usedWord.val
  let lim := d.rd RSD_CORR_CFG_REDECIDE g
  let far := if lim = 0 then changed
    else if !nuWord.isFinite || !usedWord.isFinite then Config.nanMoves
    else decide (mkRat lim 1000 < nu - used) || decide (mkRat lim 1000 < used - nu)
  if far then d.makeDue a .drift else d

/-- True while the tracker updates an array (R273, R274, R276). -/
def Dev.tracks (d : Dev) (a : Nat) : Bool :=
  d.on RSD_CORR_CFG_EN (grainOf a) && (d.arrState a == SERVING) && d.on RSD_STATUS_VALID (grainOf a) (slotOf a)

/-- |x − y| > k × 0.1 % of |y|. -/
def movesBeyond (x y : Fp) (k : Nat) : Bool :=
  if !x.isFinite || !y.isFinite then Config.nanMoves else
  let dlt := if x.val < y.val then y.val - x.val else x.val - y.val
  decide (mkRat k 1000 * (y.abs).val < dlt)

/-- R273, R274: a monitor result (FP32 words m260 to m263) updates G, O and nu of an array. A result within 0.5 % of the one rejected
before it sets G directly, and JUMP stays as it is; one that would move G beyond JUMP is rejected and reported. -/
def Dev.monitorUpdate (d : Dev) (a : Nat) (m : List Nat) : Dev :=
  if d.tracks a = false then d
  else
    let g := grainOf a
    let n := slotOf a
    let G := fp32Decode (d.rd RSD_GAIN_G g n)
    let O := fp32Decode (d.rd RSD_OFS_O g n)
    let k := d.smoothing g
    let (invW, m263, nuW) := trackerFrom m
    let inv := fp32Decode invW
    let G' := Fp.add G (Fp.mul (Fp.sub inv G) k)
    let confirms := match (d.arr a).rejected with
      | some w => !movesBeyond inv (fp32Decode w) 5
      | none => false
    if confirms then (d.wr RSD_GAIN_G g n 0 invW).modArr a (fun r => { r with rejected := none })
    else if movesBeyond G' G (d.rd RSD_CORR_CFG_JUMP g) then
      ((d.wr RSD_STATUS_JUMP g n 0 1).modArr a (fun r => { r with rejected := some invW })).diag (srcArray a) .faultRecord .ok [a]
    else
      let O' := Fp.add O (Fp.mul (Fp.sub (fp32Decode m263) O) k)
      let d1 := ((d.wr RSD_GAIN_G g n 0 (fp32Encode G')).wr RSD_OFS_O g n 0 (fp32Encode O')).wr RSD_NU_NU g n 0 nuW
      (d1.modArr a (fun r => { r with rejected := none })).driftCheck a (decide (nuW ≠ d.rd RSD_NU_NU g n))

/-- R273: the published read-cycle ratios update G and O. -/
def Dev.ratioUpdate (d : Dev) (a : Nat) : Dev :=
  if d.tracks a = false then d
  else
    let g := grainOf a
    let n := slotOf a
    let k := d.smoothing g
    let rH := fpMean (d.rd ARR_REF_RATIO_RATIO g n 0) (d.rd ARR_REF_RATIO_RATIO g n 1)
    let rO := fp32Decode (d.rd ARR_REF_RATIO_RATIO g n 3)
    let G := fp32Decode (d.rd RSD_GAIN_G g n)
    let O := fp32Decode (d.rd RSD_OFS_O g n)
    let G' := Fp.mul G (Fp.sub fpOne (Fp.mul (Fp.sub rH fpOne) k))
    let O' := Fp.add O (Fp.mul (Fp.div rO G') k)
    (d.wr RSD_GAIN_G g n 0 (fp32Encode G')).wr RSD_OFS_O g n 0 (fp32Encode O')

/-- R273: a reading (FP32, °C) of the A-die diode over an array's Peck. -/
def Dev.diodeUpdate (d : Dev) (a t : Nat) : Dev :=
  let g := grainOf a
  let n := slotOf a
  let d1 := match (d.arr a).diodePrev with
    | none => d
    | some p =>
      if d.tracks a then
        let c := fp32Round (.fin false (mkRat 15 10000))
        let f := Fp.add fpOne (Fp.mul c (Fp.sub (fp32Decode t) (fp32Decode p)))
        d.wr RSD_GAIN_G g n 0 (fp32Encode (Fp.mul (fp32Decode (d.rd RSD_GAIN_G g n)) f))
      else d
  d1.modArr a (fun r => { r with diodePrev := some t })

/-- R140: publishes the reference ratios of an array and starts the next sums; a ratio whose divisor is zero has no
stated value and is free. -/
def Dev.publishRatios (d : Dev) (a : Nat) : Dev :=
  let g := grainOf a
  let n := slotOf a
  let r := d.arr a
  let d1 := (List.range 4).foldl (fun d k =>
    let den : Int := if k = 3 then r.refSlots else r.refIdeal.getD k 0
    if den = 0 then
      let (v, d') := d.fresh
      d'.wr ARR_REF_RATIO_RATIO g n k v
    else d.wr ARR_REF_RATIO_RATIO g n k (fp32Encode (Fp.ofRat (r.refMeasured.getD k 0 / (den : Rat))))) d
  (d1.modArr a (fun x => { x with
    refMeasured := [0, 0, 0, 0], refIdeal := [0, 0, 0, 0], refSlots := 0, refCycles := 0 })).ratioUpdate a

/-- R281: a write to RSD_CTRL.REBUILD: bit n makes a decision of array n due; arrays not in SERVING are ignored. -/
def Dev.rsdRebuild (d : Dev) (g mask : Nat) : Dev :=
  (List.range 16).foldl (fun d n => if bit mask n then d.makeDue (g * 16 + n) .software else d) d

end Sys2Proof.Machine
end

