-- ==== Sys2Proof/Machine/Converters.lean ====
section
/-! DEFINITION. Column converters: sequences, calibration, references, the Bushel monitor (05). -/
namespace Sys2Proof.Machine

/-! ### Conversion sequences (R177 to R187) -/

/-- R179: duration of one conversion in units of 0.5 ns. -/
def convTime : Nat → Nat
  | 0 => 12 | 1 => 14 | 2 => 16 | 3 => 20 | 4 => 24 | 5 => 32 | 6 => 40 | _ => 56

/-- Positions of a sequence entry include `p` (R178). -/
def entryCovers (e p : Nat) : Bool := decide (bits e 14 8 ≤ p) && decide (p < bits e 14 8 + bits e 6 0)

/-- The mux positions an entry selects. -/
def muxCount (e : Nat) : Nat := b2n (bit e 16) + b2n (bit e 17) + b2n (bit e 18) + b2n (bit e 19)

/-- R180: the largest position time of a sequence, in units of 0.5 ns. -/
def seqTime (es : List Nat) : Nat :=
  (List.range 66).foldl (fun t p =>
    max t (es.foldl (fun s e => if entryCovers e p then s + muxCount e * convTime (bits e 29 27) else s) 0)) 0

/-- The entries that select output `o`. -/
def entriesOf (es : List Nat) (o : Nat) : List Nat := es.filter (fun e => entryCovers e (o / 4) && bit e (16 + o % 4))

/-- R178: an entry's reserved bits are zero and its range ends by position 66. -/
def entryValid (e : Nat) : Bool :=
  decide (bits e 26 20 = 0) && !(bit e 15) && !(bit e 7) && decide (bits e 14 8 + bits e 6 0 ≤ 66)

/-- R182: the first status that applies to the staged sequence. -/
def armStatus (len : Nat) (es : List Nat) : Status :=
  if 16 < len then .badArg
  else if len = 0 then .okZeroWork
  else if es.all entryValid && (List.range 264).all (fun o => decide ((entriesOf es o).length = 1)) then .ok
  else .badArg

/-- The staged entries 0 to LEN − 1 of an array. -/
def Dev.stagedSeq (d : Dev) (g n : Nat) : List Nat :=
  (List.range (min (d.rd CNV_SEQ_CTRL_LEN g n) 16)).map (fun k => d.rd CNV_SEQ_ENTRY_ENTRY g n k)

/-- R183: the default sequence becomes active. -/
def Dev.seqToDefault (d : Dev) (g n : Nat) : Dev :=
  let d1 := (List.range 16).foldl (fun d k => d.wr CNV_SEQ_ACTIVE_ENTRY g n k (nth defaultSeq4 k)) d
  (d1.wr CNV_SEQ_STATUS_USER_ACTIVE g n 0 0).wr CNV_SEQ_STATUS_T_SEQ g n 0 (seqTime defaultSeq4)

/-- R182, R183: a write of `w` to CNV_SEQ_CTRL. -/
def Dev.seqCtrlWrite (d : Dev) (g n w : Nat) : Dev :=
  if d.on CNV_SEQ_STATUS_ARM_BUSY g n then d
  else if bit w 31 && bit w 30 then d.wr CNV_SEQ_STATUS_RESULT g n 0 Status.badArg.code
  else
    let d1 := d.wr CNV_SEQ_CTRL_LEN g n 0 (bits w 4 0)
    if bit w 31 then d1.wr CNV_SEQ_STATUS_ARM_BUSY g n 0 1
    else if bit w 30 then (d1.seqToDefault g n).wr CNV_SEQ_STATUS_RESULT g n 0 Status.ok.code
    else d1

/-- R182: the arm check ends. -/
def Dev.seqArmComplete (d : Dev) (g n : Nat) : Dev :=
  if d.on CNV_SEQ_STATUS_ARM_BUSY g n then
    let es := d.stagedSeq g n
    let st := armStatus (d.rd CNV_SEQ_CTRL_LEN g n) es
    let d1 := (d.wr CNV_SEQ_STATUS_ARM_BUSY g n 0 0).wr CNV_SEQ_STATUS_RESULT g n 0 st.code
    if st = .ok then
      let d2 := (List.range 16).foldl (fun d k => d.wr CNV_SEQ_ACTIVE_ENTRY g n k (nth es k)) d1
      (d2.wr CNV_SEQ_STATUS_USER_ACTIVE g n 0 1).wr CNV_SEQ_STATUS_T_SEQ g n 0 (seqTime es)
    else d1
  else d

/-- R177, R185: the gain code at which a latched array converts output `o` in a cycle of a given input width. -/
def LatchedArray.gainCode (l : LatchedArray) (fourBit : Bool) (o : Nat) : Nat :=
  let es := if l.user then l.seq else if fourBit then defaultSeq4 else defaultSeq2
  match l.gainOvr with
  | some gc => if o < 256 then gc else bits ((entriesOf es o).getD 0 0) 31 30
  | none => bits ((entriesOf es o).getD 0 0) 31 30

/-- R174: the LSB of a gain code in slot × level. -/
def gainLsb (gc : Nat) : Nat := 16 / 2 ^ gc

/-! ### Background calibration (R188 to R192) -/

/-- R189: the rotation of an array pauses where it stands. -/
def Dev.calPaused (d : Dev) (a : Nat) : Bool :=
  !d.on CNV_REF_STATUS_SETTLED (bushelOf a) || d.clockStopped (peckOf a) || (d.arrState a == RETIRED)

/-- R189: the rotation of an array may run a dwell. -/
def Dev.mayDwell (d : Dev) (a : Nat) : Bool :=
  let g := grainOf a
  let n := slotOf a
  (d.on CNV_CAL_CFG_EN g n || decide (0 < (d.arr a).calNow)) && !d.calPaused a && !d.on CNV_CAL_STATUS_SUBST g n

/-- R189: EN has been cleared with no dwell in progress: the spare parks at position 66. -/
def Dev.calPark (d : Dev) (a : Nat) : Dev :=
  let g := grainOf a
  let n := slotOf a
  if d.on CNV_CAL_CFG_EN g n || d.on CNV_CAL_STATUS_ROTATING g n || d.on CNV_CAL_STATUS_SUBST g n || decide (0 < (d.arr a).calNow) then d
  else d.wr CNV_CAL_STATUS_POS g n 0 66

/-- A slice's trim, from the shadow until a dwell changes it. -/
def Dev.trim (d : Dev) (a slice gain which : Nat) : Int :=
  match Tbl.find (d.arr a).trims (slice * 8 + gain * 2 + which) with
  | some v => v
  | none => if which = 0 then signed 6 (Config.factoryGainTrim a slice gain).toNat
            else signed 7 (Config.factoryOffsetTrim a slice gain).toNat

/-- R188: a dwell at the current position begins: the spare stands in, and the slice's trims are set as measured (gain
trims and offset trims of gain codes 0 to 3). -/
def Dev.dwell (d : Dev) (a : Nat) (gains offsets : List Int) : Dev :=
  let g := grainOf a
  let n := slotOf a
  if d.mayDwell a && !d.on CNV_CAL_STATUS_ROTATING g n then
    let p := d.rd CNV_CAL_STATUS_POS g n
    let t := (List.range 4).foldl (fun t k =>
      Tbl.put (Tbl.put t (p * 8 + k * 2) (max (-32) (min 31 (gains.getD k 0)))) (p * 8 + k * 2 + 1)
        (max (-64) (min 63 (offsets.getD k 0)))) (d.arr a).trims
    (d.modArr a (fun r => { r with trims := t })).wr CNV_CAL_STATUS_ROTATING g n 0 1
  else d

/-- R190: any of a slice's eight trims lies at an end of its range. -/
def Dev.trimAtEnd (d : Dev) (a p : Nat) : Bool :=
  (List.range 4).any (fun k =>
    decide (d.trim a p k 0 = -32) || decide (d.trim a p k 0 = 31) || decide (d.trim a p k 1 = -64)
      || decide (d.trim a p k 1 = 63))

/-- R189 to R191: the check at the end of a dwell; a dwell that is paused does not end. -/
def Dev.dwellCheck (d : Dev) (a : Nat) : Dev :=
  let g := grainOf a
  let n := slotOf a
  if d.on CNV_CAL_STATUS_ROTATING g n && !d.calPaused a then
    let p := d.rd CNV_CAL_STATUS_POS g n
    let r := d.arr a
    let d0 := d.wr CNV_CAL_STATUS_ROTATING g n 0 0
    if d.trimAtEnd a p && r.endOfRange.contains p then
      let d1 := (((d0.setMeta CNV_CAL_STATUS_SUBST a 1).setMeta CNV_CAL_STATUS_SUBST_POS a p).flashField
        CNV_CAL_STATUS_SUBST g n).flashField CNV_CAL_STATUS_SUBST_POS g n
      (d1.modArr a (fun x => { x with calNow := 0 })).diag (srcArray a) .substitution .ok [a, p]
    else
      let eor := if d.trimAtEnd a p then r.endOfRange ++ [p] else r.endOfRange.filter (fun x => x != p)
      let d1 := d0.modArr a (fun x => { x with endOfRange := eor, calNow := r.calNow - 1 })
      let d2 := if r.calNow = 1 then d1.wr CNV_CAL_STATUS_RESULT g n 0 Status.ok.code else d1
      let next := if !d.on CNV_CAL_CFG_EN g n && decide (r.calNow ≤ 1) then 66 else (p + 1) % 67
      d2.wr CNV_CAL_STATUS_POS g n 0 next
  else d

/-- R191: CAL_NOW. -/
def Dev.calNow (d : Dev) (a : Nat) : Dev :=
  let g := grainOf a
  let n := slotOf a
  if !d.on CNV_REF_STATUS_SETTLED (bushelOf a) then d.wr CNV_CAL_STATUS_RESULT g n 0 Status.refUnsettled.code
  else if d.on CNV_CAL_STATUS_SUBST g n || (d.arrState a == RETIRED) then
    d.wr CNV_CAL_STATUS_RESULT g n 0 Status.notPermitted.code
  else ((d.wr CNV_CAL_STATUS_ROTATING g n 0 0).wr CNV_CAL_STATUS_POS g n 0 0).modArr a (fun r => { r with calNow := 67 })

/-! ### References (R193 to R197) -/

/-- A change of the reference in use clears SETTLED (R194). -/
def Dev.useReference (d : Dev) (b v : Nat) : Dev :=
  if d.rd CNV_REF_STATUS_ACTIVE b = v then d
  else (d.wr CNV_REF_STATUS_ACTIVE b 0 0 v).wr CNV_REF_STATUS_SETTLED b 0 0 0

/-- R193, R195: a write to CNV_REF_SEL.SEL. -/
def Dev.refSelWrite (d : Dev) (b v : Nat) : Dev :=
  if v = 3 then d.wr CNV_REF_STATUS_BAD_SEL b 0 0 1
  else
    let d1 := d.wr CNV_REF_SEL_SEL b 0 0 v
    if v = 1 then
      if d.on CNV_REF_STATUS_EXT_FAULT b then d1
      else if d.extRefBad.contains b then (d1.useReference b 0).wr CNV_REF_STATUS_EXT_FAULT b 0 0 1
      else d1.useReference b 1
    else d1.useReference b v

/-- R195: the external reference as a Bushel sees it, in mV: outside 1,225 to 1,275 mV the Bushel that uses it falls back
to the bandgap. -/
def Dev.extRef (d : Dev) (b mv : Nat) : Dev :=
  if 1225 ≤ mv ∧ mv ≤ 1275 then { d with extRefBad := d.extRefBad.filter (fun x => x != b) }
  else
    let d1 := { d with extRefBad := if d.extRefBad.contains b then d.extRefBad else d.extRefBad ++ [b] }
    if d.rd CNV_REF_STATUS_ACTIVE b = 1 then (d1.useReference b 0).wr CNV_REF_STATUS_EXT_FAULT b 0 0 1 else d1

/-! ### The monitor (R199 to R208) -/

/-- R206: one entry's own checks. -/
def scanEntryValid (e : Nat) : Bool :=
  let kind := bits e 63 61
  decide (kind ≤ 2) && decide (bits e 60 48 = 0) && decide (bits e 31 30 = 0)
    && (if kind = 0 then true else decide (bits e 47 32 = 0))
    && (if kind = 1 then decide (bits e 29 24 < 16) else if kind = 2 then decide (bits e 29 24 < 12) else true)

/-- Scan entry `i` of the staged or the active table. -/
def Dev.scanEntry (d : Dev) (f : Fld) (b i : Nat) : Nat := d.rd f b (2 * i) + 2 ^ 32 * d.rd f b (2 * i + 1)

/-- R206: a write of 1 to CNV_MON_CTRL.ARM. DESIGN CHOICE (log entry 108): the table that becomes active is the one that stood in the staging
entries at the arm. -/
def Dev.monArm (d : Dev) (b : Nat) : Dev :=
  let len := d.rd CNV_MON_CTRL_LEN b
  let es := (List.range (min len 512)).map (fun i => d.scanEntry CNV_MON_ENTRY_ENTRY b i)
  let st : Status := if 512 < len then .badArg else if len = 0 then .okZeroWork
    else if es.all scanEntryValid then .ok else .badArg
  let d1 := d.wr CNV_MON_STATUS_RESULT b 0 0 st.code
  if st = .ok then
    { d1 with
      monArmed := if d.monArmed.contains b then d.monArmed else d.monArmed ++ [b]
      monLast := Tbl.put d.monLast b es }
  else d1

/-- Makes a table active. -/
def Dev.loadScan (d : Dev) (b : Nat) (es : List Nat) : Dev :=
  let d1 := (List.range 512).foldl (fun d i =>
    (d.wr CNV_MON_ACTIVE_ENTRY b (2 * i) 0 (nth es i % 2 ^ 32)).wr CNV_MON_ACTIVE_ENTRY b (2 * i + 1) 0
      (nth es i / 2 ^ 32)) d
  { d1 with monLen := Tbl.set 92 d1.monLen b es.length, monArmed := d1.monArmed.filter (fun x => x != b), monAt := Tbl.set 0 d1.monAt b 0 }

/-- R207: the last table armed with OK, or the default table, is loaded again; `log` says whether the reload is logged. -/
def Dev.reloadScan (d : Dev) (b : Nat) (log : Bool) : Dev :=
  let es := match Tbl.find d.monLast b with
    | some es => es
    | none => (List.range 92).map defaultScan
  let d1 := d.loadScan b es
  if log then d1.diag (srcBushel b) .scanTableReloaded .ok [b] else d1

/-- A value times an exact factor; NaN and infinities stay what they are, with the factor's sign. -/
def Fp.scaled (v : Fp) (q : Rat) : Fp :=
  match v with
  | .fin n m => Fp.ofRat ((Fp.fin n m).val * q)
  | .inf n => .inf (n != decide (q < 0))
  | .nan => .nan

/-- The mean of FP32 readings, not rounded. -/
def meanOf (rs : List Nat) : Fp :=
  (rs.foldl (fun s r => Fp.addExact s (fp32Decode r)) (.fin false 0)).scaled (1 / (rs.length : Rat))

/-- R200, R202: the readings of one pass over a scan table of `es` entries, in order: entry, array of the Grain (0 for other kinds), and the
DELAYs in µs that elapse before the reading: its entry's before the first reading of the entry, and those of the entries before it that
take none. With them the DELAYs left at the table's end. -/
def scanPlan (es : List Nat) : List (Nat × Nat × Nat) × Nat :=
  (es.zipIdx).foldl (fun (acc : List (Nat × Nat × Nat) × Nat) (e, i) =>
    let wait := acc.2 + bits e 15 0
    let ns := if bits e 23 16 = 0 then [] else if bits e 63 61 = 0 then (List.range 16).filter (fun n => bit (bits e 47 32) n) else [0]
    match ns with
    | [] => (acc.1, wait)
    | n :: rest => (acc.1 ++ (i, n, wait) :: rest.map (fun m => (i, m, 0)), 0)) ([], 0)

/-- The plan of a Bushel's active table. -/
def Dev.scanPlan (d : Dev) (b : Nat) : List (Nat × Nat × Nat) × Nat :=
  Sys2Proof.Machine.scanPlan ((List.range (min 512 (Tbl.get 92 d.monLen b))).map (fun i => d.scanEntry CNV_MON_ACTIVE_ENTRY b i))

/-- The monitor of a Bushel can scan: it has not failed, and the Bushel is powered (R205, R207). -/
def Dev.monPowered (d : Dev) (b : Nat) : Bool := !d.on CNV_MON_STATUS_MON_FAIL b && !d.gated b

/-- R200: the monitor is within an entry: some of its readings are done and some are not. -/
def Dev.monWithin (d : Dev) (b : Nat) : Bool :=
  let k := Tbl.get 0 d.monAt b
  let plan := (d.scanPlan b).1
  match plan[k - 1]?, plan[k]? with
  | some p, some q => decide (0 < k) && p.1 == q.1
  | _, _ => false

/-- R200, R205, R207: the monitor goes on: RUN is 1, or the entry in progress is to be finished. -/
def Dev.monRuns (d : Dev) (b : Nat) : Bool := (d.on CNV_MON_CTRL_RUN b || d.monWithin b) && d.monPowered b

/-- R4, R202: a wait of some µs since the monitor's last reading is over. -/
def Dev.monWaited (d : Dev) (b micros : Nat) : Bool := decide (Tbl.get 0 d.monSince b + micros * 1000 ≤ d.time)

/-- R200: the reading that is done moves the monitor on. -/
def Dev.monStep (d : Dev) (b k : Nat) : Dev := { d with monAt := Tbl.set 0 d.monAt b k, monSince := Tbl.set 0 d.monSince b d.time }

/-- R199: the value of a monitor conversion of a reference output: a sign and ten bits at an LSB of 16 slot × level, as FP32. -/
def monConversion (code : Int) : Nat := fp32Encode (Fp.ofRat ((max (-1023) (min 1023 code) * 16 : Int) : Rat))

/-- The flag word of a reading (R204, R208). -/
def Dev.flagWord (d : Dev) (b : Nat) (skipped : Bool) : Nat :=
  b2n (!d.on CNV_REF_STATUS_SETTLED b) * 2 ^ 31 + b2n skipped * 2 ^ 30 + d.rd CNV_MON_PASS_PASS b % 2 ^ 16

/-- R203: the monitor cycles of a reading set of array `a` are skipped. -/
def Dev.monSkips (d : Dev) (a : Nat) : Bool :=
  (d.arrState a == PROGRAMMING) || (d.arrState a == RETIRED) || d.wrapperClosed (peckOf a)

/-- R150, R203: an integrate slot of a Grain is free for a cycle of an array. -/
def Dev.slotFree (d : Dev) (a : Nat) : Bool :=
  let g := grainOf a
  decide (((List.range 16).filter (fun n => decide (g * 16 + n ≠ a) && !(d.arr (g * 16 + n)).cycles.isEmpty)).length < d.grainLimit g)

/-- R203, R204: a reading set of array `x` (index within the Bushel) completes: REPEAT readings of outputs 260 to 263 in
turn, FP32, slot × level. DESIGN CHOICE (log entry 108): a set of REPEAT readings is one visit, and takes one row group. -/
def Dev.monRefReading (d : Dev) (b x repeats : Nat) (readings : List Nat) : Dev :=
  let a := b * 1024 + x
  if d.monSkips a then (d.count CNV_MON_SKIP_CNT_COUNT b 0).wr CNV_MON_RES_FLAG_SKIPPED b x 0 1
  else
    let val := fun k => meanOf ((List.range repeats).map (fun i => readings.getD (4 * i + k) 0))
    let ideal := fun (k : Nat) => if k = 3 then (1024 : Rat) else ((refWeight k * 1024 : Int) : Rat)
    let words := (List.range 4).map (fun k => fp32Encode ((val k).scaled (1 / ideal k)))
    let d1 := (List.range 4).foldl (fun d k => d.wr CNV_MON_RES_REF_VALUE b (4 * x + k) 0 (nth words k)) d
    let d2 := (d1.setWord CNV_MON_RES_FLAG b x 0 (d.flagWord b false)).modArr a (fun r => { r with
      monGroup := (r.monGroup + 1) % 8, monSeen := true })
    if d.on CNV_REF_STATUS_SETTLED b then d2.monitorUpdate a words else d2

/-- R200 to R204: the monitor completes the next reading set of its pass, of entry `i` of the active table: for KIND 0 of array `n` of the
entry's Grain, with the codes of its conversions; for the other kinds with its readings as FP32 words. A monitor cycle waits for an
integrate slot of the Grain, ahead of every read cycle (R203). -/
def Dev.monReading (d : Dev) (b i n : Nat) (codes : List Int) (readings : List Nat) : Dev :=
  let e := d.scanEntry CNV_MON_ACTIVE_ENTRY b i
  let kind := bits e 63 61
  let src := bits e 29 24
  let repeats := bits e 23 16
  let k := Tbl.get 0 d.monAt b
  match (d.scanPlan b).1[k]? with
  | none => d
  | some (j, m, wait) =>
    if d.monRuns b = true ∧ i = j ∧ d.monWaited b wait = true ∧ (kind ≠ 0 ∨ n = m) then
      let a := b * 1024 + src * 16 + n
      let g := grainOf a
      if kind = 0 ∧ d.monSkips a = false ∧ d.slotFree a = false then
        { d with monWaits := if d.monWaits.contains g then d.monWaits else d.monWaits ++ [g] }
      else
        let d0 := ({ d with monWaits := d.monWaits.filter (fun x => x != g) }.monStep b (k + 1)).wr CNV_MON_STATUS_ENTRY b 0 0 i
        if kind = 0 then d0.monRefReading b (src * 16 + n) repeats (codes.map monConversion)
        else
          let v := fp32Encode (meanOf (readings.take repeats))
          if kind = 1 ∧ src < 16 then
            let d1 := (d0.wr CNV_MON_RES_DIODE_VALUE b src 0 v).setWord CNV_MON_RES_DIODE_FLAG b src 0 (d.flagWord b false)
            if 8 ≤ src ∧ d.on CNV_REF_STATUS_SETTLED b = true then
              (List.range 128).foldl (fun d x => d.diodeUpdate ((b * 8 + (src - 8)) * 128 + x) v) d1
            else d1
          else if kind = 2 ∧ src < 12 then
            (d0.wr CNV_MON_RES_TAP_VALUE b src 0 v).setWord CNV_MON_RES_TAP_FLAG b src 0 (d.flagWord b false)
          else d0
    else d

/-- The monitor results of an array as FP32 words, where it has been read since the results were last lost and its last reading was taken on
a settled reference (R204, R276); a visit that was skipped since leaves them. -/
def Dev.monResults (d : Dev) (a : Nat) : Option (List Nat) :=
  let b := bushelOf a
  let x := a % 1024
  if !(d.arr a).monSeen || d.on CNV_MON_RES_FLAG_UNSETTLED b x then none
  else some ((List.range 4).map (fun k => d.rd CNV_MON_RES_REF_VALUE b (4 * x + k)))

/-- R276, R277: loads G, O and nu of a SERVING array straight from the monitor's results; without usable ones the array awaits the next
complete pass. -/
def Dev.loadTracker (d : Dev) (a : Nat) : Dev :=
  if d.arrState a = SERVING ∧ d.powered (peckOf a) = true ∧ d.inReset (peckOf a) = false then
    match d.monResults a with
    | some m => (d.setTracker a (trackerFrom m)).driftCheck a
        (decide ((trackerFrom m).2.2 ≠ d.rd RSD_NU_NU (grainOf a) (slotOf a)))
    | none => d.modArr a (fun r => { r with awaitsMonitor := true })
  else d

/-- R200, R205, R206, R276: a pass ends once every entry has been run: the self-check's deviation in LSB, the next table, the arrays that
await the first complete pass. -/
def Dev.monPassEnd (d : Dev) (b : Nat) (deviation : Int) : Dev :=
  if d.on CNV_MON_CTRL_RUN b && d.monPowered b && decide ((d.scanPlan b).1.length ≤ Tbl.get 0 d.monAt b) && d.monWaited b (d.scanPlan b).2 then
    let d1 := (d.monStep b 0).countWrap CNV_MON_PASS_PASS b 0
    let d2 :=
      if 4 < deviation.natAbs then
        if d.on CNV_MON_STATUS_UNIT b then d1.wr CNV_MON_STATUS_MON_FAIL b 0 0 1
        else (d1.wr CNV_MON_STATUS_UNIT b 0 0 1).diag (srcBushel b) .monitorSwitched .ok [b]
      else d1
    let d3 := if d.monArmed.contains b then d2.loadScan b (Tbl.get [] d.monLast b) else d2
    (List.range 1024).foldl (fun d x =>
      let a := b * 1024 + x
      if (d.arr a).awaitsMonitor then d.loadTracker a else d) d3
  else d

end Sys2Proof.Machine
end

