-- ==== Sys2Proof/Machine/Operands.lean ====
section
/-! DEFINITION. Operand forms: address spaces, block records, lines and line groups (R344, R345), and the argument blocks
of tasks (R343, R286, R317, R359). -/
namespace Sys2Proof.Machine

/-! ### Address words (R343, R344) -/

/-- SPACE of an address word. -/
def awSpace (w : Nat) : Nat := bits w 63 61
/-- ADDR of an address word. -/
def awAddr (w : Nat) : Nat := bits w 47 0
/-- The other bits of an address word are zero. -/
def awClean (w : Nat) : Bool := decide (bits w 60 48 = 0)

/-- The cell of an address in space 0, 1 or 2, relative to the home Grain. -/
def spaceCell (home space addr : Nat) : Nat :=
  if space = 1 then peckCell (peckOfGrain home) addr
  else if space = 2 then grainCell home addr
  else devCell addr

/-- Bytes of a space on the module: device memory, Peck SRAM, Grain SRAM; none for host and peer memory (48 bits). -/
def spaceSize (space : Nat) : Nat :=
  if space = 0 then deviceMemory else if space = 1 then 2 ^ 23 else if space = 2 then 2 ^ 21 else 2 ^ 48

/-- An address word of Grain or Peck SRAM. -/
def awSram (w : Nat) : Bool := awClean w && (awSpace w == 1 || awSpace w == 2)

/-! ### Block records and plain elements (R345) -/

/-- Bytes of a record: 4 and 32 packed elements. -/
def Fmt.recordBytes (f : Fmt) : Nat := 4 + 4 * f.bits

/-- Bytes of `n` elements of a line. -/
def Fmt.lineBytes (f : Fmt) (n : Nat) : Nat := if f.blocked then (n + 31) / 32 * f.recordBytes else n * (f.bits / 8)

/-- Element `k` of the record at a cell: its scale code and its element code. -/
def Dev.recordElem (d : Dev) (cell : Nat) (f : Fmt) (k : Nat) : Nat × Nat :=
  (d.byte cell, d.planarElem (cell + 4) f.bits k)

/-- Writes the code word of a record and the elements given; the elements beyond them are never written (R290). -/
def Dev.writeRecordPart (d : Dev) (cell : Nat) (f : Fmt) (scale : Nat) (codes : List Nat) : Dev :=
  (codes.zipIdx).foldl (fun (d : Dev) (q, k) => d.setPlanarElem (cell + 4) f.bits k q) (d.setLe cell 4 scale)

/-- Writes a record: the code in byte 0, zeros in bytes 1 to 3, and 32 elements (missing ones are code zero). -/
def Dev.writeRecord (d : Dev) (cell : Nat) (f : Fmt) (scale : Nat) (codes : List Nat) : Dev :=
  (List.range 32).foldl (fun d k => d.setPlanarElem (cell + 4) f.bits k (nth codes k)) (d.setLe cell 4 scale)

/-- Element `k` of line `l` of an operand of `K`-element lines: scale code and element code. Blocks run along the lines
(`across` = false) or across them in line groups of 32. -/
def Dev.lineElem (d : Dev) (cell : Nat) (f : Fmt) (across : Bool) (K l k : Nat) : Nat × Nat :=
  if f.blocked then
    if across then d.recordElem (cell + (l / 32 * K + k) * f.recordBytes) f (l % 32)
    else d.recordElem (cell + (l * ((K + 31) / 32) + k / 32) * f.recordBytes) f (k % 32)
  else (0, d.le (cell + (l * K + k) * (f.bits / 8)) (f.bits / 8))

/-- The value of such an element with a tensor scale (R95, R114). -/
def lineValue (f : Fmt) (S : Rat) (e : Nat × Nat) : Fp :=
  if f.blocked then elemValue f e.1 S e.2 else elemDecode f e.2

/-! ### Forward array tasks (R343) -/

/-- An array entry of a FWD argument block. -/
structure FwdEntry where
  array : Nat
  start : Nat
  rows  : Nat
  tile  : Nat
  deriving DecidableEq, Repr

def fwdTensor (a : List Nat) : Nat := bits (nth a 0) 63 32
def fwdColTile (a : List Nat) : Nat := bits (nth a 0) 31 16
def fwdTokens (a : List Nat) : Nat := bits (nth a 0) 15 0
def fwdXScale (a : List Nat) : Nat := bits (nth a 1) 63 48
def fwdWScale (a : List Nat) : Nat := bits (nth a 1) 47 32
def fwdOutScale (a : List Nat) : Nat := bits (nth a 1) 31 16
def fwdOut (a : List Nat) : Nat := bits (nth a 1) 9 8
def fwdAccIn (a : List Nat) : Bool := bit (nth a 1) 7
def fwdTile0 (a : List Nat) : Nat := bits (nth a 5) 63 48
def fwdCount (a : List Nat) : Nat := bits (nth a 5) 4 0
def fwdEntries (a : List Nat) : List FwdEntry :=
  (List.range (min (fwdCount a) 16)).map (fun i =>
    let w := nth a (6 + i)
    ⟨bits w 63 50, bits w 49 40, bits w 39 29, bits w 15 0⟩)

/-- R346: the reserved bits and fields of a FWD argument block. -/
def fwdStatic (a : List Nat) (home : Nat) : Bool :=
  decide (bits (nth a 1) 15 10 = 0) && decide (bits (nth a 1) 6 0 = 0) && decide (bits (nth a 5) 47 5 = 0)
    && decide (fwdTensor a ≠ noTensor) && decide (fwdOut a ≠ 3) && !(fwdAccIn a && decide (fwdOut a ≠ 0)) && decide (fwdCount a ≤ 16)
    && (decide (fwdOut a = 2) || decide (fwdOutScale a = 0))
    && awSram (nth a 2) && awSram (nth a 3)
    && (List.range (min (fwdCount a) 16)).all (fun i => decide (bits (nth a (6 + i)) 28 16 = 0))
    && (fwdEntries a).all (fun e => decide (grainOf e.array = home))

/-! ### Digital products (R286, R343) -/

/-- A product: its descriptor and address words. -/
structure Product where
  w0 : Nat
  w1 : Nat
  a  : Nat
  b  : Nat
  c  : Nat
  c2 : Nat
  deriving DecidableEq, Repr

def Product.k (p : Product) : Nat := bits p.w0 47 32
def Product.n (p : Product) : Nat := bits p.w0 31 16
def Product.m (p : Product) : Nat := bits p.w0 15 0
def Product.outScale (p : Product) : Nat := bits p.w1 63 48
def Product.fmtA (p : Product) : Nat := bits p.w1 31 28
def Product.fmtB (p : Product) : Nat := bits p.w1 27 24
def Product.axisA (p : Product) : Bool := bit p.w1 23
def Product.axisB (p : Product) : Bool := bit p.w1 22
def Product.acc (p : Product) : Nat := bits p.w1 21 20
def Product.accIn (p : Product) : Bool := bit p.w1 19
def Product.pair (p : Product) : Bool := bit p.w1 18
def Product.out (p : Product) : Nat := bits p.w1 17 16
def Product.outAxis (p : Product) : Nat := bits p.w1 15 14

/-- NPROD of a PRODUCT argument block. -/
def productCount (a : List Nat) : Nat := bits (nth a 0) 1 0

/-- The products of an argument block. -/
def productsOf (a : List Nat) : List Product :=
  (List.range (productCount a)).map (fun p =>
    ⟨nth a (1 + 6 * p), nth a (2 + 6 * p), nth a (3 + 6 * p), nth a (4 + 6 * p), nth a (5 + 6 * p), nth a (6 + 6 * p)⟩)

/-- A product has work (R288). -/
def Product.works (p : Product) : Bool := decide (0 < p.m) && decide (0 < p.n) && decide (0 < p.k)

/-- Output tiles of a product (R282, R294). -/
def Product.tiles (p : Product) : Nat := if p.works then (p.m + 63) / 64 * ((p.n + 63) / 64) else 0

/-- Reduction chunks of a product. -/
def Product.chunks (p : Product) : Nat := (p.k + 63) / 64

/-- R284: a block-scaled operand lies across the reduction. -/
def Product.unaligned (p : Product) : Bool := p.axisA || p.axisB

/-! ### Vector tasks (R317) -/

/-- The ten words of vector descriptor `i` of an argument block. -/
def vecDesc (a : List Nat) (i : Nat) : List Nat := (a.drop (1 + 10 * i)).take 10

/-- NDESC of a VECTOR argument block. -/
def vecCount (a : List Nat) : Nat := bits (nth a 0) 4 0

end Sys2Proof.Machine
end

