-- ==== Sys2Proof/Machine/Forward.lean ====
section
/-! DEFINITION. Forward array tasks (04): checks, latching, row groups on the array and on the fallback path,
accumulation, checksum comparison. -/
namespace Sys2Proof.Machine

/-! ### Checks and latching at the start (R142, R152, R184, R272) -/

/-- SIZE of an array. -/
def Dev.rowSize (d : Dev) (a : Nat) : Nat := d.rd ARR_ROWGRP_CFG_SIZE (grainOf a) (slotOf a)

/-- The valid row group sizes (R141). -/
def validSize (z : Nat) : Bool := z == 16 || z == 32 || z == 64 || z == 128

/-- R720 and the format of a scale table entry. -/
def Dev.scaleFmt (d : Dev) (base i : Nat) : Option Fmt := (d.scaleEntry base i).bind (fun e => Fmt.ofCode e.format)

/-- R152: the status a FWD task completes with before it starts, if any. -/
def Dev.fwdCheck (d : Dev) (base : Nat) (a : List Nat) : Option Status :=
  let es := fwdEntries a
  let placeable := fun i => ((d.scaleFmt base i).map Fmt.placeable).getD false
  let bad := decide ((es.map (fun e => grainOf e.array)).eraseDups.length > 1)
    || !placeable (fwdXScale a) || !placeable (fwdWScale a)
    || (decide (fwdOut a = 2) && (d.scaleEntry base (fwdOutScale a)).isNone)
    || es.any (fun e =>
      let z := d.rowSize e.array
      let b := d.taskBinding e.array
      (decide (z ≠ 0) && (!validSize z || decide (e.start % z ≠ 0))) || decide (1024 < e.start + e.rows)
        || b.tensor == noTensor || decide (b ≠ ⟨fwdTensor a, e.tile, fwdColTile a⟩))
  if bad then some .badArg
  else if es.any (fun e => d.rowSize e.array == 0) then some .badLength
  else if es.isEmpty || fwdTokens a == 0 || es.all (fun e => e.rows == 0) then some .okZeroWork
  else none

/-- What a FWD task latches of its arrays. -/
def Dev.fwdLatch (d : Dev) (a : List Nat) : List LatchedArray :=
  (fwdEntries a).map (fun e =>
    let g := grainOf e.array
    let n := slotOf e.array
    { array := e.array, startRow := e.start, rowCount := e.rows, rowTile := e.tile, size := d.rowSize e.array
      user := d.on CNV_SEQ_STATUS_USER_ACTIVE g n
      seq := (List.range 16).map (fun k => d.rd CNV_SEQ_ACTIVE_ENTRY g n k)
      gainOvr := if d.on CNV_GAIN_OVR_EN g n then some (d.rd CNV_GAIN_OVR_GAIN g n) else none
      gain := d.rd RSD_GAIN_G g n, offset := d.rd RSD_OFS_O g n })

/-! ### Row groups (R143 to R146) -/

/-- Start rows of an array entry's row groups, ascending. -/
def LatchedArray.groups (l : LatchedArray) : List Nat :=
  if l.size = 0 then []
  else (List.range ((l.rowCount + l.size - 1) / l.size)).map (fun i => l.startRow + i * l.size)

/-- Rows driven in the group that starts at `row`. -/
def LatchedArray.groupRows (l : LatchedArray) (row : Nat) : Nat := min l.size (l.startRow + l.rowCount - row)

/-- Key of a row group of a task: token, array entry, start row. -/
def groupKey (token entry row : Nat) : Nat := (token * 16 + entry) * 64 + row / 16

/-- The input format of a task. -/
def Dev.fwdInFmt (d : Dev) (base : Nat) (a : List Nat) : Fmt := (d.scaleFmt base (fwdXScale a)).getD .mxfp4

/-- Cell of token `n`'s inputs. -/
def fwdInputCell (home : Nat) (a : List Nat) (token : Nat) : Nat :=
  spaceCell home (awSpace (nth a 2)) (awAddr (nth a 2) + token * bits (nth a 4) 63 32)

/-- R343: the input element of tile row `k`: its block's scale code and its code; a row tile below X_TILE0 has none at X (log entry
99). -/
def Dev.fwdInput (d : Dev) (home : Nat) (a : List Nat) (f : Fmt) (token tile k : Nat) : Nat × Nat :=
  if tile < fwdTile0 a then d.recordElem (noCell + k / 32 * 64) f (k % 32)
  else
    let e := (tile - fwdTile0 a) * 1024 + k
    d.recordElem (fwdInputCell home a token + e / 32 * f.recordBytes) f (e % 32)

/-- R119, R121: the aligned signed slot counts of a row group with c_max, or none where a block has scale code 0xFF. -/
def Dev.groupSlots (d : Dev) (home : Nat) (a : List Nat) (f : Fmt) (token : Nat) (l : LatchedArray) (row : Nat) :
    Option (Nat × List Int) :=
  let xs := (List.range (l.groupRows row)).map (fun i => d.fwdInput home a f token l.rowTile (row + i))
  if xs.any (fun x => x.1 == 0xFF) then none
  else
    let cmax := xs.foldl (fun m x => max m x.1) 0
    some (cmax, xs.map (fun x => alignSlots x.1 cmax (inputSlots f x.2)))

/-- Outputs of a column tile within its tensor (R136, R442). -/
def Dev.boundOutputs (d : Dev) (tensor col : Nat) : Nat :=
  match d.tensorEntry tensor with
  | some (_, t) => min 256 (t.n - 256 * col)
  | none => 256

/-- Rows of a row tile within its tensor (R136, R442). -/
def Dev.boundRows (d : Dev) (tensor tile : Nat) : Nat :=
  match d.tensorEntry tensor with
  | some (_, t) => min 1024 (t.k - 1024 * tile)
  | none => 1024

/-- R122, R157: the factor of a row group: rne32(rne32(Sx × Sw) / (s × l)) × 2^(cx + cw − 254). -/
def groupFactor (sx sw : Nat) (fx fw : Fmt) (cx cw : Nat) : Fp :=
  if cw = 0xFF then .nan
  else
    let s := Fp.div (Fp.mul (fp32Decode sx) (fp32Decode sw)) (.fin false ((fx.slotsPerUnit * fw.levelsPerUnit : Nat) : Rat))
    Fp.mul s (.fin false (pow2 (Int.ofNat (cx + cw) - 254)))

/-- R157: the terms of a row group's 256 outputs, from y and c_w of each. -/
def Dev.groupTerms (d : Dev) (base : Nat) (a : List Nat) (cx : Nat) (ys : List (Fp × Nat)) : List Nat :=
  let sx := ((d.scaleEntry base (fwdXScale a)).map ScaleEntry.scale).getD 0
  let sw := ((d.scaleEntry base (fwdWScale a)).map ScaleEntry.scale).getD 0
  let fx := d.fwdInFmt base a
  let fw := (d.scaleFmt base (fwdWScale a)).getD .mxfp4
  ys.map (fun (y, cw) => fp32Encode (Fp.mul y (groupFactor sx sw fx fw cx cw)))

/-- Stores the terms of a finished group. -/
def Dev.putTerms (d : Dev) (i key : Nat) (ts : List Nat) : Dev :=
  d.modTask i (fun t => { t with terms := Tbl.put t.terms key ts })

/-- Base of the running program. -/
def Dev.runBase (d : Dev) : Nat := (d.runProgram.map (·.base)).getD 0

/-- Shows ARR_GRAIN_CONC.ACTIVE and DMX_STATUS.FB_QUEUE of a Grain. -/
def Dev.showGrain (d : Dev) (g : Nat) : Dev :=
  (d.wr ARR_GRAIN_CONC_ACTIVE g 0 0 (((List.range 16).filter (fun n => !(d.arr (g * 16 + n)).cycles.isEmpty)).length)).wr
    DMX_STATUS_FB_QUEUE g 0 0 (min (Tbl.get [] d.fbQueue g).length 255)

/-- The running FWD tasks with row groups of an array left to start, by start number (R349). -/
def Dev.forwardOn (d : Dev) (a : Nat) : List Nat :=
  match d.attempt with
  | none => []
  | some at_ => (at_.tasks.filter (fun e => decide (e.2.kind = 0) && decide (e.2.phase = .running) && decide (e.2.ending = none)
      && (e.2.arrays.zipIdx).any (fun (l, k) => decide (l.array = a) && (List.range (fwdTokens e.2.arg)).any (fun n =>
        l.groups.any (fun row => !e.2.started.contains (groupKey n k row)))))).map (fun e => e.2.order)

/-- R349: the next read cycle of an array is this task's. DESIGN CHOICE (log entry 112): the tasks that have row groups of the array left
take one read cycle each, in turn, in the order in which they started. -/
def Dev.cycleTurn (d : Dev) (a order : Nat) : Bool :=
  let os := d.forwardOn a
  let later := os.filter (fun o => decide ((d.arr a).turn < o))
  let least := fun (xs : List Nat) => xs.foldl min (nth xs 0)
  decide (order = least (if later.isEmpty then os else later))

/-- R144 to R146, R150, R154: a row group of a task chooses its path when it would start its read cycle. A monitor cycle that waits takes
the next integrate slot of the Grain ahead of it (R203). -/
def Dev.rowGroupStart (d : Dev) (i token entry row : Nat) : Dev :=
  match d.task i, d.attempt with
  | some t, some at_ =>
    match t.arrays[entry]? with
    | some l =>
      let key := groupKey token entry row
      if t.kind = 0 ∧ t.phase = .running ∧ t.ending = none ∧ at_.gen1 = false ∧ token < fwdTokens t.arg
          ∧ l.groups.contains row = true ∧ t.started.contains key = false then
        let mark := fun (d : Dev) => d.modTask i (fun t => { t with started := t.started ++ [key] })
        match d.groupSlots t.home t.arg (d.fwdInFmt d.runBase t.arg) token l row with
        | none => ((mark d).modTask i (fun t => { t with nanInput := true })).putTerms i key []
        | some (cx, slots) =>
          if slots.all (fun s => s == 0) then (mark d).putTerms i key []
          else
            let g := grainOf l.array
            let c : StartedCycle := { task := i, token := token, entry := entry, row := row }
            if d.arrState l.array = SERVING then
              if !d.cycleTurn l.array t.order then d else
              let busy := (List.range 16).filter (fun n =>
                decide (g * 16 + n ≠ l.array) && !(d.arr (g * 16 + n)).cycles.isEmpty)
              if d.grainLimit g ≤ busy.length ∨ d.monWaits.contains g = true then d.count ARR_GRAIN_STALL_CNT_COUNT g 0
              else ((mark d).modArr l.array (fun r => { r with
                cycles := r.cycles ++ [{ c with cmax := cx, slots := slots }], turn := t.order })).showGrain g
            else
              (({ mark d with fbQueue := Tbl.set [] d.fbQueue g (Tbl.get [] d.fbQueue g ++ [c]) }).modTask i
                (fun t => { t with fallback := true })).showGrain g
      else d
    | none => d
  | _, _ => d

/-! ### The read cycle (R147, R157 to R163, R271) -/

/-- The row groups of a sample's tile that one token has: array entry and start row (R442). -/
def WatchSample.groups (s : WatchSample) (t : TaskRun) : List (Nat × Nat) :=
  s.entries.flatMap (fun e => match t.arrays[e]? with
    | some l => l.groups.map (fun row => (e, row))
    | none => [])

/-- Base of a Peck's capture area: 512 KiB each, next to the program records (R444). -/
def captureCell (p : Nat) : Nat := devCell (471074521088 + 524288 * p)

/-- R444: writes the 256 values y of a row group into the Peck's capture area. DESIGN CHOICE (log entry 113): token by token, the groups
of a token in order; what lies beyond the 512 KiB is not written. -/
def Dev.captureStore (d : Dev) (p : Nat) (s : WatchSample) (t : TaskRun) (c : StartedCycle) (ys : List Nat) : Dev :=
  let gs := s.groups t
  let at_ := (c.token * gs.length + gs.idxOf (c.entry, c.row)) * 1024
  if at_ + 1024 ≤ 524288 then
    (ys.zipIdx).foldl (fun (d : Dev) (y, j) => d.setLe (captureCell p + at_ + 4 * j) 4 y) d
  else d

/-- R444: saves y and the LSBs of a row group in the Peck's watch sample, where the sample covers it. -/
def Dev.capture (d : Dev) (p : Nat) (t : TaskRun) (c : StartedCycle) (ys lsbs : List Nat) (unsettled : Bool) : Dev :=
  match d.attempt.bind (fun at_ => Tbl.find at_.samples p) with
  | none => d
  | some s =>
    if s.task = c.task ∧ s.entries.contains c.entry = true ∧ c.token < 64 ∧ s.resolved = false then
      (d.modAttempt (fun at_ => { at_ with samples := Tbl.put at_.samples p { s with
        cols := Tbl.put s.cols (groupKey c.token c.entry c.row) ys
        lsbs := Tbl.put s.lsbs (groupKey c.token c.entry c.row) lsbs
        unsettled := s.unsettled || unsettled } })).captureStore p s t c ys
    else d

/-- R162 to R165: the array is flagged: the queue, PERSIST, or retirement with cause 1. -/
def Dev.flagArray (d : Dev) (a : Nat) : Dev :=
  let g := grainOf a
  let n := slotOf a
  let r := d.arr a
  let d1 := (d.wr ARR_CHK_STATUS_FLAGGED g n 0 1).diag (srcArray a) .faultRecord .checkFailed [a]
  let soon := r.lastWasChecksum && decide (r.served < 1048576)
  let persist := d.rd ARR_CHK_STATUS_PERSIST g n
  if soon && decide (2 ≤ persist) then d1.decideRetire a 1
  else
    let d2 := (d1.enqueue a 1 false true).modArr a (fun x => { x with served := 0, lastWasChecksum := false })
    if soon then d2.setMeta ARR_CHK_STATUS_PERSIST a (persist + 1) else d2

/-- R165: an array that has served 1,048,576 read cycles without a new flag returns PERSIST to 0. -/
def Dev.persistClear (d : Dev) (a : Nat) : Dev :=
  if 1048576 ≤ (d.arr a).served ∧ d.rd ARR_CHK_STATUS_PERSIST (grainOf a) (slotOf a) ≠ 0 then d.setMeta ARR_CHK_STATUS_PERSIST a 0 else d

/-- R162: length of the checksum window in cycles. -/
def Dev.windowLen (d : Dev) (a : Nat) : Nat := d.rd ARR_CHK_CFG_WINDOW (grainOf a) (slotOf a) * 1024

/-- R162: the checksum window is over: the next one starts at zero. -/
def Dev.windowEnd (d : Dev) (a : Nat) : Dev :=
  if 0 < d.windowLen a ∧ d.windowLen a ≤ (d.arr a).windowCycles then
    d.modArr a (fun r => { r with windowCycles := 0, windowMismatch := 0 })
  else d

/-- R161, R162: counts one read cycle in the checksum window; `mask` holds the groups that mismatched. DESIGN CHOICE (log entry 111): the
array is flagged at the cycle that brings the count to LIMIT exactly, so a LIMIT lowered below a count already reached flags nothing in
that window. -/
def Dev.countWindow (d : Dev) (a row mask : Nat) : Dev :=
  let g := grainOf a
  let n := slotOf a
  let len := d.windowLen a
  let r := d.arr a
  let fresh := decide (0 < len) && decide (len ≤ r.windowCycles)
  let cyc := if fresh then 1 else r.windowCycles + 1
  let mm := (if fresh then 0 else r.windowMismatch) + b2n (decide (mask ≠ 0))
  let d1 := d.modArr a (fun x => { x with windowCycles := cyc, windowMismatch := mm })
  if mask = 0 then d1
  else
    let k := ((List.range 4).filter (fun i => bit mask i)).length
    let d2 := ((d1.count ARR_CHK_MISMATCH_CNT_COUNT g n k).wr ARR_CHK_STATUS_LAST_RG g n 0 (row / 16)).wr
      ARR_CHK_STATUS_LAST_CG g n 0 mask
    let lim := d.rd ARR_CHK_CFG_LIMIT g n
    if 0 < len ∧ 0 < lim ∧ mm = lim then d2.flagArray a else d2

/-- R159, R160: the comparison of one read cycle. `p` holds the corrected results, `clip` the clipped outputs; the answer
is the mask of mismatching groups and the number of skipped ones. -/
def Dev.compareChecksums (d : Dev) (a row : Nat) (slots : List Int) (p : Nat → Rat) (clip : Nat → Bool)
    (lsb : Nat → Nat) (partialGroup : Bool) : Nat × Nat :=
  let g := grainOf a
  let n := slotOf a
  if d.on ARR_CHK_CFG_EN g n then
    (List.range 4).foldl (fun (acc : Nat × Nat) k =>
      if !d.on ARR_CHK_STATUS_CHK_READY g n || partialGroup || clip (256 + k)
          || (List.range 64).any (fun j => clip (64 * k + j)) then (acc.1, acc.2 + 1)
      else
        let sp := (List.range 64).foldl (fun s j => s + p (64 * k + j)) 0
        let se : Int := (slots.zipIdx).foldl (fun s (x, i) => s + x * Tbl.get 0 (d.arr a).chkTable ((row + i) * 4 + k)) 0
        let m := p (256 + k) - (sp - (se : Rat)) / ((2 ^ d.rd ARR_CHK_CFG_DIV_LOG2 g n : Nat) : Rat)
        let lim : Rat := ((d.rd ARR_CHK_CFG_THRESH g n * lsb (256 + k) : Nat) : Rat)
        if lim < m || m < -lim then (acc.1 + 2 ^ k, acc.2) else acc) (0, 0)
  else (0, 0)

/-- R259: the residual contribution of output `j`. -/
def residualSum (l : List Residual) (row : Nat) (slots : List Int) (j : Nat) : Int :=
  l.foldl (fun s e => if e.out = j ∧ row ≤ e.row ∧ e.row < row + slots.length then s + slots.getD (e.row - row) 0 * e.delta
    else s) 0

/-- R140: adds one cycle to the reference sums of an array. -/
def Dev.addReference (d : Dev) (a : Nat) (slots : List Int) (p : Nat → Rat) : Dev :=
  let total := slots.foldl (· + ·) 0
  let mag : Int := slots.foldl (fun s x => s + (x.natAbs : Int)) 0
  d.modArr a (fun r => { r with
    refMeasured := (r.refMeasured.zipIdx).map (fun (m, k) => m + p (260 + k))
    refIdeal := (r.refIdeal.zipIdx).map (fun (x, k) => x + refWeight k * total)
    refSlots := r.refSlots + mag, refCycles := r.refCycles + 1 })

/-- R147: a started read cycle of an array completes: conversion (the 264 codes; beyond ±255 the input clipped), gain and
offset correction, residuals, scaling, accumulation, checksum comparison, reference sums. -/
def Dev.readCycle (d : Dev) (a : Nat) (codes : List Int) : Dev :=
  let g := grainOf a
  let n := slotOf a
  let r := d.arr a
  match r.cycles with
  | [] => d
  | c :: rest =>
    let d0 := (d.modArr a (fun x => { x with cycles := rest })).showGrain g
    match d.task c.task with
    | none => d0
    | some t =>
      match t.arrays[c.entry]? with
      | none => d0
      | some l =>
        let base := d.runBase
        let fx := d.fwdInFmt base t.arg
        let slots := c.slots
        let four := decide (fx.slotsPerCycle = 16)
        let lsb := fun o => gainLsb (l.gainCode four o)
        let clip := fun o => decide (255 < (codes.getD o 0).natAbs)
        let code := fun o => max (-255) (min 255 (codes.getD o 0))
        let N : Fp := .fin false ((slots.foldl (fun s x => s + x.natAbs) 0 : Nat) : Rat)
        let G := fp32Decode l.gain
        let O := fp32Decode l.offset
        let p := fun o => Fp.mul G (Fp.sub (Fp.ofRat ((code o * (lsb o : Int) : Int) : Rat)) (Fp.mul O N))
        let y := fun j => fp32Round (Fp.addExact (p j) (Fp.ofRat (residualSum r.residuals c.row slots j : Rat)))
        let cw := fun j => Tbl.get 0 r.baseCodes (j * 8 + c.row / 128)
        let ys := (List.range 256).map (fun j => (y j, cw j))
        let unsettled := !d.on CNV_REF_STATUS_SETTLED (bushelOf a)
        let d1 := d0.putTerms c.task (groupKey c.token c.entry c.row) (d.groupTerms base t.arg c.cmax ys)
        let d2 := d1.capture (peckOf a) t c (ys.map (fun e => fp32Encode e.1)) ((List.range 256).map lsb) unsettled
        let d3 := if unsettled then
            (d2.count CNV_UNSETTLED_CNT_COUNT g n).modTask c.task (fun t => { t with unsettled := true })
          else d2
        let clipped := ((List.range 256).filter clip).length
        let d4 := (d3.countWrap ARR_CYCLE_CNT_COUNT g n).count ARR_CLIP_CNT_COUNT g n clipped
        let partialGroup := decide (l.groupRows c.row < l.size)
          && decide (l.startRow + l.rowCount < d.boundRows (fwdTensor t.arg) l.rowTile)
        let (mask, skipped) := d.compareChecksums a c.row slots (fun o => (p o).val) clip lsb partialGroup
        let d5 := (d4.count ARR_CHK_SKIP_CNT_COUNT g n skipped).modArr a (fun x => { x with served := x.served + 1 })
        (d5.countWindow a c.row mask).addReference a slots (fun o => (p o).val)

/-! ### The fallback path (R302) -/

/-- Passes of a fallback row group. -/
def fallbackPasses (rows outs : Nat) : Nat := (rows + 63) / 64 * ((outs + 63) / 64)

/-- R301, R302: the digital matrix array of a Grain serves the first fallback row group that waits: p is the exact sum of
slots times working-copy levels, r is 0 and c_w is the working copy's code. -/
def Dev.fallbackGroup (d : Dev) (g : Nat) : Dev :=
  match Tbl.get [] d.fbQueue g with
  | [] => d
  | c :: rest =>
    let d0 := ({ d with fbQueue := Tbl.set [] d.fbQueue g rest }).showGrain g
    match d.task c.task with
    | none => d0
    | some t =>
      match t.arrays[c.entry]? with
      | none => d0
      | some l =>
        let base := d.runBase
        let fx := d.fwdInFmt base t.arg
        match d.groupSlots t.home t.arg fx c.token l c.row with
        | none => d0.putTerms c.task (groupKey c.token c.entry c.row) []
        | some (cx, slots) =>
          let b : Binding := ⟨fwdTensor t.arg, l.rowTile, fwdColTile t.arg⟩
          let sum := fun j => (slots.zipIdx).foldl (fun (s : Int) (x, i) =>
            match d.wcElem b (c.row + i) j with
            | some (f, q, _) => s + x * weightLevel f q
            | none => s) 0
          let cw := fun j => match d.wcElem b c.row j with | some (_, _, k) => k | none => 0
          let ys := (List.range 256).map (fun j => (fp32Round (Fp.ofRat (sum j : Rat)), cw j))
          let passes := fallbackPasses slots.length (d.boundOutputs b.tensor b.colTile)
          let d1 := d0.putTerms c.task (groupKey c.token c.entry c.row) (d.groupTerms base t.arg cx ys)
          let d2 := (d1.countWrap DMX_PASS_CNT_COUNT g 0 passes).count DMX_FB_PASS_CNT_COUNT g 0 passes
          if d.on TSK_PORT_STATUS_PRODUCT_BUSY g then d2.count DMX_PREEMPT_CNT_COUNT g 0 else d2

/-! ### Outputs (R157, R343) -/

/-- Every row group of a FWD task is done. -/
def TaskRun.fwdDone (t : TaskRun) : Bool :=
  (List.range (fwdTokens t.arg)).all (fun n => (t.arrays.zipIdx).all (fun (l, e) =>
    l.groups.all (fun row => (Tbl.find t.terms (groupKey n e row)).isSome)))

/-- Cell of token `n`'s outputs. -/
def fwdOutputCell (home : Nat) (a : List Nat) (token : Nat) : Nat :=
  spaceCell home (awSpace (nth a 3)) (awAddr (nth a 3) + token * bits (nth a 4) 31 0)

/-- R157: output `j` of a token from the terms, in order, starting from `acc0`. -/
def TaskRun.fwdSum (t : TaskRun) (token j : Nat) (acc0 : Fp) : Fp :=
  (t.arrays.zipIdx).foldl (fun acc (l, e) => l.groups.foldl (fun acc row =>
    match Tbl.find t.terms (groupKey token e row) with
    | some ts => if ts.isEmpty then acc else Fp.add acc (fp32Decode (nth ts j))
    | none => acc) acc) acc0

/-- RNG state of a Peck at step start. -/
def Dev.rngOf (d : Dev) (p : Nat) : Nat := Tbl.get 0 d.rng p

/-- The random number of stochastic rounding of an element of a task (R101). -/
def Dev.srOf (d : Dev) (home tag index : Nat) : Nat := (Config.srTask (d.rngOf (peckOfGrain home)) tag index).toNat

/-- The rounding mode of a scale table entry; RNE in Gen-1 exact mode (R99, R128). -/
def ScaleEntry.mode (e : ScaleEntry) (gen1 : Bool) : RoundMode :=
  if gen1 then .rne else if e.round = 1 then .sr else if e.round = 2 then .rtz else .rne

/-- R97, R125, R324: quantises a block for a record of format `f` under a scale table entry, with the entry's format, and enters its
statistics. `idx` gives each element's index in the task. Where the entry's format is no block format of R93, or its elements are not as
wide as those of `f`, the block is open (log entry 100): a scale from 0 to 254 and codes the device may write (R94, R98). -/
def Dev.quantiseUnder (d : Dev) (f : Fmt) (e : ScaleEntry) (gen1 : Bool) (home tag : Nat) (vs : List Fp) (idx : Nat → Nat) :
    QBlock × Dev :=
  let fe := (Fmt.ofCode e.format).getD .fp32
  if 2 ≤ e.format ∧ e.format ≤ 8 ∧ fe.bits = f.bits then
    let q := quantiseBlock fe (e.mode gen1) e.s vs (fun i => d.srOf home tag (idx i))
    (q, d.scaleStats e (blockAmax e.s vs) q.sats)
  else
    let open_ := fun (i : Nat) => (Config.free (d.freeCount + i)).toNat
    let q : QBlock := ⟨open_ 0 % 255, (List.range vs.length).map (fun i => legalCode f (open_ (2 + i))), open_ 1 % (vs.length + 1)⟩
    (q, { d with freeCount := d.freeCount + 2 + vs.length }.scaleStats e (blockAmax e.s vs) q.sats)

/-- Writes the outputs of one token. -/
def Dev.writeToken (d : Dev) (base : Nat) (gen1 : Bool) (t : TaskRun) (token outs : Nat) (v : Nat → Fp) : Dev :=
  let cell := fwdOutputCell t.home t.arg token
  if fwdOut t.arg = 0 then
    (List.range outs).foldl (fun d j => d.setLe (cell + 4 * j) 4 (fp32Encode (v j))) d
  else if fwdOut t.arg = 1 then
    (List.range outs).foldl (fun d j => d.setLe (cell + 2 * j) 2 (bf16Encode (v j))) d
  else
    match d.scaleEntry base (fwdOutScale t.arg) with
    | none => d
    | some e =>
      let f := (Fmt.ofCode e.format).getD .mxfp4
      (List.range ((outs + 31) / 32)).foldl (fun d b =>
        let vs := (List.range (min 32 (outs - 32 * b))).map (fun k => v (32 * b + k))
        let (q, d1) := d.quantiseUnder f e gen1 t.home t.tag vs (fun k => token * outs + 32 * b + k)
        d1.writeRecord (cell + b * f.recordBytes) f q.scale q.codes) d

/-- R128, R155, R305: output `j` of a token in Gen-1 exact mode: the product with the working copy, block scales applied
per block, summed in groups of 16 rows, each rounded to FP32. DESIGN CHOICE (log entry 51): each rounded group is multiplied by
rne32(S_x × S_w) and rounded again before it is added. -/
def Dev.fwdGen1 (d : Dev) (base : Nat) (t : TaskRun) (token j : Nat) (acc0 : Fp) : Fp :=
  let fx := d.fwdInFmt base t.arg
  let s := fun i => fp32Decode (((d.scaleEntry base i).map ScaleEntry.scale).getD 0)
  let f := Fp.mul (s (fwdXScale t.arg)) (s (fwdWScale t.arg))
  t.arrays.foldl (fun acc l =>
    (List.range ((l.rowCount + 15) / 16)).foldl (fun acc g =>
      let rows := (List.range (min 16 (l.rowCount - 16 * g))).map (fun i => l.startRow + 16 * g + i)
      let y := rows.foldl (fun (a : Fp) row =>
        let x := d.fwdInput t.home t.arg fx token l.rowTile row
        match d.wcElem ⟨fwdTensor t.arg, l.rowTile, fwdColTile t.arg⟩ row j with
        | some (fw, q, c) => Fp.addExact a (Fp.mulExact (elemValue fx x.1 1 x.2) (elemValue fw c 1 q))
        | none => a) (.fin false 0)
      Fp.add acc (Fp.mul (fp32Round y) f)) acc) acc0

/-- R111, R146, R157: a finished FWD task writes its outputs. -/
def Dev.fwdWrite (d : Dev) (gen1 : Bool) (t : TaskRun) : Dev :=
  let base := d.runBase
  let outs := d.boundOutputs (fwdTensor t.arg) (fwdColTile t.arg)
  (List.range (fwdTokens t.arg)).foldl (fun d token =>
    let cell := fwdOutputCell t.home t.arg token
    let acc0 := fun j => if fwdAccIn t.arg then fp32Decode (d.le (cell + 4 * j) 4) else .fin false 0
    let v := fun j => if t.nanInput then .nan
      else if gen1 then d.fwdGen1 base t token j (acc0 j) else t.fwdSum token j (acc0 j)
    d.writeToken base gen1 t token outs v) d

/-- Passes of a FWD task in Gen-1 exact mode (R305). -/
def Dev.fwdPasses (d : Dev) (t : TaskRun) : Nat :=
  t.arrays.foldl (fun s l => s + (fwdTokens t.arg + 63) / 64
    * ((d.boundOutputs (fwdTensor t.arg) (fwdColTile t.arg) + 63) / 64) * ((l.rowCount + 63) / 64)) 0

/-- In Gen-1 exact mode an input block with scale code 0xFF makes every output NaN too (R146). -/
def Dev.fwdHasNan (d : Dev) (t : TaskRun) : Bool :=
  (List.range (fwdTokens t.arg)).any (fun token => t.arrays.any (fun l => (List.range l.rowCount).any (fun k =>
    (d.fwdInput t.home t.arg (d.fwdInFmt d.runBase t.arg) token l.rowTile (l.startRow + k)).1 == 0xFF)))

end Sys2Proof.Machine
end

