-- ==== Sys2Proof/Machine/Products.lean ====
section
/-! DEFINITION. The digital matrix array (08): checks of products, tile passes, results. -/
namespace Sys2Proof.Machine

/-! ### Checks (R287) -/

/-- Formats that a product operand may have. -/
def productFmt (c : Nat) : Option Fmt := if 1 ≤ c ∧ c ≤ 8 then Fmt.ofCode c else none

/-- Check 1 of R287 on one product; `tail` = it is the last of the task or the second of a pair. -/
def Dev.productOk (d : Dev) (base : Nat) (p : Product) (tail : Bool) : Bool :=
  match productFmt p.fmtA, productFmt p.fmtB with
  | some fa, some fb =>
    decide (bits p.w0 63 48 = 0) && decide (bits p.w1 47 32 = 0) && decide (bits p.w1 13 0 = 0)
      && !(p.axisA && decide (fa = .bf16)) && !(p.axisB && decide (fb = .bf16)) && decide (p.acc < 2)
      && !(decide (p.acc = 1) && (!fa.narrowInt || !fb.narrowInt || p.axisA || p.axisB))
      && decide (p.out ≠ 3) && !(decide (p.out = 2) && (decide (p.outAxis = 0) || p.accIn))
      && (decide (p.out = 2) || (decide (p.outAxis = 0) && decide (p.outScale = 0)))
      && !(p.pair && tail)
      && (decide (p.out ≠ 2) || ((d.scaleEntry base p.outScale).isSome
          && (decide (p.outAxis ≠ 3) || (d.scaleEntry base (p.outScale + 1)).isSome)))
  | _, _ => false

/-- R343: the address words of a product: Grain or Peck SRAM; C2 is zero unless a tensor with blocks along m is written. -/
def Product.addressesOk (p : Product) : Bool :=
  awSram p.a && awSram p.b && awSram p.c
    && (if decide (p.out = 2) && bit p.outAxis 1 then awSram p.c2 else decide (p.c2 = 0))

/-- Check 1 of R287 on a PRODUCT argument block, with the rules of R343 on its counts. -/
def Dev.productsOk (d : Dev) (base : Nat) (a : List Nat) : Bool :=
  let n := productCount a
  decide (n < 3) && decide (nth a 0 < 4)
    && ((productsOf a).zipIdx).all (fun (p, i) => d.productOk base p (decide (i + 1 = n)))
    && (decide (n ≠ 2) || ((productsOf a).head?.map Product.pair).getD false)

/-- R287: the status a PRODUCT task completes with before any pass, if any. -/
def Dev.productCheck (d : Dev) (base : Nat) (a : List Nat) : Option Status :=
  if !d.productsOk base a then some .badArg
  else if (productsOf a).all (fun p => !p.works) then some .okZeroWork
  else none

/-! ### Tile passes (R111, R282, R294, R295) -/

/-- The tile of a product: first row and column. -/
def Product.tileAt (p : Product) (t : Nat) : Nat × Nat :=
  let nt := (p.n + 63) / 64
  (64 * (t / nt), 64 * (t % nt))

/-- An element of A at row `m` and of B at column `n`, reduction index `k`. -/
def Dev.elemA (d : Dev) (home : Nat) (p : Product) (m k : Nat) : Nat × Nat :=
  d.lineElem (spaceCell home (awSpace p.a) (awAddr p.a)) ((productFmt p.fmtA).getD .bf16) p.axisA p.k m k
def Dev.elemB (d : Dev) (home : Nat) (p : Product) (n k : Nat) : Nat × Nat :=
  d.lineElem (spaceCell home (awSpace p.b) (awAddr p.b)) ((productFmt p.fmtB).getD .bf16) p.axisB p.k n k

/-- Cell of result (m, n) of an FP32 or BF16 result. -/
def Product.resultCell (p : Product) (home m n : Nat) : Nat :=
  spaceCell home (awSpace p.c) (awAddr p.c) + (m * p.n + n) * (if p.out = 1 then 2 else 4)

/-- The exact sum of the products over reduction indices `ks` at (m, n), rounded once to FP32. -/
def Dev.exactSum (d : Dev) (home : Nat) (p : Product) (m n : Nat) (ks : List Nat) : Fp :=
  let fa := (productFmt p.fmtA).getD .bf16
  let fb := (productFmt p.fmtB).getD .bf16
  fp32Round (ks.foldl (fun acc k =>
    Fp.addExact acc (Fp.mulExact (lineValue fa 1 (d.elemA home p m k)) (lineValue fb 1 (d.elemB home p n k))))
    (.fin false 0))

/-- R111, R128: one chunk added to an FP32 accumulator: 64 at once, or four groups of 16 in Gen-1 exact mode. -/
def Dev.fpChunk (d : Dev) (home : Nat) (p : Product) (gen1 : Bool) (m n c : Nat) (acc : Fp) : Fp :=
  let len := min 64 (p.k - 64 * c)
  let ks := (List.range len).map (fun i => 64 * c + i)
  if gen1 then
    (List.range ((len + 15) / 16)).foldl (fun acc g => Fp.add acc (d.exactSum home p m n ((ks.drop (16 * g)).take 16))) acc
  else Fp.add acc (d.exactSum home p m n ks)

/-- Saturation of the 24-bit accumulator (R113). -/
def sat24 (x : Int) : Int := max (-8388607) (min 8388607 x)

/-- R112, R113: one chunk added to a 24-bit accumulator, product by product; true where it saturated. -/
def Dev.intChunk (d : Dev) (home : Nat) (p : Product) (m n c : Nat) (acc : Int) : Int × Bool :=
  let fa := (productFmt p.fmtA).getD .int4
  let fb := (productFmt p.fmtB).getD .int4
  (List.range (min 64 (p.k - 64 * c))).foldl (fun (s : Int × Bool) i =>
    let k := 64 * c + i
    let x := (elemDecode fa (d.elemA home p m k).2).val.num * (elemDecode fb (d.elemB home p n k).2).val.num
    (sat24 (s.1 + x), s.2 || decide (sat24 (s.1 + x) ≠ s.1 + x))) (acc, false)

/-- R112: each operand line of a product carries one block scale along the whole reduction. -/
def Dev.oneScaleAll (d : Dev) (home : Nat) (p : Product) : Bool :=
  (List.range p.k).all (fun k =>
    (List.range p.m).all (fun m => (d.elemA home p m k).1 == (d.elemA home p m 0).1)
    && (List.range p.n).all (fun n => (d.elemB home p n k).1 == (d.elemB home p n 0).1))

/-- R112: each operand line of the tile carries one block scale along the chunk, that of its first block. -/
def Dev.oneScale (d : Dev) (home : Nat) (p : Product) (m0 n0 c : Nat) : Bool :=
  (List.range (min 64 (p.k - 64 * c))).all (fun i =>
    (List.range (min 64 (p.m - m0))).all (fun m =>
      (d.elemA home p (m0 + m) (64 * c + i)).1 == (d.elemA home p (m0 + m) 0).1)
    && (List.range (min 64 (p.n - n0))).all (fun n =>
      (d.elemB home p (n0 + n) (64 * c + i)).1 == (d.elemB home p (n0 + n) 0).1))

/-- The value of a finished accumulator at (m, n). -/
def Dev.accValue (d : Dev) (home : Nat) (p : Product) (m n : Nat) (acc : Int) : Fp :=
  if p.acc = 1 then
    let ca := (d.elemA home p m 0).1
    let cb := (d.elemB home p n 0).1
    if ca = 0xFF ∨ cb = 0xFF then .nan else fp32Round (Fp.ofRat ((acc : Rat) * scaleVal ca * scaleVal cb))
  else fp32Decode acc.toNat

/-- R293: writes a finished output tile of a product with `before` results of its task before it (R101). -/
def Dev.writeTile (d : Dev) (base : Nat) (gen1 : Bool) (t : TaskRun) (p : Product) (before m0 n0 : Nat)
    (v : Nat → Nat → Fp) : Dev :=
  let rows := min 64 (p.m - m0)
  let cols := min 64 (p.n - n0)
  if p.out = 2 then
    let along := bit p.outAxis 0
    let across := bit p.outAxis 1
    let d1 := match d.scaleEntry base p.outScale with
      | some e =>
        if along then
          let f := (Fmt.ofCode e.format).getD .mxfp4
          (List.range rows).foldl (fun (d : Dev) m => (List.range ((cols + 31) / 32)).foldl (fun (d : Dev) b =>
            let vs := (List.range (min 32 (cols - 32 * b))).map (fun j => v (m0 + m) (n0 + 32 * b + j))
            let (q, d') := d.quantiseUnder f e gen1 t.home t.tag vs (fun j => before + (m0 + m) * p.n + n0 + 32 * b + j)
            d'.writeRecordPart (spaceCell t.home (awSpace p.c) (awAddr p.c)
              + ((m0 + m) * ((p.n + 31) / 32) + n0 / 32 + b) * f.recordBytes) f q.scale q.codes) d) d
        else d
      | none => d
    match d1.scaleEntry base (p.outScale + b2n along) with
    | some e =>
      if across then
        let f := (Fmt.ofCode e.format).getD .mxfp4
        (List.range ((rows + 31) / 32)).foldl (fun (d : Dev) b => (List.range cols).foldl (fun (d : Dev) n =>
          let vs := (List.range (min 32 (rows - 32 * b))).map (fun j => v (m0 + 32 * b + j) (n0 + n))
          let (q, d') := d.quantiseUnder f e gen1 t.home t.tag vs (fun j => before + (m0 + 32 * b + j) * p.n + n0 + n)
          d'.writeRecordPart (spaceCell t.home (awSpace p.c2) (awAddr p.c2)
            + ((m0 / 32 + b) * p.n + n0 + n) * f.recordBytes) f q.scale q.codes) d) d1
      else d1
    | none => d1
  else
    (List.range rows).foldl (fun d m => (List.range cols).foldl (fun d n =>
      let x := v (m0 + m) (n0 + n)
      let cell := p.resultCell t.home (m0 + m) (n0 + n)
      if p.out = 1 then d.setLe cell 2 (bf16Encode x) else d.setLe cell 4 (fp32Encode x)) d) d

/-- Both products of the pair are finished. -/
def TaskRun.productsDone (t : TaskRun) : Bool :=
  let ps := productsOf t.arg
  decide (((ps[0]?).map Product.tiles).getD 0 ≤ t.tile) && decide (((ps[1]?).map Product.tiles).getD 0 ≤ t.tile2)

/-- The side whose tile is next: the one in progress, or the first that has tiles left. -/
def TaskRun.nextSide (t : TaskRun) : Nat :=
  let ps := productsOf t.arg
  let left0 := decide (t.tile < ((ps[0]?).map Product.tiles).getD 0)
  let left1 := decide (t.tile2 < ((ps[1]?).map Product.tiles).getD 0)
  if t.side = 0 then (if left0 then 0 else 1) else if left1 then 1 else 0

/-- One tile pass of product `p` of task `i`: output tile `tl`, chunk `c`, accumulators `acc0` before it. Before the first pass of a task
the scales of all its integer products are looked at, so that a task that ends for them has written nothing (R112). -/
def Dev.productPass (d : Dev) (i : Nat) (t : TaskRun) (gen1 : Bool) (p : Product) (side tl : Nat) : Dev :=
  let base := d.runBase
  let (m0, n0) := p.tileAt tl
  let before := if side = 1 then ((productsOf t.arg)[0]?.map (fun q => q.m * q.n)).getD 0 else 0
  let c := t.chunk
  let rows := min 64 (p.m - m0)
  let cols := min 64 (p.n - n0)
  let first := decide (t.tile = 0) && decide (t.tile2 = 0) && decide (c = 0)
  if (first && (productsOf t.arg).any (fun q => q.works && decide (q.acc = 1) && !d.oneScaleAll t.home q))
      || (p.acc = 1 && !d.oneScale t.home p m0 n0 c) then d.modTask i (fun t => { t with ending := some .badArg })
  else
    let start := fun m n => if c = 0 then
        (if p.accIn then
          -- a BF16 result is the upper half of an FP32 value (R103)
          let w := if p.out = 1 then 2 ^ 16 * d.le (p.resultCell t.home (m0 + m) (n0 + n)) 2
            else d.le (p.resultCell t.home (m0 + m) (n0 + n)) 4
          (if p.acc = 1 then sat24 (Config.accStart w).toInt else Int.ofNat w) else 0)
      else t.acc.getD (m * 64 + n) 0
    let cells := (List.range 64).flatMap (fun m => (List.range 64).map (fun n =>
      if m < rows ∧ n < cols then
        if p.acc = 1 then d.intChunk t.home p (m0 + m) (n0 + n) c (start m n)
        else (Int.ofNat (fp32Encode (d.fpChunk t.home p gen1 (m0 + m) (n0 + n) c (fp32Decode (start m n).toNat))), false)
      else (0, false)))
    let acc := cells.map (·.1)
    let sat := cells.any (·.2)
    let d1 := d.modTask i (fun t => { t with saturated := t.saturated || sat })
    if c + 1 < p.chunks then d1.modTask i (fun t => { t with acc := acc, chunk := c + 1, side := side })
    else
      let d2 := d1.writeTile base gen1 t p before m0 n0 (fun m n => d.accValue t.home p m n (acc.getD ((m - m0) * 64 + (n - n0)) 0))
      d2.modTask i (fun t =>
        { t with acc := [], chunk := 0, side := 1 - side
                 tile := if side = 0 then t.tile + 1 else t.tile
                 tile2 := if side = 1 then t.tile2 + 1 else t.tile2 })

/-- The class 3 task on a Grain's digital matrix array (R301, R305). -/
def Dev.class3 (d : Dev) (g : Nat) : Option (Nat × TaskRun) :=
  d.attempt.bind (fun a => a.tasks.find? (fun e => decide (e.2.phase = .running) && decide (e.2.grain = g)
    && (e.2.kind == 1 || (e.2.kind == 0 && a.gen1))))

/-- R444: the sampled task has accumulated the last row group of the tile, or has completed. -/
def TaskRun.sampleReady (t : TaskRun) (s : WatchSample) : Bool :=
  decide (t.phase = .done) || (decide (t.phase = .running) && !t.arrays.isEmpty
    && (List.range (min 64 (fwdTokens t.arg))).all (fun n =>
      (s.groups t).all (fun (e, row) => (Tbl.find t.terms (groupKey n e row)).isSome)))

/-- R301: a wide recomputation waits for the digital matrix array of a Grain (class 2). -/
def Dev.class2Waits (d : Dev) (g : Nat) : Bool :=
  match d.attempt with
  | some a => a.samples.any (fun e => decide (grainOf (e.1 * 128 + e.2.index) = g) && !e.2.resolved
      && ((d.task e.2.task).map (fun t => t.sampleReady e.2)).getD false)
  | none => false

/-- R282, R294, R295, R301: the digital matrix array of a Grain completes the next tile pass of its class 3 task; fallback
row groups go first, then a wide recomputation. -/
def Dev.tilePass (d : Dev) (g : Nat) : Dev :=
  match d.class3 g, d.attempt with
  | some (i, t), some a =>
    if t.ending.isSome || !(Tbl.get [] d.fbQueue g).isEmpty || d.class2Waits g then d
    else if t.kind = 0 then
      if t.tile < d.fwdPasses t then
        (d.modTask i (fun t => { t with tile := t.tile + 1 })).countWrap DMX_PASS_CNT_COUNT g 0
      else d
    else if t.productsDone then d
    else
      let side := t.nextSide
      match (productsOf t.arg)[side]? with
      | none => d
      | some p =>
        let d1 := d.productPass i t a.gen1 p side (if side = 0 then t.tile else t.tile2)
        let d2 := (d1.countWrap DMX_PASS_CNT_COUNT g 0).wr DMX_STATUS_PAIR_SIDE g 0 0 side
        if p.unaligned then d2.count DMX_UNALIGNED_CNT_COUNT g 0 else d2
  | _, _ => d

end Sys2Proof.Machine
end

