-- ==== Sys2Proof/Machine/UpdateRule.lean ====
section
/-! DEFINITION. The arithmetic of the parameter update U1 to U4 (R424 to R427): a pure function of masters, momentum,
votes, mask and hyperparameters, used by the update, the vector engine, replay and reconstruction. -/
namespace Sys2Proof.Machine

/-- What an update takes besides its data: rule 1 to 4, contributors, hyperparameters (FP32 words), the bias-correction
count, the step and the modes. -/
structure UpdRule where
  rule   : Nat
  n      : Nat
  eta    : Nat
  lambda : Nat
  beta   : Nat
  theta  : Nat
  tbc    : Nat
  step   : Nat
  sr     : Bool
  gen1   : Bool
  deriving DecidableEq, Repr

/-- One parameter: its vote sum, its M32 master, whether it is frozen. -/
structure UpdElem where
  vote   : Int
  master : Nat
  frozen : Bool
  deriving DecidableEq, Repr

/-- A momentum block: scale code and 32 element codes (R109). -/
structure MomBlock where
  scale : Nat
  codes : List Nat
  deriving DecidableEq, Repr

/-- What a run of parameters leads to: new masters, new momentum, the counts, and the two sums of R427. -/
structure UpdResult where
  masters   : List Nat
  momentum  : List MomBlock
  momSats   : Nat := 0
  nonfinite : Nat := 0
  frozen    : Nat := 0
  u2        : Fp := .fin false 0
  w2        : Fp := .fin false 0
  deriving DecidableEq, Repr

/-- R410: a finite FP32 word. -/
def finiteWord (w : Nat) : Bool := (fp32Decode w).isFinite
/-- A finite word that is not negative (−0 counts as zero). -/
def nonNegWord (w : Nat) : Bool := finiteWord w && decide (0 ≤ (fp32Decode w).val)

/-- R410: the hyperparameter limits of a rule. -/
def hyperOk (rule eta lambda beta theta : Nat) : Bool :=
  finiteWord eta && finiteWord lambda && finiteWord beta && finiteWord theta && nonNegWord eta
    && (decide (rule = 1) || nonNegWord lambda)
    && (!(decide (rule = 2 ∨ rule = 3)) || (nonNegWord beta && decide ((fp32Decode beta).val < 1)))
    && (decide (rule ≠ 4) || (nonNegWord theta && decide ((fp32Decode theta).val ≤ 1)))

/-- R426: the bias-correction count of a step. -/
def biasCount (committed bcBase : Nat) : Nat :=
  let k := (committed + 2 ^ 32 - bcBase % 2 ^ 32) % 2 ^ 32
  if 1 ≤ k ∧ k ≤ 65535 then k else 65535

/-- R425: the sign of a value; that of a NaN is the word `unstated`. -/
def sgnOf (unstated : Nat) (v : Fp) : Fp :=
  match v with
  | .nan => fp32Decode unstated
  | .inf n => .fin n 1
  | .fin n m => if m = 0 then .fin false 0 else .fin n 1

/-- An integer as an FP32 value. -/
def fpInt (x : Int) : Fp := fp32Round (Fp.ofRat (x : Rat))

/-- R426: c of U3: rne32(1 − b), b = BETA^T_BC rounded once. -/
def biasFactor (r : UpdRule) : Fp :=
  let b := fp32Round (Fp.ofRat ((fp32Decode r.beta).val ^ r.tbc))
  Fp.sub (.fin false 1) b

/-- R426: the new momentum value of a parameter before requantisation. -/
def momValue (r : UpdRule) (m : Fp) (v : Int) : Fp :=
  let beta := fp32Decode r.beta
  Fp.add (Fp.mul beta m) (Fp.mul (Fp.sub (.fin false 1) beta) (Fp.div (fpInt v) (fpInt r.n)))

/-- R109, R424, R426: a momentum block after the update of its parameters; `p0` is the first parameter's index. -/
def momUpdate (r : UpdRule) (p0 : Nat) (b : MomBlock) (es : List UpdElem) : MomBlock × Nat :=
  let mf := (es.zipIdx).map (fun (e, i) => momValue r (elemValue .mom8 b.scale 1 (nth b.codes i)) e.vote)
  let mode : RoundMode := if r.sr then .sr else .rne
  let rs := fun i => (Config.srMomentum r.step (p0 + i)).toNat
  if es.all (·.frozen) then (b, 0)
  else if es.any (·.frozen) then
    let q := quantiseWith .mom8 mode 1 b.scale mf rs
    let sats := ((mf.zip es).zipIdx).foldl (fun n ((v, e), i) =>
      if e.frozen || !v.isFinite then n else n + b2n (elemEncode .mom8 mode (rs i) (v.val / scaleVal b.scale)).2) 0
    (⟨b.scale, ((q.codes.zip mf).zip es).zipIdx.map (fun (((c, v), e), i) =>
      if e.frozen then nth b.codes i
      else if v.isFinite then c
      else legalCode .mom8 (Config.momentumCode r.step (p0 + i)).toNat)⟩, sats)
  else
    let q := quantiseBlock .mom8 mode 1 mf rs
    (⟨q.scale, q.codes⟩, 0)

/-- R426: the update term of parameter `p`, or none where the rule leaves the master unchanged; `m` is its new momentum. -/
def updTerm (r : UpdRule) (c : Fp) (p : Nat) (v : Int) (m w32 : Fp) : Option Fp :=
  let sgn := sgnOf (Config.sgnNan r.step p).toNat
  let eta := fp32Decode r.eta
  let decay := Fp.mul (Fp.mul eta (fp32Decode r.lambda)) w32
  if r.rule = 1 then (if v = 0 then none else some (Fp.mul eta (sgn (fpInt v))))
  else if r.rule = 2 then some (Fp.add (Fp.mul eta (sgn m)) decay)
  else if r.rule = 3 then some (Fp.add (Fp.mul eta (Fp.div m c)) decay)
  else if (Fp.mul (fp32Decode r.theta) (fpInt r.n)).lt (fpInt v.natAbs)
      || decide ((Fp.mul (fp32Decode r.theta) (fpInt r.n)).val = (v.natAbs : Rat)) then
    some (Fp.add (Fp.mul eta (sgn (fpInt v))) decay)
  else none

/-- R106, R107, R128: a master after subtracting a finite term. -/
def masterStep (gen1 : Bool) (w : Nat) (u : Rat) : Nat :=
  if gen1 then m32EncodeGen1 (m32Val w - u) else m32Encode (m32Val w - u)

/-- R424, R426, R427: parameter `p` with its new momentum value, added to the result so far. -/
def updElem (r : UpdRule) (c : Fp) (acc : UpdResult) (p : Nat) (e : UpdElem) (m : Fp) : UpdResult :=
  if e.frozen then { acc with masters := acc.masters ++ [e.master], frozen := acc.frozen + 1 }
  else
    let w32 := fp32Round (elemDecode .m32 e.master)
    let acc1 := { acc with w2 := Fp.add acc.w2 (Fp.mul w32 w32) }
    match updTerm r c p e.vote m w32 with
    | none => { acc1 with masters := acc1.masters ++ [e.master] }
    | some u =>
      if u.isFinite then
        { acc1 with masters := acc1.masters ++ [masterStep r.gen1 e.master u.val], u2 := Fp.add acc1.u2 (Fp.mul u u) }
      else { acc1 with masters := acc1.masters ++ [e.master], nonfinite := acc1.nonfinite + 1 }

/-- R426: a momentum block of parameters (32, or fewer at the end). -/
def updBlock (r : UpdRule) (c : Fp) (acc : UpdResult) (p0 : Nat) (es : List UpdElem) (b : MomBlock) : UpdResult :=
  let (b', sats) := if r.rule = 2 ∨ r.rule = 3 then momUpdate r p0 b es else (b, 0)
  let acc1 := (es.zipIdx).foldl (fun a (e, i) => updElem r c a (p0 + i) e (elemValue .mom8 b'.scale 1 (nth b'.codes i))) acc
  { acc1 with momentum := acc1.momentum ++ [b'], momSats := acc1.momSats + sats }

/-- R426: the update of a run of parameters that starts at parameter `p0`, block by block. -/
def updRun (r : UpdRule) (p0 : Nat) (es : List UpdElem) (moms : List MomBlock) : UpdResult :=
  (List.range ((es.length + 31) / 32)).foldl (fun acc i =>
    updBlock r (biasFactor r) acc (p0 + 32 * i) ((es.drop (32 * i)).take 32) (moms.getD i ⟨0, []⟩)) ⟨[], [], 0, 0, 0, .fin false 0, .fin false 0⟩

/-- R102, R118, R427: the working copy of a run of masters under a scale table entry: one quantised block per 32, a
segment of 128 sharing its code where SEG_SHARED is set. DESIGN CHOICE (log entry 107): under a FORMAT that is no block format the
blocks are quantised to that element format with the scale rule of R97. -/
def wcBlocks (e : ScaleEntry) (masters : List Nat) : List QBlock :=
  let f := (Fmt.ofCode e.format).getD .mxfp4
  let vs := masters.map (fun w => fp32Round (elemDecode .m32 w))
  (List.range ((vs.length + 31) / 32)).map (fun i =>
    let blk := (vs.drop (32 * i)).take 32
    if e.shared then
      match maxMag ((vs.drop (128 * (i / 4))).take 128) with
      | some m => quantiseWith f .rne e.s (scaleCode f (m / e.s)) blk (fun _ => 0)
      | none => ⟨0xFF, blk.map (fun _ => 0), 0⟩
    else quantiseBlock f .rne e.s blk (fun _ => 0))

/-- R125: the statistics of the working copy's quantisation. -/
def wcAmax (e : ScaleEntry) (masters : List Nat) : Fp :=
  blockAmax e.s (masters.map (fun w => fp32Round (elemDecode .m32 w)))

end Sys2Proof.Machine
end

