-- ==== Sys2Proof/Machine/Vector.lean ====
section
/-! DEFINITION. The vector engine (09) and the update family of its descriptors (R428, R429). -/
namespace Sys2Proof.Machine

/-! ### Descriptor fields (R317) -/

def vOp (v : List Nat) : Nat := bits (nth v 0) 63 60
def vCond (v : List Nat) : Nat := bits (nth v 0) 59 57
def vBf16 (v : List Nat) : Bool := bit (nth v 0) 56
/-- Format code of operand `k` (0 A, 1 B, 2 C, 3 D). -/
def vFmt (v : List Nat) (k : Nat) : Nat := bits (nth v 0) (55 - 4 * k) (52 - 4 * k)
def vNeg (v : List Nat) (k : Nat) : Bool := bit (nth v 0) (39 - k)
/-- IZ of an operand; the destination has none. -/
def vIz (v : List Nat) (k : Nat) : Bool := decide (k < 3) && bit (nth v 0) (35 - k)
def vCount0 (v : List Nat) : Nat := bits (nth v 0) 23 0
def vCount1 (v : List Nat) : Nat := bits (nth v 1) 15 0
def vCount2 (v : List Nat) : Nat := bits (nth v 1) 31 16
def vEven (v : List Nat) (k : Nat) : Nat := nth v (2 + 2 * k)
def vOdd (v : List Nat) (k : Nat) : Nat := nth v (3 + 2 * k)
def vScale (v : List Nat) (k : Nat) : Nat := bits (vEven v k) 63 48
def vStride1 (v : List Nat) (k : Nat) : Int := signed 32 (vOdd v k)
def vStride2 (v : List Nat) (k : Nat) : Int := signed 32 (vOdd v k / 2 ^ 32)

/-- Operands an OP uses (R312): D always, then A and B, C for FMA and SEL. -/
def vUses (op k : Nat) : Bool := k == 3 || k < 2 || (k == 2 && (op == 2 || op == 4))

/-- Bytes of an element step: a record step for block formats is handled apart. -/
def vElemBytes (f : Fmt) : Nat := f.bits / 8

/-- Byte offset of the level-0 run of iteration (i1, i2) of operand `k`. -/
def vRun (v : List Nat) (k i1 i2 : Nat) : Int :=
  (bits (vEven v k) 22 0 : Int) + vStride1 v k * (i1 : Int) + vStride2 v k * (i2 : Int)

/-- SRAM size of an operand's SPACE bit. -/
def vSpace (v : List Nat) (k : Nat) : Nat := if bit (vEven v k) 31 then 2 ^ 23 else 2 ^ 21

/-- R321: every byte an operand touches lies in its SRAM: the extremes over the strides. -/
def vInside (v : List Nat) (k : Nat) (f : Fmt) : Bool :=
  let ext := fun (s : Int) (n : Nat) => (min 0 (s * ((n : Int) - 1)), max 0 (s * ((n : Int) - 1)))
  let (lo1, hi1) := ext (vStride1 v k) (vCount1 v)
  let (lo2, hi2) := ext (vStride2 v k) (vCount2 v)
  let base : Int := (bits (vEven v k) 22 0 : Nat)
  let run : Int := (if vIz v k then vElemBytes f else f.lineBytes (vCount0 v) : Nat)
  decide (vCount0 v = 0 ∨ vCount1 v = 0 ∨ vCount2 v = 0)
    || (decide (0 ≤ base + lo1 + lo2) && decide (base + hi1 + hi2 + run ≤ (vSpace v k : Int)))

/-- R321: alignment of every address: records on 4 bytes, plain elements on their size. A stride moves no address of a level that runs at
most once. -/
def vAligned (v : List Nat) (k : Nat) (f : Fmt) : Bool :=
  let al := if f.blocked then 4 else vElemBytes f
  decide (bits (vEven v k) 22 0 % al = 0) && (decide (vCount1 v ≤ 1) || decide (vStride1 v k % (al : Int) = 0))
    && (decide (vCount2 v ≤ 1) || decide (vStride2 v k % (al : Int) = 0))

/-- R321 on one used operand. -/
def Dev.vOperandOk (d : Dev) (base : Nat) (v : List Nat) (k : Nat) : Bool :=
  match Fmt.ofCode (vFmt v k) with
  | none => false
  | some f =>
    decide (f ≠ .m32) && decide (f ≠ .mom8) && (!vBf16 v || decide (f = .bf16))
      && (if f.blocked then
          !vIz v k && decide (vStride1 v k % (f.recordBytes : Int) = 0) && decide (vStride2 v k % (f.recordBytes : Int) = 0)
            && (d.scaleEntry base (vScale v k)).isSome
        else decide (vScale v k = 0))
      && decide (bits (vEven v k) 47 32 = 0) && decide (bits (vEven v k) 30 23 = 0)
      && vInside v k f && vAligned v k f

/-- R429: COUNT0 of an update-family descriptor is whole blocks or segments, or its last one ends the tensor. DESIGN CHOICE (log entry
114): the descriptor does not name its tensor, so one of the program's exchange table with its WC_SCALE is taken, and where there is none
any count may end one. -/
def Dev.updCountOk (d : Dev) (base scale first cnt gran : Nat) : Bool :=
  let ts := ((d.programList.find? (fun p => decide (p.base = base))).bind Program.xch).elim []
    (fun x => x.tensors.filter (fun t => t.wcScale == scale))
  decide (cnt % gran = 0) || ts.isEmpty || ts.any (fun t => decide (first + cnt = t.p))

/-- R429: check 1 of an update-family descriptor. -/
def Dev.updDescOk (d : Dev) (base : Nat) (gen1 : Bool) (v : List Nat) : Bool :=
  let rule := vOp v - 7
  let mom := decide (rule = 2 ∨ rule = 3)
  let cnt := vCount0 v
  let n := bits (nth v 1) 63 48
  let sc := d.scaleEntry base (bits (nth v 1) 47 32)
  let gran := if (sc.map ScaleEntry.shared).getD false then 128 else 32
  let aw := fun w => decide (bits w 63 32 = 0) && decide (bits w 30 23 = 0)
  -- R321: the extent inside its SRAM, the address aligned
  let room := fun w (len al : Nat) => decide (bits w 22 0 % al = 0) && decide (bits w 22 0 + len ≤ if bit w 31 then 2 ^ 23 else 2 ^ 21)
  let freeze := bit (nth v 0) 38
  let w5 := nth v 5
  decide (bits (nth v 0) 59 57 = 0) && !vBf16 v && decide (bits (nth v 0) 55 40 = 0) && decide (bits (nth v 0) 37 24 = 0)
    && decide (n ≤ 4096) && hyperOk rule (bits (nth v 2) 63 32) (bits (nth v 2) 31 0) (bits (nth v 3) 63 32) (bits (nth v 3) 31 0)
    && !(decide (rule = 3) && decide (bits (nth v 4) 63 48 = 0)) && decide (bits (nth v 4) 47 40 = 0)
    && decide (bits w5 62 55 = 0) && decide (bits w5 30 23 = 0)
    && (mom || decide (nth v 7 = 0)) && (freeze || decide (nth v 8 = 0))
    && decide (bits (nth v 4) 39 0 % gran = 0) && d.updCountOk base (bits (nth v 1) 47 32) (bits (nth v 4) 39 0) cnt gran
    && !(gen1 && bit (nth v 0) 39) && sc.isSome
    && aw (nth v 6) && aw (nth v 7) && aw (nth v 8) && aw (nth v 9)
    && room (bits w5 31 0) (2 * cnt) 2 && room (nth v 6) (4 * cnt) 4
    && (!mom || room (nth v 7) ((cnt + 31) / 32 * 36) 4) && (!freeze || room (nth v 8) ((cnt + 7) / 8) 1)
    && decide (bits w5 54 32 % 4 = 0) && decide (bits w5 54 32 + 8 ≤ if bit w5 63 then 2 ^ 23 else 2 ^ 21)
    && room (nth v 9) (((Fmt.ofCode ((sc.map ScaleEntry.format).getD 5)).getD .mxfp4).lineBytes cnt) 4

/-- R321, R325: check 1 on one descriptor. -/
def Dev.vecOk (d : Dev) (base : Nat) (gen1 : Bool) (v : List Nat) : Bool :=
  let op := vOp v
  if 8 ≤ op ∧ op ≤ 0xB then d.updDescOk base gen1 v
  else
    decide (op < 7) && (if op = 3 then decide (vCond v ≠ 7) else decide (vCond v = 0))
      && !bit (nth v 0) 36 && !bit (nth v 0) 32 && decide (bits (nth v 0) 31 24 = 0) && decide (bits (nth v 1) 63 32 = 0)
      && (List.range 4).all (fun k =>
        if vUses op k then d.vOperandOk base v k
        else decide (vEven v k = 0) && decide (vOdd v k = 0) && decide (vFmt v k = 0))

/-- R321, R325: the status a VECTOR task completes with before any element is read, with the descriptor concerned. -/
def Dev.vecCheck (d : Dev) (base : Nat) (gen1 : Bool) (a : List Nat) : Option (Status × Nat) :=
  let n := vecCount a
  let idx := List.range n
  match (if 16 < n then some 0 else idx.find? (fun i => !d.vecOk base gen1 (vecDesc a i))) with
  | some i => some (.badArg, i)
  | none =>
    match idx.find? (fun i => decide (8 ≤ vOp (vecDesc a i)) && decide (bits (nth (vecDesc a i) 1) 63 48 = 0)) with
    | some i => some (.badLength, i)
    | none =>
      let zero := fun i =>
        let v := vecDesc a i
        decide (vCount0 v = 0) || (decide (vOp v < 8) && (decide (vCount1 v = 0) || decide (vCount2 v = 0)))
      if idx.all zero then some (.okZeroWork, 0) else none

/-! ### Native operations (R312 to R316) -/

/-- R314: the conditions. -/
def condHolds (c : Nat) (a b : Fp) : Bool :=
  if a.isNan || b.isNan then c == 1 || c == 6
  else
    let lt := a.lt b
    let gt := b.lt a
    match c with
    | 0 => !lt && !gt | 1 => lt || gt | 2 => lt | 3 => !gt | 4 => gt | 5 => !lt | _ => false

/-- R316: order with −0 below +0. -/
def fpLess (a b : Fp) : Bool :=
  a.lt b || (!b.lt a && a.isNeg && !b.isNeg)

/-- R312: the exact result of an operation, before its one rounding. -/
def nativeOp (op cond : Nat) (a b c : Fp) : Fp :=
  match op with
  | 0 => Fp.addExact a b
  | 1 => Fp.mulExact a b
  | 2 => Fp.addExact (Fp.mulExact a b) c
  | 3 => if condHolds cond a b then .fin false 1 else .fin false 0
  | 4 => (match c with | .fin _ m => if m = 0 then b else a | _ => a)
  | 5 => if a.isNan || b.isNan then .nan else if fpLess b a then b else a
  | _ => if a.isNan || b.isNan then .nan else if fpLess a b then b else a

/-- Reads element `i0` of operand `k` in iteration (i1, i2), as a value with its NEG applied (R313, R323). -/
def Dev.vRead (d : Dev) (base home : Nat) (v : List Nat) (k i0 i1 i2 : Nat) : Fp :=
  match Fmt.ofCode (vFmt v k) with
  | none => .nan
  | some f =>
    let space := if bit (vEven v k) 31 then 1 else 2
    let cell := spaceCell home space (vRun v k i1 i2).toNat
    let i := if vIz v k then 0 else i0
    let x := if f.blocked then
        elemValue f (d.byte (cell + i / 32 * f.recordBytes)) (((d.scaleEntry base (vScale v k)).map ScaleEntry.s).getD 1)
          (d.recordElem (cell + i / 32 * f.recordBytes) f (i % 32)).2
      else elemDecode f (d.le (cell + i * vElemBytes f) (vElemBytes f))
    -- R312: converted to FP32
    let y := if vBf16 v then x else fp32Round x
    if vNeg v k then y.negate else y

/-- The result of one element, in the lane mode's format. -/
def Dev.vElem (d : Dev) (base home : Nat) (v : List Nat) (i0 i1 i2 : Nat) : Fp :=
  let op := vOp v
  let rd := fun k => if vUses op k then d.vRead base home v k i0 i1 i2 else .fin false 0
  let r := nativeOp op (vCond v) (rd 0) (rd 1) (rd 2)
  if vBf16 v then bf16Decode (bf16Encode r) else fp32Round r

/-- Elements of a task's native descriptors before descriptor `k` (R101). -/
def vecBefore (a : List Nat) (k : Nat) : Nat :=
  (List.range k).foldl (fun n i =>
    let v := vecDesc a i
    if vOp v < 8 then n + vCount0 v * vCount1 v * vCount2 v else n) 0

/-- R319, R324: one vector of a level-0 pass: every element is read before the vector is written. -/
def Dev.vVector (d : Dev) (base : Nat) (t : TaskRun) (v : List Nat) (first len i1 i2 done : Nat) : Dev :=
  let rs := (List.range len).map (fun j => d.vElem base t.home v (first + j) i1 i2)
  let nans := (rs.filter Fp.isNan).length
  let g := t.grain
  let d0 := d.count VEC_NAN_CNT_COUNT g 0 nans
  let cell := spaceCell t.home (if bit (vEven v 3) 31 then 1 else 2) (vRun v 3 i1 i2).toNat
  match Fmt.ofCode (vFmt v 3) with
  | none => d0
  | some f =>
    if f.blocked then
      match d.scaleEntry base (vScale v 3) with
      | none => d0
      | some e =>
        (List.range ((len + 31) / 32)).foldl (fun (d : Dev) b =>
          let vs := (rs.drop (32 * b)).take 32
          let (q, d1) := d.quantiseUnder f e false t.home t.tag vs (fun j => vecBefore t.arg t.vecIndex + done + 32 * b + j)
          d1.writeRecord (cell + (first / 32 + b) * f.recordBytes) f q.scale q.codes) d0
    else
      (rs.zipIdx).foldl (fun (d : Dev) (x, j) =>
        let c := cell + (first + j) * vElemBytes f
        if f = .bf16 then d.setLe c 2 (bf16Encode x) else d.setLe c 4 (fp32Encode x)) d0

/-- Vectors of a level-0 pass of `n` elements: their starts and lengths. -/
def vectorsOf (w n : Nat) : List (Nat × Nat) := (List.range ((n + w - 1) / w)).map (fun i => (i * w, min w (n - i * w)))

/-- R319: a native descriptor over all its iterations. -/
def Dev.vNative (d : Dev) (base : Nat) (t : TaskRun) (v : List Nat) : Dev :=
  let w := if vBf16 v then 128 else 64
  let n0 := vCount0 v
  (List.range (vCount2 v)).foldl (fun (d : Dev) i2 => (List.range (vCount1 v)).foldl (fun (d : Dev) i1 =>
    (vectorsOf w n0).foldl (fun (d : Dev) (f, l) =>
      d.vVector base t v f l i1 i2 ((i2 * vCount1 v + i1) * n0 + f)) d) d) d

/-! ### The update family (R428) -/

/-- The cell of an operand word of an update-family descriptor. -/
def uCell (home w : Nat) : Nat := spaceCell home (if bit w 31 then 1 else 2) (bits w 22 0)

/-- R426 to R428: an update-family descriptor: masters and momentum in place, the working copy's records, the two sums. -/
def Dev.vUpdate (d : Dev) (base : Nat) (gen1 : Bool) (home : Nat) (v : List Nat) : Dev :=
  let cnt := vCount0 v
  let r : UpdRule := {
    rule := vOp v - 7, n := bits (nth v 1) 63 48, eta := bits (nth v 2) 63 32, lambda := bits (nth v 2) 31 0
    beta := bits (nth v 3) 63 32, theta := bits (nth v 3) 31 0, tbc := bits (nth v 4) 63 48
    step := bits (nth v 1) 31 0, sr := bit (nth v 0) 39, gen1 := gen1 }
  let p0 := bits (nth v 4) 39 0
  let mCell := uCell home (nth v 6)
  let es := (List.range cnt).map (fun i => (⟨signed 16 (d.le (uCell home (bits (nth v 5) 31 0) + 2 * i) 2),
    d.le (mCell + 4 * i) 4, bit (nth v 0) 38 && bit (d.byte (uCell home (nth v 8) + i / 8)) (i % 8)⟩ : UpdElem))
  let mom := decide (r.rule = 2 ∨ r.rule = 3)
  let nb := (cnt + 31) / 32
  let moms := if mom then (List.range nb).map (fun b =>
      (⟨d.byte (uCell home (nth v 7) + 36 * b), d.bytes (uCell home (nth v 7) + 36 * b + 4) 32⟩ : MomBlock)) else []
  let res := updRun r p0 es moms
  let d1 := (res.masters.zipIdx).foldl (fun (d : Dev) (w, i) => d.setLe (mCell + 4 * i) 4 w) d
  let d2 := if mom then (res.momentum.zipIdx).foldl (fun (d : Dev) (b, i) =>
      d.writeRecord (uCell home (nth v 7) + 36 * i) .mom8 b.scale b.codes) d1 else d1
  let d3 := match d.scaleEntry base (bits (nth v 1) 47 32) with
    | none => d2
    | some e =>
      let f := (Fmt.ofCode e.format).getD .mxfp4
      let qs : List QBlock := wcBlocks e res.masters
      ((qs.zipIdx).foldl (fun (d : Dev) (x : QBlock × Nat) =>
        d.writeRecord (uCell home (nth v 9) + x.2 * f.recordBytes) f x.1.scale x.1.codes) d2).scaleStats e
        (wcAmax e res.masters) (qs.foldl (fun (s : Nat) (q : QBlock) => s + q.sats) 0)
  let nCell := spaceCell home (if bit (nth v 5) 63 then 1 else 2) (bits (nth v 5) 54 32)
  let d4 := (d3.setLe nCell 4 (fp32Encode res.u2)).setLe (nCell + 4) 4 (fp32Encode res.w2)
  ((d4.count UPD_MOM_SAT_CNT_COUNT 0 0 res.momSats).count UPD_NONFINITE_CNT_COUNT 0 0 res.nonfinite).count
    UPD_FROZEN_CNT_COUNT 0 0 res.frozen

/-- R328: VEC_STATUS shows descriptor `k` of a task as the running one. -/
def Dev.showVector (d : Dev) (g : Nat) (arg : List Nat) (k : Nat) : Dev :=
  let v := vecDesc arg k
  ((d.wr VEC_STATUS_INDEX g 0 0 k).wr VEC_STATUS_OP g 0 0 (vOp v)).wr VEC_STATUS_LANES g 0 0 (b2n (vBf16 v))

/-- R319 to R325: the vector engine of a Grain runs the next descriptor of its task over all its iterations. -/
def Dev.vecDescriptor (d : Dev) (g : Nat) : Dev :=
  match d.attempt.bind (fun a => (a.tasks.find? (fun e => decide (e.2.phase = .running) && decide (e.2.grain = g)
      && e.2.kind == 2)).map (fun e => (a.gen1, e.1, e.2))) with
  | none => d
  | some (gen1, i, t) =>
    if t.ending.isSome || decide (vecCount t.arg ≤ t.vecIndex) then d
    else
      let v := vecDesc t.arg t.vecIndex
      let base := d.runBase
      let d1 := if vOp v < 8 then d.vNative base t v
        else if vCount0 v = 0 then d else d.vUpdate base gen1 t.home v
      let d2 := (d1.countWrap VEC_DESC_CNT_COUNT g 0).modTask i (fun t => { t with vecIndex := t.vecIndex + 1 })
      if t.vecIndex + 1 < vecCount t.arg then d2.showVector g t.arg (t.vecIndex + 1) else d2

end Sys2Proof.Machine
end

