-- ==== Sys2Proof/Machine/Chain.lean ====
section
/-! DEFINITION. Chain programs (10): their checks, units, segments and stream faults. -/
namespace Sys2Proof.Machine

/-! ### Header fields (R359) -/

def chMode (a : List Nat) : Nat := bits (nth a 0) 63 60
def chFmt (a : List Nat) : Nat := bits (nth a 0) 59 56
def chSrcSpace (a : List Nat) : Nat := bits (nth a 0) 55 53
def chDstSpace (a : List Nat) : Nat := bits (nth a 0) 52 50
def chLevels (a : List Nat) : Nat := bits (nth a 0) 49 47
def chSegLevel (a : List Nat) : Nat := bits (nth a 0) 46 44
def chNbuf (a : List Nat) : Nat := bits (nth a 0) 43 42
def chSrcAxis (a : List Nat) : Bool := bit (nth a 0) 41
def chNode (a : List Nat) : Nat := bits (nth a 0) 35 24
def chBurst (a : List Nat) : Nat := bits (nth a 0) 23 0
def chSrc (a : List Nat) : Nat := bits (nth a 1) 47 0
def chDst (a : List Nat) : Nat := bits (nth a 2) 47 0
def chScale (a : List Nat) : Nat := bits (nth a 3) 47 0
def chSrcPitch (a : List Nat) : Nat := bits (nth a 4) 63 32
def chDstPitch (a : List Nat) : Nat := bits (nth a 4) 31 0
def chSegSig (a : List Nat) : Nat := bits (nth a 5) 63 48
def chSegWait (a : List Nat) : Nat := bits (nth a 5) 47 32
def chBufStride (a : List Nat) : Nat := bits (nth a 5) 31 0
/-- Level `k` from 1: COUNT and the signed strides. -/
def chCount (a : List Nat) (k : Nat) : Nat := bits (nth a (4 + 2 * k)) 31 0
def chSrcStride (a : List Nat) (k : Nat) : Int := signed 32 (nth a (5 + 2 * k) / 2 ^ 32)
def chDstStride (a : List Nat) (k : Nat) : Int := signed 32 (nth a (5 + 2 * k))

/-- The levels of a program, 1 first. -/
def chLevelList (a : List Nat) : List Nat := (List.range (min (chLevels a) 6)).map (· + 1)

/-- Units of a program: zero where BURST or a COUNT is zero (R363). -/
def chUnits (a : List Nat) : Nat := if chBurst a = 0 then 0 else (chLevelList a).foldl (fun n k => n * chCount a k) 1

/-- The format of a program. -/
def chFormat (a : List Nat) : Fmt := (Fmt.ofCode (chFmt a)).getD .fp32

/-- Bytes of a block's elements in planar layout. -/
def Fmt.blockBytes (f : Fmt) : Nat := 4 * f.bits

/-- Bytes a unit touches at source and at destination, from its first byte (R361). -/
def chSrcBytes (a : List Nat) : Nat :=
  let f := chFormat a
  match chMode a with
  | 0 => chBurst a
  | 1 => chBurst a * f.blockBytes
  | 2 => chBurst a * f.recordBytes
  | _ => 63 * chSrcPitch a + chBurst a * 8 * f.bits
def chDstBytes (a : List Nat) : Nat :=
  let f := chFormat a
  match chMode a with
  | 0 => chBurst a
  | 1 => chBurst a * f.recordBytes
  | 2 => chBurst a * f.blockBytes
  | _ =>
    if f.blocked then
      if chSrcAxis a then (64 * chBurst a - 1) * chDstPitch a + 2 * f.recordBytes
      else (64 * chBurst a - 32) * chDstPitch a + 64 * f.recordBytes
    else (64 * chBurst a - 1) * chDstPitch a + 8 * f.bits

/-- R362: the extent of a side: lowest byte and the byte after the highest. -/
def chExtent (a : List Nat) (base : Nat) (stride : Nat → Int) (len : Nat) (buf : Nat) : Int × Int :=
  (chLevelList a).foldl (fun (e : Int × Int) k =>
    let s := stride k * ((chCount a k : Int) - 1)
    (e.1 + min 0 s, e.2 + max 0 s)) ((base : Int), (base : Int) + (len : Int) + (buf : Int))

/-- Segments of a program: iterations of its segment level (R360). -/
def chSegments (a : List Nat) : Nat :=
  ((chLevelList a).filter (fun k => decide (chSegLevel a ≤ k))).foldl (fun n k => n * chCount a k) 1

/-- The source extent and the destination extent, with its buffers. -/
def chSrcExtent (a : List Nat) : Int × Int := chExtent a (chSrc a) (chSrcStride a) (chSrcBytes a) 0
def chDstExtent (a : List Nat) : Int × Int :=
  chExtent a (chDst a) (chDstStride a) (chDstBytes a) (min (chNbuf a) (chSegments a - 1) * chBufStride a)

/-- R361, R362: the codes of the scale plane that the units read or write: the lowest and the byte after the highest; empty where the
program touches none. Codes across lines are taken for whole line groups. -/
def chScaleExtent (a : List Nat) : Int × Int :=
  let f := chFormat a
  let base : Int := chScale a
  let spread := fun (e : Int × Int) (origin : Nat) (per : Int) => (base + (e.1 - origin) / per, base + (e.2 - 1 - origin) / per + 1)
  if chMode a = 0 ∨ f.blocked = false then (0, 0)
  else if chMode a = 2 then spread (chDstExtent a) (chDst a) f.blockBytes
  else if chSrcAxis a then
    let line : Int := (chSrcPitch a * 8 / f.bits : Nat)
    let e := chSrcExtent a
    (base + (e.1 - chSrc a) / chSrcPitch a / 32 * line, base + ((e.2 - 1 - chSrc a) / chSrcPitch a / 32 + 1) * line)
  else spread (chSrcExtent a) (chSrc a) f.blockBytes

/-- Cell of a code of the scale plane. -/
def chCodeCell (a : List Nat) (index : Int) : Nat := devCell ((chScale a : Int) + index).toNat

/-- R338: an ingest program reads host or peer memory. -/
def chIngest (a : List Nat) : Bool := chSrcSpace a == 3 || chSrcSpace a == 4

/-- A segment object field: SCOPE bit 15, ID bits [11:0]. -/
def segOk (x : Nat) : Bool := decide (bits x 14 12 = 0) && (bit x 15 || decide (bits x 11 0 < 48))

/-- R338, R362: everything but LEVELS. -/
def Dev.chainOk (d : Dev) (base : Nat) (a : List Nat) : Bool :=
  let m := chMode a
  let f := chFmt a
  let s := chSrcSpace a
  let t := chDstSpace a
  let lv := chLevelList a
  let inBase : Int := (bits (d.header base 2) 47 0 : Nat)
  let inLen : Int := (bits (d.header base 3) 31 0 * 4096 : Nat)
  let se := chSrcExtent a
  let de := chDstExtent a
  let ce := chScaleExtent a
  let blocked := (chFormat a).blocked
  let transpose := decide (m = 3)
  decide (m < 4) && decide (bits (nth a 0) 40 36 = 0) && decide (bits (nth a 1) 63 48 = 0)
    && decide (bits (nth a 2) 63 48 = 0) && decide (bits (nth a 3) 63 48 = 0)
    && lv.all (fun k => decide (bits (nth a (4 + 2 * k)) 63 32 = 0))
    && (match m with
        | 0 => decide (f = 0)
        | 3 => (Fmt.ofCode f).isSome && decide (f < 9)
        | _ => decide (2 ≤ f) && decide (f ≤ 8))
    && (match m with
        | 0 => decide (s < 5) && decide (t < 5) && !(decide (2 < s) && decide (2 < t))
        | 1 => decide (s = 0) && (t == 1 || t == 2)
        | 2 => (s == 1 || s == 2) && (t == 0 || t == 3 || t == 4)
        | _ => decide (s < 3) && (t == 1 || t == 2) && (!blocked || decide (s = 0)))
    && (s == 4 || t == 4 || decide (chNode a = 0))
    && ((blocked && decide (m ≠ 0)) || decide (chScale a = 0))
    && (transpose || (decide (nth a 4 = 0))) && ((transpose && blocked) || !chSrcAxis a)
    && (if chSegLevel a = 0 then
          decide (chNbuf a = 0) && decide (chSegSig a = 0) && decide (chSegWait a = 0)
        else decide (chSegLevel a ≤ chLevels a) && decide (chDstStride a (chSegLevel a) = 0)
          && decide (chSegSig a ≠ 0) && decide (chSegWait a ≠ 0) && segOk (chSegSig a) && segOk (chSegWait a))
    && (!(m == 1 || m == 2) || lv.all (fun k =>
          let fm := chFormat a
          let e : Int := (if m = 1 then fm.blockBytes else fm.recordBytes : Nat)
          let r : Int := (if m = 1 then fm.recordBytes else fm.blockBytes : Nat)
          decide (chSrcStride a k % e = 0) && decide (chDstStride a k % r = 0)))
    && (!chIngest a || (decide (t = 0) && decide (m = 0)))
    && (decide (chUnits a = 0) ||
        (decide (0 ≤ se.1) && decide (se.2 ≤ (spaceSize s : Int)) && decide (0 ≤ de.1) && decide (de.2 ≤ (spaceSize t : Int))
          && (if chIngest a then decide (inBase ≤ de.1) && decide (de.2 ≤ inBase + inLen)
              else decide (t ≠ 0) || decide (inLen = 0) || decide (de.2 ≤ inBase) || decide (inBase + inLen ≤ de.1))
          && decide (0 ≤ ce.1) && decide (ce.2 ≤ (deviceMemory : Int))
          && (decide (m ≠ 2) || decide (inLen = 0) || decide (ce.2 ≤ inBase) || decide (inBase + inLen ≤ ce.1))))

/-- R362, R363: the status a Chain program is rejected with, if any. -/
def Dev.chainStatic (d : Dev) (base : Nat) (a : List Nat) : Option Status :=
  if chLevels a = 0 then some .badLength
  else if chLevels a = 7 ∨ !d.chainOk base a then some .badArg
  else none

/-- R363: the status a CHAIN task completes with before its first unit, if any. -/
def Dev.chainCheck (d : Dev) (base : Nat) (a : List Nat) : Option Status :=
  match d.chainStatic base a with
  | some st => some st
  | none => if chUnits a = 0 then some .okZeroWork else none

/-! ### Units (R360, R361) -/

/-- Index i[k] of unit number `u` (level 1 innermost). -/
def chIndex (a : List Nat) (u k : Nat) : Nat :=
  let below := (List.range (k - 1)).foldl (fun n j => n * chCount a (j + 1)) 1
  u / below % chCount a k

/-- Source and destination address of a unit in a segment. -/
def chSrcAt (a : List Nat) (u : Nat) : Nat :=
  ((chLevelList a).foldl (fun (x : Int) k => x + (chIndex a u k : Int) * chSrcStride a k) (chSrc a : Int)).toNat
def chDstAt (a : List Nat) (u seg : Nat) : Nat :=
  ((chLevelList a).foldl (fun (x : Int) k => x + (chIndex a u k : Int) * chDstStride a k) (chDst a : Int)).toNat
    + seg % (chNbuf a + 1) * chBufStride a

/-- The unit opens (all inner indices first) or closes (all last) an iteration of the segment level. -/
def chOpens (a : List Nat) (u : Nat) : Bool :=
  decide (chSegLevel a ≠ 0) && (List.range (chSegLevel a - 1)).all (fun j => chIndex a u (j + 1) == 0)
def chCloses (a : List Nat) (u : Nat) : Bool :=
  decide (chSegLevel a ≠ 0) && (List.range (chSegLevel a - 1)).all (fun j => chIndex a u (j + 1) + 1 == chCount a (j + 1))

/-- Copies bytes between cells; all are read before any is written. -/
def Dev.copyBytes (d : Dev) (src dst n : Nat) : Dev := d.setBytes dst (d.bytes src n)

/-- PACK: blocks from planar layout into records. -/
def Dev.packUnit (d : Dev) (a : List Nat) (src dstCell : Nat) : Dev :=
  let f := chFormat a
  (List.range (chBurst a)).foldl (fun (d : Dev) b =>
    let s := src + b * f.blockBytes
    let code := d.byte (chCodeCell a (((s : Int) - chSrc a) / f.blockBytes))
    (d.setLe (dstCell + b * f.recordBytes) 4 code).copyBytes (devCell s) (dstCell + b * f.recordBytes + 4) f.blockBytes) d

/-- UNPACK: records into planar layout; the element bytes are the answer where the destination is not on the module. -/
def Dev.unpackUnit (d : Dev) (a : List Nat) (srcCell dst : Nat) : Dev × List Nat :=
  let f := chFormat a
  let bytes := (List.range (chBurst a)).flatMap (fun b => d.bytes (srcCell + b * f.recordBytes + 4) f.blockBytes)
  ((List.range (chBurst a)).foldl (fun (d : Dev) b =>
    d.setByte (chCodeCell a (((dst : Int) - chDst a + (b * f.blockBytes : Nat)) / f.blockBytes)) (d.byte (srcCell + b * f.recordBytes))) d,
    bytes)

/-- TRANSPOSE: tiles of 64 × 64 elements (R292). -/
def Dev.transposeUnit (d : Dev) (a : List Nat) (srcCell : Nat) (off : Int) (dstCell : Nat) : Dev :=
  let f := chFormat a
  let sp := chSrcPitch a
  let dp := chDstPitch a
  let perLine := sp * 8 / f.bits
  (List.range (chBurst a)).foldl (fun (d : Dev) t =>
    let elem := fun r c => d.planarElem (srcCell + t * 8 * f.bits + r * sp) f.bits c
    if f.blocked then
      let code := fun r c =>
        let o : Int := off + (t * 8 * f.bits + r * sp : Nat)
        d.byte (chCodeCell a (if chSrcAxis a then o / sp / 32 * perLine + o % sp * 8 / f.bits + c else (o * 8 / f.bits + c) / 32))
      if chSrcAxis a then
        (List.range 64).foldl (fun (d : Dev) c => (List.range 2).foldl (fun (d : Dev) b =>
          d.writeRecord (dstCell + (t * 64 + c) * dp + b * f.recordBytes) f (code (32 * b) c)
            ((List.range 32).map (fun i => elem (32 * b + i) c))) d) d
      else
        (List.range 2).foldl (fun (d : Dev) g => (List.range 64).foldl (fun (d : Dev) r =>
          d.writeRecord (dstCell + (t * 64 + 32 * g) * dp + r * f.recordBytes) f (code r (32 * g))
            ((List.range 32).map (fun i => elem r (32 * g + i)))) d) d
    else
      (List.range 64).foldl (fun (d : Dev) c => (List.range 64).foldl (fun (d : Dev) r =>
        d.setPlanarElem (dstCell + (t * 64 + c) * dp) f.bits r (elem r c)) d) d) d

/-- The registers of the engine a CHAIN task runs on: true for the Peck DMA engine. -/
def TaskRun.peckDma (t : TaskRun) : Bool := bit (nth t.desc 0) 58

/-- Writes a field of the engine's CHN_ registers. -/
def Dev.chnWr (d : Dev) (t : TaskRun) (fg fp : Fld) (n v : Nat) : Dev :=
  if t.peckDma then d.wr fp (peckOfGrain t.home) n 0 v else d.wr fg t.home n 0 v

/-- R364: size of a transfer unit of a space. -/
def transferUnit (space : Nat) : Nat := if space = 0 then 512 else if space = 3 then 4096 else if space = 4 then 256 else 64

/-- R364: bytes of the transfer units, each counted whole, that runs of bytes (address, length) touch. -/
def touched (runs : List (Nat × Nat)) (size : Nat) : Nat :=
  ((runs.flatMap (fun (a, n) => if n = 0 then [] else
    (List.range ((a + n - 1) / size - a / size + 1)).map (fun i => a / size + i))).eraseDups).length * size

/-- R361: the runs of bytes a unit reads at `src`, and those it writes at `dst`. -/
def chSrcRuns (a : List Nat) (src : Nat) : List (Nat × Nat) :=
  if chMode a = 3 then (List.range 64).map (fun r => (src + r * chSrcPitch a, chBurst a * 8 * (chFormat a).bits))
  else [(src, chSrcBytes a)]
def chDstRuns (a : List Nat) (dst : Nat) : List (Nat × Nat) :=
  let f := chFormat a
  if chMode a = 3 then
    if f.blocked && !chSrcAxis a then
      (List.range (2 * chBurst a)).map (fun g => (dst + 32 * g * chDstPitch a, 64 * f.recordBytes))
    else (List.range (64 * chBurst a)).map (fun c => (dst + c * chDstPitch a, if f.blocked then 2 * f.recordBytes else 8 * f.bits))
  else [(dst, chDstBytes a)]

/-- The 512-byte units of the scale plane that the codes of a PACK or UNPACK unit lie in, in order. -/
def chPlaneUnits (a : List Nat) (src dst : Nat) : List Nat :=
  let first : Int := if chMode a = 1 then ((src : Int) - chSrc a) / (chFormat a).blockBytes
    else ((dst : Int) - chDst a) / (chFormat a).blockBytes
  let at_ := ((chScale a : Int) + first).toNat
  if chBurst a = 0 then [] else (List.range ((at_ + chBurst a - 1) / 512 - at_ / 512 + 1)).map (fun i => at_ / 512 + i)

/-- R364, R367: counts a unit's granules moved and charged but not moved, and shows its indices. PACK and UNPACK are charged for each unit
of the scale plane they move on to. DESIGN CHOICE (log entry 115): a unit's bytes are rounded up to granules moved and down to granules
wasted, and TRANSPOSE is charged for no codes. -/
def Dev.chnCount (d : Dev) (t : TaskRun) (src dst : Nat) : Dev :=
  let a := t.arg
  let mode := chMode a
  let n := max (if mode = 1 then chDstBytes a else if mode = 3 then chBurst a * 512 * (chFormat a).bits else chSrcBytes a) 1
  let sr := chSrcRuns a src
  let dr := chDstRuns a dst
  let sum := fun (rs : List (Nat × Nat)) => rs.foldl (fun n r => n + r.2) 0
  let plane := if mode = 1 ∨ mode = 2 then chPlaneUnits a src dst else []
  let fresh := if plane.head? = t.planeUnit then plane.length - 1 else plane.length
  let waste := (touched sr (transferUnit (chSrcSpace a)) - sum sr + (touched dr (transferUnit (chDstSpace a)) - sum dr)
    + (512 * fresh - if plane.isEmpty then 0 else chBurst a)) / 64
  let d1 := if t.peckDma then
      (d.countWrap PCHN_BYTES_CNT_COUNT (peckOfGrain t.home) 0 ((n + 63) / 64)).count PCHN_WASTE_CNT_COUNT (peckOfGrain t.home) 0 waste
    else (d.countWrap CHN_BYTES_CNT_COUNT t.home 0 ((n + 63) / 64)).count CHN_WASTE_CNT_COUNT t.home 0 waste
  (chLevelList a).foldl (fun (d : Dev) k => d.chnWr t CHN_POS_INDEX PCHN_POS_INDEX (k - 1) (chIndex a t.unit k)) d1

/-- Pieces of at most 8,192 bytes of a transfer to or from a peer: offset and length (R574). -/
def pieces (n : Nat) : List (Nat × Nat) := (List.range ((n + 8191) / 8192)).map (fun i => (8192 * i, min 8192 (n - 8192 * i)))

/-- A transfer of task `i` met a fault (R365) or a status that ends it (R593). -/
def Dev.chainFault (d : Dev) (i : Nat) (st : Status) : Dev :=
  d.modTask i (fun t =>
    if t.faultCause.isSome || t.ending.isSome then t
    else if st = .notPermitted || st = .isolated then { t with ending := some st }
    else { t with faultCause := some st })

/-- One outstanding transfer of unit `u` has been answered. -/
def Dev.chainAnswered (d : Dev) (i u : Nat) : Dev :=
  d.modTask i (fun t => { t with outstanding := t.outstanding.erase u })

/-- R360: the iteration's writes are visible: SEG_SIG is signalled and the next segment begins. -/
def Dev.chainSettle (d : Dev) (i ctx : Nat) : Dev :=
  match d.task i with
  | some t =>
    if t.closing && t.outstanding.isEmpty && t.faultCause.isNone && t.ending.isNone then
      (d.signalRef i t ctx (t.ref 4) 1).modTask i (fun t => { t with closing := false, seg := t.seg + 1, segHeld := false, segPosted := false })
    else d
  | none => d

/-- Sends a transfer to a peer (R586), piece by piece; one that cannot leave is a stream fault. -/
def Dev.peerTransfer (d : Dev) (i u ctx : Nat) (t : TaskRun) (addr : Nat) (data : Option (List Nat)) (n : Nat) : Dev :=
  (pieces n).foldl (fun (d : Dev) (o, l) =>
    let pk : Packet := match data with
      | some bs => { typ := tyMemWr, dst := chNode t.arg, src := 0, ctx := ctx, addr := addr + o, length := l
                     body := (bs.drop o).take l }
      | none => { typ := tyMemRd, dst := chNode t.arg, src := 0, ctx := ctx, addr := addr + o, length := l }
    let why := if data.isSome then Purpose.chainWrite i u else .chainRead i u o
    let (st, d1) := d.originate pk why
    if st = .ok then d1.modTask i (fun t => { t with outstanding := t.outstanding ++ [u] }) else d1.chainFault i st) d

/-- A free PCIe request tag. -/
def Dev.hostTag (d : Dev) : Nat := ((List.range 65536).find? (fun k => (Tbl.find d.hostReads k).isNone)).getD 0

/-- R565: a unit to or from host memory while the function may not master the bus is a stream fault with cause NOT_PERMITTED. -/
def Dev.busFault (d : Dev) (i : Nat) : Dev :=
  d.modTask i (fun t => if t.faultCause.isSome || t.ending.isSome then t else { t with faultCause := some .notPermitted })

/-- R361: moves one unit. -/
def Dev.moveUnit (d : Dev) (i u ctx : Nat) (t : TaskRun) : Dev :=
  let a := t.arg
  let src := chSrcAt a u
  let dst := chDstAt a u t.seg
  let sc := fun () => spaceCell t.home (chSrcSpace a) src
  let dc := fun () => spaceCell t.home (chDstSpace a) dst
  let outward := fun (d : Dev) (bs : List Nat) =>
    if chDstSpace a = 3 then { d with out := d.out ++ [OutMsg.hostWrite ctx dst bs] }
    else if chDstSpace a = 4 then d.peerTransfer i u ctx t dst (some bs) bs.length
    else d.setBytes (dc ()) bs
  match chMode a with
  | 0 =>
    if chSrcSpace a = 3 then
      let k := d.hostTag
      ({ d with hostReads := Tbl.put d.hostReads k (i, u), out := d.out ++ [OutMsg.hostRead ctx k src (chBurst a)] }).modTask i
        (fun t => { t with outstanding := t.outstanding ++ [u] })
    else if chSrcSpace a = 4 then d.peerTransfer i u ctx t src none (chBurst a)
    else outward d (d.bytes (sc ()) (chBurst a))
  | 1 => d.packUnit a src (dc ())
  | 2 =>
    let (d1, bs) := d.unpackUnit a (sc ()) dst
    outward d1 bs
  | _ => d.transposeUnit a (sc ()) ((src : Int) - chSrc a) (dc ())

/-- The CHAIN task that runs on a DMA engine. -/
def Dev.chainOn (d : Dev) (grain : Nat) (peckDma : Bool) : Option (Nat × TaskRun) :=
  d.attempt.bind (fun a => a.tasks.find? (fun e => decide (e.2.phase = .running) && (e.2.kind == 3)
    && (e.2.peckDma == peckDma) && (if peckDma then peckOfGrain e.2.home == peckOfGrain grain else e.2.home == grain)))

/-- R360: the engine's next unit: the wait on SEG_WAIT where the unit opens a segment beyond the buffers, the move, and
the closing of the segment. -/
def Dev.chainUnit (d : Dev) (grain : Nat) (peckDma : Bool) : Dev :=
  match d.chainOn grain peckDma, d.run with
  | some (i, t), some r =>
    let a := t.arg
    if t.ending.isSome || t.faultCause.isSome || t.closing || decide (chUnits a ≤ t.unit)
        || decide (32 ≤ t.outstanding.length) || d.wrapperClosed (peckOfGrain t.home) then d
    else
      let needs := chOpens a t.unit && decide (chNbuf a + 1 ≤ t.seg) && !t.segHeld
      if needs && t.segPosted then d
      else
        let (go, d1) := if needs then
            match d.postWait (peckOfGrain t.home) (t.ref 5) ⟨.seg i, t.waiterId true, true, 1⟩ with
            | (some _, d1) => (true, d1.modTask i (fun t => { t with segHeld := true }))
            | (none, d1) => (false, (d1.modTask i (fun t => { t with segPosted := true })).chnWr t CHN_STATUS_SEG_WAITING
                PCHN_STATUS_SEG_WAITING 0 1)
          else (true, d)
        if go then
          let d2 := d1.chnWr t CHN_STATUS_SEG_WAITING PCHN_STATUS_SEG_WAITING 0 0
          if (chSrcSpace a == 3 || chDstSpace a == 3) && !(d.ctx r.ctx).busMaster then d2.busFault i
          else
            let d3 := ((d2.moveUnit i t.unit r.ctx t).chnCount t (chSrcAt a t.unit) (chDstAt a t.unit t.seg)).modTask i (fun x => { x with
              unit := x.unit + 1, closing := chCloses a t.unit
              planeUnit := ((chPlaneUnits a (chSrcAt a t.unit) (chDstAt a t.unit t.seg)).getLast?).orElse (fun _ => x.planeUnit) })
            d3.chainSettle i r.ctx
        else d1
  | _, _ => d

/-- Data of a read of unit `u` arrives at an offset. Data for a task that has ended, or for a Peck whose wrapper has closed, is discarded
(R472). -/
def Dev.chainData (d : Dev) (i u off : Nat) (bs : List Nat) : Dev :=
  match d.task i, d.run with
  | some t, some r =>
    if t.phase ≠ .running ∨ d.wrapperClosed (peckOfGrain t.home) = true then d.chainAnswered i u
    else
    let dst := chDstAt t.arg u t.seg + off
    ((d.setBytes (spaceCell t.home (chDstSpace t.arg) dst) bs).chainAnswered i u).chainSettle i r.ctx
  | _, _ => d

/-- A write of unit `u`, or a read that failed, is answered with a status. -/
def Dev.chainStatus (d : Dev) (i u : Nat) (st : Status) : Dev :=
  let d1 := d.chainAnswered i u
  let d2 := if st = .ok then d1 else d1.chainFault i st
  d2.chainSettle i ((d.run.map Run.ctx).getD 0)

/-- The task has moved all its units and nothing is outstanding. -/
def TaskRun.chainDone (t : TaskRun) : Bool :=
  decide (chUnits t.arg ≤ t.unit) && t.outstanding.isEmpty && !t.closing && t.faultCause.isNone

end Sys2Proof.Machine
end

