-- ==== Sys2Proof/Machine/Watch.lean ====
section
/-! DEFINITION. The numeric watch (13): the sample of each Peck, wide recomputation, the norm watch, escalation. -/
namespace Sys2Proof.Machine

/-! ### Choosing the samples (R441, R442) -/

/-- MB_COUNT of the program at a base. -/
def Dev.mbCount (d : Dev) (base : Nat) : Nat := bits (d.header base 0) 47 40

/-- MB of a descriptor. -/
def TaskRun.mb (t : TaskRun) : Nat := bits (nth t.desc 0) 54 48

/-- The argument block of a task as it stands in memory now. -/
def Dev.argWords (d : Dev) (t : TaskRun) : List Nat :=
  let w := nth t.desc 0
  d.words64 (spaceCell t.home (bits w 31 29) (bits (nth t.desc 3) 47 0)) (bits w 41 32)

/-- R441, R442: the sample of a Peck for an attempt: the array, the first task in descriptor order and its entries of that array. -/
def Dev.chooseSample (d : Dev) (tasks : Tbl TaskRun) (step mbCount p : Nat) : Option WatchSample :=
  let fwd := (tasks.filter (fun e => e.2.kind == 0 && peckOfGrain e.2.home == p && e.2.mb == step % mbCount)).map
    (fun e => (e.1, fwdEntries (d.argWords e.2)))
  let start := d.rd WCH_ROT_POINTER p
  let entries := fun (es : List FwdEntry) (a : Nat) => ((es.zipIdx).filter (fun x => x.1.array == a)).map (·.2)
  let named := fun a => (fwd.find? (fun e => e.2.any (fun x => x.array == a))).map (fun e => (e.1, entries e.2 a))
  (List.range 128).findSome? (fun o =>
    let idx := (start + o) % 128
    let a := p * 128 + idx
    if d.arrState a = SERVING then (named a).map (fun (i, ks) => { index := idx, task := i, entries := ks }) else none)

/-- The samples of all Pecks at the start of an attempt; WCH_SAMPLE starts at 0. -/
def Dev.startSamples (d : Dev) : Dev :=
  match d.attempt with
  | none => d
  | some at_ =>
    let mb := d.mbCount d.runBase
    let d0 := (List.range 128).foldl (fun (d : Dev) p => (d.setWord WCH_SAMPLE p 0 0 0).setWord WCH_SAMPLE_MAX p 0 0 0) d
    if at_.gen1 || mb == 0 then d0
    else
      let found := (List.range 128).filterMap (fun p =>
        if d.on WCH_CFG_EN p then (d.chooseSample at_.tasks at_.step mb p).map (fun s => (p, s)) else none)
      d0.modAttempt (fun a => { a with samples := found })

/-! ### Wide recomputation (R444 to R447) -/

/-- R448 defaults: the watch table's header word, or the default of a program without a table. -/
def Dev.watchHeader (d : Dev) (p : Program) (w : Nat) : Nat :=
  match p.wch with
  | some t => d.mem64 (t.base + 8 * w)
  | none => if w = 1 then 8 * 2 ^ 8 else if w = 3 then 3600 else 0

/-- ESC_WINDOW of the running program in ns. -/
def Dev.escWindow (d : Dev) : Nat :=
  match d.runProgram with
  | some p => bits (d.watchHeader p 3) 31 0 * 1000000000
  | none => 3600000000000

/-- R458: a failed sample is charged to its array. -/
def Dev.chargeFailure (d : Dev) (a : Nat) : Dev :=
  let old := Tbl.find d.watchRecs a
  let new : WatchRec := match old with
    | none => ⟨1, d.time⟩
    | some r =>
      if d.escWindow = 0 ∨ d.escWindow < d.time - r.first ∨ r.count = 0 then ⟨1, d.time⟩
      else ⟨min (r.count + 1) 3, r.first⟩
  let d1 := { d with watchRecs := Tbl.put d.watchRecs a new }.diag (srcArray a) .faultRecord .checkFailed [a, new.count]
  if new.count = 2 then d1.enqueue a 1 false false
  else if new.count = 3 then d1.decideRetire a 2
  else d1

/-- The terms of one row group of one token: pairs (y, z, 255 × LSB) over the bound outputs. -/
def Dev.sampleTerms (d : Dev) (t : TaskRun) (l : LatchedArray) (outs token row : Nat) (ys lsbs : List Nat)
    (gen1 : Bool) : List (Fp × Fp × Nat) :=
  let fx := d.fwdInFmt d.runBase t.arg
  let n := l.groupRows row
  let xs := (List.range n).map (fun i => d.fwdInput t.home t.arg fx token l.rowTile (row + i))
  let cmax := xs.foldl (fun m x => max m x.1) 0
  let b : Binding := ⟨fwdTensor t.arg, l.rowTile, fwdColTile t.arg⟩
  let step := if gen1 then 16 else 64
  (List.range outs).map (fun j =>
    let prods := (xs.zipIdx).map (fun ((c, e), i) =>
      match d.wcElem b (row + i) j with
      | some (f, q, k) =>
        let x : Rat := (inputSlots fx e : Rat) * pow2 (Int.ofNat c - Int.ofNat cmax)
        let w : Rat := (weightLevel f q : Rat)
          * pow2 (Int.ofNat k - Int.ofNat (Tbl.get 0 (d.arr l.array).baseCodes (j * 8 + row / 128)))
        x * w
      | none => 0)
    let z := (List.range ((n + step - 1) / step)).foldl (fun (acc : Fp) c =>
      Fp.add acc (fp32Round (Fp.ofRat (((prods.drop (c * step)).take step).foldl (· + ·) 0)))) (.fin false 0)
    (fp32Decode (nth ys j), z, 255 * nth lsbs j))

/-- The whole number nearest to the square root of a rational, ties to even. -/
def sqrtNearest (q : Rat) : Nat :=
  let n := isqrt (q.num.toNat / q.den)
  let m := (2 * n + 1 : Nat)
  if ((m * m : Nat) : Rat) < 4 * q then n + 1
  else if ((m * m : Nat) : Rat) = 4 * q && n % 2 == 1 then n + 1 else n

/-- Token, array entry and start row of a captured row group. -/
def keyToken (k : Nat) : Nat := k / 1024
def keyEntry (k : Nat) : Nat := k / 64 % 16
def keyRow (k : Nat) : Nat := k % 64 * 16

/-- R445: the largest magnitude of a dequantised input element that the recomputation read, as an FP32 word. -/
def Dev.sampleMax (d : Dev) (t : TaskRun) (s : WatchSample) : Nat :=
  let fx := d.fwdInFmt d.runBase t.arg
  let S := ((d.scaleEntry d.runBase (fwdXScale t.arg)).map ScaleEntry.s).getD 1
  fp32Encode (Fp.ofRat (s.cols.foldl (fun (m : Rat) e =>
    match t.arrays[keyEntry e.1]? with
    | none => m
    | some l => (List.range (l.groupRows (keyRow e.1))).foldl (fun (m : Rat) i =>
      let x := d.fwdInput t.home t.arg fx (keyToken e.1) l.rowTile (keyRow e.1 + i)
      match elemValue fx x.1 S x.2 with
      | .fin _ v => if m < v then v else m
      | _ => m) m) 0))

/-- R303, R444: passes of a recomputation: each row group of the tile that was read on the array, tiled by rows, outputs and tokens (at
most 64 of them). -/
def WatchSample.passes (s : WatchSample) (t : TaskRun) (outs : Nat) : Nat :=
  ((s.groups t).filter (fun (e, row) => s.cols.any (fun c => decide (keyEntry c.1 = e) && decide (keyRow c.1 = row)))).foldl
    (fun n (e, row) => n + ((((t.arrays[e]?).map (fun l => l.groupRows row)).getD 0) + 63) / 64 * ((outs + 63) / 64)) 0

/-- R443: moves a Peck's rotation pointer past the sampled index. -/
def Dev.movePointer (d : Dev) (p idx : Nat) : Dev := d.wr WCH_ROT_POINTER p 0 0 ((idx + 1) % 128)

/-- Marks the sample of a Peck resolved. -/
def Dev.resolveSample (d : Dev) (p : Nat) : Dev :=
  d.modAttempt (fun a => { a with samples := a.samples.map (fun e =>
    if e.1 = p then (e.1, { e.2 with resolved := true }) else e) })

/-- R301, R444 to R446, R458, R460: the sample of a Peck is recomputed and compared, once fallback row groups no longer wait for the
array. A sampled task that drove no row leaves no terms: its sample is void. -/
def Dev.wideRecompute (d : Dev) (p : Nat) : Dev :=
  match d.attempt with
  | none => d
  | some at_ =>
    match Tbl.find at_.samples p, (Tbl.find at_.samples p).bind (fun s => d.task s.task) with
    | some s, some t =>
      let a := p * 128 + s.index
      let g := grainOf a
      if s.resolved || !t.sampleReady s || !(Tbl.get [] d.fbQueue g).isEmpty then d
      else
        let outs := d.boundOutputs (fwdTensor t.arg) (fwdColTile t.arg)
        let terms := s.cols.flatMap (fun e => match t.arrays[keyEntry e.1]? with
          | none => []
          | some l => d.sampleTerms t l outs (keyToken e.1) (keyRow e.1) e.2 (Tbl.get [] s.lsbs e.1) (d.on WCH_CFG_REF_GEN1 p))
        let n := s.passes t outs
        let d0 := ((d.resolveSample p).countWrap DMX_PASS_CNT_COUNT g 0 n).count DMX_WR_PASS_CNT_COUNT g 0 n
        let d1 := if 0 < n ∧ d.on TSK_PORT_STATUS_PRODUCT_BUSY g = true then d0.count DMX_PREEMPT_CNT_COUNT g 0 else d0
        let show_ := fun (d : Dev) (res rms : Nat) =>
          d.setWord WCH_SAMPLE p 0 0 (res * 2 ^ 30 + b2n s.unsettled * 2 ^ 29 + s.index % 2 ^ 13 * 2 ^ 16 + rms)
        let d2 := d1.setWord WCH_SAMPLE_MAX p 0 0 (d.sampleMax t s)
        if terms.isEmpty then (show_ d2 3 0).count WCH_VOID_CNT_COUNT p 0
        else
          let nan := terms.any (fun (y, z, _) => !y.isFinite || !z.isFinite)
          let mean : Rat := (terms.foldl (fun (m : Rat) (y, z, k) =>
            let e := (y.val - z.val) / (k : Rat)
            m + e * e) 0) / (terms.length : Rat)
          let tol := mkRat (d.rd WCH_CFG_TOL p) 1000
          let rms := if nan then 0xFFFF else min (sqrtNearest (mean * 100000000)) 0xFFFF
          if nan || decide (tol * tol < mean) then
            let d3 := ((show_ d2 2 rms).count WCH_FAIL_CNT_COUNT p 0).modAttempt (fun x => { x with
              sampleFail := true
              samples := x.samples.map (fun e => if e.1 = p then (e.1, { e.2 with failed := true, max := d.sampleMax t s }) else e) })
            if s.unsettled then d3 else d3.chargeFailure a
          else (show_ d2 1 rms).count WCH_PASS_CNT_COUNT p 0
    | _, _ => d

/-- R451: every sample of the attempt has resolved. -/
def Attempt.samplesDone (a : Attempt) : Bool := a.samples.all (fun e => e.2.resolved)

/-! ### The norm watch (R448 to R450) -/

/-- NNORM of the watch table at a base, and the address of its entry `i`. -/
def Dev.normCount (d : Dev) (base : Nat) : Nat := bits (d.mem64 base) 15 0
def normAddr (base i : Nat) : Nat := base + 64 + 32 * i

/-- R449: −1.0 in every VALUE location at the start of an attempt. -/
def Dev.clearNorms (d : Dev) : Dev :=
  match d.runProgram.bind (·.wch) with
  | none => d
  | some w => (List.range (d.normCount w.base)).foldl (fun (d : Dev) i =>
      d.setLe (devCell (bits (d.mem64 (normAddr w.base i + 8)) 47 0)) 4 0xBF800000) d

/-- R449: one entry: LAST, NONFINITE and TRIG; the answer is the status of the evaluation and the two flags. -/
def Dev.evalNorm (d : Dev) (base i : Nat) : Option (Bool × Bool) × Dev :=
  let a := normAddr base i
  let v := fp32Decode (d.le (devCell (bits (d.mem64 (a + 8)) 47 0)) 4)
  if v.lt (.fin false 0) then (none, d)
  else
    let n := Fp.sqrt v
    let jump := fp32Decode (bits (d.mem64 (base + 8)) 63 32)
    let mean := fp32Decode (bits (d.mem64 (a + 16)) 63 32)
    let count := bits (d.mem64 (a + 16)) 31 0
    let nonfinite := !n.isFinite
    let trig := nonfinite || (decide (bits (d.mem64 (base + 16)) 31 0 ≤ count)
      && ((Fp.mul jump mean).lt n || (Fp.mul jump n).lt mean))
    (some (trig, nonfinite), d.setLe (devCell (a + 24)) 8 (fp32Encode n * 2 ^ 32 + b2n nonfinite * 2 + b2n trig))

/-- R449: the VERDICT task evaluates every entry in table order; BAD_ARG at the first VALUE below zero. -/
def Dev.evalNorms (d : Dev) (home : Nat) : Option Status × Dev :=
  match d.runProgram.bind (·.wch) with
  | none => (none, d)
  | some w =>
    (List.range (d.normCount w.base)).foldl (fun (acc : Option Status × Dev) i =>
      match acc with
      | (some st, d) => (some st, d)
      | (none, d) =>
        match d.evalNorm w.base i with
        | (none, d1) => (some .badArg, d1)
        | (some (trig, nf), d1) =>
          let d2 := if trig then d1.count WCH_NORM_TRIG_CNT_COUNT (peckOfGrain home) 0 else d1
          (none, d2.modAttempt (fun a => { a with
            normFail := a.normFail || trig, nonfinite := a.nonfinite || nf
            firstNorm := if trig && !a.normFail then i else a.firstNorm }))) (none, d)

/-- R450: the running means at the commit point. -/
def Dev.commitNorms (d : Dev) : Dev :=
  match d.runProgram.bind (·.wch) with
  | none => d
  | some w =>
    let shift := bits (d.mem64 (w.base + 8)) 3 0
    (List.range (d.normCount w.base)).foldl (fun (d : Dev) i =>
      let a := normAddr w.base i
      let n := fp32Decode (bits (d.mem64 (a + 24)) 63 32)
      let count := bits (d.mem64 (a + 16)) 31 0
      let mean := fp32Decode (bits (d.mem64 (a + 16)) 63 32)
      let m := if count = 0 then n
        else Fp.add mean (Fp.mul (Fp.sub n mean) (.fin false (pow2 (-(Int.ofNat shift)))))
      d.setLe (devCell (a + 16)) 8 (fp32Encode m * 2 ^ 32 + min (count + 1) 0xFFFFFFFF)) d

/-! ### The verdict (R451, R452) -/

/-- R452: the cause a participant signals. -/
def Attempt.verdict (a : Attempt) : Status :=
  if a.check = 2 then .stepSkew else if a.blockFault then .isolated
  else if a.sampleFail || a.normFail then .checkFailed else .ok

/-- R452: the verdict is shown in the VERDICT's home Peck. -/
def Dev.showVerdict (d : Dev) (p : Nat) : Dev :=
  match d.attempt with
  | none => d
  | some a => d.setWord WCH_VERDICT p 0 0 (2 ^ 31 + b2n a.sampleFail * 2 ^ 30 + b2n a.normFail * 2 ^ 29
      + b2n a.nonfinite * 2 ^ 28 + a.verdict.code * 2 ^ 16 + (if a.normFail then a.firstNorm else 0xFFFF) % 2 ^ 16)

end Sys2Proof.Machine
end

