-- ==== Sys2Proof/Machine/Tasks.lean ====
section
/-! DEFINITION. Tasks of the running attempt (10): slots, starts, stealing, completion, halting, stopping. -/
namespace Sys2Proof.Machine

/-! ### What runs where (R341, R348) -/

/-- Tasks of the attempt that run. -/
def Dev.running (d : Dev) : Tbl TaskRun :=
  match d.attempt with
  | none => []
  | some a => a.tasks.filter (fun e => decide (e.2.phase = .running))

/-- The engine of a task on a Grain: 0 the Grain's arrays, 1 its digital matrix array, 2 its vector engine, 3 its DMA
engine, 4 the Peck's DMA engine, 5 the Peck's scheduler; with the unit's number. -/
def TaskRun.engineOn (t : TaskRun) (gen1 : Bool) (grain : Nat) : Nat × Nat :=
  if t.kind = 0 then (if gen1 then (1, grain) else (0, grain))
  else if t.kind = 1 then (1, grain)
  else if t.kind = 2 then (2, grain)
  else if t.kind = 3 then (if t.peckDma then (4, peckOfGrain grain) else (3, grain))
  else (5, peckOfGrain grain)

/-- Most tasks an engine runs at once (R348: 15 FWD tasks on a Grain). -/
def engineCapacity (e : Nat) : Nat := if e = 0 then 15 else if e = 5 then 65536 else 1

/-- Tasks running on an engine. -/
def Dev.onEngine (d : Dev) (gen1 : Bool) (e : Nat × Nat) : Nat :=
  (d.running.filter (fun x => x.2.engineOn gen1 x.2.grain == e)).length

/-- R348: slots held by the tasks of a Peck. -/
def Dev.inflight (d : Dev) (p : Nat) : Nat :=
  (d.running.filter (fun e => e.2.hasSlot && peckOfGrain e.2.home == p)).length

/-- R348: the kind of slot a Peck can give: none, one of its own 4 (`false`), one of the shared 512 (`true`). -/
def Dev.slotFor (d : Dev) (p : Nat) : Option Bool :=
  let mine := d.running.filter (fun e => e.2.hasSlot && peckOfGrain e.2.home == p)
  if (mine.filter (fun e => !e.2.sharedSlot)).length < 4 then some false
  else if mine.length < 64 ∧ (d.running.filter (fun e => e.2.hasSlot && e.2.sharedSlot)).length < 512 then some true
  else none

/-- R366: ready tasks that wait on a Grain, as TSK_PORT_STATUS.READY shows them. -/
def Dev.readyOn (d : Dev) (g : Nat) : Nat :=
  match d.attempt with
  | none => 0
  | some a => min (a.tasks.filter (fun e => decide (e.2.phase = .ready) && e.2.home == g)).length 255

/-- Shows a Grain's TSK_PORT_STATUS fields that follow the tasks it runs (R366). -/
def Dev.showPort (d : Dev) (g : Nat) : Dev :=
  let gen1 := (d.attempt.map Attempt.gen1).getD false
  let rs := d.running.filter (fun e => e.2.grain == g)
  let on := fun k => b2n (rs.any (fun e => (e.2.engineOn gen1 g).1 == k))
  ((((d.wr TSK_PORT_STATUS_FWD g 0 0 (rs.filter (fun e => e.2.kind == 0)).length).wr TSK_PORT_STATUS_PRODUCT_BUSY g 0 0
    (on 1)).wr TSK_PORT_STATUS_VECTOR_BUSY g 0 0 (on 2)).wr TSK_PORT_STATUS_CHAIN_BUSY g 0 0 (on 3)).wr
    TSK_PORT_STATUS_STOLEN_RUN g 0 0 (b2n (rs.any (fun e => e.2.stolen)))

/-- Shows a Peck's slots. -/
def Dev.showSched (d : Dev) (p : Nat) : Dev := d.wr TSK_SCHED_STATUS_INFLIGHT p 0 0 (d.inflight p)

/-- Shows an engine's BUSY bit, mode and tag for task `t` (DMX_STATUS, VEC_STATUS, CHN_STATUS), from its first product, descriptor or
unit on; no segment wait outlives a program. -/
def Dev.showEngineOf (d : Dev) (gen1 : Bool) (t : TaskRun) (busy : Bool) : Dev :=
  let g := t.grain
  match (t.engineOn gen1 g).1 with
  | 1 =>
    let d1 := ((d.wr DMX_STATUS_BUSY g 0 0 (b2n busy)).wr DMX_STATUS_CLASS g 0 0 (if busy then 3 else 0)).wr DMX_STATUS_TAG g 0 0 t.tag
    if busy then d1.wr DMX_STATUS_PAIR_SIDE g 0 0 0 else d1
  | 2 =>
    let d1 := (d.wr VEC_STATUS_BUSY g 0 0 (b2n busy)).wr VEC_STATUS_TAG g 0 0 t.tag
    if busy then d1.showVector g t.arg t.vecIndex else d1
  | 3 => (((d.wr CHN_STATUS_BUSY g 0 0 (b2n busy)).wr CHN_STATUS_SEG_WAITING g 0 0 0).wr CHN_STATUS_MODE g 0 0 (chMode t.arg)).wr
      CHN_STATUS_TAG g 0 0 t.tag
  | 4 => (((d.wr PCHN_STATUS_BUSY (peckOfGrain g) 0 0 (b2n busy)).wr PCHN_STATUS_SEG_WAITING (peckOfGrain g) 0 0 0).wr PCHN_STATUS_MODE
      (peckOfGrain g) 0 0 (chMode t.arg)).wr PCHN_STATUS_TAG (peckOfGrain g) 0 0 t.tag
  | _ => d

/-- The engine and the Pecks of task `t` are free of it from now on: idle times count from here (R356, R661). -/
def Dev.stirTask (d : Dev) (gen1 : Bool) (t : TaskRun) : Dev :=
  ((d.stir (peckOfGrain t.home)).stir (peckOfGrain t.grain)).stirKind t.grain ((t.engineOn gen1 t.grain).1 % 4)

/-! ### The end of a run (R334, R351) -/

/-- The committed step value as the participant knows it (R25, R334); open where no barrier, outcome or attempt gives one (log
entry 34). -/
def Dev.committedValue (d : Dev) : Nat :=
  let unknown := (Config.unknownCommitted d.freeCount).toNat
  match d.barrierRef with
  | .object k =>
    match (d.obj k).map SyncObj.kind with
    | some (.barrier b) => b.committed
    | _ => unknown
  | _ => ((d.lastOutcome.map Outcome.committed).orElse (fun _ => d.attempt.map Attempt.step)).getD unknown

/-- The run in progress ends: its STEP_SUBMIT completes with a status, and with the TAG and status of a halting task. -/
def Dev.endRun (d : Dev) (st : Status) (tag : Nat) (halting : Option Status) : Dev :=
  match d.runs with
  | [] => d
  | r :: rest =>
    let w3 := match halting with
      | some h => h.code * 2 ^ 16 + tag
      | none => 0
    let v := d.committedValue
    (({ d with runs := rest, attempt := none, runStarted := false, freeCount := d.freeCount + 1 }).showRun 0).finishWaiting r.ctx r.slot .run st [r.committed, v, w3]

/-- A halted run ends once no task of it runs (R351). -/
def Dev.haltCheck (d : Dev) : Dev :=
  match d.attempt with
  | some a =>
    if a.phase = .halted ∧ d.running = [] then d.endRun (a.haltStatus.getD .badArg) a.haltTag a.haltStatus else d
  | none => d

/-- R351: a task's error status halts the run; the first halting task is the one reported. -/
def Dev.haltRun (d : Dev) (tag : Nat) (st : Status) : Dev :=
  match d.attempt with
  | none => d
  | some a =>
    if a.haltStatus.isSome then d
    else ((d.modAttempt (fun x => { x with phase := .halted, haltTag := tag, haltStatus := some st })).showRun 3).withdrawTasks

/-! ### Completion (R350 to R353) -/

/-- R352: the completion record of task `i`. -/
def completionRecord (attempt : Nat) (t : TaskRun) (st : Status) : Nat :=
  let ok := st.signals
  attempt % 256 * 2 ^ 56 + 2 ^ 55 + t.grain % 1024 * 2 ^ 32 + b2n (ok && t.reused) * 2 ^ 28 + b2n t.stolen * 2 ^ 27
    + b2n (ok && t.unsettled) * 2 ^ 26 + b2n (decide (st = .okZeroWork)) * 2 ^ 25
    + b2n (ok && t.fallback) * 2 ^ 24 + st.code * 2 ^ 16 + t.tag

/-- Address of the completion record of task `i`. -/
def Dev.completionAddr (d : Dev) (i : Nat) : Nat := bits (d.header d.runBase 4) 47 0 + 8 * i

/-- Counters and status registers of a completed task (R366, R367 and the engines' own). -/
def Dev.countTask (d : Dev) (t : TaskRun) (st : Status) : Dev :=
  let g := t.grain
  let d1 := if t.kind < 4 ∧ !t.peckDma then d.countWrap TSK_DONE_CNT_COUNT g 0 else d
  let d2 := if t.kind = 1 ∧ st = .saturated then d1.count DMX_SAT_CNT_COUNT g 0 else d1
  let d3 := if t.kind = 1 ∧ !st.signals ∨ t.kind = 1 ∧ st = .saturated then
      (d2.wr DMX_LAST_ERR_STATUS g 0 0 st.code).wr DMX_LAST_ERR_TAG g 0 0 t.tag else d2
  if st.signals then d3
  else
    let d4 := ((d3.wr TSK_LAST_ERR_STATUS g 0 0 st.code).wr TSK_LAST_ERR_KIND g 0 0 t.kind).wr TSK_LAST_ERR_TAG g 0 0 t.tag
    if t.kind = 2 then
      ((d4.wr VEC_LAST_ERR_STATUS g 0 0 st.code).wr VEC_LAST_ERR_INDEX g 0 0 t.vecIndex).wr VEC_LAST_ERR_TAG g 0 0 t.tag
    else if t.kind = 3 then
      ((d4.chnWr t CHN_LAST_ERR_STATUS PCHN_LAST_ERR_STATUS 0 st.code).chnWr t CHN_LAST_ERR_CAUSE PCHN_LAST_ERR_CAUSE 0
        ((t.faultCause.map Status.code).getD 0)).chnWr t CHN_LAST_ERR_TAG PCHN_LAST_ERR_TAG 0 t.tag
    else d4

/-- R374: the wait of Chain task `i` on its SEG_WAIT is withdrawn. -/
def Dev.withdrawSeg (d : Dev) (i : Nat) : Dev :=
  (d.withdraw (fun w => decide (w.who = .seg i))).withdrawRemote (fun w => decide (w = .seg i))

/-- R350, R351: task `i` completes with a status: its signals, its completion record, and what an error status leads to. A
VERDICT task sends the participant's signal (R35). -/
def Dev.finishTask (d : Dev) (i : Nat) (st : Status) : Dev :=
  match d.task i, d.run, d.attempt with
  | some t, some r, some a =>
    let d1 := (d.modTask i (fun x => { x with phase := .done, hasSlot := false, terms := [], acc := [] })).countTask t st
    -- a task that never ran used no engine (R339)
    let d2 := if t.phase = .running then
        (((d1.showEngineOf a.gen1 t false).stirTask a.gen1 t).showPort t.grain).showSched (peckOfGrain t.home) else d1
    let d2 := if t.segPosted && !t.segHeld then d2.withdrawSeg i else d2
    let d3 := if st.signals then d2.performSignals i r.ctx else d2
    let d4 := d3.setLe (devCell (d3.completionAddr i)) 8 (completionRecord a.shown t st)
    let d5 := if t.kind = 3 ∧ st = .ok ∧ chIngest t.arg ∧ !d4.ingestDone.contains i then
        { d4 with ingestDone := d4.ingestDone ++ [i] } else d4
    let d6 := if st.signals then
        (if t.kind = 4 then (d5.showVerdict (peckOfGrain t.home)).signalBarrier ((d5.attempt.getD a).verdict) else d5)
      else if st = .isolated ∨ st = .streamFault then d5.cutShort
      else d5.haltRun t.tag st
    d6.haltCheck
  | _, _, _ => d

/-! ### Starting (R339, R347 to R349, R451) -/

/-- R347: the status the start checks lead to, if any. -/
def Dev.startCheck (d : Dev) (gen1 : Bool) (t : TaskRun) (arg : List Nat) : Option Status × Nat :=
  let base := d.runBase
  if t.kind = 0 then (d.fwdCheck base arg, 0)
  else if t.kind = 1 then (d.productCheck base arg, 0)
  else if t.kind = 2 then
    match d.vecCheck base gen1 arg with
    | some (st, k) => (some st, k)
    | none => (none, 0)
  else if t.kind = 3 then (d.chainCheck base arg, 0)
  else (none, 0)

/-- R339: task `i` is an ingest task that an earlier attempt of the step completed: it uses no engine. -/
def Dev.isReused (d : Dev) (i : Nat) (t : TaskRun) (arg : List Nat) : Bool :=
  decide (t.kind = 3) && chIngest arg && d.ingestDone.contains i

/-- R349: an earlier task of the same engine of its Grain is ready and has not started. Nothing orders SYNC and VERDICT tasks, or
reused ingest tasks. -/
def Dev.behind (d : Dev) (gen1 : Bool) (i : Nat) (t : TaskRun) : Bool :=
  match d.attempt with
  | none => false
  | some a => decide (t.kind < 4) && a.tasks.any (fun e => decide (e.1 < i) && decide (e.2.phase = .ready)
      && e.2.engineOn gen1 e.2.home == t.engineOn gen1 t.home && !d.ingestDone.contains e.1)

/-- R63: the Grain a task is put on: a FWD task runs on the Grain whose arrays it names. DEDUCED (log entry 116): also where software has
changed its block after STEP_LOAD to arrays of another Grain than its home Grain, which the start checks do not look at. -/
def TaskRun.unitOf (t : TaskRun) (grain : Nat) (arg : List Nat) : Nat :=
  if t.kind = 0 then ((fwdEntries arg).head?.map (fun e => grainOf e.array)).getD grain else grain

/-- R267: a residual decision of an array that a FWD task names is due or running. -/
def Dev.decisionHolds (d : Dev) (t : TaskRun) (arg : List Nat) : Bool :=
  decide (t.kind = 0) && (fwdEntries arg).any (fun e => (d.arr e.array).decisionDue.isSome || (d.arr e.array).decisionRuns.isSome)

/-- R339: an ingest task that an earlier attempt of the step completed: it signals each segment and its own signals. -/
def Dev.reuseIngest (d : Dev) (i ctx : Nat) (t : TaskRun) (arg : List Nat) : Dev :=
  let d1 := d.modTask i (fun x => { x with arg := arg, reused := true, grain := x.home })
  let d2 := ((List.range (chUnits arg)).filter (fun u => chCloses arg u)).foldl (fun (d : Dev) _ =>
    d.signalRef i t ctx (t.ref 4) 1) d1
  d2.finishTask i .ok

/-- R451: a VERDICT task may start. -/
def Dev.verdictMayStart (d : Dev) : Bool :=
  match d.attempt with
  | none => false
  | some a => a.samplesDone && decide (a.check ≠ 0)

/-- R351: tasks of the attempt may start: it was neither cut short nor halted, and its outcome has not come. -/
def Attempt.starts (a : Attempt) : Bool := !a.cut && (decide (a.phase = .running) || decide (a.phase = .signalled))

/-- Task `i` cannot start on a Grain now: a clock, a wrapper or a supply is missing, the order of its engine, its residual lists or its
checks hold it, or the mirror is due. -/
def Dev.startHeld (d : Dev) (a : Attempt) (i : Nat) (t : TaskRun) (grain : Nat) (stolen : Bool) (arg : List Nat) : Bool :=
  let p := peckOfGrain t.home
  let q := peckOfGrain grain
  !d.clockGood p || !d.clockGood q || d.wrapperClosed p || d.wrapperClosed q || d.gated (bushelOfPeck q)
    || (!stolen && !d.isReused i t arg && d.behind a.gen1 i t) || d.decisionHolds t arg
    || (decide (t.kind = 4) && !d.verdictMayStart) || d.mirrorDue

/-- R347 to R349: ready task `i` starts on a Grain, if that Grain's engine, a slot and the order of its engine let it. A
stolen start skips the order of the home engine (R355). -/
def Dev.startTask (d : Dev) (i on : Nat) (stolen : Bool) : Dev :=
  match d.task i, d.run, d.attempt with
  | some t, some r, some a =>
    let p := peckOfGrain t.home
    let arg := d.argWords t
    let grain := t.unitOf on arg
    if t.phase ≠ .ready ∨ a.starts = false then d
    -- R627: a ready task whose home Bushel is gated
    else if d.gated (bushelOfPeck p) = true then d.finishTask i .notPermitted
    else if d.startHeld a i t grain stolen arg = true then d
    else if d.isReused i t arg = true then d.reuseIngest i r.ctx t arg
    else
      let e := t.engineOn a.gen1 grain
      if engineCapacity e.1 ≤ d.onEngine a.gen1 e then d
      else
        match d.slotFor p with
        | none => d.count TSK_SLOT_STALL_CNT_COUNT p 0
        | some shared =>
          let (ending, idx) := d.startCheck a.gen1 t arg
          let latched := if t.kind = 0 ∧ ending = none then d.fwdLatch arg else []
          let d0 := if t.kind = 0 then d.modAttempt (fun x => { x with starts_ := x.starts_ + 1 }) else d
          let d1 := ((d0.wake p).wake (peckOfGrain grain)).modTask i (fun x => { x with
            phase := .running, grain := grain, stolen := stolen, hasSlot := true, sharedSlot := shared, order := a.starts_ + 1
            arg := arg, ending := ending, vecIndex := idx, arrays := latched })
          let t1 := { t with grain := grain, arg := arg }
          let d2 := if ending = none then d1.showEngineOf a.gen1 t1 true else d1
          let d3 := ((d2.showPort grain).wr TSK_PORT_STATUS_TAG grain 0 0 t.tag).showSched p
          let d4 := if stolen then d3.stirKind t.home (t.kind % 4) else d3
          if t.kind = 4 then
            match d4.evalNorms t.home with
            | (some st, d5) => d5.modTask i (fun x => { x with ending := some st })
            | (none, d5) => d5
          else d4
  | _, _, _ => d

/-! ### Stealing (R354 to R358) -/

/-- Ready stealable tasks of a kind at home on a Grain, in descriptor order. -/
def Dev.stealable (d : Dev) (kind g : Nat) : Tbl TaskRun :=
  match d.attempt with
  | none => []
  | some a => a.tasks.filter (fun e => decide (e.2.phase = .ready) && e.2.kind == kind && e.2.home == g
      && bit (nth e.2.desc 0) 59)

/-- R354: a Grain is idle for a kind (1 PRODUCT, 2 VECTOR). -/
def Dev.idleFor (d : Dev) (kind g : Nat) : Bool :=
  match d.attempt with
  | none => false
  | some a => (d.onEngine a.gen1 (kind, g) == 0)
      && !a.tasks.any (fun e => decide (e.2.phase = .ready) && e.2.kind == kind && e.2.home == g)

/-- R355: an idle Grain takes, from the Grain of its Peck with the most, the first ready stealable task. -/
def Dev.steal (d : Dev) (g kind : Nat) : Dev :=
  let p := peckOfGrain g
  if d.idleFor kind g && d.on TSK_SCHED_CFG_STEAL_EN p then
    let best := (List.range 8).foldl (fun (b : Nat × Nat) n =>
      let k := (d.stealable kind (8 * p + n)).length
      if 8 * p + n ≠ g ∧ b.2 < k then (8 * p + n, k) else b) (g, 0)
    match if best.2 = 0 then none else (d.stealable kind best.1).head? with
    | none => d
    | some (i, _) =>
      let d1 := d.startTask i g true
      match d1.task i with
      | some t => if t.phase = .running then d1.count TSK_STEAL_IN_CNT_COUNT g 0 else d1
      | none => d1
  else d

/-- A task names a local counter in an enabled entry (R69). -/
def TaskRun.local_ (t : TaskRun) : Bool :=
  (List.range 4).any (fun e => entryOn (t.entry e) && !bit (t.entry e) 30)

/-- R68: a Grain of a Peck is idle for a kind, so that the Peck's own tasks of that kind are its to steal first. -/
def Dev.idleIn (d : Dev) (kind q : Nat) : Bool := (List.range 8).any (fun n => d.idleFor kind (8 * q + n))

/-- R68, R356: after STEAL_DELAY idle clocks the Grain's Peck asks the other Pecks of its Bushel in order; a Peck with an idle Grain of its
own gives nothing. -/
def Dev.bushelSteal (d : Dev) (g kind : Nat) : Dev :=
  let p := peckOfGrain g
  let open_ := fun q => d.on TSK_SCHED_CFG_STEAL_EN q && d.on TSK_SCHED_CFG_BUSHEL_STEAL_EN q
  let own := (List.range 8).all (fun n => (d.stealable kind (8 * p + n)).isEmpty)
  if d.idleFor kind g && open_ p && own
      && d.clocksPast p (Tbl.get 0 d.idleAt (g * 4 + kind)) (d.rd TSK_SCHED_CFG_STEAL_DELAY p) then
    let others := (List.range 7).map (fun k => bushelOfPeck p * 8 + (p % 8 + 1 + k) % 8)
    let pick := others.findSome? (fun q =>
      if open_ q && !d.idleIn kind q then
        match d.attempt with
        | none => none
        | some a => (a.tasks.find? (fun e => decide (e.2.phase = .ready) && e.2.kind == kind
            && peckOfGrain e.2.home == q && bit (nth e.2.desc 0) 59 && !e.2.local_)).map (fun e => (q, e.1))
      else none)
    match pick with
    | none => d
    | some (q, i) =>
      let d1 := d.startTask i g true
      match d1.task i with
      | some t =>
        if t.phase = .running then
          ((d1.count TSK_STEAL_IN_CNT_COUNT g 0).count TSK_STEAL_OUT_CNT_COUNT q 0).count TSK_BUSHEL_STEAL_CNT_COUNT p 0
        else d1
      | none => d1
  else d

/-! ### Completing a running task -/

/-- The status a running task completes with now, if its work is done. -/
def Dev.taskOutcome (d : Dev) (gen1 : Bool) (t : TaskRun) : Option Status :=
  match t.ending with
  | some st => if t.kind = 3 ∧ t.outstanding ≠ [] then none else some st
  | none =>
    if t.kind = 0 then
      if gen1 then (if d.fwdPasses t ≤ t.tile then some .ok else none)
      else if t.fwdDone then some (if t.fallback then .okFallback else .ok) else none
    else if t.kind = 1 then (if t.productsDone then some (if t.saturated then .saturated else .ok) else none)
    else if t.kind = 2 then (if vecCount t.arg ≤ t.vecIndex then some .ok else none)
    else if t.kind = 3 then (if t.chainDone then some .ok else none)
    else some .ok

/-- R111, R350: a running task whose work is done writes its outputs and completes. -/
def Dev.completeTask (d : Dev) (i : Nat) : Dev :=
  match d.task i, d.attempt with
  | some t, some a =>
    if t.phase = .running then
      match d.taskOutcome a.gen1 t with
      | none => d
      | some st =>
        if t.kind = 0 ∧ t.ending = none then
          let t1 := { t with nanInput := t.nanInput || (a.gen1 && d.fwdHasNan t) }
          (d.fwdWrite a.gen1 t1).finishTask i st
        else d.finishTask i st
    else d
  | _, _ => d

/-- R365: a Chain task that met a stream fault ends once its outstanding reads have returned. -/
def Dev.streamAbort (d : Dev) (i : Nat) : Dev :=
  match d.task i with
  | some t =>
    if t.phase = .running ∧ t.kind = 3 ∧ t.faultCause ≠ none ∧ t.outstanding = [] ∧ t.ending = none then
      d.finishTask i .streamFault
    else d
  | none => d

/-- R72: running tasks at home on a Peck, or run by a Grain of it, end with ISOLATED. -/
def Dev.isolateTasks (d : Dev) (p : Nat) : Dev :=
  (d.running.filter (fun e => peckOfGrain e.2.home == p || peckOfGrain e.2.grain == p)).foldl
    (fun (d : Dev) e => d.finishTask e.1 .isolated) d

/-! ### Stopping (R337) -/

/-- Answers to packets sent for tasks concern nobody any more. -/
def Purpose.ofTask : Purpose → Bool
  | .chainWrite _ _ => true
  | .chainRead _ _ _ => true
  | .taskSignal _ => true
  | .taskWait _ _ => true
  | .segWait _ => true
  | _ => false

/-- R337, R374: every task of the attempt stops: no record, no further signal, posted waits withdrawn. -/
def Dev.stopTasks (d : Dev) : Dev :=
  match d.attempt with
  | none => d
  | some a =>
    let d1 := (d.withdraw Waiter.ofTask).withdrawRemote (fun w => match w with
      | .task _ _ => true
      | .seg _ => true
      | .trigger _ => true
      | _ => false)
    let rs := d1.running
    let d2 : Dev := { d1 with
      arrays := (d1.arrays.map (fun e => (e.1, { e.2 with cycles := [] }))).filter (fun e => decide (e.2 ≠ {}))
      fbQueue := [], hostReads := []
      outstanding := d1.outstanding.map (fun e => if e.2.purpose.ofTask then (e.1, { e.2 with purpose := .forgotten }) else e)
      unsent := d1.unsent.map (fun e => if e.2.ofTask then (e.1, .forgotten) else e) }
    let d3 := rs.foldl (fun (d : Dev) e => ((d.showEngineOf a.gen1 e.2 false).stirTask a.gen1 e.2)) d2
    let d4 := d3.modAttempt (fun x => { x with tasks := x.tasks.map (fun e =>
      if e.2.phase = .done then e else (e.1, { e.2 with phase := .stopped, hasSlot := false, terms := [], acc := [] })) })
    let d5 := rs.foldl (fun (d : Dev) e => ((d.showPort e.2.grain).showSched (peckOfGrain e.2.home)).showGrain e.2.home) d4
    d5

end Sys2Proof.Machine
end

