-- ==== Sys2Proof/Machine/Exchange.lean ====
section
/-! DEFINITION. Gradient exchange and the parameter update (12): compression, contributions, the journal, update chunks, the
all-gather of working copies. -/
namespace Sys2Proof.Machine

/-! ### Shards (R405, R406) -/

/-- Members of a tensor's replica group. -/
def XchTable.membersOf (x : XchTable) (t : XchTensor) : List Nat := x.members.getD t.group []

/-- First and one past the last chunk of member `s` of `r`. -/
def shardOf (c r s : Nat) : Nat × Nat := (s * c / r, (s + 1) * c / r)

/-- Chunks of a tensor that a node owns: first, and one past the last. -/
def XchTable.owned (x : XchTable) (t : XchTensor) (node : Nat) : Nat × Nat :=
  let ms := x.membersOf t
  match ms.findIdx? (· == node) with
  | some s => shardOf t.chunks ms.length s
  | none => (0, 0)

/-- The member that owns a chunk. -/
def XchTable.ownerOf (x : XchTable) (t : XchTensor) (c : Nat) : Option Nat :=
  let ms := x.membersOf t
  (List.range ms.length).findSome? (fun s =>
    let (a, b) := shardOf t.chunks ms.length s
    if a ≤ c ∧ c < b then ms[s]? else none)

/-- This module's node ID (0 where it has none). -/
def Dev.nodeId (d : Dev) : Nat := d.node.getD 0

/-- Owned chunks of every tensor of a table, in table order: (tensor index, chunk). -/
def XchTable.ownedChunks (x : XchTable) (node : Nat) : List (Nat × Nat) :=
  (x.tensors.zipIdx).flatMap (fun (t, i) =>
    let (a, b) := x.owned t node
    (List.range (b - a)).map (fun k => (i, a + k)))

/-- The running program's exchange table. -/
def Dev.runTable (d : Dev) : Option XchTable := d.runProgram.bind (·.xch)

/-- Shows XCH_STATUS (R440). -/
def Dev.showXch (d : Dev) : Dev :=
  let missing := (d.wcMissing.filter (fun e => decide (e.2 ≠ []))).length
  let (chk, send, att) := match d.attempt with
    | some a => (a.check, b2n (a.triggered.any (fun i => !a.compressed.contains i)), a.number)
    | none => (d.rd XCH_STATUS_CHECK 0, 0, d.rd XCH_STATUS_ATTEMPT 0)
  let ctx := (d.run.map Run.ctx).getD (d.rd XCH_STATUS_CTX 0)
  d.setWord XCH_STATUS 0 0 0 (chk * 2 ^ 30 + send * 2 ^ 29 + b2n (decide (0 < missing)) * 2 ^ 28 + ctx % 16 * 2 ^ 24
    + att % 256 * 2 ^ 16 + min missing 0xFFFF)

/-! ### Ready objects (R386) -/

/-- R386: at the commit point every ready object of a tensor becomes 0. -/
def Dev.clearReady (d : Dev) : Dev :=
  d.objects.foldl (fun (d : Dev) e =>
    match (d.obj e.1).map SyncObj.kind with
    | some (ObjKind.ready _) => d.setReady e.1 0
    | _ => d) d

/-! ### The exchange check (R415 to R417) -/

/-- R417: the check resolves: SUMMED is signalled and the result shown; a signal that cannot leave is dropped (R385). DESIGN CHOICE (log
entry 121): once the check has resolved, it keeps its result: a packet of another step that arrives after PASS is discarded and counted (R32) and
the check stays PASS. -/
def Dev.resolveCheck (d : Dev) (v : Nat) : Dev :=
  match d.attempt, d.run, d.runTable with
  | some a, some r, some x =>
    if a.check ≠ 0 then d
    else
      let d1 := (d.modAttempt (fun a => { a with check := v })).showXch
      match d1.refOf r.ctx (bits (nth x.header 3) 11 0) with
      | .object k => (d1.signalObject k 1 ⟨0, r.ctx, 0, 0, d1.time⟩).2.2
      | .remote n c vid g =>
        let (st, d2) := d1.originate { syncPacket n 1 0 c vid g 1 0 0 0 0 with ctx := r.ctx } .summed
        if st = .ok then d2 else d2.dropSignal
      | _ => d1
  | _, _, _ => d

/-- Every owned chunk of every tensor has been summed from all members. -/
def Dev.allSummed (d : Dev) (a : Attempt) (x : XchTable) : Bool :=
  (x.ownedChunks d.nodeId).all (fun (i, c) =>
    match x.tensors[i]? with
    | some t => (x.membersOf t).all (fun m => a.summed.contains (i, c, m))
    | none => true)

/-- R415, R417, R418: the exchange unit at the start of an attempt. -/
def Dev.exchangeStart (d : Dev) : Dev :=
  let d0 := d.setWord XCH_SCALE_MAX 0 0 0 0
  match d0.runTable with
  | none => (d0.modAttempt (fun a => { a with check := 3 })).showXch
  | some x => if (x.ownedChunks d0.nodeId).isEmpty then d0.resolveCheck 1 else d0.showXch

/-! ### Messages (R414) -/

/-- A number of little-endian bytes of a message. -/
def leAt (body : List Nat) (o n : Nat) : Nat := (List.range n).foldr (fun i v => nth body (o + i) % 256 + 256 * v) 0

/-- R414: a message header. -/
def exchHeader (typ attempt src ctx step tensor chunk count topk fmt len : Nat) : List Nat :=
  [typ, attempt % 256] ++ leBytes 2 (src % 4096 + ctx % 16 * 4096) ++ leBytes 4 step ++ leBytes 4 tensor
    ++ leBytes 4 chunk ++ leBytes 2 count ++ [topk % 256, fmt % 16] ++ leBytes 4 len ++ List.replicate 8 0

/-- Little-endian bytes of a list of `w`-bit codes packed from bit 0 of byte 0. -/
def packCodes (w : Nat) (codes : List Nat) : List Nat :=
  leBytes ((codes.length * w + 7) / 8) ((codes.zipIdx).foldl (fun v (c, i) => v + c % 2 ^ w * 2 ^ (w * i)) 0)

/-- Code `i` of such a packing. -/
def packedCode (body : List Nat) (w i : Nat) : Nat := (leAt body (w * i / 8) (w / 8 + 2) / 2 ^ (w * i % 8)) % 2 ^ w

/-- An exchange packet. -/
def exchPacket (dst ctx : Nat) (body : List Nat) : Packet :=
  { typ := tyExch, dst := dst, src := 0, ctx := ctx, length := body.length, body := body }

/-! ### Compression (R411 to R413) -/

/-- One sign block compressed: the votes (true = σ of −1), which parameters are selected, the BF16 scale, the new BF16
residuals. -/
structure SignBlock where
  minus    : List Bool
  selected : List Bool
  scale    : Nat
  residual : List Nat
  deriving DecidableEq, Repr

/-- The order of top-k: `a` comes before `b` by magnitude. -/
def largerMag (a b : Fp) : Bool :=
  match a, b with
  | .nan, .nan => false
  | .nan, _ => Config.nanLargest
  | _, .nan => !Config.nanLargest
  | _, _ => (Fp.abs b).lt (Fp.abs a)

/-- Parameters of a block that top-k selects. -/
def topkOf (k : Nat) (us : List Fp) : List Bool :=
  (us.zipIdx).map (fun (u, i) => decide (((us.zipIdx).filter (fun (v, j) =>
    largerMag v u || (!largerMag u v && decide (j < i)))).length < k))

/-- R412: a sign block. -/
def compressBlock (topk : Option Nat) (us : List Fp) : SignBlock :=
  let minus := us.map (fun u => match u with
    | .nan => false
    | .inf n => n
    | .fin n m => n && decide (m ≠ 0))
  let sel := match topk with
    | none => us.map (fun _ => true)
    | some k => topkOf k us
  let chosen := ((us.zip sel).filter (·.2)).map (·.1)
  let nan := us.any Fp.isNan
  let mean := if chosen.isEmpty then Fp.fin false 0
    else Fp.div (chosen.foldl (fun acc u => Fp.add acc u.abs) (.fin false 0)) (fpInt chosen.length)
  let s := if nan then Fp.nan else mean
  let code := bf16Encode s
  let sv := bf16Decode code
  let res := ((us.zip sel).zip minus).map (fun ((u, c), m) =>
    if u.isNan then bf16Encode .nan
    else if c then bf16Encode (Fp.sub u (if m then sv.negate else sv)) else bf16Encode u)
  ⟨minus, sel, code, res⟩

/-- u of the parameters of a sign block that starts at parameter `p` (R412). -/
def Dev.signInputs (d : Dev) (t : XchTensor) (p : Nat) : List Fp :=
  (List.range (min 256 (t.p - p))).map (fun i =>
    Fp.add (fp32Decode (d.le (t.grad + 4 * (p + i)) 4)) (bf16Decode (d.le (t.efUse + 2 * (p + i)) 2)))

/-- The payload of a chunk's sign blocks (R414). -/
def signPayload (topk : Bool) (bs : List SignBlock) : List Nat :=
  if topk then bs.flatMap (fun b => leBytes 2 b.scale ++ ((b.minus.zip b.selected).zipIdx).flatMap (fun ((m, s), i) =>
    if s then leBytes 2 (b2n m * 2 ^ 15 + i) else []))
  else packCodes 1 ((bs.flatMap (·.minus)).map b2n) ++ bs.flatMap (fun b => leBytes 2 b.scale)

/-! ### The journal (R419 to R422) -/

/-- R420: the code width for n contributors. -/
def codeWidth (n : Nat) : Nat := ((List.range 16).find? (fun j => decide (2 * n + 1 ≤ 2 ^ j))).getD 16

/-- The vote sum of owned parameter `k` of a tensor. -/
def Dev.voteSum (d : Dev) (t : XchTensor) (k : Nat) : Int := signed 16 (d.le (devCell (t.vote + 2 * k)) 2)

/-- True where owned parameter `k` is frozen (R424). -/
def Dev.frozenAt (d : Dev) (t : XchTensor) (k : Nat) : Bool := t.freezeEn && bit (d.byte (devCell (t.mask + k / 8))) (k % 8)

/-- First owned parameter and number of owned parameters. -/
def XchTable.ownedParams (x : XchTable) (t : XchTensor) (node : Nat) : Nat × Nat :=
  let (a, b) := x.owned t node
  (4096 * a, min (4096 * b) t.p - 4096 * a)

/-- A list of bytes padded with zeros to a multiple of 64. -/
def pad64 (bs : List Nat) : List Nat := bs ++ List.replicate ((64 - bs.length % 64) % 64) 0

/-- R419, R420: the section of one tensor. -/
def Dev.journalSection (d : Dev) (x : XchTable) (t : XchTensor) (gen1 : Bool) (committed : Nat) : List Nat :=
  let n := (x.membersOf t).length
  let j := codeWidth n
  let (first, cnt) := x.ownedParams t d.nodeId
  let w0 := t.tensorId * 2 ^ 32 + t.rule * 2 ^ 28 + t.mround * 2 ^ 27 + j * 2 ^ 22 + b2n gen1 * 2 ^ 21 + n
  let head := leBytes 8 w0 ++ leBytes 8 first ++ leBytes 8 cnt ++ leBytes 8 (t.eta * 2 ^ 32 + t.lambda)
    ++ leBytes 8 (t.beta * 2 ^ 32 + t.theta) ++ leBytes 8 (biasCount committed t.bcBase)
  let codes := (List.range cnt).map (fun k =>
    if d.frozenAt t k then 2 ^ j - 1 else (d.voteSum t k + n).toNat)
  pad64 head ++ pad64 (packCodes j codes)

/-- R419: a journal entry; `len` = its length where it is a filler without sections. -/
def journalEntry (step attempt ctx nsect time : Nat) (len : Nat) (sections : List Nat) : List Nat :=
  let w0 := step % 2 ^ 32 * 2 ^ 32 + attempt % 256 * 2 ^ 24 + ctx % 16 * 2 ^ 20 + nsect % 2 ^ 16
  let head := fun crc => pad64 (leBytes 8 w0 ++ leBytes 8 len ++ leBytes 8 time ++ leBytes 8 crc)
  head (crc32 (head 0 ++ sections)) ++ sections

/-- R422: part of [from, to) is part of the kept region, from KEEP up to HEAD around the ring. -/
def overwritesKept (keep head ring lo hi : Nat) : Bool :=
  let meets := fun a b => decide (max a lo < min b hi)
  if keep ≤ head then meets keep head else meets keep ring || meets 0 head

/-- R419, R422: appends the entry of a committed step to the ring. -/
def Dev.writeJournal (d : Dev) (x : XchTable) (ctx step attempt committed : Nat) (gen1 : Bool) : Dev :=
  let base := bits (nth x.header 1) 47 0
  let ring := bits (nth x.header 2) 47 0 / 64
  if ring = 0 then d
  else
    let mine := x.tensors.filter (fun t => decide (0 < (x.ownedParams t d.nodeId).2))
    let secs := mine.flatMap (fun t => d.journalSection x t gen1 committed)
    let entry := journalEntry step attempt ctx mine.length d.time (64 + secs.length) secs
    let n := entry.length / 64
    let head := d.word UPD_JOURNAL_HEAD 0
    let keep := d.word UPD_JOURNAL_KEEP 0
    let wraps := decide (ring < head + n)
    let d1 := if wraps ∧ head < ring then
        d.setBytes (devCell (base + 64 * head)) (journalEntry 0 0 0 0 0 (64 * (ring - head)) []) else d
    let start := if wraps then 0 else head
    let lost := overwritesKept keep head ring start (start + n) || (wraps && overwritesKept keep head ring head ring)
    let d2 := (d1.setBytes (devCell (base + 64 * start)) entry).setWord UPD_JOURNAL_HEAD 0 0 0 (start + n)
    if lost then (d2.wr UPD_STATUS_JOURNAL_LOST 0 0 0 1).hostEvent (srcUnit 0x05) 0x0305 .ok (some ctx) (leBytes 4 step)
    else d2

/-- Writes bytes to host memory of a context or to a node's device memory (R482); the number of packets to be answered, or
the status with which the node cannot be reached. -/
def Dev.sendOut (d : Dev) (ctx space node addr : Nat) (bs : List Nat) (why : Purpose) : Nat × Status × Dev :=
  if space = 3 then (0, .ok, { d with out := d.out ++ [OutMsg.hostWrite ctx addr bs] })
  else (pieces bs.length).foldl (fun (acc : Nat × Status × Dev) (o, l) =>
    let (st, d1) := acc.2.2.originate { typ := tyMemWr, dst := node, src := 0, ctx := ctx, addr := addr + o, length := l
                                        body := (bs.drop o).take l } why
    if st = .ok then (acc.1 + 1, acc.2.1, d1) else (acc.1, st, d1)) (0, .ok, d)

/-- R486: the written-ahead entry of an attempt whose owned votes are complete; the check passes once it is acknowledged. A
program without a policy table, or with an empty ring, has none. -/
def Dev.writeAhead (d : Dev) (x : XchTable) : Dev :=
  match d.run, d.attempt, d.runProgram with
  | some r, some a, some p =>
    match p.policy with
    | none => d.resolveCheck 1
    | some pol =>
      let ring := bits (nth pol.header 3) 47 0 / 64
      if ring = 0 then d.resolveCheck 1
      else
        let mine := x.tensors.filter (fun t => decide (0 < (x.ownedParams t d.nodeId).2))
        let secs := mine.flatMap (fun t => d.journalSection x t a.gen1 (a.step + 1))
        let entry := journalEntry a.step a.number r.ctx mine.length 0 (64 + secs.length) secs
        let n := entry.length / 64
        let dest := nth pol.header 1
        let wraps := decide (ring < pol.jhead + n)
        let start := if wraps then 0 else pol.jhead
        let filler := if wraps ∧ pol.jhead < ring then
            journalEntry 0 0 0 0 0 (64 * (ring - pol.jhead)) [] else []
        let send := fun (d : Dev) (o : Nat) (bs : List Nat) =>
          if bs.isEmpty then (0, Status.ok, d)
          else d.sendOut r.ctx (bits dest 63 61) (bits (nth pol.header 2) 11 0) (bits dest 47 0 + 64 * o) bs .writeAhead
        let (k1, st1, d1) := send d pol.jhead filler
        let (k2, st2, d2) := send d1 start entry
        let d3 := d2.modProgram (progKey r.ctx r.handle) (fun p => { p with policy := some { pol with jhead := start + n } })
        let d4 := d3.modAttempt (fun a => { a with ahead := k1 + k2 })
        if st1 ≠ .ok ∨ st2 ≠ .ok then d4.markIsolated
        else if k1 + k2 = 0 then d4.resolveCheck 1 else d4
  | _, _, _ => d

/-- R486: a part of the written-ahead entry is answered. -/
def Dev.aheadAnswered (d : Dev) (st : Status) : Dev :=
  match d.attempt with
  | none => d
  | some a =>
    if a.ahead = 0 then d
    else
      let d1 := d.modAttempt (fun a => { a with ahead := a.ahead - 1 })
      if st ≠ .ok then (d1.modAttempt (fun a => { a with ahead := 0 })).markIsolated
      else if a.ahead = 1 then d1.resolveCheck 1 else d1

/-! ### Summing (R413, R415, R416) -/

/-- R415: adds the votes of a payload to the vote region, or writes them for the first contribution. -/
def Dev.addVotes (d : Dev) (t : XchTensor) (firstOwned chunk : Nat) (first : Bool) (votes : List Int) : Dev :=
  (votes.zipIdx).foldl (fun (d : Dev) (v, i) =>
    let cell := devCell (t.vote + 2 * (4096 * (chunk - firstOwned) + i))
    let old := if first then 0 else signed 16 (d.le cell 2)
    d.setLe cell 2 (unsigned 16 (old + v))) d

/-- The votes of a contribution and its block scales as BF16 codes. -/
def contribution (body : List Nat) (typ count topk : Nat) : List Int × List Nat :=
  let nb := (count + 255) / 256
  if typ = 1 then
    ((List.range count).map (fun i => if packedCode (body.drop 32) 1 i = 1 then -1 else 1),
      (List.range nb).map (fun b => leAt body (32 + (count + 7) / 8 + 2 * b) 2))
  else
    let blocks := (List.range nb).map (fun b =>
      let o := 32 + b * (2 + 2 * min topk 256)
      let len := min 256 (count - 256 * b)
      (leAt body o 2, len, (List.range (min topk len)).map (fun k => leAt body (o + 2 + 2 * k) 2)))
    (blocks.flatMap (fun (_, len, es) => (List.range len).map (fun i =>
        match es.find? (fun e => e % 256 == i) with
        | some e => if bit e 15 then -1 else 1
        | none => 0)), blocks.map (·.1))

/-- R416: an arriving contribution message. -/
def Dev.contributionArrives (d : Dev) (body : List Nat) : Dev :=
  let src := leAt body 2 2 % 4096
  let step := leAt body 4 4
  let chunk := leAt body 12 4
  match d.attempt, d.runTable with
  | some a, some x =>
    match x.tensors.findIdx? (fun t => t.tensorId == leAt body 8 4) with
    | none => d.count XCH_FOREIGN_CNT_COUNT 0 0
    | some i =>
      let t := x.tensors.getD i ⟨[]⟩
      let (lo, hi) := x.owned t d.nodeId
      if !(decide (lo ≤ chunk) && decide (chunk < hi)) || !(x.membersOf t).contains src then
        d.count XCH_FOREIGN_CNT_COUNT 0 0
      else if step ≠ a.step then
        (((d.count XCH_SKEW_CNT_COUNT 0 0).wr XCH_LAST_SKEW_NODE 0 0 0 src).setWord XCH_LAST_SKEW_STEP 0 0 0 step).resolveCheck 2
      else if nth body 1 ≠ a.number % 256 then d.count XCH_STALE_CNT_COUNT 0 0
      else if a.summed.contains (i, chunk, src) then d.count XCH_DUP_CNT_COUNT 0 0
      else
        let first := !a.summed.any (fun e => e.1 == i && e.2.1 == chunk)
        let (votes, scales) := contribution body (nth body 0) (t.chunkLen chunk) (nth body 18)
        let best := scales.foldl (fun (m : Nat) s =>
          if (fp32Decode m).lt (bf16Decode s) then s * 2 ^ 16 else m) (d.word XCH_SCALE_MAX 0)
        let d1 := ((d.addVotes t lo chunk first votes).setWord XCH_SCALE_MAX 0 0 0 best).countWrap XCH_SUMMED_CNT_COUNT 0 0
        let d2 := d1.modAttempt (fun a => { a with summed := a.summed ++ [(i, chunk, src)] })
        match d2.attempt with
        | some a2 => if d2.allSummed a2 x then d2.writeAhead x else d2
        | none => d2
  | _, _ => d.count XCH_FOREIGN_CNT_COUNT 0 0

/-- R407, R411, R412: the exchange unit compresses a triggered tensor and sends its contributions, chunk by chunk. -/
def Dev.compress (d : Dev) (i : Nat) : Dev :=
  match d.attempt, d.run, d.runTable with
  | some a, some r, some x =>
    match x.tensors[i]? with
    | none => d
    | some t =>
      if !a.triggered.contains i || a.compressed.contains i || decide (a.phase ≠ .running ∧ a.phase ≠ .signalled) || d.on FLT_ISO_X_XCH 0 then d
      else
        let topk := t.comp == 1
        let d1 := d.modAttempt (fun a => { a with compressed := a.compressed ++ [i] })
        let d2 := (List.range t.chunks).foldl (fun (d : Dev) c =>
          let n := t.chunkLen c
          let bs := (List.range ((n + 255) / 256)).map (fun b =>
            compressBlock (if topk then some t.topk else none) (d.signInputs t (4096 * c + 256 * b)))
          let d1 := ((bs.flatMap (·.residual)).zipIdx).foldl (fun (d : Dev) (w, k) =>
            d.setLe (devCell (t.efPend + 2 * (4096 * c + k))) 2 w) d
          let pay := signPayload topk bs
          let body := exchHeader (if topk then 2 else 1) a.number d.nodeId r.ctx a.step t.tensorId c n
            (if topk then t.topk else 0) 0 pay.length ++ pay
          match x.ownerOf t c with
          | none => d1
          | some o =>
            if o = d1.nodeId then d1.contributionArrives body
            else
              let (st, d2) := d1.originate (exchPacket o r.ctx body) (.exchange i c)
              let d3 := d2.countWrap XCH_SENT_CNT_COUNT 0 0
              if st = .ok then d3 else d3.markIsolated) d1
        d2.showXch
  | _, _, _ => d

/-! ### The update (R423 to R427, R461, R462) -/

/-- Shows UPD_STATUS.PHASE and CHUNKS_LEFT (R440). The journal is written with the commit (R419), so PHASE 1 is never seen between
commands. -/
def Dev.showUpdate (d : Dev) : Dev :=
  let n := d.updates.foldl (fun n u => n + u.todo.length + u.broken.length) 0
  (d.wr UPD_STATUS_PHASE 0 0 0 (if !d.rebuild.isEmpty then 3 else if d.updates.isEmpty then 0 else 2)).wr UPD_STATUS_CHUNKS_LEFT 0 0 0 (min n 0xFFFFFF)

/-- Key of a chunk in an update's sums. -/
def chunkKey (i c : Nat) : Nat := i * 2 ^ 32 + c

/-- R461: the sums U and W of a tensor: what its owned chunks add, in chunk order, in FP32. -/
def UpdateRun.ratioSums (u : UpdateRun) (node i : Nat) : Fp × Fp :=
  let (lo, hi) := ((u.table.tensors[i]?).map (fun t => u.table.owned t node)).getD (0, 0)
  (List.range (hi - lo)).foldl (fun acc k =>
    let (a, b) := Tbl.get (0, 0) u.sums (chunkKey i (lo + k))
    (Fp.add acc.1 (fp32Decode a), Fp.add acc.2 (fp32Decode b))) (.fin false 0, .fin false 0)

/-- No chunk of a tensor is still to be written. -/
def UpdateRun.tensorDone (u : UpdateRun) (i : Nat) : Bool := !u.todo.any (fun e => e.1 == i) && !u.broken.any (fun e => e.1 == i)

/-- R461: RATIO_BASE and RATIO_MAX of an update's watch table. -/
def Dev.writeRatio (d : Dev) (u : UpdateRun) (i : Nat) : Dev :=
  match u.wch with
  | none => d
  | some w =>
    let (a, b) := u.ratioSums d.nodeId i
    let rho := match a, b with
      | .fin _ x, .fin _ y =>
        if x = 0 ∧ y = 0 then Fp.fin false 0 else if y = 0 then .inf false else Fp.sqrt (.fin false (x / y))
      | _, _ => Fp.div (Fp.sqrt a) (Fp.sqrt b)
    let code := fp32Encode rho
    let d1 := d.setLe (devCell (bits (d.mem64 (w.base + 32)) 47 0 + 4 * i)) 4 code
    if (fp32Decode (bits (d.mem64 (w.base + 16)) 63 32)).lt rho then
      d1.hostEvent (srcUnit 0x05) 0x0201 .ok (some u.ctx) (leBytes 2 i ++ leBytes 4 u.step ++ leBytes 4 code)
    else d1

/-- R423, R461: an update begins: ratios of tensors without owned parameters are +0; an update with no chunk is complete. -/
def Dev.beginUpdate (d : Dev) (u : UpdateRun) : Dev :=
  let d1 := (u.table.tensors.zipIdx).foldl (fun (d : Dev) (t, i) =>
    match u.wch with
    | some w => if (u.table.ownedParams t d.nodeId).2 = 0 then
        d.setLe (devCell (bits (d.mem64 (w.base + 32)) 47 0 + 4 * i)) 4 0 else d
    | none => d) d
  -- R485: an update waits for the copies of the last commit
  let d2 := if d1.snapshots.isEmpty then d1 else d1.diag (srcUnit 0x05) .updateWait .ok [u.step]
  if u.todo.isEmpty && d2.updates.isEmpty then
    ({ d2 with snapshots := d2.snapshots ++ u.copies }.setWord UPD_LAST_STEP 0 0 0 u.step).showUpdate
  else { d2 with updates := d2.updates ++ [u] }.showUpdate

/-- The scale codes of a chunk's working copy as a message carries them: one per block, or one per segment (R414). -/
def wcCodes (shared : Bool) (qs : List QBlock) : List Nat :=
  ((qs.zipIdx).filter (fun (_, i) => !shared || i % 4 == 0)).map (fun (q, _) => q.scale)

/-- Writes a chunk's working copy in planar layout: elements from parameter `p` on, and a code for every block. -/
def Dev.writeCopy (d : Dev) (t : XchTensor) (f : Fmt) (p : Nat) (codes scales : List Nat) : Dev :=
  let d1 := (codes.zipIdx).foldl (fun (d : Dev) (c, k) => d.setPlanarElem t.wcopy f.bits (p + k) c) d
  (scales.zipIdx).foldl (fun (d : Dev) (c, b) => d.setByte (devCell (t.wcPlane + p / 32 + b)) c) d1

/-- R432: a chunk of a tensor's working copy has arrived; with the last one the refresh of R41 becomes due. -/
def Dev.chunkPresent (d : Dev) (tensor c : Nat) : Dev :=
  let old := Tbl.get [] d.wcMissing tensor
  if !old.contains c then d
  else
    let left := old.filter (· != c)
    let d1 := { d with wcMissing := Tbl.set [] d.wcMissing tensor left }.showXch
    if left.isEmpty then
      (((d1.arrays.map (·.1)).filter (fun a => (d1.binding a).tensor == tensor)).foldl (fun (d : Dev) a =>
        d.makeDue a .newCopy) d1).updateReady
    else d1

/-- The arithmetic of an update: the rule of a tensor under an update. -/
def UpdateRun.rule (u : UpdateRun) (t : XchTensor) (n : Nat) : UpdRule :=
  { rule := t.rule, n := n, eta := t.eta, lambda := t.lambda, beta := t.beta, theta := t.theta
    tbc := biasCount u.committed t.bcBase, step := u.step, sr := t.mround == 1, gen1 := u.gen1 }

/-- Momentum blocks of owned parameters from `k` on, in planar layout. -/
def Dev.momBlocks (d : Dev) (mom plane k n : Nat) : List MomBlock :=
  (List.range ((n + 31) / 32)).map (fun b =>
    ⟨d.byte (devCell (plane + k / 32 + b)), d.bytes (devCell (mom + k + 32 * b)) (min 32 (n - 32 * b))⟩)

/-- Writes such blocks back. -/
def Dev.setMomBlocks (d : Dev) (mom plane k : Nat) (bs : List MomBlock) : Dev :=
  (bs.zipIdx).foldl (fun (d : Dev) (b, i) =>
    (d.setByte (devCell (plane + k / 32 + i)) b.scale).setBytes (devCell (mom + k + 32 * i)) b.codes) d

/-- R424 to R427: updates owned parameters `k` to `k + n - 1` of a tensor's masters and momentum at the given places, from
their vote sums and mask. -/
def Dev.applyUpdate (d : Dev) (r : UpdRule) (master mom plane p0 k : Nat) (votes : List (Int × Bool)) : UpdResult × Dev :=
  let es := (votes.zipIdx).map (fun ((v, f), i) => (⟨v, d.le (devCell (master + 4 * (k + i))) 4, f⟩ : UpdElem))
  let uses := decide (r.rule = 2 ∨ r.rule = 3)
  let moms := if uses then d.momBlocks mom plane k es.length else []
  let res := updRun r p0 es moms
  let d1 := (res.masters.zipIdx).foldl (fun (d : Dev) (w, i) => d.setLe (devCell (master + 4 * (k + i))) 4 w) d
  (res, if uses then d1.setMomBlocks mom plane k res.momentum else d1)

/-- R427, R430: the working copy of a chunk from its masters: written here, and sent to every other member. -/
def Dev.publishChunk (d : Dev) (ctx base step : Nat) (x : XchTable) (t : XchTensor) (c : Nat) (masters : List Nat) : Dev :=
  match d.scaleEntry base t.wcScale with
  | none => d
  | some e =>
    let f := (Fmt.ofCode e.format).getD .mxfp4
    let qs : List QBlock := wcBlocks e masters
    let codes := qs.flatMap (fun q => q.codes)
    let d1 := (d.writeCopy t f (4096 * c) codes (qs.map (fun q => q.scale))).scaleStats e (wcAmax e masters)
      (qs.foldl (fun (s : Nat) (q : QBlock) => s + q.sats) 0)
    let pay := packCodes f.bits codes ++ wcCodes e.shared qs
    let body := exchHeader 3 0 d.nodeId ctx step t.tensorId c masters.length 0 e.format pay.length ++ pay
    let d2 := ((x.membersOf t).filter (fun m => m != d.nodeId)).foldl (fun (d : Dev) m =>
      (d.originate (exchPacket m ctx body) .forgotten).2.countWrap XCH_SENT_CNT_COUNT 0 0) d1
    d2.chunkPresent t.tensorId c

/-- R427, R438: an owned chunk's working copy is recomputed from its masters as they stand, and sent. -/
def Dev.sendAgain (d : Dev) (ctx base step : Nat) (x : XchTable) (t : XchTensor) (c : Nat) : Dev :=
  let k := 4096 * (c - (x.owned t d.nodeId).1)
  d.publishChunk ctx base step x t c ((List.range (t.chunkLen c)).map (fun i => d.le (devCell (t.master + 4 * (k + i))) 4))

/-- R423: the bytes that the Chain transfers of an owned chunk move: in, votes, masters, momentum and mask; out, masters, momentum and
the working copy in `bits`-bit elements. -/
def XchTensor.chunkRuns (t : XchTensor) (k p n bits : Nat) : List (Nat × Nat) × List (Nat × Nat) :=
  let mom := if t.rule = 2 ∨ t.rule = 3 then [(t.mom + k, n), (t.momPlane + k / 32, (n + 31) / 32)] else []
  let masters := [(t.master + 4 * k, 4 * n)]
  ([(t.vote + 2 * k, 2 * n)] ++ masters ++ mom ++ (if t.freezeEn then [(t.mask + k / 8, (n + 7) / 8)] else []),
    masters ++ mom ++ [(t.wcopy + p * bits / 8, (n * bits + 7) / 8), (t.wcPlane + p / 32, (n + 31) / 32)])

/-- R364, R367, R423: the transfers of a chunk are counted at the DMA engine of the Grain (log entry 59). -/
def Dev.countTransfer (d : Dev) (g : Nat) (runs : List (Nat × Nat)) : Dev :=
  let n := runs.foldl (fun n r => n + r.2) 0
  (d.countWrap CHN_BYTES_CNT_COUNT g 0 ((n + 63) / 64)).count CHN_WASTE_CNT_COUNT g 0 ((touched runs 512 - n) / 64)

/-- The update at the front is complete (R423, R484). -/
def Dev.endUpdate (d : Dev) (u : UpdateRun) (rest : List UpdateRun) : Dev :=
  ({ d with updates := rest, snapshots := u.copies }.setWord UPD_LAST_STEP 0 0 0 u.step).showUpdate

/-- R423: the update sequencer runs its next owned chunk on a Grain whose wrapper is open, whose Bushel is powered and whose Peck's clock is
stable (R67); after a fault of the exchange unit it sends the chunks it had done again (R438). -/
def Dev.updateChunk (d : Dev) (g : Nat) : Dev :=
  match d.updates with
  | [] => d
  | u :: rest =>
    if d.wrapperClosed (peckOfGrain g) || d.gated (bushelOfPeck (peckOfGrain g)) || !d.clockGood (peckOfGrain g) || d.on FLT_ISO_X_XCH 0
        || !d.snapshots.isEmpty || !d.rebuild.isEmpty then d
    else
      match u.todo, u.resend with
      | [], [] => d.endUpdate u rest
      | [], (i, c) :: resend =>
        let d1 := d.sendAgain u.ctx u.base u.step u.table (u.table.tensors.getD i ⟨[]⟩) c
        if resend.isEmpty then d1.endUpdate u rest else { d1 with updates := { u with resend := resend } :: rest }
      | (i, c) :: todo, _ =>
        let t := u.table.tensors.getD i ⟨[]⟩
        let (lo, _) := u.table.owned t d.nodeId
        let k := 4096 * (c - lo)
        let votes := (List.range (t.chunkLen c)).map (fun j => (d.voteSum t (k + j), d.frozenAt t (k + j)))
        let (res, d1) := d.applyUpdate (u.rule t (u.table.membersOf t).length) t.master t.mom t.momPlane (4096 * c) k votes
        let d2 := ((d1.count UPD_MOM_SAT_CNT_COUNT 0 0 res.momSats).count UPD_NONFINITE_CNT_COUNT 0 0 res.nonfinite).count
          UPD_FROZEN_CNT_COUNT 0 0 res.frozen
        let u1 := { u with todo := todo, sums := Tbl.set (0, 0) u.sums (chunkKey i c) (fp32Encode res.u2, fp32Encode res.w2) }
        let (ins, outs) := t.chunkRuns k (4096 * c) (t.chunkLen c) (d.wcFormat u.base t).bits
        let d3 := (((d2.countTransfer g ins).countTransfer g outs).countWrap VEC_DESC_CNT_COUNT g 0).publishChunk u.ctx u.base u.step u.table t c
          res.masters
        let d4 := if u1.tensorDone i then d3.writeRatio u1 i else d3
        if todo.isEmpty && u.resend.isEmpty then d4.endUpdate u1 rest else { d4 with updates := u1 :: rest }.showUpdate

/-- R438, R461: a chunk of an update has been reconstructed: what its last journal section adds to the sums of R461, and, with the
tensor's last chunk, the ratio. -/
def UpdateRun.recovered (u : UpdateRun) (i c : Nat) (sums : List (Nat × Nat × Nat)) : UpdateRun :=
  { u with
    broken := u.broken.filter (fun e => e ≠ (i, c))
    sums := match sums.find? (fun s => s.1 == u.step) with
      | some (_, a, b) => Tbl.set (0, 0) u.sums (chunkKey i c) (a, b)
      | none => u.sums }

def Dev.chunkRecovered (d : Dev) (tensor c : Nat) (sums : List (Nat × Nat × Nat)) : Dev :=
  d.updates.foldl (fun (d : Dev) u =>
    match u.table.tensors.findIdx? (fun t => t.tensorId == tensor) with
    | some i =>
      if u.broken.contains (i, c) then
        let u1 := u.recovered i c sums
        let d1 : Dev := { d with updates := d.updates.map (fun v => if v = u then u1 else v) }
        if u1.tensorDone i then d1.writeRatio u1 i else d1
      else d
    | none => d) d

/-! ### Receiving working copies (R431, R432) -/

/-- The entry of a tensor in the program whose step was committed last, with the program's base (R431). -/
def Dev.committedTensor (d : Dev) (tensor : Nat) : Option (Nat × XchTensor) :=
  (d.lastKey.bind (Tbl.find d.programs)).bind (fun p => p.xch.bind (fun x =>
    (x.tensors.find? (fun t => t.tensorId == tensor)).map (fun t => (p.base, t))))

/-- R431: a working-copy message of the last committed step is taken; any other is discarded and counted. -/
def Dev.takeCopy (d : Dev) (body : List Nat) : Dev :=
  let tensor := leAt body 8 4
  let c := leAt body 12 4
  let n := leAt body 16 2
  match d.committedTensor tensor with
  | none => d.count XCH_WC_DROP_CNT_COUNT 0 0
  | some (base, t) =>
    if d.lastCommit ≠ some (leAt body 4 4) ∨ t.chunks ≤ c then d.count XCH_WC_DROP_CNT_COUNT 0 0
    else
      let f := d.wcFormat base t
      let shared := ((d.scaleEntry base t.wcScale).map ScaleEntry.shared).getD false
      let pay := body.drop 32
      let codes := (List.range n).map (fun i => packedCode pay f.bits i)
      let o := (n * f.bits + 7) / 8
      let scales := (List.range ((n + 31) / 32)).map (fun b => nth pay (o + (if shared then b / 4 else b)))
      (d.writeCopy t f (4096 * c) codes scales).chunkPresent tensor c

/-- R431: a working-copy message arrives on a port's sub-channel (`lane` = 2 × port + sub-channel): held while the outcome of its step
is awaited, behind those held from the same port. -/
def Dev.copyArrives (d : Dev) (lane : Nat) (body : List Nat) : Dev :=
  let awaited := match d.attempt with
    | some a => decide (a.step = leAt body 4 4) && decide (a.phase ≠ .committed)
    | none => false
  if awaited || d.heldWc.any (fun e => e.1 / 2 == lane / 2) then { d with heldWc := d.heldWc ++ [(lane, body)] }
  else d.takeCopy body

/-- R583: `n` flits of a class and sub-channel are free again at a port. -/
def Dev.freeCredits (d : Dev) (p cls sub n : Nat) : Dev :=
  d.modPort p (fun r => { r with freed := Tbl.set 0 r.freed (2 * cls + sub) (Tbl.get 0 r.freed (2 * cls + sub) + n) })

/-- R431: at an outcome the held messages are looked at again; one that is taken frees its buffer. -/
def Dev.releaseHeld (d : Dev) : Dev :=
  d.heldWc.foldl (fun (d : Dev) e =>
    let d1 := d.copyArrives e.1 e.2
    if d1.heldWc.length = d.heldWc.length then
      d1.freeCredits (e.1 / 2) 2 (e.1 % 2) (1 + (exchPacket 0 0 e.2).dflits)
    else d1) { d with heldWc := [] }

end Sys2Proof.Machine
end

