-- ==== Sys2Proof/Machine/Runs.lean ====
section
/-! DEFINITION. Runs, attempts and outcomes (01, 10, 11, 13): starting a run and an attempt, acting on an outcome, scale
recomputation. -/
namespace Sys2Proof.Machine

/-! ### Program images (R329 to R331) -/

/-- TASK_COUNT, MB_COUNT and GEN1 of the program at a base. -/
def Dev.taskCount (d : Dev) (base : Nat) : Nat := bits (d.header base 0) 16 0
def Dev.programGen1 (d : Dev) (base : Nat) : Bool := bit (d.header base 0) 39

/-- Home Peck of task `i` (R330). -/
def Dev.homePeck (d : Dev) (base i : Nat) : Nat :=
  ((List.range 128).find? (fun p =>
    let e := d.mem64 (base + 64 + 8 * p)
    decide (bits e 31 0 ≠ 0) && decide (bits e 63 32 ≤ i) && decide (i < bits e 63 32 + bits e 31 0))).getD 0

/-- Descriptor words of task `i` (R340). -/
def Dev.descriptor (d : Dev) (base i : Nat) : List Nat := d.words64 (devCell (base + 1088 + 32 * i)) 4

/-- Home Grain of a descriptor in a home Peck. -/
def homeGrain (peck : Nat) (desc : List Nat) : Nat := 8 * peck + bits (nth desc 0) 57 55

/-- The entries of the sync initialisation table (R331). -/
def Dev.initTable (d : Dev) (base : Nat) : List Nat :=
  let w := d.header base 5
  d.words64 (devCell (bits w 47 0)) (bits w 63 48)

/-- R331: an entry names what it may name now. -/
def Dev.initOk (d : Dev) (ctx barrier e : Nat) : Bool :=
  decide (bits e 62 28 = bits e 62 56 * 2 ^ 28)
    && (if bit e 63 then
      decide (bits e 62 56 = 0) && decide (bits e 27 16 ≠ barrier)
        && (match d.refOf ctx (bits e 27 16) with
          | .object k => decide ((d.obj k).map SyncObj.kind = some .ordinary)
          | _ => false)
    else decide (bits e 27 16 < 48))

/-- Gives the objects of the table their values. -/
def Dev.applyInit (d : Dev) (ctx : Nat) (es : List Nat) : Dev :=
  es.foldl (fun (d : Dev) e =>
    if bit e 63 then
      match d.refOf ctx (bits e 27 16) with
      | .object k => (match d.obj k with
        | some o => d.setObj k { o with value := bits e 15 0 }
        | none => d)
      | _ => d
    else d.wr SYN_LC_VALUE (bits e 62 56) (bits e 27 16) 0 (bits e 15 0)) d

/-! ### Starting (R25, R331, R334, R337, R390) -/

/-- R334: the next queued run starts. -/
def Dev.runStart (d : Dev) : Dev :=
  match d.runs with
  | [] => d
  | _ :: _ =>
    if d.runStarted || d.attempt.isSome then d
    else { d with runStarted := true, lastOutcome := none, outcomeDue := none, ingestDone := [] }

/-- What the BARRIER field leads to at the start of an attempt: the step and the attempt to load, or `none` where the run ends
with BAD_ARG. `answer` is what the home of a remote barrier answers at the first attempt. -/
def Dev.loadStep (d : Dev) (answer : Option (Nat × Nat)) : Option (Nat × Nat) :=
  let last := d.lastOutcome.map (fun o => (o.committed, o.attempt))
  match d.homeRef d.barrierRef with
  | .object k =>
    match (d.obj k).map SyncObj.kind with
    | some (.barrier b) => some (last.getD (b.committed, b.attempt))
    | _ => none
  | .remote _ _ _ _ => last.orElse (fun _ => answer)
  | _ => none

/-- A remote barrier whose home cannot be reached: the participant waits (R390). -/
def Dev.barrierUnreachable (d : Dev) : Bool :=
  match d.barrierRef with
  | .remote n _ _ _ => (d.unreachable n false).isSome
  | _ => false

/-- The tasks of a program, eligible (R337 step 5). -/
def Dev.freshTasks (d : Dev) (base : Nat) : Tbl TaskRun :=
  (List.range (d.taskCount base)).map (fun i =>
    let desc := d.descriptor base i
    let home := homeGrain (d.homePeck base i) desc
    (i, { desc := desc, home := home, grain := home }))

/-- R379: translates the entries of task `i`; none where one names what its use does not allow. -/
def Dev.translateTask (d : Dev) (ctx : Nat) (t : TaskRun) : Option (List ObjRef) :=
  let one := fun (k : Nat) =>
    let e := t.entry k
    if entryOn e then d.translate ctx (bit e 30) (bits e 27 16) (decide (k < 2)) (bit e 29) else some .unused
  let seg := fun (wait : Bool) =>
    if t.kind = 3 then
      let a := d.argWords t
      if chSegLevel a = 0 then some ObjRef.unused
      else
        let x := if wait then chSegWait a else chSegSig a
        d.translate ctx (bit x 15) (bits x 11 0) wait true
    else some .unused
  match one 0, one 1, one 2, one 3, seg false, seg true with
  | some a, some b, some c, some e, some f, some g => some [a, b, c, e, f, g]
  | _, _, _, _, _, _ => none

/-- R372, R379: task `i` becomes eligible: it is translated and posts WAIT0, or completes with BAD_ARG and halts the run. -/
def Dev.makeEligible (d : Dev) (ctx i : Nat) : Dev :=
  match d.attempt, d.task i with
  | some a, some t =>
    if a.phase ≠ .running then d
    else
      match d.translateTask ctx t with
      | some refs => (d.modTask i (fun t => { t with refs := refs })).postTask i
      | none => d.finishTask i .badArg
  | _, _ => d

/-- Clears the DONE bits of a program's completion records (R337 step 2). -/
def Dev.clearDone (d : Dev) (base : Nat) : Dev :=
  (List.range (d.taskCount base)).foldl (fun (d : Dev) i =>
    let c := devCell (bits (d.header base 4) 47 0 + 8 * i + 6)
    d.setByte c (setBits (d.byte c) 7 7 0)) d

/-- R125: clears the statistics of the scale table at the start of an attempt. -/
def Dev.clearStats (d : Dev) (base : Nat) : Dev :=
  let w := d.header base 1
  (List.range (bits w 63 48)).foldl (fun (d : Dev) i =>
    let a := bits w 47 0 + 16 * i
    (d.setLe (a + 8) 4 0).setLe (a + 14) 2 0) d

/-- R411: the exchange unit watches the triggers of the attempt: an object of this module may have reached its threshold already; for one of
a partner module it posts an OBSERVE wait (log entry 120). -/
def Dev.watchTriggers (d : Dev) (ctx : Nat) : Dev :=
  match d.runTable with
  | none => d
  | some x => x.tensors.zipIdx.foldl (fun (d : Dev) (e : XchTensor × Nat) =>
      match d.refOf ctx e.1.trig with
      | .object k => d.checkTriggers k
      | .remote n c v g =>
        (match d.postWait 0 (.remote n c v g) ⟨.trigger e.2, 4 * 2 ^ 29 + e.2, false, e.1.trigThresh⟩ with
          | (some _, d1) => d1.triggers e.2
          | (none, d1) => d1)
      | _ => d) d

/-- R337: an attempt of the running run starts. -/
def Dev.attemptStart (d : Dev) (answer : Option (Nat × Nat)) : Dev :=
  match d.run, d.runProgram with
  | some r, some p =>
    let mayStart := d.runStarted && (match d.attempt with
      | none => true
      | some a => (decide (a.phase = .refused) || decide (a.phase = .committed)) && !a.rescale)
    if !mayStart || (d.lastOutcome.isNone && d.barrierUnreachable) then d
    else
      let d0 := d.stopTasks
      match d0.loadStep answer with
      | none => d0.endRun .badArg 0 none
      | some (step, number) =>
        let base := p.base
        let es := d0.initTable base
        let d0 := d0.clearDone base
        if !es.all (d0.initOk r.ctx (bits (d0.header base 6) 11 0)) then d0.endRun .badArg 0 none
        else
          let shown := match d0.attempt with
            | some a => if a.step = step then min (a.shown + 1) 255 else number
            | none => number
          let d1 := d0.clearStats base
          let d2 := { d1 with attempt := some { step := step, number := number, shown := shown
                                                gen1 := d1.programGen1 base, tasks := d1.freshTasks base } }
          let d3 := (List.range 128).foldl (fun (d : Dev) q =>
            (d.clearCounters q).wr TSK_SCHED_STATUS_ATTEMPT q 0 0 shown) (d2.clearNorms.showRun 1)
          let d4 := ((d3.applyInit r.ctx es).exchangeStart).startSamples
          let d5 := d4.watchTriggers r.ctx
          (List.range (d5.taskCount base)).foldl (fun (d : Dev) i => d.makeEligible r.ctx i) d5
  | _, _ => d

/-! ### Scale recomputation (R454 to R456) -/

/-- The affected entries of a refused attempt, with their observed maxima (none = not finite). -/
def Dev.affected (d : Dev) (base : Nat) (p : Program) (a : Attempt) : List (Nat × Option Rat) :=
  let observed := fun (i : Nat) => match d.scaleEntry base i with
    | some e => (match Fp.mulExact (fp32Decode e.amax) (fp32Decode e.scale) with
      | .fin _ m => some m
      | _ => none)
    | none => some 0
  let larger := fun (x y : Option Rat) => match x, y with
    | some u, some v => some (if u < v then v else u)
    | _, _ => none
  let failed := a.samples.filter (fun (e : Nat × WatchSample) => e.2.failed)
  let fromSamples := failed.flatMap (fun (e : Nat × WatchSample) =>
    match d.task e.2.task with
    | none => []
    | some t =>
      let g := if t.arg.isEmpty then d.argWords t else t.arg
      let m := match fp32Decode e.2.max with
        | .fin _ m => some m
        | _ => none
      [(fwdXScale g, larger (observed (fwdXScale g)) m)]
        ++ (if fwdOut g = 2 then [(fwdOutScale g, observed (fwdOutScale g))] else []))
  let fromNorms := match p.wch with
    | none => []
    | some w => (List.range (d.normCount w.base)).flatMap (fun i =>
        let at_ := normAddr w.base i
        if bit (d.mem64 (at_ + 24)) 0 then
          ([bits (d.mem64 at_) 47 32, bits (d.mem64 at_) 31 16].filter (· != 0xFFFF)).map (fun s => (s, observed s))
        else [])
  (fromSamples ++ fromNorms).foldl (fun l e =>
    if l.any (fun x => x.1 == e.1) then l.map (fun x => if x.1 = e.1 then (x.1, larger x.2 e.2) else x) else l ++ [e]) []

/-- R455: the new TENSOR_SCALE word of an entry of a format, for an observed maximum. -/
def recomputedScale (f : Fmt) (m : Rat) : Nat :=
  let e := max (-126) (min 127 (floorLog2 m - f.emax))
  (e + 127).toNat * 2 ^ 23

/-- R454, R455: firmware recomputes the scales of the affected entries; the next attempt may start then (R456). An entry that R124 rejects is
not replaced. -/
def Dev.recomputeScales (d : Dev) : Dev :=
  match d.runProgram, d.attempt with
  | some p, some a =>
    if a.rescale = false then d
    else
      let d1 := (d.affected p.base p a).foldl (fun (d : Dev) (i, m) =>
        match d.scaleEntry p.base i, m with
        | some e, some q =>
          match Fmt.ofCode e.format with
          | some f =>
            let w := recomputedScale f q
            if e.shared || decide (q = 0) || !({ e with scale := w }).valid then d else d.setLe e.addr 4 w
          | none => d
        | _, _ => d) d
      d1.modAttempt (fun x => { x with rescale := false })
  | _, _ => d

/-! ### Outcomes (R31, R36, R42, R43, R389) -/

/-- R31: at the commit point the pending buffers of the tensors compressed in the attempt become the residuals in use. -/
def Dev.commitResiduals (d : Dev) (x : XchTable) (done : List Nat) : Dev :=
  done.foldl (fun (d : Dev) i =>
    match x.tensors[i]? with
    | some t => d.copyBytes (devCell t.efPend) (devCell t.efUse) (2 * t.p)
    | none => d) d

/-- R436: hyperparameters that UPD_SET keeps for the next commit point replace those of the table. -/
def XchTable.takePending (x : XchTable) : XchTable :=
  { x with
    tensors := x.pending.foldl (fun ts (e : Nat × List Nat) => setAt ts e.1 ⟨e.2⟩) x.tensors
    pending := [] }

/-- R484: copies due after a commit under a policy: every chunk c of a METHOD 2 tensor with c mod K equal to the policy count mod K. -/
def RecPolicy.dueCopies (pol : RecPolicy) (key : Nat) (x : XchTable) (node : Nat) : List (Nat × Nat × Nat × Bool) :=
  pol.entries.flatMap (fun e =>
    let w := nth e 0
    let k := bits w 15 0
    match x.tensors.findIdx? (fun t => t.tensorId == bits w 63 32) with
    | none => []
    | some i =>
      let t := x.tensors.getD i ⟨[]⟩
      let (lo, hi) := x.owned t node
      if bits w 31 30 ≠ 2 ∨ k = 0 then []
      else ((List.range t.chunks).filter (fun c => c % k == pol.count % k)).flatMap (fun c =>
        (if bit w 29 && decide (lo ≤ c) && decide (c < hi) then [(key, i, c, false)] else [])
          ++ (if bit w 28 then [(key, i, c, true)] else [])))

/-- The commit of step t on this participant, up to the start of its update (R38 to R42, R386, R419, R432, R443, R450). -/
def Dev.commitStep (d : Dev) (r : Run) (p : Program) (a : Attempt) (committed : Nat) : Dev :=
  let key := progKey r.ctx r.handle
  let d1 := a.samples.foldl (fun (d : Dev) (e : Nat × WatchSample) => d.movePointer e.1 e.2.index) d.commitNorms
  let d2 := { d1 with
    rng := (List.range 128).foldl (fun t q => Tbl.set 0 t q (Config.rngAdvance (Tbl.get 0 t q) a.step).toNat) d1.rng
    ingestDone := [], lastCommit := some a.step, lastKey := some key, mirrorDue := true }
  let d3 := d2.modProgram key (fun p => { p with
    refusals := 0
    xch := p.xch.map XchTable.takePending
    policy := p.policy.map (fun pol => { pol with count := (pol.count + 1) % 2 ^ 64 }) })
  let d4 := d3.clearReady
  match (Tbl.find d4.programs key).bind (·.xch) with
  | none => d4.updateReady
  | some x =>
    let d5 := (d4.commitResiduals x a.compressed).writeJournal x r.ctx a.step a.number committed a.gen1
    let d6 := { d5 with wcMissing := x.tensors.foldl (fun m (t : XchTensor) =>
      Tbl.set [] m t.tensorId (List.range t.chunks)) d5.wcMissing }
    (d6.showXch.updateReady.beginUpdate
      { ctx := r.ctx, base := p.base, table := x, wch := p.wch, step := a.step, committed := committed, gen1 := a.gen1
        todo := x.ownedChunks d6.nodeId
        copies := (((Tbl.find d6.programs key).bind (·.policy)).map (fun pol => pol.dueCopies key x d6.nodeId)).getD []
        }).releaseHeld

/-- REPLAY_LIMIT of a program (R448, R457). -/
def Dev.replayLimit (d : Dev) (p : Program) : Nat := bits (d.watchHeader p 1) 15 8

/-- R43, R45, R374, R457: the attempt was refused: it is discarded, the waits of its tasks are withdrawn, and either the next one may start
or, the scales recomputed all the same (R454), the run stops. -/
def Dev.refuseStep (d : Dev) (r : Run) (p : Program) (a : Attempt) (st : Status) : Dev :=
  let own := decide (st = .checkFailed) && (a.sampleFail || a.normFail)
  let key := progKey r.ctx r.handle
  let d1 := (d.modAttempt (fun x => { x with phase := .refused, rescale := own })).withdrawTasks
  if own then
    let n := if p.refusedStep = a.step then p.refusals + 1 else 1
    let d2 := d1.modProgram key (fun p => { p with refusals := n, refusedStep := a.step })
    if d2.replayLimit p ≤ n then
      (d2.recomputeScales.stopTasks.endRun .checkFailed 0 none).hostEvent (srcCtx r.ctx) 0x0200 .checkFailed (some r.ctx)
        (leBytes 4 a.step ++ [min n 255])
    else d2
  else d1

/-- R389: the participant acts on an outcome message; one it has already acted on is discarded (R491). A commit of the attempt's
step commits it; any other outcome discards the attempt, and between attempts an outcome is what the next one loads (R25, R390). `msg`
is a message from the hub of a partner module; without one the outcome of a barrier homed here is taken. -/
def Dev.barrierOutcome (d : Dev) (msg : Option Outcome) : Dev :=
  let d0 := if msg.isNone then { d with outcomeDue := none } else d
  match msg.orElse (fun _ => d.outcomeDue), d.run, d.runProgram with
  | some o, some r, some p =>
    if d0.lastOutcome = some o ∨ d0.runStarted = false then d0
    else
      let st := Status.ofCode o.status
      let d1 := { d0 with lastOutcome := some o }
      match d.attempt with
      | none => d1
      | some a =>
        if a.phase = .halted then d0
        else if a.phase = .committed ∨ a.phase = .refused then d1
        else if st = .ok ∧ a.phase = .signalled ∧ o.committed = (a.step + 1) % 2 ^ 32 then
          let d2 := d1.commitStep r p a o.committed
          let d3 := { d2 with runs := { r with committed := r.committed + 1 } :: d2.runs.drop 1 }.modAttempt
            (fun x => { x with phase := .committed })
          if r.steps ≤ r.committed + 1 then d3.stopTasks.endRun .ok 0 none else d3
        else (d1.refuseStep r p a st).releaseHeld
  | _, _, _ => d0

end Sys2Proof.Machine
end

