-- ==== Sys2Proof/Machine/StepCommands.lean ====
section
/-! DEFINITION. Commands on step programs, exchange tables and watch tables (10, 12, 13): STEP_, XCH_, UPD_SET, WCH_ and
REPLAY_DIAG. Each answers a reply and the module after it; one that fails changes nothing. -/
namespace Sys2Proof.Machine

/-! ### Arguments (R510, R511) -/

/-- R511: argument words 1 on have no bit outside the masks; words beyond the list are wholly reserved. -/
def Dev.argsClean (d : Dev) (c s : Nat) (masks : List Nat) : Bool :=
  (List.range 15).all (fun i => d.cmd c s (i + 1) &&& (2 ^ 32 - 1 - nth masks i) == 0)

/-- A 48-bit address in words `w` and `w + 1`, low word first. -/
def Dev.cmd48 (d : Dev) (c s w : Nat) : Nat := d.cmd c s w + 2 ^ 32 * bits (d.cmd c s (w + 1)) 15 0

/-- A full word, and the upper half of a 48-bit address. -/
def mWord : Nat := 2 ^ 32 - 1
def mHigh : Nat := 2 ^ 16 - 1

/-- A region lies in device memory (R719). -/
def inMemory (a n : Nat) : Bool := decide (a + n ≤ deviceMemory)

/-- A run of a program is queued or running. -/
def Dev.hasRun (d : Dev) (c h : Nat) : Bool := d.runs.any (fun r => r.ctx == c && r.handle == h)

/-! ### STEP_LOAD (R333, R346) -/

/-- R342: a wait entry, or a signal entry, is well formed. -/
def descEntryOk (e : Nat) (wait : Bool) : Bool :=
  if entryOn e then !bit e 28 && (wait || !bit e 29) && (bit e 30 || decide (bits e 27 16 < 48)) else decide (e = 0)

/-- The argument length a kind's own counts imply (R346); none where a count is out of range. -/
def argLen (kind : Nat) (a : List Nat) : Option Nat :=
  if kind = 0 then (if fwdCount a ≤ 16 then some (6 + fwdCount a) else none)
  else if kind = 1 then (if nth a 0 < 3 then some (1 + 6 * nth a 0) else none)
  else if kind = 2 then (if nth a 0 ≤ 16 then some (1 + 10 * nth a 0) else none)
  else if kind = 3 then (if chLevels a ≤ 6 then some (6 + 2 * chLevels a) else none)
  else some 0

/-- R346: the static checks of a task of the program at `base`: none passes, BAD_LENGTH is a Chain program with LEVELS 0. -/
def Dev.taskStatic (d : Dev) (base i : Nat) : Option Status :=
  let desc := d.descriptor base i
  let w0 := nth desc 0
  let w3 := nth desc 3
  let t : TaskRun := { desc := desc, home := homeGrain (d.homePeck base i) desc }
  let k := t.kind
  let a := d.argWords t
  let space := bits w0 31 29
  let sc := fun x => decide (x < bits (d.header base 1) 63 48)
  let descOk := decide (bits w0 47 42 = 0) && decide (bits w0 28 16 = 0) && decide (k < 6)
    && (!bit w0 59 || k == 1 || k == 2) && (!bit w0 58 || k == 3) && decide (space < 3)
    && decide (bits w3 63 48 = 0) && decide (bits w3 47 0 % 8 = 0)
    && descEntryOk (t.entry 0) true && descEntryOk (t.entry 1) true && descEntryOk (t.entry 2) false
    && descEntryOk (t.entry 3) false
    && decide (bits w3 47 0 + 8 * bits w0 41 32 ≤ spaceSize space)
  if !descOk then some .badArg
  else if k = 3 ∧ chLevels a = 0 ∧ 6 ≤ a.length then some .badLength
  else if argLen k a ≠ some a.length then some .badArg
  else
    let ok := if k = 0 then fwdStatic a t.home && sc (fwdXScale a) && sc (fwdWScale a)
        && (decide (fwdOut a ≠ 2) || sc (fwdOutScale a))
      else if k = 1 then d.productsOk base a && (productsOf a).all Product.addressesOk
      else if k = 2 then (List.range (vecCount a)).all (fun v => d.vecOk base (d.programGen1 base) (vecDesc a v))
      else if k = 3 then decide (d.chainStatic base a = none)
      else true
    if ok then none else some .badArg

/-- R330: the directory's entries with a count cover the tasks once, in ascending order. -/
def Dev.directoryOk (d : Dev) (base count : Nat) : Bool :=
  let r := (List.range 128).foldl (fun (acc : Option Nat) p =>
    let e := d.mem64 (base + 64 + 8 * p)
    acc.bind (fun n => if bits e 31 0 = 0 then some n
      else if bits e 63 32 = n then some (n + bits e 31 0) else none)) (some 0)
  r == some count

/-- R329: the header's fields and reserved bits. -/
def Dev.headerOk (d : Dev) (base : Nat) : Bool :=
  let h := d.header base
  decide (bits (h 0) 63 48 = 3) && decide (bits (h 0) 47 40 ≤ 128) && decide (bits (h 0) 38 17 = 0)
    && decide (bits (h 0) 16 0 ≤ 65536) && decide (bits (h 1) 47 0 % 16 = 0)
    && decide (bits (h 2) 63 48 = 0) && decide (bits (h 2) 47 0 % 4096 = 0) && decide (bits (h 3) 63 32 = 0)
    && decide (bits (h 4) 63 48 = 0) && decide (bits (h 4) 47 0 % 8 = 0) && decide (bits (h 5) 47 0 % 8 = 0)
    && decide (bits (h 6) 63 12 = 0) && decide (h 7 = 0)

/-- The regions a program names besides argument blocks (R333). -/
def Dev.programRegions (d : Dev) (base len : Nat) : List (Nat × Nat) :=
  let h := d.header base
  [(base, len), (bits (h 1) 47 0, 16 * bits (h 1) 63 48), (bits (h 2) 47 0, 4096 * bits (h 3) 31 0),
    (bits (h 4) 47 0, 8 * bits (h 0) 16 0), (bits (h 5) 47 0, 8 * bits (h 5) 63 48)]

/-- R333: the status a program is rejected with, if any. -/
def Dev.programCheck (d : Dev) (ctx base len : Nat) : Option Status :=
  let n := d.taskCount base
  let mb := d.mbCount base
  let tasks := List.range n
  let statics := tasks.map (d.taskStatic base)
  let descs := tasks.map (fun i => nth (d.descriptor base i) 0)
  let gen1 := d.programGen1 base
  let bad := decide (base % 64 ≠ 0) || decide (len < 1088 + 32 * n) || !d.headerOk base
    || (d.programRegions base len).any (fun r => !inMemory r.1 r.2)
    || !d.directoryOk base n
    || !(d.initTable base).all (d.initOk ctx (bits (d.header base 6) 11 0))
    || decide ((descs.map (fun w => bits w 15 0)).eraseDups.length ≠ n)
    || descs.any (fun w => decide (mb ≤ bits w 54 48))
    || (decide (mb ≠ 0) && decide ((descs.filter (fun w => bits w 63 60 == 4)).length ≠ 1))
    || statics.any (fun x => x == some .badArg)
    || (List.range (bits (d.header base 1) 63 48)).any (fun i =>
      match d.scaleEntry base i with
      | some e => !e.valid || (gen1 && e.round == 1)
      | none => true)
  if bad then some .badArg else if statics.any (fun x => x == some .badLength) then some .badLength else none

/-- Handles in use in a context. -/
def Dev.handles (d : Dev) (c : Nat) : List Nat := (List.range 4).filter (fun h => (Tbl.find d.programs (progKey c h)).isSome)

/-- R333: STEP_LOAD. The lowest free handle is given. -/
def Dev.stepLoad (d : Dev) (c s : Nat) : Reply × Dev :=
  let base := d.cmd48 c s 1
  let len := d.cmd c s 3
  if !d.argsClean c s [mWord, mHigh, mWord] || !inMemory base 1088 then (.st .badArg, d)
  else
    match d.programCheck c base len with
    | some st => (.st st, d)
    | none =>
      match (List.range 4).find? (fun h => !(d.handles c).contains h) with
      | none => (.st .busy, d)
      | some h =>
        (.done .ok [h], { d with programs := Tbl.put d.programs (progKey c h) { base := base, length := len } })

/-! ### STEP_SUBMIT, STEP_UNLOAD, STEP_ABORT (R334 to R336) -/

/-- The committed step value a run of a program ends with when it has not run: that of its barrier, or an open value where the
program's VID names no barrier of this module (log entry 34). -/
def Dev.barrierValue (d : Dev) (c h : Nat) : Nat × Dev :=
  let (v, d1) := d.fresh
  let free := (v % 2 ^ 32, d1)
  match (Tbl.find d.programs (progKey c h)).map (fun p => d.refOf c (bits (d.header p.base 6) 11 0)) with
  | some (.object k) =>
    (match (d.obj k).map SyncObj.kind with
      | some (.barrier b) => (b.committed, d)
      | _ => free)
  | _ => free

/-- R334: STEP_SUBMIT. -/
def Dev.stepSubmit (d : Dev) (c s : Nat) : Reply × Dev :=
  let h := bits (d.cmd c s 1) 1 0
  let n := bits (d.cmd c s 2) 15 0
  match Tbl.find d.programs (progKey c h) with
  | none => (.st .badArg, d)
  | some p =>
    if !d.argsClean c s [3, mHigh] then (.st .badArg, d)
    else if d.powerState ≠ 0 then (.st .notPermitted, d)
    else if 16 ≤ d.runs.length then (.st .busy, d)
    else if n = 0 ∨ d.mbCount p.base = 0 then
      let (v, d1) := d.barrierValue c h
      (.done .okZeroWork [0, v, 0], d1)
    else (.wait .run, { d with runs := d.runs ++ [{ ctx := c, handle := h, slot := s, steps := n }] })

/-- R335: STEP_UNLOAD. -/
def Dev.stepUnload (d : Dev) (c s : Nat) : Reply × Dev :=
  let h := bits (d.cmd c s 1) 1 0
  if !d.argsClean c s [3] || (Tbl.find d.programs (progKey c h)).isNone then (.st .badArg, d)
  else if d.hasRun c h then (.st .busy, d)
  else (.st .ok, { d with programs := Tbl.del d.programs (progKey c h) })

/-- R336, R337: the runs of a program end: queued ones with zero steps, the running one at once. -/
def Dev.abortRuns (d : Dev) (mine : Run → Bool) : Dev :=
  let keep := fun (d : Dev) (r : Run) => d.runStarted && decide (d.run = some r)
  let queued := d.runs.filter (fun r => mine r && !keep d r)
  let d1 : Dev := { d with runs := d.runs.filter (fun r => !mine r || keep d r) }
  let d2 := queued.foldl (fun (d : Dev) r =>
    let (v, d1) := d.barrierValue r.ctx r.handle
    d1.finishWaiting r.ctx r.slot .run .ok [0, v, 0]) d1
  match d2.run with
  | some r =>
    if mine r ∧ d2.runStarted = true then
      -- R351: a run that a task has halted reports that task
      match d2.attempt.bind (fun a => a.haltStatus.map (fun h => (a.haltTag, h))) with
      | some (tag, h) => d2.stopTasks.endRun h tag (some h)
      | none => d2.stopTasks.endRun .ok 0 none
    else d2
  | none => d2

/-- R336: STEP_ABORT. -/
def Dev.stepAbort (d : Dev) (c s : Nat) : Reply × Dev :=
  let h := bits (d.cmd c s 1) 1 0
  if !d.argsClean c s [3] || (Tbl.find d.programs (progKey c h)).isNone then (.st .badArg, d)
  else if !d.hasRun c h then (.st .okZeroWork, d)
  else (.st .ok, d.abortRuns (fun r => r.ctx == c && r.handle == h))

/-! ### XCH_LOAD, XCH_UNLOAD, UPD_SET (R434 to R436) -/

/-- Node IDs of a group entry's words. -/
def groupMembers (ws : List Nat) : List Nat :=
  (List.range (bits (nth ws 0) 12 0)).map (fun i => bits (nth ws (1 + i / 4)) (16 * (i % 4) + 11) (16 * (i % 4)))

/-- Words of the group entries from an address on. -/
def Dev.groupWords (d : Dev) (a n : Nat) : List (List Nat) :=
  match n with
  | 0 => []
  | n + 1 =>
    let k := 1 + (bits (d.mem64 a) 12 0 + 3) / 4
    d.words64 (devCell a) k :: Dev.groupWords d (a + 8 * k) n

/-- The exchange table at an address. -/
def Dev.readXch (d : Dev) (a : Nat) : XchTable :=
  let head := d.words64 (devCell a) 8
  let groups := d.groupWords (a + 64) (bits (nth head 0) 39 32)
  let t0 := a + 64 + 8 * (groups.foldl (fun n g => n + g.length) 0)
  { base := a, header := head, groups := groups, members := groups.map groupMembers
    tensors := (List.range (bits (nth head 0) 15 0)).map (fun i => ⟨d.words64 (devCell (t0 + 128 * i)) 16⟩), pending := [] }

/-- Bytes of an exchange table as its counts imply. -/
def XchTable.bytes (x : XchTable) : Nat :=
  64 + 8 * (x.groups.foldl (fun n g => n + g.length) 0) + 128 * x.tensors.length

/-- R408: header and group entries: version, alignments, reserved bits. -/
def XchTable.headOk (x : XchTable) : Bool :=
  let h := nth x.header
  decide (bits (h 0) 63 48 = 1) && decide (bits (h 0) 47 40 = 0) && decide (bits (h 0) 31 16 = 0)
    && decide (bits (h 1) 63 48 = 0) && decide (bits (h 1) 47 0 % 64 = 0)
    && decide (bits (h 2) 63 48 = 0) && decide (bits (h 2) 47 0 % 64 = 0) && decide (bits (h 3) 63 12 = 0)
    && decide (bits (h 4) 63 48 = 0) && decide (bits (h 4) 47 0 % 64 = 0) && decide (h 5 = 0 ∧ h 6 = 0 ∧ h 7 = 0)
    && x.groups.all (fun g =>
      let r := bits (nth g 0) 12 0
      decide (bits (nth g 0) 63 13 = 0) && decide (r ≤ 4096)
        && (List.range (4 * ((r + 3) / 4))).all (fun i =>
          let half := bits (nth g (1 + i / 4)) (16 * (i % 4) + 15) (16 * (i % 4))
          if i < r then decide (half < 4096) else decide (half = 0)))

/-- R405, R408, R410: a tensor entry; `shared` and `sr` say whether its scale entry is segment-shared and whether the program
runs in Gen-1 exact mode. -/
def XchTensor.ok (t : XchTensor) (shared gen1 : Bool) : Bool :=
  let hi := fun i => decide (bits (t.w i) 63 48 = 0)
  decide (bits (t.w 0) 8 0 = 0) && decide (t.tensorId ≠ noTensor) && decide (1 ≤ t.rule ∧ t.rule ≤ 4)
    && (if t.k = 0 then decide (t.p = 0) else decide (t.p % t.k = 0))
    && decide (bits (t.w 2) 63 60 = 0) && hi 4 && hi 6 && hi 7 && hi 8 && hi 9 && hi 10 && hi 14
    && decide (bits (t.w 13) 63 32 = 0) && decide (t.w 15 = 0)
    && (t.freezeEn || decide (t.mask = 0))
    && (!(t.rule == 1 || t.rule == 4) || (decide (t.mom = 0) && decide (t.momPlane = 0)))
    && hyperOk t.rule t.eta t.lambda t.beta t.theta
    && (!shared || decide (t.k % 128 = 0)) && !(gen1 && t.mround == 1)

/-- R434: the status an exchange table is rejected with, if any. -/
def Dev.xchCheck (d : Dev) (p : Program) (a len : Nat) : Option Status :=
  if a % 64 ≠ 0 ∨ len < 64 ∨ inMemory a len = false then some .badArg
  else
    let x := d.readXch a
    let me := d.node
    let ids := x.tensors.map XchTensor.tensorId
    let bad := decide (len < x.bytes) || !x.headOk || decide (ids.eraseDups.length ≠ ids.length)
      || x.tensors.any (fun t =>
        match d.scaleEntry p.base t.wcScale with
        | none => true
        | some e => !t.ok e.shared (d.programGen1 p.base))
      || x.tensors.any (fun t => decide (x.groups.length ≤ t.group)
        || (decide (x.membersOf t ≠ []) && decide (((x.membersOf t).filter (fun m => some m == me)).length ≠ 1)))
    if bad then some .badArg
    else if x.tensors.any (fun t => decide (x.membersOf t = [])) then some .badLength
    else none

/-- R265, R268: the working copies of a table's tensors are present again after a loss: the list of every SERVING array bound to one that has
none falls due. -/
def Dev.copiesReturn (d : Dev) (x : XchTable) : Dev :=
  (d.arrays.map (·.1)).foldl (fun (d : Dev) a =>
    let r := d.arr a
    if x.tensors.any (fun t => t.tensorId == (d.binding a).tensor) && !r.listed && r.decisionDue.isNone && r.decisionRuns.isNone
        && (d.arrState a == SERVING) then (d.modArr a (fun r => { r with lostList := true })).makeDue a .rebuild
    else d) d

/-- R434: XCH_LOAD. -/
def Dev.xchLoad (d : Dev) (c s : Nat) : Reply × Dev :=
  let h := bits (d.cmd c s 1) 1 0
  let a := d.cmd48 c s 2
  match Tbl.find d.programs (progKey c h) with
  | none => (.st .badArg, d)
  | some p =>
    if !d.argsClean c s [3, mWord, mHigh, mWord] then (.st .badArg, d)
    else
      match d.xchCheck p a (d.cmd c s 4) with
      | some st => (.st st, d)
      | none =>
        if d.hasRun c h || p.xch.isSome then (.st .busy, d)
        else (.st .ok, (d.modProgram (progKey c h) (fun p => { p with xch := some (d.readXch a) })).copiesReturn (d.readXch a))

/-- R435: XCH_UNLOAD. -/
def Dev.xchUnload (d : Dev) (c s : Nat) : Reply × Dev :=
  let h := bits (d.cmd c s 1) 1 0
  match (Tbl.find d.programs (progKey c h)).bind (·.xch) with
  | none => (.st .badArg, d)
  | some _ =>
    if !d.argsClean c s [3] then (.st .badArg, d)
    else if d.hasRun c h then (.st .busy, d)
    else (.st .ok, d.modProgram (progKey c h) (fun p => { p with xch := none }))

/-- R436: a tensor's words with the fields of UPD_SET replaced. -/
def updFields (fields : Nat) (v : Nat → Nat) (ws : List Nat) : List Nat :=
  let pick := fun (b k : Nat) (old : Nat) => if bit fields b then v k else old
  let w11 := pick 0 0 (bits (nth ws 11) 63 32) * 2 ^ 32 + pick 1 1 (bits (nth ws 11) 31 0)
  let w12 := pick 2 2 (bits (nth ws 12) 63 32) * 2 ^ 32 + pick 3 3 (bits (nth ws 12) 31 0)
  setAt (setAt (setAt ws 11 w11) 12 w12) 13 (pick 4 4 (bits (nth ws 13) 31 0))

/-- R436: UPD_SET. -/
def Dev.updSet (d : Dev) (c s : Nat) : Reply × Dev :=
  let h := bits (d.cmd c s 1) 1 0
  let fields := bits (d.cmd c s 1) 12 8
  let first := bits (d.cmd c s 2) 15 0
  let count := bits (d.cmd c s 3) 15 0
  match (Tbl.find d.programs (progKey c h)).bind (·.xch) with
  | none => (.st .badArg, d)
  | some x =>
    let now := fun (i : Nat) => (Tbl.find x.pending i).getD ((x.tensors.getD i ⟨[]⟩).words)
    let new := (List.range count).map (fun k => (first + k, updFields fields (fun j => d.cmd c s (4 + j)) (now (first + k))))
    if !d.argsClean c s [3 + 31 * 256, mHigh, mHigh, mWord, mWord, mWord, mWord, mWord]
        || decide (x.tensors.length < first + count)
        || new.any (fun e => let t : XchTensor := ⟨e.2⟩; !hyperOk t.rule t.eta t.lambda t.beta t.theta) then (.st .badArg, d)
    else if count = 0 ∨ fields = 0 then (.st .okZeroWork, d)
    else (.st .ok, d.modProgram (progKey c h) (fun p => { p with xch := p.xch.map (fun x =>
      { x with pending := new.foldl (fun m e => Tbl.put m e.1 e.2) x.pending }) }))

/-! ### WCH_LOAD, WCH_UNLOAD (R448, R464, R465) -/

/-- R448, R464: the watch table at an address passes the checks for a program. Bits that R448 reserves are ignored (R10). -/
def Dev.wchOk (d : Dev) (p : Program) (a len : Nat) : Bool :=
  let w := fun i => d.mem64 (a + 8 * i)
  let n := bits (w 0) 15 0
  let jump := fp32Decode (bits (w 1) 63 32)
  let rmax := fp32Decode (bits (w 2) 63 32)
  let limit := bits (d.header p.base 1) 63 48
  decide (a % 64 = 0) && decide (64 ≤ len) && inMemory a len && decide (64 + 32 * n ≤ len)
    && decide (bits (w 0) 63 48 = 1)
    && jump.isFinite && decide (1 ≤ jump.val) && !rmax.isNan && !rmax.lt (.fin false 0) && decide (bits (w 4) 47 0 % 4 = 0)
    && (List.range n).all (fun i =>
      let e := fun k => d.mem64 (normAddr a i + 8 * k)
      let mean := fp32Decode (bits (e 2) 63 32)
      let sc := fun x => decide (x = 0xFFFF) || decide (x < limit)
      decide (bits (e 0) 63 62 < 2) && sc (bits (e 0) 47 32) && sc (bits (e 0) 31 16) && decide (bits (e 1) 47 0 % 4 = 0)
        && mean.isFinite && !mean.lt (.fin false 0))

/-- R464: WCH_LOAD. -/
def Dev.wchLoad (d : Dev) (c s : Nat) : Reply × Dev :=
  let h := bits (d.cmd c s 1) 1 0
  let a := d.cmd48 c s 2
  match Tbl.find d.programs (progKey c h) with
  | none => (.st .badArg, d)
  | some p =>
    if !d.argsClean c s [3, mWord, mHigh, mWord] || !d.wchOk p a (d.cmd c s 4) then (.st .badArg, d)
    else if d.hasRun c h || p.wch.isSome then (.st .busy, d)
    else (.st .ok, d.modProgram (progKey c h) (fun p => { p with wch := some ⟨a⟩ }))

/-- R465: WCH_UNLOAD. -/
def Dev.wchUnload (d : Dev) (c s : Nat) : Reply × Dev :=
  let h := bits (d.cmd c s 1) 1 0
  match (Tbl.find d.programs (progKey c h)).bind (·.wch) with
  | none => (.st .badArg, d)
  | some _ =>
    if !d.argsClean c s [3] then (.st .badArg, d)
    else if d.hasRun c h then (.st .busy, d)
    else (.st .ok, d.modProgram (progKey c h) (fun p => { p with wch := none }))

/-! ### REPLAY_DIAG (R466, R487) -/

/-- A journal entry read from memory: its bytes. -/
def entryStep (b : List Nat) : Nat := leAt b 4 4
def entryCtx (b : List Nat) : Nat := nth b 2 / 16
def entrySections (b : List Nat) : Nat := leAt b 0 2

/-- The CRC of an entry holds (R419). -/
def entryCrcOk (b : List Nat) : Bool := leAt b 24 4 == crc32 (b.take 24 ++ [0, 0, 0, 0] ++ b.drop 28)

/-- The entries of a ring from unit `pos` up to `head`, in order; fillers are passed over. -/
def Dev.ringEntries (d : Dev) (base ring pos head fuel : Nat) : List (List Nat) :=
  match fuel with
  | 0 => []
  | fuel + 1 =>
    if pos = head then []
    else
      let pos := if ring ≤ pos then 0 else pos
      if pos = head then []
      else
        let len := d.le (devCell (base + 64 * pos + 8)) 8
        let n := len / 64
        if n = 0 then []
        else
          let rest := Dev.ringEntries d base ring (if ring ≤ pos + n ∧ pos + n ≠ head then 0 else pos + n) head fuel
          let b := d.bytes (devCell (base + 64 * pos)) len
          if entrySections b = 0 then rest else b :: rest

/-- The sections of an entry: header bytes and vote plane. -/
def sectionsOf (b : List Nat) (n : Nat) : List (List Nat × List Nat) :=
  match n with
  | 0 => []
  | n + 1 =>
    let h := b.take 64
    let plane := (leAt h 16 5 * (bits (leAt h 0 4) 26 22) + 7) / 8
    let padded := (plane + 63) / 64 * 64
    (h, (b.drop 64).take plane) :: sectionsOf (b.drop (64 + padded)) n

/-- R466: a section names a tensor of the table with what this module owns of it. -/
def XchTable.ownsSection (x : XchTable) (node : Nat) (h : List Nat) : Bool :=
  match x.tensors.find? (fun t => t.tensorId == leAt h 4 4) with
  | none => false
  | some t => decide (x.ownedParams t node = (leAt h 8 5, leAt h 16 5))

/-- The arithmetic of a section (R421). -/
def sectionRule (step : Nat) (h : List Nat) : UpdRule :=
  let w := leAt h 0 4
  { rule := bits w 31 28, n := bits w 12 0, eta := leAt h 28 4, lambda := leAt h 24 4, beta := leAt h 36 4
    theta := leAt h 32 4, tbc := leAt h 40 2, step := step, sr := bit w 27, gen1 := bit w 21 }

/-- Votes and freeze marks of a section's plane (R420). -/
def sectionVotes (h plane : List Nat) : List (Int × Bool) :=
  let w := leAt h 0 4
  let j := bits w 26 22
  (List.range (leAt h 16 5)).map (fun k =>
    let code := packedCode plane j k
    if code = 2 ^ j - 1 then (0, true) else ((code : Int) - (bits w 12 0 : Nat), false))

/-- Where a tensor's masters, momentum and momentum plane stand in a region that holds the owned tensors one after the other,
with the region's length. -/
def XchTable.layout (x : XchTable) (node a : Nat) : List (Nat × Nat × Nat × Nat × Nat) × Nat :=
  x.tensors.foldl (fun (acc : List (Nat × Nat × Nat × Nat × Nat) × Nat) t =>
    let n := (x.ownedParams t node).2
    if n = 0 then acc
    else
      let m := a + acc.2
      let mom := if t.rule = 2 ∨ t.rule = 3 then n else 0
      (acc.1 ++ [(t.tensorId, n, m, m + 4 * n, m + 4 * n + mom)], acc.2 + 4 * n + mom + (mom + 31) / 32)) ([], 0)

/-- Applies an entry's sections to a region. -/
def Dev.applyEntry (d : Dev) (places : List (Nat × Nat × Nat × Nat × Nat)) (b : List Nat) : Dev :=
  (sectionsOf (b.drop 64) (entrySections b)).foldl (fun (d : Dev) (h, plane) =>
    match places.find? (fun e => e.1 == leAt h 4 4) with
    | none => d
    | some (_, _, m, mom, pl) =>
      (d.applyUpdate (sectionRule (entryStep b) h) m mom pl (leAt h 8 5) 0 (sectionVotes h plane)).2) d

/-- R466: the entries for COUNT consecutive steps from `step`: for each step the last entry before the next step's. -/
def stepEntries (es : List (List Nat)) (step count : Nat) : Option (List (List Nat)) :=
  (List.range count).foldr (fun k acc =>
    acc.bind (fun l => ((es.filter (fun b => entryStep b == (step + k) % 2 ^ 32)).getLast?).map (fun b => b :: l))) (some [])

/-- R466: REPLAY_DIAG. -/
def Dev.replayDiag (d : Dev) (c s : Nat) : Reply × Dev :=
  let h := bits (d.cmd c s 1) 1 0
  let count := bits (d.cmd c s 1) 23 8
  let src := d.cmd48 c s 3
  let dst := d.cmd48 c s 5
  match (Tbl.find d.programs (progKey c h)).bind (·.xch) with
  | none => (.st .badArg, d)
  | some x =>
    let node := d.nodeId
    let (places, len) := x.layout node dst
    let base := bits (nth x.header 1) 47 0
    let ring := bits (nth x.header 2) 47 0 / 64
    if !d.argsClean c s [3 + 0xFFFF * 256, mWord, mWord, mHigh, mWord, mHigh] || decide (src % 64 ≠ 0) || decide (dst % 64 ≠ 0)
        || !inMemory src len || !inMemory dst len || (decide (src < dst + len) && decide (dst < src + len)) then (.st .badArg, d)
    else if d.runs ≠ [] then (.st .busy, d)
    else if count = 0 then (.st .okZeroWork, d)
    else
      let es := (d.ringEntries base ring (d.word UPD_JOURNAL_KEEP 0) (d.word UPD_JOURNAL_HEAD 0) (2 * ring + 2)).filter
        (fun b => entryCtx b == c)
      match stepEntries es (d.cmd c s 2) count with
      | none => (.st .badArg, d)
      | some l =>
        if l.any (fun b => !entryCrcOk b || (sectionsOf (b.drop 64) (entrySections b)).any (fun e => !x.ownsSection node e.1)) then
          (.st .checkFailed, d)
        else
          let d1 := l.foldl (fun (d : Dev) b => d.applyEntry places b) (d.copyBytes (devCell src) (devCell dst) len)
          let masters := places.flatMap (fun (_, n, m, _, _) => d1.bytes (devCell m) (4 * n))
          let moms := places.flatMap (fun (_, n, _, mom, pl) =>
            if mom = pl then [] else d1.bytes (devCell mom) n ++ d1.bytes (devCell pl) ((n + 31) / 32))
          (.done .ok [count, crc32 masters, crc32 moms], d1)

end Sys2Proof.Machine
end

