-- ==== Sys2Proof/Machine/ArrayCommands.lean ====
section
/-! DEFINITION. Commands on arrays (06): programming, binding, retirement, their state and the write budget. -/
namespace Sys2Proof.Machine

/-- R248: array address `i` of a command's list, two per word from word 2 on, with its two reserved bits. -/
def Dev.arrayArg (d : Dev) (c s i : Nat) : Nat := bits (d.cmd c s (2 + i / 2)) (16 * (i % 2) + 15) (16 * (i % 2))

/-- The addresses a command names. -/
def Dev.arrayArgs (d : Dev) (c s : Nat) : List Nat := (List.range (bits (d.cmd c s 1) 7 0)).map (fun i => d.arrayArg c s i)

/-- R248 check 1: the arguments are not lawful; `mask` holds the bits of word 1 that the command defines. -/
def Dev.arrayArgsBad (d : Dev) (c s mask : Nat) : Bool :=
  let l := d.arrayArgs c s
  decide (28 < bits (d.cmd c s 1) 7 0) || decide (d.cmd c s 1 &&& (2 ^ 32 - 1 - mask) ≠ 0)
    || l.any (fun a => decide (16384 ≤ a)) || decide (¬l.Nodup)

/-- A named array's branch is latched off or its Bushel is power-gated (R248, R249). -/
def Dev.branchShut (d : Dev) (a : Nat) : Bool := d.on PRG_BRANCH_STATUS_LATCHED (bushelOf a) || d.gated (bushelOf a)

/-- R248: an array is already queued or in program. -/
def Dev.already (d : Dev) (a : Nat) : Bool := (d.queued a).isSome || d.inProgram a

/-- R248: ARRAY_PROGRAM. -/
def Dev.arrayProgram (d : Dev) (c s : Nat) : Reply × Dev :=
  let l := d.arrayArgs c s
  let now := bit (d.cmd c s 1) 9
  if d.arrayArgsBad c s 0x2FF then (.st .badArg, d)
  else if l.isEmpty then (.st .badLength, d)
  else if l.any (fun a => d.branchShut a || (d.unbound a && (d.arr a).pendingBind.isNone)) then (.st .notPermitted, d)
  else if l.any (fun a => d.arrState a == RETIRED) then (.st .arrayRetired, d)
  else if l.any (fun a => !d.already a && (decide (d.lifeLimit ≤ d.lifeCount a) || (now && !d.budgetOk a))) then (.st .writeBudget, d)
  else
    let new := l.filter (fun a => !d.already a)
    (.done .ok [new.length + (l.length - new.length) * 2 ^ 8], new.foldl (fun (d : Dev) a => d.enqueue a 3 now false) d)

/-- R249: ARRAY_BIND. -/
def Dev.arrayBind (d : Dev) (c s : Nat) : Reply × Dev :=
  let a := d.cmd c s 1 % 16384
  let b : Binding := ⟨d.cmd c s 2, bits (d.cmd c s 3) 31 16, bits (d.cmd c s 3) 15 0⟩
  if !d.argsClean c s [0x3FFF, mWord, mWord] || decide (b.tensor = noTensor) || decide (b = d.binding a) then (.st .badArg, d)
  else if d.branchShut a then (.st .notPermitted, d)
  else if d.arrState a = RETIRED then (.st .arrayRetired, d)
  else if d.arrState a ≠ SERVING then (.st .busy, d)
  else if d.lifeLimit ≤ d.lifeCount a then (.st .writeBudget, d)
  else
    let d1 := ((d.unqueue a).modArr a (fun r => { r with pendingBind := some b, checksumCaused := false })).startDrain a
    (.st .ok, { d1 with due := d1.due ++ [a] })

/-- R250: ARRAY_RETIRE. -/
def Dev.arrayRetire (d : Dev) (c s : Nat) : Reply × Dev :=
  let l := d.arrayArgs c s
  if d.arrayArgsBad c s 0xFF then (.st .badArg, d)
  else if l.isEmpty then (.st .okZeroWork, d)
  else (.st .ok, l.foldl (fun (d : Dev) a => d.decideRetire a 5) d)

/-- R251: ELAPSED of an array. -/
def Dev.elapsed (d : Dev) (a : Nat) : Nat := min ((d.time - max (d.arr a).lastStart d.coldStart) / 100000000) 0xFFFFFFFF

/-- R251: ARRAY_INFO. -/
def Dev.arrayInfo (d : Dev) (c s : Nat) : Reply × Dev :=
  if !d.argsClean c s [0x3FFF] then (.st .badArg, d)
  else
    let a := d.cmd c s 1 % 16384
    let g := grainOf a
    let n := slotOf a
    let r := d.arr a
    let cls := ((d.queued a).map (·.cls)).getD 0
    let w1 := r.cause * 2 ^ 13 + d.rd ARR_CHK_STATUS_PERSIST g n * 2 ^ 11 + d.rd CNV_CAL_STATUS_SUBST g n * 2 ^ 10
      + b2n r.halted.isSome * 2 ^ 9 + b2n r.pendingBind.isSome * 2 ^ 8 + r.attempt * 2 ^ 6 + cls * 2 ^ 3 + d.arrState a
    let b := d.binding a
    (.done .ok [w1, d.rd ARR_PROG_GEN_GEN g n, d.lifeCount a, d.rd PRG_STUCK_CNT_COUNT g n, d.elapsed a, b.tensor,
      b.rowTile * 2 ^ 16 + b.colTile], d)

/-- R252: HV_BRANCH_RESTORE; `selfTest` is the result of the self-test of R217 (UV 4, OV 2, LEAK 1; 0 = passed). DEDUCED (log entry 124): a
self-test that fails shows its causes (R217), though the command changes nothing else (R247). -/
def Dev.branchRestore (d : Dev) (c s selfTest : Nat) : Reply × Dev :=
  let b := d.cmd c s 1 % 16
  if !d.argsClean c s [0xF] then (.st .badArg, d)
  else if d.on PRG_BRANCH_STATUS_ON b then (.st .ok, d)
  else if d.gated b || !bit d.railsOn 0x1C then (.st .notPermitted, d)
  else (.st (if selfTest % 8 = 0 then .ok else .notPermitted), d.branchSelfTest b selfTest)

/-- R253: ARRAY_BUDGET_SET. -/
def Dev.budgetSet (d : Dev) (c s : Nat) : Reply × Dev :=
  let n := bits (d.cmd c s 2) 23 0
  if !d.argsClean c s [0xFFFF, 0xFFFFFF] || decide (250000 < n) then (.st .badArg, d)
  else (.st .ok, { d with minInterval := bits (d.cmd c s 1) 15 0, lifeLimit := n })

end Sys2Proof.Machine
end

