-- ==== Sys2Proof/Machine/SyncCommands.lean ====
section
/-! DEFINITION. Commands on synchronisation objects, and sync messages of partner modules (11, R592). -/
namespace Sys2Proof.Machine

/-! ### Handles (R378, R392) -/

/-- What the VID in word 1 of a command names. -/
def Dev.cmdRef (d : Dev) (c s : Nat) : ObjRef := d.refOf c (bits (d.cmd c s 1) 11 0)

/-- The generation a reference stands for. -/
def Dev.refGen (d : Dev) : ObjRef → Nat
  | .object k => d.gen k
  | .remote _ _ _ g => g
  | _ => 0

/-- R378: a handle that is stale is counted: its generation differs from that of what its VID names or, where the VID is unmapped, of
the object it named before. -/
def Dev.countStale (d : Dev) (c vid gen : Nat) : Dev :=
  let stale := match d.refOf c vid with
    | .unused => (match Tbl.find d.formerly (c * 4096 + vid) with
      | some k => decide (d.gen k ≠ gen)
      | none => false)
    | r => decide (d.refGen r ≠ gen)
  if stale then d.count SYN_STALE_CNT_COUNT 0 0 else d

/-- R378, R392: the reference of a command that needs a mapped object and carries GEN in word 2; a stale one is counted. -/
def Dev.handle (d : Dev) (c s : Nat) (masks : List Nat) : Option ObjRef × Dev :=
  let r := d.cmdRef c s
  let gen := bits (d.cmd c s 2) 15 0
  if !d.argsClean c s masks then (none, d)
  else if r = .unused ∨ d.refGen r ≠ gen then (none, d.countStale c (bits (d.cmd c s 1) 11 0) gen)
  else (some r, d)

/-! ### Allocation (R393, R394) -/

/-- R393: SYNC_ALLOC. -/
def Dev.syncAlloc (d : Dev) (c s : Nat) : Reply × Dev :=
  let vid := bits (d.cmd c s 1) 11 0
  if !d.argsClean c s [0xFFF + 2 ^ 16, mHigh] then (.st .badArg, d)
  else
    match d.mapped c vid, d.freePhys with
    | none, some k =>
      let d1 := (d.setObj k { owner := c, vid := vid, value := bits (d.cmd c s 2) 15 0, exported := bit (d.cmd c s 1) 16 })
      (.done .ok [d.gen k], { d1 with vmap := Tbl.put d1.vmap (c * 4096 + vid) (.object k) }.showHub)
    | _, _ => (.st .busy, d)

/-- R394: SYNC_FREE. -/
def Dev.syncFree (d : Dev) (c s : Nat) : Reply × Dev :=
  match d.handle c s [0xFFF, mHigh] with
  | (none, d1) => (.st .badArg, d1)
  | (some r, d1) =>
    let vid := bits (d.cmd c s 1) 11 0
    let runs := d1.runs.any (fun r => r.ctx == c)
    match r with
    | .object k =>
      let held := match d1.obj k with
        | some o => decide (o.waiters ≠ []) || (match o.kind with
          | .barrier b => decide (b.arrived ≠ [])
          | _ => false)
        | none => false
      if held || runs then (.st .busy, d1) else (.st .ok, d1.freeObj k)
    | _ =>
      if runs then (.st .busy, d1) else (.st .ok, { d1 with vmap := Tbl.del d1.vmap (c * 4096 + vid) })

/-! ### Signals and waits (R395, R396, R383) -/

/-- R395: SYNC_SIGNAL. -/
def Dev.syncSignal (d : Dev) (c s : Nat) : Reply × Dev :=
  match d.handle c s [0xFFF, mHigh, mHigh] with
  | (none, d1) => (.st .badArg, d1)
  | (some r, d1) =>
    let inc := signed 16 (d.cmd c s 3)
    match r with
    | .object k =>
      if (d1.obj k).map SyncObj.kind ≠ some .ordinary then (.st .notPermitted, d1)
      else if inc = 0 then (.st .okZeroWork, d1)
      else
        let (v, sat, d2) := d1.signalObject k inc ⟨3, c, 0, 0, d1.time⟩
        (.done (if sat then .saturated else .ok) [v], d2)
    | .remote n x vid g =>
      let (st, d2) := d1.originate { syncPacket n 1 0 x vid g (unsigned 16 inc) (mailboxWaiterId c s) 0 0 0 with ctx := c }
        (.hostSignal c s)
      if st = .ok then (.wait (.remote vid), d2) else (.st st, d2.dropSignal)
    | _ => (.st .badArg, d1)

/-- R383, R396: SYNC_WAIT. -/
def Dev.syncWait (d : Dev) (c s : Nat) : Reply × Dev :=
  match d.handle c s [0xFFF + 3 * 2 ^ 16, mHigh, mHigh, mWord] with
  | (none, d1) => (.st .badArg, d1)
  | (some r, d1) =>
    let w1 := d.cmd c s 1
    let tmo := bit w1 17
    let us := d.cmd c s 4
    let w : Waiter := ⟨.mailbox c s, mailboxWaiterId c s, bit w1 16, bits (d.cmd c s 3) 15 0⟩
    let posted := fun (d : Dev) => (Reply.wait .sync, if tmo then d.modCtx c (fun x => { x with
      deadline := Tbl.put x.deadline s (d.time + us * 1000) }) else d)
    match r with
    | .object k =>
      match d1.obj k with
      | none => (.st .badArg, d1)
      | some o =>
        match o.kind with
        | .ready _ => (.st .notPermitted, d1)
        | .barrier _ =>
          if tmo ∧ us = 0 then (.st .timeout, d1)
          else posted (d1.setObj k { o with waiters := o.waiters ++ [{ w with take := false, thresh := 0 }] })
        | .ordinary =>
          if (arrives o.value o.waiters w.take w.thresh).1 then
            let (v, d2) := d1.postWait 0 r w
            (.done .ok [v.getD 0], d2)
          else if tmo ∧ us = 0 then (.st .timeout, d1)
          else posted (d1.postWait 0 r w).2
    | .remote n x vid g =>
      let (st, d2) := d1.originate (syncPacket n 2 (b2n w.take) x vid g w.thresh w.id 0 0 0) (.mailboxWait c s)
      if st = .ok then posted { d2 with remoteWaits := d2.remoteWaits ++ [⟨w.who, n, x, vid, g, w.id⟩] } else (.st st, d2)
    | _ => (.st .badArg, d1)

/-- Takes a mailbox wait out of wherever it is posted. -/
def Dev.withdrawMailbox (d : Dev) (c s : Nat) : Dev :=
  (d.withdraw (fun w => decide (w.who = .mailbox c s))).withdrawRemote (fun w => decide (w = .mailbox c s))

/-- R383: a wait with a timeout of 0 on a remote mapping has not been tested yet: its packet is not answered (log entry 118). -/
def Dev.untested (d : Dev) (c s : Nat) : Bool :=
  d.cmd c s 4 == 0 && (d.outstanding.any (fun e => decide (e.2.purpose = .mailboxWait c s))
    || d.unsent.any (fun e => decide (e.2 = .mailboxWait c s)))

/-- R383: the timeout of a mailbox wait expires. -/
def Dev.waitTimeout (d : Dev) (c s : Nat) : Dev :=
  match Tbl.find (d.ctx c).deadline s with
  | some t =>
    if d.slotState c s = slotRunning ∧ d.slotWait c s = .sync ∧ t ≤ d.time ∧ d.untested c s = false then
      (((d.withdrawMailbox c s).modCtx c (fun x => { x with deadline := Tbl.del x.deadline s })).finishWaiting c s .sync .timeout)
    else d
  | none => d

/-! ### The debugger view (R400) -/

/-- Words 7 on for an object's waiters from index FIRST. -/
def waiterWords (ws : List Waiter) (first : Nat) : List Nat :=
  ((ws.drop first).take 4).flatMap (fun w => [w.id, b2n w.take * 2 ^ 31 + w.thresh])

/-- R400: SYNC_READ's words for an object of this module. -/
def Dev.viewWords (d : Dev) (k first : Nat) (o : SyncObj) : List Nat :=
  let isB := match o.kind with
    | .barrier _ => true
    | _ => false
  let isR := match o.kind with
    | .ready _ => true
    | _ => false
  let w2 := b2n o.satHi * 2 ^ 31 + b2n o.satLo * 2 ^ 30 + b2n isB * 2 ^ 28 + b2n isR * 2 ^ 27
    + b2n (o.exported || isB) * 2 ^ 26 + min o.waiters.length 0xFFFF
  let l := o.last.getD ⟨0, 0, 0, 0, 0⟩
  let head := [d.gen k * 2 ^ 16 + o.value, w2, l.src * 2 ^ 30 + l.ctx % 16 * 2 ^ 24 + l.port % 8 * 2 ^ 16 + l.grain % 1024,
    l.time % 2 ^ 32, l.time / 2 ^ 32 % 2 ^ 32]
  match o.kind with
  | .barrier b => head ++ [0, b.committed, b.attempt * 2 ^ 24 + b.worst * 2 ^ 22 + b.participants.length,
      d.nodeId, b.outcome]
  | _ =>
    let ws := waiterWords o.waiters first
    head ++ [ws.length / 2] ++ ws

/-- Takes `n` open 32-bit values. -/
def Dev.freshWords (d : Dev) (n : Nat) : List Nat × Dev :=
  match n with
  | 0 => ([], d)
  | n + 1 =>
    let (v, d1) := d.fresh
    let (vs, d2) := Dev.freshWords d1 n
    (v % 2 ^ 32 :: vs, d2)

/-- R400: SYNC_READ of an object of this module; `remote` marks a view through a remote mapping. -/
def Dev.viewObject (d : Dev) (c s k : Nat) (remote : Bool) : Reply × Dev :=
  match d.obj k with
  | none => (.st .badArg, d)
  | some o =>
    let ws := d.viewWords k (bits (d.cmd c s 3) 15 0) o
    (.done .ok (if remote then setAt ws 1 (nth ws 1 + 2 ^ 29) else ws),
      if bit (d.cmd c s 1) 17 then d.setObj k { o with satHi := false, satLo := false } else d)

/-- R400: the view of an object of another module, from open words: what the home holds is open, what the layout fixes is not. The
generation is the mapping's where it was checked; an object that another module may map is exported, and a barrier's home is its node. -/
def remoteView (ws : List Nat) (gen : Option Nat) (node first : Nat) : List Nat :=
  let w1 := match gen with
    | some g => g * 2 ^ 16 + nth ws 0 % 2 ^ 16
    | none => nth ws 0
  let w2 := setBits (setBits (setBits (nth ws 1) 29 29 1) 25 16 0) 26 26 (if gen.isSome || bit (nth ws 1) 28 then 1 else b2n (bit (nth ws 1) 26))
  let w2 := if bit w2 28 then setBits w2 27 27 0 else w2
  let w3 := setBits (setBits (setBits (nth ws 2) 29 28 0) 23 19 0) 15 10 0
  let head := [w1, w2, w3, nth ws 3, nth ws 4]
  if bit w2 28 then
    head ++ [0, nth ws 6, setBits (setBits (nth ws 7) 21 13 0) 13 13 0, node, nth ws 9 % 256]
  else
    let n := min 4 (bits w2 15 0 - first)
    head ++ [n] ++ (List.range n).flatMap (fun i => [nth ws (6 + 2 * i), setBits (nth ws (7 + 2 * i)) 30 16 0])

/-- R400: what SYNC_READ answers of a reference. Of an object of another module the words are open values (log entry 119). -/
def Dev.viewOfRef (d : Dev) (c s : Nat) (r : ObjRef) : Reply × Dev :=
  let nogen := bit (d.cmd c s 1) 16
  match r with
  | .object k => d.viewObject c s k false
  | .remote n x vid g =>
    if d.node = some n then
      match d.refOf x vid with
      | .object k => if d.gen k = g || nogen then d.viewObject c s k true else (.st .badArg, d.countStale x vid g)
      | _ => (.st .badArg, d.countStale x vid g)
    else
      match d.unreachable n true with
      | some st => (.st st, d)
      | none =>
        let (ws, d1) := d.freshWords 14
        (.done .ok (remoteView ws (if nogen then none else some g) n (bits (d.cmd c s 3) 15 0)), d1)
  | _ => (.st .badArg, d)

/-- R378, R400: SYNC_READ. -/
def Dev.syncRead (d : Dev) (c s : Nat) : Reply × Dev :=
  let w1 := d.cmd c s 1
  let r := d.cmdRef c s
  let gen := bits (d.cmd c s 2) 15 0
  if !d.argsClean c s [0xFFF + 3 * 2 ^ 16, mHigh, mHigh] then (.st .badArg, d)
  else if !bit w1 16 ∧ (r = .unused ∨ d.refGen r ≠ gen) then (.st .badArg, d.countStale c (bits w1 11 0) gen)
  else d.viewOfRef c s r

/-! ### Remote mappings, barriers, ready objects (R397 to R399) -/

/-- R397: SYNC_MAP_REMOTE. -/
def Dev.syncMapRemote (d : Dev) (c s : Nat) : Reply × Dev :=
  let w1 := d.cmd c s 1
  let w2 := d.cmd c s 2
  let vid := bits w1 11 0
  if !d.argsClean c s [0xFFFFFFF - 0xF000, 0xFFF + 0xF * 2 ^ 16, mHigh] then (.st .badArg, d)
  else if (d.mapped c vid).isSome then (.st .busy, d)
  else
    let (st, d1) := d.originate (syncPacket (bits w1 27 16) 7 0 (bits w2 19 16) (bits w2 11 0) (bits (d.cmd c s 3) 15 0) 0
      (mailboxWaiterId c s) 0 0 0) (.probe c s)
    if st = .ok then (.wait (.remote vid), d1) else (.st st, d1)

/-- R397: a probe reply completes SYNC_MAP_REMOTE. -/
def Dev.probeReply (d : Dev) (c s : Nat) (st : Status) : Dev :=
  let w1 := d.cmd c s 1
  let w2 := d.cmd c s 2
  let vid := bits w1 11 0
  if d.slotState c s = slotRunning ∧ d.slotWait c s = .remote vid ∧ bits (d.cmd c s 0) 7 0 = 0x45 then
    let target := VMap.remote (bits w1 27 16) (bits w2 19 16) (bits w2 11 0) (bits (d.cmd c s 3) 15 0)
    let d1 := if st = .ok then { d with vmap := Tbl.put d.vmap (c * 4096 + vid) target } else d
    d1.finishSlot c s st
  else d

/-- The set bits of a 4,096-bit map in device memory. -/
def Dev.bitmap (d : Dev) (a : Nat) : List Nat := (List.range 4096).filter (fun n => bit (d.byte (devCell (a + n / 8))) (n % 8))

/-- Barriers homed here. -/
def Dev.barrierCount (d : Dev) : Nat :=
  (d.objects.filter (fun e => match e.2.kind with
    | .barrier _ => true
    | _ => false)).length

/-- R387, R391, R398: SYNC_BARRIER_SET. -/
def Dev.syncBarrierSet (d : Dev) (c s : Nat) : Reply × Dev :=
  let w1 := d.cmd c s 1
  let vid := bits w1 11 0
  let create := bit w1 16
  let a := d.cmd48 c s 4
  let set := d.bitmap a
  if !d.argsClean c s [0xFFF + 3 * 2 ^ 16, mWord, 0, mWord, mHigh] || (!create && (d.mapped c vid).isNone)
      || decide (a % 64 ≠ 0) || !inMemory a 512 || set.isEmpty then (.st .badArg, d)
  else if create then
    match d.mapped c vid, d.freePhys with
    | none, some k =>
      if 16 ≤ d.barrierCount then (.st .busy, d)
      else
        let b : Barrier := ⟨d.cmd c s 2, 1, set, [], 0, 0, none⟩
        let d1 := d.setObj k { owner := c, vid := vid, exported := true, kind := .barrier b }
        (.st .ok, { d1 with vmap := Tbl.put d1.vmap (c * 4096 + vid) (.object k) }.showHub)
    | _, _ => (.st .busy, d)
  else
    match d.refOf c vid with
    | .object k =>
      let b? := match (d.obj k).map SyncObj.kind with
        | some (.barrier b) => some b
        | _ => none
      match b? with
      | none => (.st .notPermitted, d)
      | some b =>
        let d1 := if b.arrived = [] then d else d.decideBarrier k .isolated
        match d1.obj k with
        | some o =>
          (match o.kind with
            | .barrier b1 =>
              let b2 := { b1 with participants := set, committed := if bit w1 17 then d.cmd c s 2 else b1.committed }
              (.st .ok, d1.setObj k { o with kind := .barrier b2 })
            | _ => (.st .ok, d1))
        | none => (.st .ok, d1)
    | _ => (.st .notPermitted, d)

/-- R399: a loaded program's initialisation table or signal entries name a VID. -/
def Dev.namesVid (d : Dev) (c vid : Nat) : Bool :=
  d.programs.any (fun e => decide (e.1 / 4 = c) &&
    ((d.initTable e.2.base).any (fun x => bit x 63 && decide (bits x 27 16 = vid))
      || (List.range (d.taskCount e.2.base)).any (fun i =>
        let t : TaskRun := { desc := d.descriptor e.2.base i }
        [2, 3].any (fun k => entryOn (t.entry k) && bit (t.entry k) 30 && decide (bits (t.entry k) 27 16 = vid)))))

/-- R399: SYNC_READY_BIND. -/
def Dev.syncReadyBind (d : Dev) (c s : Nat) : Reply × Dev :=
  let vid := bits (d.cmd c s 1) 11 0
  match d.handle c s [0xFFF + 2 ^ 16, mHigh, mWord] with
  | (none, d1) => (.st .badArg, d1)
  | (some r, d1) =>
    if bit (d.cmd c s 1) 16 = false ∧ d.cmd c s 3 = noTensor then (.st .badArg, d1)
    else if d1.namesVid c vid then (.st .busy, d1)
    else
      match r with
      | .object k =>
        match d1.obj k with
        | none => (.st .badArg, d1)
        | some o =>
          match o.kind with
          | .barrier _ => (.st .notPermitted, d1)
          | _ =>
            if bit (d.cmd c s 1) 16 then (.st .ok, d1.setObj k { o with kind := .ordinary })
            else
              let t := d.cmd c s 3
              let d2 := d1.setObj k { o with kind := .ready t }
              (.st .ok, d2.setReady k (b2n (d2.refreshed t)))
      | _ => (.st .notPermitted, d1)

/-! ### Messages of partner modules (R384, R388, R592, R721) -/

/-- Sends OP 3: a release or the answer to a wait or a host signal. -/
def Dev.answer (d : Dev) (node octx vid gen value waiter : Nat) (st : Status) (step : Nat) : Dev :=
  (d.originate (syncPacket node 3 0 octx vid gen value waiter st.code step 0) .forgotten).2

/-- KIND of a waiter ID (R401). -/
def waiterKind (id : Nat) : Nat := bits id 31 29

/-- R384, R395: a remote signal at its home; a host signal is answered. -/
def Dev.remoteSignal (d : Dev) (node port sctx octx vid gen : Nat) (inc : Int) (waiter : Nat) : Dev :=
  let host := decide (waiterKind waiter = 2)
  match d.namedObj octx vid gen with
  | none =>
    let d1 := d.countStale octx vid gen
    if host then d1.answer node octx vid gen 0 waiter .badArg 0 else d1
  | some k =>
    if (d.obj k).map SyncObj.kind ≠ some .ordinary then
      (if host then d.answer node octx vid gen 0 waiter .notPermitted 0 else d)
    else
      let (v, sat, d1) := d.signalObject k inc ⟨2, sctx, port, 0, d.time⟩
      let st := if inc = 0 then Status.okZeroWork else if sat then .saturated else .ok
      if host then d1.answer node octx vid gen v waiter st 0 else d1

/-- R384, R396, R721: a remote wait at its home: posted, released at once, or answered with a status. -/
def Dev.remoteWait (d : Dev) (node octx vid gen : Nat) (take : Bool) (thresh waiter : Nat) : Dev :=
  let mailbox := decide (waiterKind waiter = 2)
  let refuse := fun (st : Status) => d.answer node octx vid gen 0 waiter st 0
  match d.namedObj octx vid gen with
  | none => (d.countStale octx vid gen).answer node octx vid gen 0 waiter .badArg 0
  | some k =>
    match d.obj k with
    | none => refuse .badArg
    | some o =>
      let w : Waiter := ⟨.partner node waiter, 3 * 2 ^ 29 + node * 2 ^ 16 + waiter % 2 ^ 16, take, thresh⟩
      match o.kind with
      | .barrier _ =>
        if mailbox then d.setObj k { o with waiters := o.waiters ++ [{ w with take := false, thresh := 0 }] }
        else refuse .badArg
      | .ready _ =>
        if mailbox then refuse .notPermitted
        else if take then refuse .badArg
        else (match d.postWait 0 (.object k) w with
          | (some v, d1) => d1.answer node octx vid gen v waiter .ok 0
          | (none, d1) => d1)
      | .ordinary => (match d.postWait 0 (.object k) w with
        | (some v, d1) => d1.answer node octx vid gen v waiter .ok 0
        | (none, d1) => d1)

/-- A task whose own wait is answered with a status completes with it; a segment wait ends its running task (R381, R721). -/
def Dev.waitFails (d : Dev) (who : WaiterWho) (st : Status) : Dev :=
  match who with
  | .task i _ => (match d.task i with
    | some t => if t.phase = .eligible then d.finishTask i st else d
    | none => d)
  | .seg i => d.modTask i (fun t => if t.phase = .running ∧ t.ending = none then { t with ending := some st } else t)
  | .mailbox c s => d.finishWaiting c s .sync st
  | _ => d

/-- R721, R395: OP 3 arrives: the waiter is released or completes with a status, or a host signal completes. -/
def Dev.remoteAnswer (d : Dev) (node waiter value : Nat) (st : Status) (step : Nat) : Dev :=
  match d.remoteWaits.find? (fun w => w.node == node && w.id == waiter) with
  | some w =>
    let d1 := d.forgetWaits (fun x => x == w.who)
    let isBarrier := fun (c s : Nat) => decide (d.slotWait c s = .sync) && decide (step ≠ 0)
    (match w.who with
      | .mailbox c s => d1.finishWaiting c s .sync st (if isBarrier c s then [step] else if st = .ok then [value] else [])
      | who => if st = .ok then d1.release ⟨who, waiter, false, 0⟩ value else d1.waitFails who st)
  | none =>
    if waiterKind waiter = 2 then
      let c := bits waiter 19 16
      let s := bits waiter 2 0
      if d.slotState c s = slotRunning ∧ bits (d.cmd c s 0) 7 0 = 0x42 then
        d.finishSlot c s st (if st.signals then [value] else [])
      else d
    else d

/-- R374, R592: OP 4 withdraws a wait at the home. -/
def Dev.remoteWithdraw (d : Dev) (node waiter : Nat) : Dev := d.withdraw (fun w => decide (w.who = .partner node waiter))

/-- R397: a map probe at the home, answered with OP 8. -/
def Dev.mapProbe (d : Dev) (node octx vid gen waiter : Nat) : Dev :=
  let st := match d.refOf octx vid with
    | .object k =>
      (match d.obj k with
        | some o => if !o.exported then Status.notPermitted else if d.gen k ≠ gen then .badArg else .ok
        | none => .badArg)
    | _ => .badArg
  (d.originate (syncPacket node 8 0 octx vid gen 0 waiter st.code 0 0) .forgotten).2

/-- R388: a participant's barrier signal at the home hub. -/
def Dev.barrierMessage (d : Dev) (node octx vid gen step attempt : Nat) (pass : Bool) (rank : Nat) : Dev :=
  match d.namedObj octx vid gen with
  | some k => d.barrierArrive k node step attempt (if pass then .ok else statusOfRank (max rank 1))
  | none => d.count SYN_BARRIER_DROP_CNT_COUNT 0 0

/-- R480: the buddy acknowledges a barrier's fields: the outcome messages go out. -/
def Dev.barrierAcked (d : Dev) (k : Nat) : Dev :=
  match (d.obj k).map SyncObj.kind with
  | some (.barrier b) => if b.decided.isSome then d.sendOutcome k else d
  | _ => d

/-! ### Freeing a context's objects (R381) -/

/-- R381: every object of a context is freed; waiters of other parties are released with ABANDONED. -/
def Dev.freeObjects (d : Dev) (mine : Nat → Bool) : Dev :=
  let own := d.objects.filter (fun e => mine e.2.owner)
  let d1 := own.foldl (fun (d : Dev) (k, _) =>
    match d.obj k with
    | none => d
    | some o =>
      let d1 := o.waiters.foldl (fun (d : Dev) w =>
        match w.who with
        | .partner n id => (d.count SYN_ABANDON_CNT_COUNT 0 0).answer n o.owner o.vid (d.gen k) 0 id .abandoned 0
        | .mailbox c s =>
          let d1 := d.count SYN_ABANDON_CNT_COUNT 0 0
          if mine c then d1 else d1.finishWaiting c s .sync .abandoned
        | _ => d) (d.setObj k { o with waiters := [] })
      d1.freeObj k) d
  let d2 := d1.withdrawRemote (fun w => match w with
    | .mailbox c _ => mine c
    | _ => false)
  { d2 with vmap := d2.vmap.filter (fun e => !mine (e.1 / 4096)) }

end Sys2Proof.Machine
end

