-- ==== Sys2Proof/Machine/Serve.lean ====
section
/-! DEFINITION. Serving the mailbox (15): what the management processor may serve and in which order, the checks every
command passes first, GOs and command words, the data window, the event FIFO. -/
namespace Sys2Proof.Machine

/-! ### Who answers (R504, R549, R647, R657) -/

/-- R647, R657: MP_STATE: 0 serving, 1 restarting or not yet started, 2 minimal recovery mode. -/
def Dev.mpState (d : Dev) : Nat :=
  if d.life = .recovery then 2 else if d.life = .run ∧ d.mpDown = false then 0 else 1

/-- R549: function `c` exists. -/
def Dev.exists_ (d : Dev) (c : Nat) : Bool := c == 0 || (d.vfEnable && decide (c ≤ d.numVFs))

/-- R657, R665: function `c` answers at its BAR0: the module is powered, PERST# is not asserted, and in minimal recovery mode only
PF0 has a page. -/
def Dev.answers (d : Dev) (c : Nat) : Bool :=
  d.exists_ c && decide (d.life ≠ .off) && !d.perst && (decide (d.life ≠ .recovery) || c == 0)

/-- R504: firmware acts: the module runs and the MP does not restart. -/
def Dev.firmware (d : Dev) : Bool := decide (d.life = .run) && !d.mpDown

/-! ### Order of serving (R515, R517, R518) -/

/-- Opcode of a slot's command. -/
def Dev.opcode (d : Dev) (c s : Nat) : Nat := bits (d.cmd c s 0) 7 0

/-- The ACCEPTED commands: context, slot, class and GO order. -/
def Dev.accepted (d : Dev) : List (Nat × Nat × Nat × Nat) :=
  (List.range 16).flatMap (fun c => ((List.range 8).filter (fun s => d.slotState c s == slotAccepted)).map (fun s =>
    (c, s, opcodeClass (d.opcode c s), Tbl.get 0 (d.ctx c).goOrder s)))

/-- R518: 50 ms have passed since a slot's GO. -/
def Dev.overdue (d : Dev) (c s : Nat) : Bool := decide (Tbl.get 0 (d.ctx c).goTime s + 50000000 ≤ d.time)

/-- R517, R518: the command is the next to be served: no other of a higher class, or of its class and with an earlier GO, is
ACCEPTED; from stage 1 on a P3 command waits besides for busy below 70 %, or is served 50 ms after its GO behind P0 commands only. -/
def Dev.isNext (d : Dev) (c s : Nat) : Bool :=
  let k := opcodeClass (d.opcode c s)
  let g := Tbl.get 0 (d.ctx c).goOrder s
  let sheds := decide (1 ≤ d.rd MBX_MP_STATUS_SHED 0)
  let late := decide (k = 3) && sheds && d.overdue c s
  d.accepted.all (fun (c', s', k', g') => (c' == c && s' == s)
      || (if late then decide (1 ≤ k') && (decide (k' < 3) || decide (g ≤ g'))
          else decide (k < k') || (decide (k = k') && decide (g ≤ g'))))
    && (!(decide (k = 3) && sheds) || late || decide (d.rd MBX_MP_STATUS_BUSY 0 < 70))

/-- The slot holds an ACCEPTED command that the MP may serve now. -/
def Dev.servable (d : Dev) (c s : Nat) : Bool :=
  decide (d.slotState c s = slotAccepted) && (d.mpState == 0 || (d.mpState == 2 && c == 0)) && d.isNext c s

/-! ### The checks of R512 -/

/-- R658: commands served in minimal recovery mode: IDENTIFY, LOG_READ, CSR_READ, CSR_DUMP, FW_STAGE, FW_ACTIVATE, FW_INFO,
RESET_DEVICE, MEASURE_READ. -/
def recoveryOps : List Nat := [0x00, 0x70, 0x74, 0x76, 0x80, 0x81, 0x82, 0x90, 0xA1]

/-- R513: the SEQ is accepted. -/
def Dev.seqAccepted (d : Dev) (c q : Nat) : Bool :=
  let δ := (q + 256 - d.rd MBX_PAGE_STATUS_SEQ_HIGH c) % 256
  (decide (1 ≤ δ) && decide (δ ≤ 64)) || (decide (193 ≤ δ) && (d.ctx c).seqOpen.contains q)

/-- R513: the SEQ is consumed: HIGH moves up to it, or its mark is set. -/
def Dev.consumeSeq (d : Dev) (c q : Nat) : Dev :=
  let high := d.rd MBX_PAGE_STATUS_SEQ_HIGH c
  let δ := (q + 256 - high) % 256
  if 1 ≤ δ ∧ δ ≤ 64 then
    (d.wr MBX_PAGE_STATUS_SEQ_HIGH c 0 0 q).modCtx c (fun x => { x with
      seqOpen := (x.seqOpen ++ (List.range (δ - 1)).map (fun i => (high + 1 + i) % 256)).filter (fun v =>
        decide ((q + 256 - v) % 256 ≤ 63)) })
  else d.modCtx c (fun x => { x with seqOpen := x.seqOpen.filter (· != q) })

/-- R512, checks 2 to 4, R658: the status with which a started command is refused, if any; a refusal on SEQ sets SEQ_ERR. -/
def Dev.refuse (d : Dev) (c s : Nat) : Option Status × Dev :=
  let w := d.cmd c s 0
  match opcodeRow (bits w 7 0) with
  | none => (some .unknownOpcode, d)
  | some (_, pf0) =>
    if (pf0 && c != 0) || (d.mpState == 2 && !recoveryOps.contains (bits w 7 0)) then (some .notPermitted, d)
    else if bits w 31 16 ≠ 0 then (some .badArg, d)
    else if !d.seqAccepted c (bits w 15 8) then (some .badArg, d.wr MBX_PAGE_STATUS_SEQ_ERR c 0 0 1)
    else (none, d)

/-- A started command's answer: it completes, or its slot waits. -/
def Dev.settle (d : Dev) (c s : Nat) (r : Reply) : Dev :=
  match r with
  | .done st ws => d.finishSlot c s st ws
  | .wait w => d.modCtx c (fun x => { x with waits := Tbl.put x.waits s w })

/-- R508, R512, R513: firmware starts the command of a slot whose opcode `mine` takes: RUNNING, checks 2 to 4, the SEQ
consumed, the command itself. A slot that is not next, or holds another command, is left alone. -/
def Dev.serve (d : Dev) (c s : Nat) (mine : Nat → Bool) (body : Dev → Reply × Dev) : Dev :=
  if d.servable c s = true ∧ mine (d.opcode c s) = true then
    let d1 := d.setSlot c s slotRunning
    match d1.refuse c s with
    | (some st, d2) => d2.finishSlot c s st
    | (none, d2) =>
      let (r, d3) := body (d2.consumeSeq c (bits (d2.cmd c s 0) 15 8))
      d3.settle c s r
  else d

/-- Serves the command of one opcode. -/
def Dev.serveOp (d : Dev) (c s op : Nat) (body : Dev → Reply × Dev) : Dev := d.serve c s (· == op) body

/-! ### GO and command words (R508, R518, R519) -/

/-- The GO that comes after every other. -/
def Dev.nextGo (d : Dev) : Nat :=
  1 + (List.range 16).foldl (fun m c => (d.ctx c).goOrder.foldl (fun m e => max m e.2) m) 0

/-- R508, R512 check 1, R519, R657: a GO of one slot. -/
def Dev.goSlot (d : Dev) (c s : Nat) : Dev :=
  let st := d.slotState c s
  if st = slotAccepted ∨ st = slotRunning ∨ (d.life = .recovery ∧ c ≠ 0) then d.wr MBX_PAGE_STATUS_GO_IGN c 0 0 1
  else
    let k := opcodeClass (d.opcode c s)
    let n := d.nextGo
    let d1 := (d.putWords c s 0 (List.replicate 16 0)).setSlot c s slotAccepted
    let d2 := d1.modCtx c (fun x => { x with
      goOrder := Tbl.put x.goOrder s n, goTime := Tbl.put x.goTime s d.time, waits := Tbl.del x.waits s,
      deadline := Tbl.del x.deadline s })
    if d.rd MBX_MP_STATUS_SHED 0 = 4 ∧ k ≠ 0 then (d2.finishSlot c s .busy).count MBX_BUSY_CNT_COUNT 0 0
    else if 1 ≤ d.rd MBX_MP_STATUS_SHED 0 ∧ k = 3 then d2.count MBX_DEFER_CNT_COUNT 0 0
    else d2

/-- R507, R508: a write to MBX_GO: the slots of its set bits, in order. -/
def Dev.goWrite (d : Dev) (c w : Nat) : Dev :=
  if d.exists_ c && decide (d.life ≠ .off) && !d.perst then
    (List.range 8).foldl (fun d s => if bit w s then d.goSlot c s else d) d
  else d

/-- R508: a write of a command word. -/
def Dev.cmdWrite (d : Dev) (c s k w : Nat) : Dev :=
  if !d.answers c then d
  else if d.slotState c s = slotAccepted ∨ d.slotState c s = slotRunning then d.wr MBX_PAGE_STATUS_WR_BUSY c 0 0 1
  else d.wr MBX_CMD_WORD c s k w

/-! ### The data window (R520 to R522) -/

/-- The context's window is open. -/
def Dev.windowOpen (d : Dev) (c : Nat) : Bool := d.on MBX_DATA_STATUS_OPEN c

/-- R520: opens the window of a slot's command for `n` words; `toDevice` is DIR. -/
def Dev.openWindow (d : Dev) (c s : Nat) (toDevice : Bool) (n : Nat) (words : List Nat) (reply : Nat × List Nat) : Dev :=
  let d1 := (((((d.wr MBX_DATA_STATUS_OPEN c 0 0 1).wr MBX_DATA_STATUS_DIR c 0 0 (b2n toDevice)).wr MBX_DATA_STATUS_UNDERRUN c 0 0
    0).wr MBX_DATA_STATUS_OVERRUN c 0 0 0).wr MBX_DATA_STATUS_SLOT c 0 0 s).wr MBX_DATA_STATUS_REMAIN c 0 0 n
  d1.modCtx c (fun x => { x with window := words, windowReply := reply, windowAccess := d.time })

/-- The window closes. -/
def Dev.closeWindow (d : Dev) (c : Nat) : Dev :=
  (((d.wr MBX_DATA_STATUS_OPEN c 0 0 0).wr MBX_DATA_STATUS_REMAIN c 0 0 0).wr MBX_DATA_STATUS_DIR c 0 0 0).modCtx c (fun x => { x with
    window := [], windowReply := (0, []), windowAccess := 0 })

/-- A window from device to host that delivers words: one without words never opens, and the command completes at once. -/
def Dev.deliverWindow (d : Dev) (c s : Nat) (words : List Nat) (st : Status) (reply : List Nat) : Reply × Dev :=
  if words.isEmpty then (.done st reply, d)
  else (.wait .window, d.openWindow c s false words.length words (st.code, reply))

/-- R521: MBX_DATA_FIFO: words ready, words of room. The firmware's own side of the window keeps pace with the host. -/
def Dev.windowFifo (d : Dev) (c : Nat) : Nat :=
  if !d.windowOpen c then 0
  else if d.on MBX_DATA_STATUS_DIR c then 64
  else min 64 (d.rd MBX_DATA_STATUS_REMAIN c) * 2 ^ 16

/-- R521, R522: a read of MBX_DATA_RD: the next word, with the window's command complete after the last one; else UNDERRUN. -/
def Dev.windowRead (d : Dev) (c : Nat) : Nat × Dev :=
  match d.windowOpen c && !d.on MBX_DATA_STATUS_DIR c, (d.ctx c).window with
  | true, w :: rest =>
    let (st, ws) := (d.ctx c).windowReply
    let s := d.rd MBX_DATA_STATUS_SLOT c
    let d1 := (d.modCtx c (fun x => { x with window := rest, windowAccess := d.time })).wr MBX_DATA_STATUS_REMAIN c 0 0 rest.length
    if rest.isEmpty then (w, (d1.closeWindow c).finishSlot c s (Status.ofCode st) ws) else (w, d1)
  | _, _ => (0, d.wr MBX_DATA_STATUS_UNDERRUN c 0 0 1)

/-- R521: a write of MBX_DATA_WR adds a word, or sets OVERRUN; true where the last word has arrived. -/
def Dev.windowWrite (d : Dev) (c w : Nat) : Bool × Dev :=
  if d.windowOpen c && d.on MBX_DATA_STATUS_DIR c then
    let left := d.rd MBX_DATA_STATUS_REMAIN c - 1
    (decide (left = 0), (d.modCtx c (fun x => { x with window := x.window ++ [w], windowAccess := d.time })).wr MBX_DATA_STATUS_REMAIN
      c 0 0 left)
  else (false, d.wr MBX_DATA_STATUS_OVERRUN c 0 0 1)

/-- R522: 10 s without an access: the window closes and its command completes with TIMEOUT. -/
def Dev.windowTimeout (d : Dev) (c : Nat) : Dev :=
  if d.windowOpen c ∧ (d.ctx c).windowAccess + 10000000000 ≤ d.time then
    let s := d.rd MBX_DATA_STATUS_SLOT c
    (d.closeWindow c).finishSlot c s .timeout
  else d

/-! ### Events (R526, R530) -/

/-- EVENT code of an entry. -/
def LogEvent.code : LogEvent → Nat
  | .fixed c => c
  | .diag k => (Config.diagCode k.num).toNat

/-- DATA bytes 12 to 31 of an entry (R526, R531). -/
def LogEntry.dataBytes (e : LogEntry) : List Nat :=
  (List.range 20).map (fun i => match e.event with
    | .fixed _ => nth e.data i
    | .diag k => (Config.diagData k.num e.data i).toNat)

/-- R526: the 32 bytes of an entry. -/
def LogEntry.bytes (e : LogEntry) : List Nat :=
  leBytes 4 e.stamp ++ leBytes 2 e.source ++ leBytes 2 e.event.code
    ++ [e.status, e.sev + b2n e.host * 8 + e.ctx % 16 * 16] ++ leBytes 2 e.rep ++ e.dataBytes

/-- Four bytes as a word, low first. -/
def wordOf (bs : List Nat) (i : Nat) : Nat :=
  nth bs (4 * i) % 256 + 256 * (nth bs (4 * i + 1) % 256) + 65536 * (nth bs (4 * i + 2) % 256) + 16777216 * (nth bs (4 * i + 3) % 256)

/-- The 8 words of an entry. -/
def LogEntry.words (e : LogEntry) : List Nat := let bs := e.bytes; (List.range 8).map (wordOf bs)

/-- R530: a write of 1 to POP removes the oldest event. -/
def Dev.popEvent (d : Dev) (c : Nat) : Dev :=
  if d.answers c then d.modCtx c (fun x => { x with events := x.events.drop 1 }) else d

end Sys2Proof.Machine
end

