-- ==== Sys2Proof/Machine/Management.lean ====
section
/-! DEFINITION. Commands of the management chapter that need no CSR access (15): identity, memory, log, telemetry; sampling,
shedding, EPOCH entries. -/
namespace Sys2Proof.Machine

/-! ### Images as far as identity shows them (R532, R681) -/

/-- A little-endian number of an image's bytes. -/
def imgField (b : List Nat) (o n : Nat) : Nat := leAt b o n

/-- FW_VERSION of an image. -/
def Image.version : Image → Nat
  | .factory => Config.factoryVersion.toNat
  | .bytes b => imgField b 8 4

/-- R532: IDENTIFY word 2. -/
def Dev.firmwareVersion (d : Dev) : Nat := if d.life = .recovery then 0 else d.runningImage.version

/-- R532: PART, stepping B0 and command-set version 3. -/
def identityWord : Nat := 0x10241003

/-- R595, R604: node ID with VALID. -/
def Dev.nodeWord (d : Dev) : Nat := d.word FUR_NODE 0

/-- R532: IDENTIFY. -/
def Dev.identify (d : Dev) (c s : Nat) : Reply × Dev :=
  if !d.argsClean c s [] then (.st .badArg, d)
  else (.done .ok [identityWord, d.firmwareVersion, Config.serial.toNat % 2 ^ 32, Config.serial.toNat / 2 ^ 32, d.nodeWord, c], d)

/-- Words of ARR_STATE that differ from SERVING, as listed. -/
def Dev.arrayStates (d : Dev) : List Nat := (d.regs.filter (fun e => ARR_STATE.hasKey e.1)).map (fun e => bits e.2 2 0)

/-- Arrays in a state other than SERVING. -/
def Dev.arraysIn (d : Dev) (st : Nat → Bool) : Nat := (d.arrayStates.filter st).length

/-- Memory left to contexts (R533). -/
def contextMemory : Nat := 471074521088

/-- R533: CAPABILITIES. -/
def Dev.capabilities (d : Dev) (c s : Nat) : Reply × Dev :=
  if !d.argsClean c s [] then (.st .badArg, d)
  else (.done .ok [deviceMemory % 2 ^ 32, deviceMemory / 2 ^ 32, contextMemory % 2 ^ 32, contextMemory / 2 ^ 32,
    16384 + d.arraysIn (· == RETIRED) * 2 ^ 16, 16 + 4 * 2 ^ 8 + 16 * 2 ^ 16 + 8 * 2 ^ 24], d)

/-! ### Device memory (R534 to R536) -/

/-- The unit of MEM_ALLOC: 2 MiB. -/
def memUnit : Nat := 2 ^ 21

/-- Every region of every context. -/
def Dev.regions (d : Dev) : List Region := (List.range 16).flatMap (fun c => (d.ctx c).map)

/-- The lowest free region of `n` bytes. Candidates are address 0 and the ends of the regions in use. -/
def Dev.freeRegion (d : Dev) (n : Nat) : Option Nat :=
  let rs := d.regions
  let ok := fun (a : Nat) => decide (a + n ≤ contextMemory) && rs.all (fun r => decide (a + n ≤ r.addr) || decide (r.addr + r.size ≤ a))
  let fit := (0 :: rs.map (fun r => r.addr + r.size)).filter ok
  match fit with
  | [] => none
  | a :: l => some (l.foldl min a)

/-- R534: MEM_ALLOC. -/
def Dev.memAlloc (d : Dev) (c s : Nat) : Reply × Dev :=
  let n := bits (d.cmd c s 1) 23 0 * memUnit
  if !d.argsClean c s [0xFFFFFF] then (.st .badArg, d)
  else if n = 0 then (.st .okZeroWork, d)
  else
    match d.freeRegion n with
    | none => (.st .busy, d)
    | some a => (.done .ok [a % 2 ^ 32, a / 2 ^ 32],
        (d.clearBytes (devCell a) n).modCtx c (fun x => { x with map := x.map ++ [⟨a, n⟩] }))

/-- R535: MEM_FREE. -/
def Dev.memFree (d : Dev) (c s : Nat) : Reply × Dev :=
  let a := d.cmd c s 1 + 2 ^ 32 * d.cmd c s 2
  if !d.argsClean c s [mWord, mWord] || !(d.ctx c).map.any (fun r => r.addr == a) then (.st .badArg, d)
  else if d.runs.any (fun r => r.ctx == c) then (.st .busy, d)
  else (.st .ok, d.modCtx c (fun x => { x with map := x.map.filter (fun r => r.addr != a) }))

/-- R536: CTX_INFO. -/
def Dev.ctxInfo (d : Dev) (c s : Nat) : Reply × Dev :=
  if !d.argsClean c s [] then (.st .badArg, d)
  else
    let x := d.ctx c
    let n := x.map.foldl (fun n r => n + r.size) 0
    let objs := (d.vmap.filter (fun e => e.1 / 4096 == c)).length
    (.done .ok [n % 2 ^ 32, n / 2 ^ 32, x.map.length, objs,
      (d.handles c).length + (d.runs.filter (fun r => r.ctx == c)).length * 2 ^ 8, x.events.length], d)

/-! ### The log (R528, R537) -/

/-- R537: LOG_READ. -/
def Dev.logRead (d : Dev) (c s : Nat) : Reply × Dev :=
  let first := d.cmd c s 1
  let count := bits (d.cmd c s 2) 13 0
  if !d.argsClean c s [mWord, 0x3FFF] || decide (8192 < count) then (.st .badArg, d)
  else if count = 0 then (.st .okZeroWork, d)
  else if d.windowOpen c then (.st .busy, d)
  else
    let wr := d.word LOG_WR_CNT 0
    let δ := (wr + 2 ^ 32 - first) % 2 ^ 32
    let h := d.log.length
    if δ = 0 ∨ 2 ^ 31 < δ then
      let (v, d1) := d.fresh
      (.done .ok [0, v % 2 ^ 32, wr], d1)
    else
      let back := min δ h
      let es := (d.log.drop (h - back)).take count
      d.deliverWindow c s (es.flatMap LogEntry.words) .ok [es.length, (wr + 2 ^ 32 - back) % 2 ^ 32, wr]

/-- R528: the STAMP has wrapped since the last EPOCH entry: the log writes one. -/
def Dev.logEpoch (d : Dev) : Dev :=
  if d.life ≠ .off ∧ d.rd LOG_EPOCH_EPOCH 0 ≠ (d.micros / 2 ^ 32) % 2 ^ 32 then d.writeEpoch else d

/-! ### Telemetry (R538, R539) -/

/-- R518: the effective period in ns. -/
def Dev.samplePeriod (d : Dev) : Nat :=
  d.telemetryPeriod * 1000 * (if 2 ≤ d.rd MBX_MP_STATUS_SHED 0 then 2 else 1)

/-- The highest Bushel reading, and its Bushel (R538). -/
def Dev.hottest (d : Dev) : Int × Nat :=
  (List.range 16).foldl (fun (m : Int × Nat) b =>
    let t := signed 16 (d.rd PWR_TEMP_NOW b)
    if m.1 < t then (t, b) else m) (signed 16 (d.rd PWR_TEMP_NOW 0), 0)

/-- R538: words 4 to 9 of a sample. -/
def Dev.sampleWords (d : Dev) : List Nat :=
  let (t, b) := d.hottest
  let retired := d.arraysIn (· == RETIRED)
  let moving := d.arraysIn (fun s => s == DRAINING || s == PROGRAMMING || s == VERIFYING)
  let ces := if d.time < d.ceSince + 1000000000 then d.ceCounts.foldl (fun n e => n + e.2) 0 else 0
  [d.rd PWR_INPUT_P_POWER 0 + d.rd MBX_MP_STATUS_BUSY 0 * 2 ^ 16 + d.rd MBX_MP_STATUS_SHED 0 * 2 ^ 24,
    unsigned 16 t + b * 2 ^ 16, (16384 - retired - moving) + retired * 2 ^ 16, moving, min ces 0xFFFFFFFF,
    if d.runStarted then d.committedValue else 0]

/-- R538, R539: a telemetry sample is taken where the effective period has passed. -/
def Dev.telemetrySample (d : Dev) : Dev :=
  if d.firmware ∧ d.telemetry.time + d.samplePeriod ≤ d.time then
    { d with telemetry := ⟨(d.telemetry.number + 1) % 2 ^ 32, d.time, d.sampleWords⟩ }
  else d

/-- R538: TELEM_READ. -/
def Dev.telemRead (d : Dev) (c s : Nat) : Reply × Dev :=
  if !d.argsClean c s [] then (.st .badArg, d)
  else
    let t := d.telemetry
    (.done .ok ([t.number, t.time % 2 ^ 32, t.time / 2 ^ 32 % 2 ^ 32] ++ t.words), d)

/-- R539: TELEM_CFG. -/
def Dev.telemCfg (d : Dev) (c s : Nat) : Reply × Dev :=
  let p := bits (d.cmd c s 1) 23 0
  if !d.argsClean c s [0xFFFFFF] then (.st .badArg, d)
  else if p = 0 then (.st .okZeroWork, d)
  else if p < 100 ∨ 1000000 < p then (.st .badArg, d)
  else (.st .ok, { d with telemetryPeriod := p })

/-! ### Shedding (R518) -/

/-- R518: entry and exit figures of a stage. -/
def shedEntry : Nat → Nat
  | 1 => 80 | 2 => 90 | 3 => 95 | _ => 98
def shedExit : Nat → Nat
  | 1 => 70 | 2 => 80 | 3 => 85 | _ => 88

/-- P1 and P2 commands ACCEPTED. -/
def Dev.waiting12 (d : Dev) : Nat := (d.accepted.filter (fun (_, _, k, _) => k == 1 || k == 2)).length

/-- R518: the stage after MP busy is measured at `busy` %: the highest stage whose entry figure it reaches; else one stage lower
where busy has stayed below the exit figure for 100 ms (`held`). -/
def Dev.nextStage (d : Dev) (busy : Nat) (held : Bool) : Nat :=
  let old := d.rd MBX_MP_STATUS_SHED 0
  let n := d.waiting12
  let reached := (List.range 5).foldl (fun m k =>
    if 1 ≤ k ∧ (shedEntry k ≤ busy ∨ (k = 4 ∧ 64 < n)) then k else m) 0
  if old < reached then reached
  else if 1 ≤ old ∧ held = true ∧ busy < shedExit old ∧ (old ≠ 4 ∨ n ≤ 32) then old - 1
  else old

/-- Shows a stage. -/
def Dev.setStage (d : Dev) (k : Nat) : Dev :=
  (List.range 16).foldl (fun d c => d.wr MBX_PAGE_STATUS_SHED c 0 0 k) (d.wr MBX_MP_STATUS_SHED 0 0 0 k)

/-- R518: a measurement of MP busy; a change of stage is logged. No stage is entered in minimal recovery mode (R658). -/
def Dev.shedStage (d : Dev) (busy : Nat) (held : Bool) : Dev :=
  if d.firmware then
    let k := d.nextStage busy held
    let d1 := d.wr MBX_MP_STATUS_BUSY 0 0 0 busy
    if k = d.rd MBX_MP_STATUS_SHED 0 then d1
    else (d1.setStage k).logEntry (srcUnit 0x01) (.fixed 0x0011) .ok false (Config.logContext 0x0011).val [k, busy]
  else d

/-! ### The MP's restarts (R503 to R506) -/

/-- R503, R530: a restart is counted, logged and raised; it answers how many causes fell within 60 s. -/
def Dev.countRestart (d : Dev) (cause : Nat) : Nat × Dev :=
  -- the first cause of a 60 s span stays until the span is over
  let live := d.mpCauses.filter (fun t => decide (d.time ≤ t + 60000000000))
  let n := live.length + 1
  let d1 := ((d.count MBX_MP_STATUS_RESTARTS 0 0).wr MBX_MP_STATUS_LAST_CAUSE 0 0 0 cause)
  (n, { d1 with mpCauses := live ++ [d.time] }.hostEvent (srcUnit 0x01) 0x0010 .internal none [cause, n])

/-- R506: what a command that waits leads to at a restart: those of runs and waits in the hub, and resets and transitions that
hardware completes, stay; windows close; every other is complete with INTERNAL. -/
def Dev.resolveCommands (d : Dev) : Dev :=
  (List.range 16).foldl (fun d c => (List.range 8).foldl (fun (d : Dev) s =>
    if d.slotState c s = slotRunning then
      match d.slotWait c s with
      | .run => d
      | .sync => d
      | .reset => d
      | .window => (d.closeWindow c).finishSlot c s .internal
      | _ => d.finishSlot c s .internal
    else d) d) d

end Sys2Proof.Machine
end

