-- ==== Sys2Proof/Machine/Security.lean ====
section
/-! DEFINITION. The security complex (20): images and their verification, firmware commands, measurements, debug unlock, reset
credentials, the SPDM responder, IDE streams. Cryptographic functions over bytes the state holds are opaque (Config). -/
namespace Sys2Proof.Machine

/-! ### Events (R700, R701) -/

/-- SOURCE of the security complex: unit code 0x14. -/
def srcSecurity : Nat := srcUnit 0x14

/-- R700: AUTH_FAIL, counted in SEC_AUTH_FAIL_CNT. -/
def Dev.authFail (d : Dev) (what node : Nat) : Dev :=
  (d.count SEC_AUTH_FAIL_CNT_COUNT 0 0).hostEvent srcSecurity 0x0804 .authFailed none [what, node % 256, node / 256]

/-! ### Images (R681, R682) -/

/-- SVN and KEY_SLOT of an image. -/
def Image.svn : Image → Nat
  | .factory => Config.factorySvn.val
  | .bytes b => imgField b 6 1
def Image.keySlot : Image → Nat
  | .factory => Config.factoryKey.val
  | .bytes b => imgField b 7 1

/-- REVOKE of an image: the key slots it revokes. The delivered image does not revoke its own key, or it would not verify (PRESUMED). -/
def Image.revoke : Image → Nat
  | .factory => (Config.factoryRevoke &&& ~~~(1#4 <<< Config.factoryKey.val)).toNat
  | .bytes b => imgField b 48 1 % 16

/-- All bytes of a range are zero. -/
def zeroBytes (b : List Nat) (lo n : Nat) : Bool := ((b.drop lo).take n).all (· == 0)

/-- R682: SHA3-256 digest of bytes 0 to 2,015 of an image. -/
def headerDigest (b : List Nat) : Nat := (Config.sha3 (b.take 2016)).toNat

/-- PUBKEY and SIGNATURE of an image or a token. -/
def pubKey (b : List Nat) : List Nat := (b.drop 64).take 1952
def signatureOf (b : List Nat) : List Nat := (b.drop 2016).take 3309

/-- R682: the header is laid out as R681 says. -/
def headerOk (b : List Nat) : Bool :=
  decide (imgField b 0 4 = 0x46574F4C) && decide (imgField b 4 2 = 1) && decide (imgField b 6 1 ≤ 64) && decide (imgField b 7 1 ≤ 3)
    && decide (imgField b 12 4 % 4 = 0) && decide (imgField b 12 4 ≤ 16771888) && decide (b.length = 5328 + imgField b 12 4)
    && decide (imgField b 48 1 < 16) && zeroBytes b 49 15 && zeroBytes b 5325 3

/-- R682: whether an image verifies. The factory image does while its key stands and the count lets it (PRESUMED). -/
def Image.verify (f : Fuses) (i : Image) : Status :=
  if i.svn < f.rbCount then .rollback
  else if bit i.revoke i.keySlot || bit f.revoked i.keySlot then .authFailed
  else
    match i with
    | .factory => .ok
    | .bytes b =>
      if headerOk b && decide (Config.sha3 (pubKey b) = Config.imgKey i.keySlot)
          && Config.mldsaVerify (pubKey b) (leBytes 32 (headerDigest b)) (signatureOf b)
          && decide ((Config.sha3 (b.drop 5328)).toNat = imgField b 16 32) then .ok
      else .authFailed

/-! ### Certificate chains (R690) -/

/-- R690: every signature of a chain verifies, the root's with its own key, every other with the key of the certificate before it. -/
def signaturesOk (key : List Nat) : List Cert → Bool
  | [] => true
  | c :: cs => Config.mldsaVerify key c.signed c.signature && signaturesOk c.publicKey cs

/-- R690: a chain, root first, is accepted: at most four certificates, the root's key the fused one, every signature good, every
certificate but the leaf a CA with keyCertSign, the leaf with digitalSignature. Validity and revocation are not looked at. -/
def chainAccepted (cs : List Cert) : Bool :=
  match cs.head?, cs.getLast? with
  | some root, some leaf =>
    decide (cs.length ≤ 4) && decide (Config.sha3 root.publicKey = Config.rootHash) && signaturesOk root.publicKey cs
      && cs.dropLast.all (fun c => c.ca && c.keyCertSign) && leaf.digitalSignature
  | _, _ => false

/-- R599: the partner is accepted: its chain under R690, the key of its leaf under the identity hash it sent in IDENTIFY, and its
signature over H. `last` is its last message, the signature of 3,309 bytes with the chain after it (log entry 105); `hash` is H. -/
def partnerAccepted (identity : Nat) (last hash : List Nat) : Bool :=
  match Config.parseChain (last.drop 3309) with
  | none => false
  | some cs =>
    match cs.getLast? with
    | none => false
    | some leaf => chainAccepted cs && decide ((Config.sha3 leaf.publicKey).toNat = identity)
        && Config.mldsaVerify leaf.publicKey hash (last.take 3309)

/-! ### Measurements (R691, R692) -/

/-- A measurement register and its number of extensions. -/
def Dev.measure (d : Dev) (i : Nat) : Nat × Nat := d.measures.getD i (0, 0)

/-- R691: extends a register with the bytes of a value. -/
def Dev.extend (d : Dev) (i : Nat) (value : List Nat) : Dev :=
  let m := d.measure i
  { d with measures := setAt d.measures i ((Config.sha3 (leBytes 32 m.1 ++ value)).toNat, m.2 + 1) }

/-- R691: extends register 3 with the security state. -/
def Dev.extendSecurity (d : Dev) (f : Fuses) : Dev :=
  d.extend 3 (Config.measured 3 [f.rbCount, f.revoked, d.runningSlot, d.rd SEC_STATUS_UNLOCKED 0, d.rd SEC_STATUS_SCOPE 0])

/-- R691: what register 1 takes of the image that runs. -/
def Image.measured : Image → List Nat
  | .factory => Config.measured 1 []
  | .bytes b => leBytes 32 (headerDigest b)

/-- R691: registers 0 to 2 at a start: the ROM, the image and the trim sets that were taken. -/
def Dev.measureStart (d : Dev) : Dev :=
  let d1 := { d with measures := List.replicate 8 (0, 0) }
  ((d1.extend 0 (Config.measured 0 [])).extend 1 d.runningImage.measured).extend 2 (Config.measured 2 [d.word RST_TRIM_STATUS 0])

/-- R692: MEASURE_READ. -/
def Dev.measureRead (d : Dev) (c s : Nat) : Reply × Dev :=
  let i := bits (d.cmd c s 1) 3 0
  if !d.argsClean c s [0xF] || decide (8 ≤ i) then (.st .badArg, d)
  else
    let m := d.measure i
    (.done .ok ((List.range 8).map (fun k => m.1 / 2 ^ (32 * k) % 2 ^ 32) ++ [m.2 % 2 ^ 32]), d)

/-! ### Firmware commands (R686 to R688) -/

/-- R686: FW_STAGE, checks 1 to 4. -/
def Dev.fwStage (d : Dev) (c s : Nat) : Reply × Dev :=
  let n := d.cmd c s 1
  if !d.argsClean c s [mWord] || decide (n % 4 ≠ 0) || decide (2 ^ 24 < n) then (.st .badArg, d)
  else if n = 0 then (.st .okZeroWork, d)
  else if d.windowOpen c then (.st .busy, d)
  else (.wait .window, { d with other := .bytes [], otherValid := false }.openWindow c s true (n / 4) [] (0, []))

/-- Bytes of the words a window has taken. -/
def windowBytes (ws : List Nat) : List Nat := ws.flatMap (leBytes 4)

/-- R686, check 5: the last word of an image has arrived. -/
def Dev.stageDone (d : Dev) (f : Fuses) (c s : Nat) : Dev :=
  let b := windowBytes (d.ctx c).window
  let d1 := { d.closeWindow c with other := .bytes b }
  if b.length ≠ 5328 + imgField b 12 4 then d1.finishSlot c s .badArg
  else
    match (Image.bytes b).verify f with
    | .ok => { d1 with otherValid := true }.finishSlot c s .ok [imgField b 6 1 + imgField b 7 1 % 4 * 256, imgField b 8 4]
    | .authFailed => (d1.authFail 1 0).finishSlot c s .authFailed
    | st => d1.finishSlot c s st

/-- A reset that begins after a delay in ns (R670, R687); a deeper one that already waits stays. -/
def Dev.resetIn (d : Dev) (cold : Bool) (source delay : Nat) : Dev :=
  match d.pendingReset with
  | some p => if p.cold && !cold then d else { d with pendingReset := some ⟨cold, source, d.time + delay⟩ }
  | none => { d with pendingReset := some ⟨cold, source, d.time + delay⟩ }

/-- R687: FW_ACTIVATE. The running image keeps its content: where it leaves ACTIVE it runs from OTHER. -/
def Dev.fwActivate (d : Dev) (f : Fuses) (c s : Nat) : Reply × Dev :=
  if !d.argsClean c s [1] then (.st .badArg, d)
  else if !d.otherValid then (.st .notPermitted, d)
  else if !d.runs.isEmpty || d.windowOpen c then (.st .busy, d)
  else
    match d.other.verify f with
    | .ok =>
      let rom := decide (d.life = .recovery)
      let d1 := { d with active := d.other, other := d.active, otherValid := true
                         runningSlot := if rom then 0 else 1 - d.runningSlot }
      let d2 := (d1.wr RST_START_START_CNT 0 0 0 0).wr SEC_STATUS_SLOT 0 0 0 d1.runningSlot
      (.st .ok, if bit (d.cmd c s 1) 0 then d2.resetIn false 0x05 1000000 else d2)
    | .authFailed => (.st .authFailed, d.authFail 1 0)
    | st => (.st st, d)

/-- A field of the OTHER slot, open while the slot holds no whole header. -/
def Dev.otherField (d : Dev) (v : Nat) : Nat × Dev :=
  match d.other with
  | .bytes b => if b.length < 5328 then d.fresh else (v, d)
  | .factory => (v, d)

/-- R688: FW_INFO. -/
def Dev.fwInfo (d : Dev) (f : Fuses) (c s : Nat) : Reply × Dev :=
  if !d.argsClean c s [] then (.st .badArg, d)
  else
    let rom := decide (d.life = .recovery)
    let (v, d1) := d.otherField d.other.version
    let (n, d2) := d1.otherField d.other.svn
    (.done .ok [(if rom then 2 ^ 30 else d.runningSlot * 2 ^ 31) + f.rbCount % 128, d.active.version, v % 2 ^ 32,
      d.active.svn + n % 256 * 2 ^ 8 + b2n d.otherValid * 2 ^ 16 + f.revoked % 16 * 2 ^ 24, Config.romVersion.toNat], d2)

/-! ### Fuses at RUN acknowledgement (R684, R685) -/

/-- R684, R685: the IMG_REVOKE bits that are blown for an image: none of its own key, and none where no key would be left. -/
def revokeAfter (old : Nat) (i : Image) : Nat :=
  (List.range 4).foldl (fun r k =>
    if bit i.revoke k && k != i.keySlot && !bit r k && decide (r + 2 ^ k < 15) then r + 2 ^ k else r) old

/-- R684: `n` more fuses of a list are blown, from bit 0 upward. -/
def blowMore (n : Nat) : List FuseRead → List FuseRead
  | [] => List.replicate n .blown
  | r :: rs => if r.counts || n == 0 then r :: blowMore n rs else .blown :: blowMore (n - 1) rs

/-- The fuses after RUN acknowledgement of an image: RB_COUNT fuses are blown until the count equals its SVN, then the IMG_REVOKE bits. A
fuse that counts as blown is left as it is. -/
def Fuses.advance (f : Fuses) (i : Image) : Fuses :=
  { f with
    rb := blowMore (i.svn - f.rbCount) f.rb
    imgRevoke := (List.range 4).map (fun k =>
      if fuseBlown f.imgRevoke k then f.imgRevoke.getD k .blown else if bit (revokeAfter f.revoked i) k then .blown else .intact) }

/-- R684: ROLLBACK_ADVANCE, logged where a fuse was blown. -/
def Dev.logAdvance (d : Dev) (old new : Fuses) : Dev :=
  if old.rbCount = new.rbCount ∧ old.revoked = new.revoked then d
  else d.hostEvent srcSecurity 0x0801 .ok none [old.rbCount, new.rbCount, new.revoked]

/-! ### Debug unlock (R695 to R697) -/

/-- R696, R698: bytes laid out as a debug token with a given MAGIC. Reserved bytes are ignored (R10); bytes 5,328 to 5,359 are stated
to be zero (log entry 67). -/
def tokenShape (b : List Nat) (magic : Nat) : Bool :=
  decide (b.length = 5360) && decide (imgField b 0 4 = magic) && decide (imgField b 4 2 = 1) && zeroBytes b 5328 32

/-- R696: a debug token verifies against a challenge. -/
def tokenOk (b challenge : List Nat) : Bool :=
  tokenShape b 0x4B544244 && decide (imgField b 8 8 = Config.serial.toNat) && decide ((b.drop 16).take 32 = challenge)
    && decide (imgField b 48 1 < 4) && decide (Config.sha3 (pubKey b) = Config.dbgKey)
    && Config.mldsaVerify (pubKey b) (b.take 2016) (signatureOf b)

/-- A challenge of the current device time is valid for 600 s. -/
def Dev.challengeNow (d : Dev) : Option (List Nat) :=
  match d.challenge with
  | some (bytes, t) => if d.time < t + 600000000000 then some bytes else none
  | none => none

/-- R695: a fresh challenge of 32 bytes. -/
def Dev.newChallenge (d : Dev) : List Nat × Dev :=
  let (a, d1) := d.fresh
  let (b, d2) := d1.fresh
  let (e, d3) := d2.fresh
  let (f, d4) := d3.fresh
  let bytes := [a, b, e, f].flatMap (leBytes 8)
  (bytes, { d4 with challenge := some (bytes, d4.time) })

/-- R695: DEBUG_UNLOCK, both phases up to the token. The challenge the token must hold stays with the window. -/
def Dev.debugUnlock (d : Dev) (c s : Nat) : Reply × Dev :=
  if !d.argsClean c s [1, mWord] then (.st .badArg, d)
  else if !bit (d.cmd c s 1) 0 then
    let (bytes, d1) := d.newChallenge
    (.done .ok ((List.range 8).map (wordOf bytes)), d1)
  else if d.cmd c s 2 ≠ 5360 then (.st .badArg, d)
  else
    match d.challengeNow with
    | none => (.st .notPermitted, d)
    | some bytes =>
      if d.windowOpen c then (.st .busy, d)
      else (.wait .window, { d with challenge := none }.openWindow c s true 1340 [] (0, bytes))

/-- R697: debug unlocks with a scope. -/
def Dev.unlock (d : Dev) (f : Fuses) (scope : Nat) : Dev :=
  let d1 := (d.wr SEC_STATUS_UNLOCKED 0 0 0 1).wr SEC_STATUS_SCOPE 0 0 0 scope
  (d1.extendSecurity f).hostEvent srcSecurity 0x0802 .ok none [scope]

/-- R695, checks 5 and 6: the last word of a token has arrived. -/
def Dev.tokenDone (d : Dev) (f : Fuses) (c s : Nat) : Dev :=
  let b := windowBytes (d.ctx c).window
  let d1 := d.closeWindow c
  if tokenOk b (d.ctx c).windowReply.2 then (d1.unlock f (imgField b 48 1)).finishSlot c s .ok
  else (d1.authFail 2 0).finishSlot c s .authFailed

/-- R697: the unlock ends; cause 1 DEBUG_LOCK, 2 a reset. -/
def Dev.lock (d : Dev) (cause : Nat) : Dev :=
  if d.on SEC_STATUS_UNLOCKED 0 then
    ((d.wr SEC_STATUS_UNLOCKED 0 0 0 0).wr SEC_STATUS_SCOPE 0 0 0 0).hostEvent srcSecurity 0x0803 .ok none [cause]
  else d

/-- R697: DEBUG_LOCK. -/
def Dev.debugLock (d : Dev) (f : Fuses) (c s : Nat) : Reply × Dev :=
  if !d.argsClean c s [] then (.st .badArg, d) else (.st .ok, (d.lock 1).extendSecurity f)

/-- R521, R686, R695: a write of MBX_DATA_WR; the last word completes the window's command. -/
def Dev.dataWrite (d : Dev) (f : Fuses) (c w : Nat) : Dev :=
  if !d.answers c then d
  else
    let (last, d1) := d.windowWrite c w
    let s := d.rd MBX_DATA_STATUS_SLOT c
    if !last then d1
    else if d.opcode c s = 0x80 then d1.stageDone f c s
    else d1.tokenDone f c s

/-! ### The fabric-manager key and reset credentials (R698, R699) -/

/-- R699: a write of 1 to SEC_FMKEY_CTRL.LOCK sets VALID. -/
def Dev.lockFmKey (d : Dev) : Dev := (d.wr SEC_FMKEY_CTRL_LOCK 0 0 0 1).wr SEC_FMKEY_CTRL_VALID 0 0 0 1

/-- SEC_FMKEY_HASH0 to 7 as one number. -/
def Dev.fmKeyHash (d : Dev) : Nat :=
  (List.range 8).foldl (fun n k => n + d.rd SEC_FMKEY_HASH_HASH 0 k * 2 ^ (32 * k)) 0

/-- SEC_RESET_CTR. -/
def Dev.resetCounter (d : Dev) : Nat := d.rd SEC_RESET_CTR_LO_CTR 0 + 2 ^ 32 * d.rd SEC_RESET_CTR_HI_CTR 0

/-- R698: a credential verifies for a request whose bytes 0 and 1 are given. -/
def Dev.credentialOk (d : Dev) (b : List Nat) (b0 b1 : Nat) : Bool :=
  d.on SEC_FMKEY_CTRL_VALID 0 && tokenShape b 0x51535252 && decide ((Config.sha3 (pubKey b)).toNat = d.fmKeyHash)
    && decide (imgField b 16 32 = Config.identityHash.toNat) && decide (imgField b 48 1 = b0) && decide (imgField b 49 1 = b1)
    && decide (d.resetCounter < imgField b 8 8) && Config.mldsaVerify (pubKey b) (b.take 2016) (signatureOf b)

/-- R698: SEC_RESET_CTR takes the counter. -/
def Dev.takeCounter (d : Dev) (b : List Nat) : Dev :=
  (d.wr SEC_RESET_CTR_LO_CTR 0 0 0 (imgField b 8 4)).wr SEC_RESET_CTR_HI_CTR 0 0 0 (imgField b 12 4)

/-! ### SPDM and IDE (R693, R694) -/

/-- The responder sends an answer. -/
def Dev.answerSpdm (d : Dev) (a : SpdmAnswer) : Dev := { d with out := d.out ++ [.spdm a] }

/-- An answer whose bytes SPDM 1.3 lays down. -/
def Dev.answerOpen (d : Dev) : Dev :=
  { d with freeCount := d.freeCount + 1 }.answerSpdm (.answer (Config.spdmAnswer d.freeCount))

/-- R693, R694: an SPDM request over DOE or MCTP, while the responder is up. -/
def Dev.spdmRequest (d : Dev) (r : SpdmRequest) : Dev :=
  if !d.firmware then d
  else
    match r with
    | .keyExchange =>
      if 4 ≤ d.spdmSessions then d.answerSpdm .busy else { d with spdmSessions := d.spdmSessions + 1 }.answerOpen
    | .endSession => if d.spdmSessions = 0 then d.answerSpdm .error else { d with spdmSessions := d.spdmSessions - 1 }.answerOpen
    | .finish verified =>
      if d.spdmSessions = 0 then d.answerSpdm .error
      else if verified then d.answerOpen
      else ({ d with spdmSessions := d.spdmSessions - 1 }.authFail 5 0).answerSpdm .error
    | .heartbeat => if d.spdmSessions = 0 then d.answerSpdm .error else d.answerOpen
    | .keyUpdate => if d.spdmSessions = 0 then d.answerSpdm .error else d.answerOpen
    | .getMeasurements i =>
      if 1 ≤ i ∧ i ≤ 5 then d.answerSpdm (.measurement i (d.measure (i - 1)).1) else d.answerOpen
    | .getCertificate slot => d.answerSpdm (if slot = 0 then .certificates Config.deviceChain else .error)
    | .ideKm stream =>
      if d.spdmSessions = 0 then d.answerSpdm .error
      else { d with ideInsecure := d.ideInsecure.filter (· != stream) }.answerOpen
    | .unsupported => d.answerSpdm .error
    | .getVersion => d.answerOpen
    | .getCapabilities => d.answerOpen
    | .negotiateAlgorithms => d.answerOpen
    | .getDigests => d.answerOpen
    | .challenge => d.answerOpen

/-- R694: an integrity check failure of a stream. -/
def Dev.ideFail (d : Dev) (stream : Nat) : Dev :=
  if d.life = .off then d
  else { d with ideInsecure := if d.ideInsecure.contains stream then d.ideInsecure else d.ideInsecure ++ [stream] }.hostEvent
    srcSecurity 0x0805 .ok none [stream]

end Sys2Proof.Machine
end

