-- ==== Sys2Proof/Machine/Mirror.lean ====
section
/-! DEFINITION. Mirror records, snapshots and the policy table (14): what the module writes so that a fault costs no committed
step. -/
namespace Sys2Proof.Machine

/-! ### Mirror records (R478, R479) -/

/-- The committed step value after the last commit on this module. -/
def Dev.stampNow (d : Dev) : Nat := ((d.lastCommit.map (fun t => (t + 1) % 2 ^ 32)).orElse (fun _ => some d.committedValue)).getD 0

/-- R478: the barrier fields of an object, if it is a barrier. -/
def mirrorBarrier (o : SyncObj) (gen : Nat) : Option MirrorBarrier :=
  match o.kind with
  | .barrier b => some ⟨o.owner, o.vid, gen, b.committed, b.attempt, b.participants, b.arrived, b.worst, b.outcome⟩
  | _ => none

/-- R478: an entry of a context's translation table as a mirror record holds it. -/
def Dev.mirrorObject (d : Dev) (e : Nat × VMap) : Option MirrorObject :=
  match e.2 with
  | .object k => (d.obj k).map (fun o =>
    { ctx := e.1 / 4096, vid := e.1 % 4096, gen := d.gen k, value := o.value, satHi := o.satHi, satLo := o.satLo
      exported := o.exported, remote := none
      ready := match o.kind with
        | .ready t => some t
        | _ => none })
  | .remote n c v g => some ⟨e.1 / 4096, e.1 % 4096, g, 0, false, false, false, none, some (n, c, v, g)⟩

/-- What a METHOD 1 tensor puts into a mirror record: masters, momentum and plane of the owned shard, the residual in use. -/
def Dev.mirrorTensor (d : Dev) (x : XchTable) (t : XchTensor) : MirrorTensor :=
  let n := (x.ownedParams t d.nodeId).2
  let uses := decide (t.rule = 2 ∨ t.rule = 3)
  { tensor := t.tensorId, masters := d.bytes (devCell t.master) (4 * n)
    mom := if uses then d.bytes (devCell t.mom) n else []
    plane := if uses then d.bytes (devCell t.momPlane) ((n + 31) / 32) else []
    efr := d.bytes (devCell t.efUse) (2 * t.p) }

/-- Tensors of a program's policy with a METHOD. -/
def Program.tensorsWith (p : Program) (method : Nat) : List XchTensor :=
  match p.xch, p.policy with
  | some x, some pol => x.tensors.filter (fun t => pol.entries.any (fun e =>
      decide (bits (nth e 0) 63 32 = t.tensorId) && decide (bits (nth e 0) 31 30 = method)))
  | _, _ => []

/-- R478: the mirror record of the module as it stands. -/
def Dev.mirrorRecord (d : Dev) : MirrorRecord :=
  { stamp := d.stampNow, node := d.nodeId
    ctxMask := (List.range 16).foldl (fun m c => if d.programs.any (fun e => e.1 / 4 == c) then m + 2 ^ c else m) 0
    runs := d.runs.map (fun r => ⟨r.ctx, r.handle, r.steps, r.committed⟩)
    rng := d.rng
    scales := d.programs.flatMap (fun (k, p) => (List.range (bits (d.header p.base 1) 63 48)).map (fun i =>
      (k, i, ((d.scaleEntry p.base i).map (fun e => e.scale * 2 ^ 32 + e.round)).getD 0)))
    norms := d.programs.flatMap (fun (k, p) => match p.wch with
      | none => []
      | some w => (List.range (d.normCount w.base)).map (fun i => (k, i, d.mem64 (normAddr w.base i + 16))))
    objects := d.vmap.filterMap d.mirrorObject
    barriers := d.objects.filterMap (fun (k, o) => mirrorBarrier o (d.gen k))
    tensors := d.programs.flatMap (fun (_, p) => match p.xch with
      | none => []
      | some x => (p.tensorsWith 1).map (d.mirrorTensor x)) }

/-- Bytes of a mirror record (R478). -/
def MirrorRecord.size (m : MirrorRecord) : Nat :=
  64 + 16 * m.runs.length + 32 * 128 + 8 * m.scales.length + 8 * m.norms.length + 16 * m.objects.length + 1088 * m.barriers.length
    + m.tensors.foldl (fun n t => n + t.masters.length + t.mom.length + t.plane.length + t.efr.length) 0

/-- The newest home copy, if its CRC holds. -/
def Dev.homeCopy (d : Dev) : Option MirrorRecord :=
  match (d.homeSlots.getD d.homeNewest none) with
  | some h => if h.ok then some h.record else none
  | none => none

/-- R479: the record goes to the buddy's region, into the slot that the newest one does not hold. -/
def Dev.sendRecord (d : Dev) (m : MirrorRecord) (slot : Nat) : Dev :=
  let n := m.size
  let (base, size) := d.buddyPlace
  if size < 2 * n then d.mirrorLost
  else
    let (k, st, d1) := d.sendOut 0 4 (d.rd FLT_MIRROR_STATUS_BUDDY 0) (base + slot * (size / 2))
      ((List.range n).map (fun i => (Config.mirrorByte m i).toNat)) (.mirror m.stamp)
    if st = .ok then { d1 with mirrorSent := some (m.stamp, k) } else d1.mirrorLost

/-- A chunk of a tensor with METHOD 1 still awaits its update: the record of the committed step cannot hold it yet (R478, R492). -/
def Dev.mirroredPending (d : Dev) : Bool :=
  d.updates.any (fun u => (u.todo ++ u.broken).any (fun e => match u.table.tensors[e.1]? with
    | none => false
    | some t => d.programs.any (fun p => p.2.base == u.base && (p.2.tensorsWith 1).any (fun x => x.tensorId == t.tensorId))))

/-- R479: after a commit firmware writes the mirror record into the home slot that does not hold the newest one, and with mirroring
set it goes to the buddy. -/
def Dev.writeMirror (d : Dev) : Dev :=
  if d.mirrorDue = true ∧ d.firmware = true ∧ d.mirroredPending = false then
    let m := d.mirrorRecord
    let slot := 1 - d.homeNewest
    let d1 := { d with homeSlots := setAt d.homeSlots slot (some ⟨m, true⟩), homeNewest := slot, mirrorDue := false }
    let d2 := d1.wr FLT_MIRROR_STATUS_HOME_OK 0 0 0 1
    if d2.on FLT_MIRROR_STATUS_EN 0 then d2.sendRecord m slot else d2
  else d

/-- R479: the buddy has acknowledged the record that was sent. -/
def Dev.mirrorAck (d : Dev) : Dev :=
  match d.mirrorSent with
  | none => d
  | some (stamp, _) =>
    (({ d with mirrorSent := none }.wr FLT_MIRROR_STATUS_BUDDY_OK 0 0 0 1).setWord FLT_MIRROR_STEP 0 0 0 stamp).resendCopies

/-- One packet of a record was answered. -/
def Dev.mirrorAnswered (d : Dev) (stamp : Nat) (st : Status) : Dev :=
  match d.mirrorSent with
  | none => d
  | some (s, n) =>
    if s ≠ stamp then d
    else if st ≠ .ok then d.mirrorLost
    else if n ≤ 1 then d.mirrorAck else { d with mirrorSent := some (s, n - 1) }

/-! ### MIRROR_SET (R498) -/

/-- Where a region of `n` bytes at `a` may not stand. -/
def regionBad (a n : Nat) : Bool := decide (a % 64 ≠ 0) || !inMemory a n

/-- R498: MIRROR_SET. Without ACCEPT the node is asked whether it has accepted this module. -/
def Dev.mirrorSet (d : Dev) (c s : Nat) : Reply × Dev :=
  let w1 := d.cmd c s 1
  let n := bits w1 11 0
  let accept := bit w1 17
  let a := d.cmd48 c s 2
  let size := d.cmd c s 4 * 2 ^ 20
  if !d.argsClean c s [0xFFF + 3 * 2 ^ 16, mWord, mHigh, mWord] || decide (d.node = some n) || (accept && regionBad a size) then
    (.st .badArg, d)
  else if d.runs ≠ [] then (.st .busy, d)
  else if accept ∧ size = 0 then (.st .okZeroWork, d)
  else if accept then
    match d.unreachable n true with
    | some st => (.st st, d)
    | none => (.st .ok, { d with buddyRegions := d.buddyRegions.filter (fun r => r.node != n) ++ [⟨n, a, size⟩] })
  else
    let (st, d1) := d.originate { typ := tyMgmt, dst := n, src := 0, length := 64 } (.command c s)
    if st = .ok then (.wait (.work 1), d1) else (.st st, d)

/-- R498: the node's answer: it has accepted this module, or NOT_PERMITTED. -/
def Dev.mirrorAnswer (d : Dev) (node c s : Nat) (accepted : Bool) (base size : Nat) : Dev :=
  if d.slotState c s = slotRunning ∧ d.slotWait c s = .work 1 ∧ bits (d.cmd c s 1) 11 0 = node then
    if accepted then
      let d1 := (d.wr FLT_MIRROR_STATUS_EN 0 0 0 (bits (d.cmd c s 1) 16 16)).wr FLT_MIRROR_STATUS_BUDDY 0 0 0 node
      -- the buddy has acknowledged no record yet
      (({ d1 with buddyPlace := (base, size), mirrorSent := none }.wr FLT_MIRROR_STATUS_BUDDY_OK 0 0 0 0).resendCopies).finishSlot c s .ok
    else d.finishSlot c s .notPermitted
  else d

/-! ### The policy table (R482, R483, R486, R497) -/

/-- R483: bytes of the slots of one tensor's policy entry. -/
def slotBytes (x : XchTable) (node : Nat) (t : XchTensor) (e : List Nat) : Nat :=
  let (lo, hi) := x.owned t node
  (if bit (nth e 0) 29 then (hi - lo) * 2 * 20672 else 0) + (if bit (nth e 0) 28 then t.chunks * 2 * 8256 else 0)

/-- R497: protected data of a METHOD 1 tensor in bytes. -/
def protectedBytes (x : XchTable) (node : Nat) (t : XchTensor) (e : List Nat) : Nat :=
  let n := (x.ownedParams t node).2
  (if bit (nth e 0) 29 then 4 * n + (if t.rule = 2 ∨ t.rule = 3 then n + (n + 31) / 32 else 0) else 0)
    + (if bit (nth e 0) 28 then 2 * t.p else 0)

/-- R486: bytes of one written-ahead entry. -/
def XchTable.entryBytes (x : XchTable) (node : Nat) : Nat :=
  x.tensors.foldl (fun n t =>
    let k := (x.ownedParams t node).2
    if k = 0 then n else n + 64 + (k * codeWidth (x.membersOf t).length + 511) / 512 * 64) 64

/-- R482: a destination word names space 3 or 4 and a multiple of 64, and its node word fits. -/
def destOk (w node : Nat) : Bool :=
  (decide (bits w 63 61 = 3) && decide (node = 0) || decide (bits w 63 61 = 4) && decide (node < 4096))
    && decide (bits w 60 48 = 0) && decide (bits w 47 0 % 64 = 0)

/-- Reads the words of a policy table. -/
def Dev.readPolicy (d : Dev) (a : Nat) : RecPolicy :=
  let h := d.words64 (devCell a) 8
  { base := a, header := h, count := 0
    entries := (List.range (bits (nth h 0) 15 0)).map (fun i => d.words64 (devCell (a + 64 + 32 * i)) 4) }

/-- R482, R483, R486, R497: one entry of the table is lawful. -/
def policyEntryOk (x : XchTable) (node : Nat) (e : List Nat) : Bool :=
  let w := nth e 0
  match x.tensors.find? (fun t => t.tensorId == bits w 63 32) with
  | none => false
  | some t =>
    let m := bits w 31 30
    decide (m ≠ 3) && decide (bits w 27 16 = 0) && decide (bits (nth e 3) 63 48 = 0)
      && (m != 1 || decide (protectedBytes x node t e ≤ 16 * 2 ^ 20))
      && (m != 2 || (destOk (nth e 1) (nth e 2) && decide (slotBytes x node t e ≤ bits (nth e 3) 47 0)))

/-- R497: the table passes its checks. -/
def RecPolicy.ok (pol : RecPolicy) (x : XchTable) (node : Nat) : Bool :=
  let h := pol.header
  let kmax := pol.entries.foldl (fun m e => max m (bits (nth e 0) 15 0)) 0
  let ids := pol.entries.map (fun e => bits (nth e 0) 63 32)
  decide (bits (nth h 0) 63 48 = 1) && decide (bits (nth h 0) 47 16 = 0) && destOk (nth h 1) (nth h 2)
    && decide (bits (nth h 3) 63 48 = 0) && decide (nth h 3 % 64 = 0) && decide ((kmax + 2) * x.entryBytes node ≤ nth h 3)
    && (List.range 4).all (fun i => nth h (4 + i) == 0) && decide (ids.eraseDups.length = ids.length)
    && pol.entries.all (policyEntryOk x node)

/-- R497: REC_POLICY_LOAD. -/
def Dev.policyLoad (d : Dev) (c s : Nat) : Reply × Dev :=
  let h := bits (d.cmd c s 1) 1 0
  let a := d.cmd48 c s 2
  let len := d.cmd c s 4
  match (Tbl.find d.programs (progKey c h)).bind (·.xch) with
  | none => (.st .badArg, d)
  | some x =>
    let pol := d.readPolicy a
    if !d.argsClean c s [3, mWord, mHigh, mWord] || decide (a % 64 ≠ 0) || decide (len < 64) || !inMemory a len
        || decide (len < 64 + 32 * pol.entries.length) || !pol.ok x d.nodeId then (.st .badArg, d)
    else if d.hasRun c h then (.st .busy, d)
    else
      let ids := pol.entries.map (fun e => bits (nth e 0) 63 32)
      (.st .ok, { d.modProgram (progKey c h) (fun p => { p with policy := some pol }) with
        slotStamps := d.slotStamps.filter (fun e => !ids.contains e.tensor) })

/-! ### Snapshots (R483 to R485) -/

/-- What this module knows of a chunk's two slots. -/
def Dev.slotStamp (d : Dev) (tensor chunk : Nat) (efr : Bool) : SlotStamp :=
  (d.slotStamps.find? (fun e => e.tensor == tensor && e.chunk == chunk && e.efr == efr)).getD ⟨tensor, chunk, efr, none, none⟩

/-- R484, R488: the slot (0 or 1) that is not the chunk's newer one. -/
def SlotStamp.older (e : SlotStamp) (c : Nat) : Nat :=
  match e.first, e.second with
  | none, _ => 0
  | some _, none => 1
  | some a, some b => if (c + 2 ^ 32 - a) % 2 ^ 32 ≤ (c + 2 ^ 32 - b) % 2 ^ 32 then 1 else 0

/-- R483: offset of a slot from DEST. -/
def slotOffset (x : XchTable) (node : Nat) (t : XchTensor) (e : List Nat) (chunk slot : Nat) (efr : Bool) : Nat :=
  let (lo, hi) := x.owned t node
  if efr then (if bit (nth e 0) 29 then (hi - lo) * 2 * 20672 else 0) + (2 * chunk + slot) * 8256
  else (2 * (chunk - lo) + slot) * 20672

/-- R484: the parts of a slot by offset: its contents first, the header last. -/
def Dev.slotParts (d : Dev) (x : XchTable) (t : XchTensor) (chunk stamp : Nat) (efr : Bool) : List (Nat × List Nat) :=
  let n := t.chunkLen chunk
  let k := 4096 * (chunk - (x.owned t d.nodeId).1)
  let uses := decide (t.rule = 2 ∨ t.rule = 3)
  let body :=
    if efr then [(64, d.bytes (devCell (t.efUse + 2 * (4096 * chunk))) (2 * n))]
    else (64, d.bytes (devCell (t.master + 4 * k)) (4 * n)) :: (if uses then
      [(64 + 16384, d.bytes (devCell (t.mom + k)) n), (64 + 16384 + 4096, d.bytes (devCell (t.momPlane + k / 32)) ((n + 31) / 32))]
      else [])
  let fields := [t.tensorId, chunk, b2n efr, stamp] ++ body.flatMap (·.2)
  body ++ [(0, (List.range 64).map (fun i => (Config.snapHeader fields i).toNat))]

/-- R484: the snapshot engine makes its next copy. -/
def Dev.snapshotCopy (d : Dev) : Dev :=
  match d.snapshots with
  | [] => d
  | (key, i, c, efr) :: rest =>
    let d0 := { d with snapshots := rest }
    match Tbl.find d.programs key with
    | none => d0
    | some p =>
      match p.xch, p.policy with
      | some x, some pol =>
        (match x.tensors[i]? with
        | none => d0
        | some t =>
          match pol.entries.find? (fun e => bits (nth e 0) 63 32 == t.tensorId) with
          | none => d0
          | some e =>
            let stamp := d.stampNow
            let st := d.slotStamp t.tensorId c efr
            let slot := st.older stamp
            let base := bits (nth e 1) 47 0 + slotOffset x d.nodeId t e c slot efr
            let d1 := (d.slotParts x t c stamp efr).foldl (fun (d : Dev) (o, bs) =>
              (d.sendOut (key / 4) (bits (nth e 1) 63 61) (bits (nth e 2) 11 0) (base + o) bs .snapshot).2.2) d0
            let st1 := if slot = 0 then { st with first := some stamp } else { st with second := some stamp }
            { d1 with slotStamps := d1.slotStamps.filter (fun y =>
                !(y.tensor == t.tensorId && y.chunk == c && y.efr == efr)) ++ [st1] })
      | _, _ => d0

/-! ### FAULT_INFO (R500) -/

/-- R500: FAULT_INFO. -/
def Dev.faultInfo (d : Dev) (c s : Nat) : Reply × Dev :=
  if !d.argsClean c s [] then (.st .badArg, d)
  else (.done .ok ([d.word FLT_STATUS 0, d.word FLT_LAST 0, d.word FLT_LAST_TIME_LO 0, d.word FLT_LAST_TIME_HI 0, d.word FLT_CE_CNT 0,
    d.word FLT_BLOCK_CNT 0, d.word FLT_INT_LAST 0] ++ (List.range 4).map (fun k => d.word FLT_ISO 0 k)
    ++ [d.word FLT_ISO_X 0, d.word FLT_MIRROR_STEP 0]), d)

end Sys2Proof.Machine
end

