-- ==== Sys2Proof/Machine/Power.lean ====
section
/-! DEFINITION. Power and thermal levels, island frequencies, adaptive voltage, the reference clock (18). -/
namespace Sys2Proof.Machine

/-- SOURCE of the power controller, unit code 0x10. -/
def srcPower : Nat := srcUnit 0x10

/-! ### Frequencies and core voltage (R621, R626, R630) -/

/-- R626: the rail of a Bushel takes the voltage its trim table gives for the highest frequency among its Pecks. -/
def Dev.setVcore (d : Dev) (b : Nat) : Dev :=
  let f := (List.range 8).foldl (fun m k => max m (d.curFreq (8 * b + k))) 0
  if f = 0 then d
  else d.wr PWR_VCORE_SET b 0 0 (max 650 (min 850 (Config.vcoreFor (stackOfBushel b) f)))

/-- R630: a write to FREQ_REQ. -/
def Dev.writeFreq (d : Dev) (p v : Nat) : Dev :=
  if 20 ≤ v ∧ v ≤ 88 then (d.wr CLK_ISL_CFG_FREQ_REQ p 0 0 v).setVcore (bushelOfPeck p)
  else d.wr CLK_ISL_STATUS_BAD_REQ p 0 0 1

/-- R626: one step of 5 mV, up or down, within 0.65 V to 0.85 V, with the voltage measured at the sense point in mV. -/
def Dev.avsStep (d : Dev) (b : Nat) (up : Bool) (meas : Nat) : Dev :=
  if bit d.railsOn b then
    let v := d.rd PWR_VCORE_SET b
    let v1 := if up then min 850 (v + 5) else max 650 (v - 5)
    (d.wr PWR_VCORE_SET b 0 0 v1).wr PWR_VCORE_MEAS b 0 0 meas
  else d

/-! ### The module power level (R622 to R625) -/

/-- R621, R626: rails of all Bushels follow a change of level. -/
def Dev.allVcore (d : Dev) : Dev := (List.range 16).foldl (fun (d : Dev) b => d.setVcore b) d

/-- The module power level takes a new value, and POWER_LEVEL is raised. -/
def Dev.setPowerLevel (d : Dev) (l : Nat) : Dev :=
  if l = d.rd PWR_LEVEL_POWER 0 then d
  else ({ d.wr PWR_LEVEL_POWER 0 0 0 l with levelAt := d.time }.allVcore).hostEvent srcPower 0x0606 .ok none
    (l :: leBytes 2 (d.rd PWR_INPUT_P_POWER 0))

/-- R622: an evaluation: the mean of the last 1 ms in 0.1 W, and the input voltage and current in 10 mV and 10 mA. -/
def Dev.powerEvaluation (d : Dev) (mean volt curr : Nat) : Dev :=
  if d.life = .off then d
  else
    let d1 := ((d.wr PWR_INPUT_P_POWER 0 0 0 mean).wr PWR_INPUT_VOLT 0 0 0 volt).wr PWR_INPUT_CURR 0 0 0 curr
    let l := d.rd PWR_LEVEL_POWER 0
    let limit := d.rd PWR_LIMIT_LIMIT 0
    if d.time < d.levelAt + 1000000 then d1
    else if 10 * limit < mean then d1.setPowerLevel (min 11 (l + 1))
    else if mean < 9 * limit then d1.setPowerLevel (l - 1)
    else d1

/-- R624: input power has exceeded 1,800 W for 50 µs; the wait of R622 restarts. -/
def Dev.peakPower (d : Dev) : Dev :=
  if d.life = .off then d
  else { d.setPowerLevel (min 11 (d.rd PWR_LEVEL_POWER 0 + 4)) with levelAt := d.time }

/-- R625: POWER_LIMIT. -/
def Dev.powerLimit (d : Dev) (c s : Nat) : Reply × Dev :=
  let n := bits (d.cmd c s 1) 15 0
  let now := d.rd PWR_LIMIT_LIMIT 0 + d.rd PWR_LEVEL_POWER 0 * 2 ^ 16
  if !d.argsClean c s [0xFFFF] then (.done .badArg [now], d)
  else if n = 0 then (.done .okZeroWork [now], d)
  else if n < 600 ∨ 1500 < n then (.done .badArg [now], d)
  else (.done .ok [n + d.rd PWR_LEVEL_POWER 0 * 2 ^ 16], d.wr PWR_LIMIT_LIMIT 0 0 0 n)

/-! ### Temperature (R631 to R633) -/

/-- A group reading in 0.1 °C: NOW and PEAK. -/
def Dev.reading (d : Dev) (b : Nat) (t : Int) : Dev :=
  let d1 := d.wr PWR_TEMP_NOW b 0 0 (unsigned 16 t)
  if signed 16 (d.rd PWR_TEMP_PEAK b) < t then d1.wr PWR_TEMP_PEAK b 0 0 (unsigned 16 t) else d1

/-- A level after a reading that has held for its time: at or above `hi` it rises, below `lo` it falls. -/
def heldLevel (l : Nat) (t hi lo : Int) : Nat := if hi ≤ t then min 11 (l + 1) else if t < lo then l - 1 else l

/-- R632: a Bushel's reading; `held` = it has stayed at or above 105.0 °C for 1 ms, or below 102.0 °C for 10 ms. -/
def Dev.thermalThrottle (d : Dev) (b : Nat) (t : Int) (held : Bool) : Dev :=
  if d.life = .off then d
  else
    let d1 := d.reading b t
    let l := d.rd PWR_THERM_LEVEL_LEVEL b
    let l1 := if held then heldLevel l t 1050 1020 else l
    if l1 = l then d1
    else ((d1.wr PWR_THERM_LEVEL_LEVEL b 0 0 l1).setVcore b).hostEvent srcPower 0x0604 .ok none ([b, l1] ++ leBytes 2 (unsigned 16 t))

/-- R633: the highest reading of the HBM stacks; `held` = it has stayed at or above 95 °C for 1 ms, or below 92 °C for 10 ms. -/
def Dev.hbmLevel (d : Dev) (t : Int) (held : Bool) : Dev :=
  if d.life = .off then d
  else
    let l := d.rd PWR_LEVEL_HBM 0
    let l1 := if held then heldLevel l t 950 920 else l
    if l1 = l then d
    else ((d.wr PWR_LEVEL_HBM 0 0 0 l1).allVcore).hostEvent srcPower 0x0604 .ok none ([0x10, l1] ++ leBytes 2 (unsigned 16 t))

/-! ### The reference clock (R628) -/

/-- R628: the monitor's measurement of the external reference, in ppm (−32,768 = no edges): within 500 ppm it is good; otherwise the
module switches to the internal oscillator. -/
def Dev.refclkMeasured (d : Dev) (ppm : Int) : Dev :=
  if d.life = .off then d
  else
    let good := decide (ppm.natAbs ≤ 500)
    let d1 := (d.wr CLK_REF_STATUS_PPM 0 0 0 (unsigned 16 ppm)).wr CLK_REF_STATUS_EXT_OK 0 0 0 (b2n good)
    if good || d.on CLK_REF_STATUS_INTERNAL 0 then d1
    else ((d1.wr CLK_REF_STATUS_INTERNAL 0 0 0 1).wr CLK_REF_STATUS_LOST 0 0 0 1).hostEvent (srcUnit 0x11) 0x0603 .ok none [1]

/-- R628: a write of 1 to CLK_REF_CTRL.RESTORE. -/
def Dev.refclkRestore (d : Dev) : Dev :=
  if d.on CLK_REF_STATUS_EXT_OK 0 && d.on CLK_REF_STATUS_INTERNAL 0 then
    (d.wr CLK_REF_STATUS_INTERNAL 0 0 0 0).hostEvent (srcUnit 0x11) 0x0603 .ok none [2]
  else d

/-! ### Sense and phases (R611, R612) -/

/-- R611: a rail's sense pair is open: it regulates locally with its set point raised by 25 mV until the next start. -/
def Dev.senseLost (d : Dev) (c : Nat) : Dev :=
  if bit d.railsOn c ∧ c ≤ 0x1C ∧ bit (d.word PWR_SENSE_STATUS 0) c = false then
    let d1 := d.setWord PWR_SENSE_STATUS 0 0 0 (d.word PWR_SENSE_STATUS 0 + 2 ^ c)
    let d2 := if c < 16 then d1.wr PWR_VCORE_SET c 0 0 (d1.rd PWR_VCORE_SET c + 25) else d1
    d2.hostEvent srcPower 0x0601 .ok none [c]
  else d

/-- R612: an open phase of a rail is shed. -/
def Dev.phaseShed (d : Dev) (c phase : Nat) : Dev :=
  if bit d.railsOn c ∧ c ≤ 0x1C then
    let w := d.word PWR_PHASE_SHED 0
    (d.setWord PWR_PHASE_SHED 0 0 0 (if bit w c then w else w + 2 ^ c)).hostEvent srcPower 0x0602 .ok none [c, phase]
  else d

end Sys2Proof.Machine
end

