-- ==== Sys2Proof/Machine/Reset.lean ====
section
/-! DEFINITION. Resets of the whole module and of a context, entry to Off, device-lost faults, the start and RUN acknowledgement
(19, R477). A Block reset stands in BlockReset. -/
namespace Sys2Proof.Machine

/-! ### What a reset or Off leaves of the registers (R12, R668) -/

/-- Number of units a register stands in. -/
def Reg.units (r : Reg) : Nat :=
  match r.scope with
  | .grain => 1024
  | .peck => 128
  | .bushel => 16
  | .die => 4
  | .fn => 16
  | .xdie => if FUR_PORT_STATUS.base ≤ r.base ∧ r.base < FUR_NODE.base then 8 else 1

/-- The unit and instance at which a register stands at an address of its level, if it stands there. -/
def Reg.at (r : Reg) (lvl x : Nat) : Option (Nat × Nat × Nat) :=
  if r.scope.lvl ≠ lvl ∨ x < r.base then none
  else
    let y := x - r.base
    let u := y / 2 ^ r.scope.shift
    let o := y % 2 ^ r.scope.shift
    let n := if r.n1 ≤ 1 then 0 else o / r.s1
    let k := if r.n2 ≤ 1 then 0 else (o - n * r.s1) / r.s2
    if u < r.units ∧ n < r.n1 ∧ k < r.n2 ∧ n * r.s1 + k * r.s2 = o then some (u, n, k) else none

/-- The register at an address of a level, with its unit and instance. -/
def regAt (lvl x : Nat) : Option (Reg × Nat × Nat × Nat) :=
  regTable.findSome? (fun r => (r.at lvl x).map (fun i => (r, i)))

/-- The registers' words after a loss: a field that `keep` names stays, every other takes its reset value. -/
def keepRegs (regs : Tbl Nat) (keep : Reg → Nat → FieldDef → Bool) : Tbl Nat :=
  regs.filterMap (fun (key, w) =>
    match regAt (key / 2 ^ 40) (key % 2 ^ 40) with
    | none => some (key, w)
    | some (r, u, n, k) =>
      let r0 := r.resetAt n k
      let v := r.fields.foldl (fun v f => if keep r u f then setBits v f.hi f.lo (bits w f.hi f.lo) else v) r0
      if v = r0 then none else some (key, v))

/-- The register stands where `s` stands. -/
def Reg.is (r s : Reg) : Bool := r.base == s.base && decide (r.scope = s.scope)

/-- What takes the whole module back. -/
inductive Loss where
  | device | cold | off
  deriving DecidableEq, Repr

/-- R12: whether a Kept entry names the loss or a deeper one. -/
def Loss.keeps (l : Loss) (k : Kept) : Bool :=
  match l with
  | .device => decide (3 ≤ k.reset.depth)
  | .cold => decide (4 ≤ k.reset.depth)
  | .off => decide (4 ≤ k.power.depth)

/-- R242, R668: after a Cold reset and Off the metadata comes from flash. -/
def fromFlash (regs flash : Tbl Nat) : Tbl Nat :=
  flash.foldl (fun (t : Tbl Nat) (key, w) =>
    match regAt (key / 2 ^ 40) (key % 2 ^ 40) with
    | none => t
    | some (r, _, n, k) =>
      let r0 := r.resetAt n k
      Tbl.set r0 t key (r.fields.foldl (fun v f => if f.isMetadata r then setBits v f.hi f.lo (bits w f.hi f.lo) else v)
        (Tbl.get r0 t key))) regs

/-- The registers after a loss. -/
def Dev.lostRegs (d : Dev) (l : Loss) : Tbl Nat :=
  match l with
  | .device => keepRegs d.regs (fun _ _ f => l.keeps f.kept)
  | _ => fromFlash (keepRegs d.regs (fun r _ f => l.keeps f.kept && !f.isMetadata r)) d.flash

/-- What the loss leaves of an array's record: its conductances, the program record in device memory, the metadata. -/
def ArrayRec.after (r : ArrayRec) (l : Loss) (codes : Tbl Nat) : ArrayRec :=
  { cause := r.cause, verified := r.verified, target := r.target, targetCodes := r.targetCodes, recGen := r.recGen
    recOk := r.recOk, targetsKnown := r.targetsKnown, pendingRetire := r.pendingRetire
    baseCodes := if l = .device then r.baseCodes else codes
    lastStart := if l = .device then r.lastStart else 0
    lifeGrowth := if l = .device then r.lifeGrowth else 0 }

/-- The array records after a loss. -/
def Dev.lostArrays (d : Dev) (l : Loss) : Tbl ArrayRec :=
  (d.arrays.map (fun (a, r) => (a, r.after l (Tbl.get [] d.flashCodes a)))).filter (fun e => decide (e.2 ≠ {}))

/-- Cells of device memory. -/
def deviceCells (m : List Host.Cell) : List Host.Cell := m.filter (fun c => decide (c.1 < deviceMemory))

/-- R648, R668: what a Device reset leaves of a function: its configuration space. -/
def CtxRec.config (x : CtxRec) : CtxRec :=
  { msixTable := x.msixTable, unmasked := x.unmasked, functionMask := x.functionMask, busMaster := x.busMaster }

/-- R378: the generation of every mapped object advances. -/
def Dev.advancedGens (d : Dev) : Tbl Nat :=
  d.objects.foldl (fun (g : Tbl Nat) (k, _) => Tbl.set 0 g k ((Tbl.get 0 g k + 1) % 2 ^ 16)) d.gens

/-- R378: what every mapped VID named, kept to tell its stale handles. -/
def Dev.formerNames (d : Dev) : Tbl Nat :=
  d.objects.foldl (fun (t : Tbl Nat) (k, o) => Tbl.put t (o.owner * 4096 + o.vid) k) d.formerly

/-- The state every loss leaves: arrays, flash, fused and always-on items, and what the model itself keeps. -/
def Dev.lost (d : Dev) (l : Loss) : Dev :=
  { regs := d.lostRegs l, arrays := d.lostArrays l, freeCount := d.freeCount, time := d.time
    flash := d.flash, flashCodes := d.flashCodes, clean := d.clean, lastFlush := d.lastFlush, coldStart := d.coldStart
    minInterval := d.minInterval, lifeLimit := d.lifeLimit, monLast := d.monLast, extRefBad := d.extRefBad
    perst := d.perst, perstOff := d.perstOff, tripN := d.tripN
    active := d.active, other := d.other, otherValid := d.otherValid
    runningSlot := d.runningSlot, runningImage := d.runningImage
    startedAt := d.time, mpKicked := d.time, out := d.out }

/-- RST_CAUSE for a start of a kind from a source. -/
def Dev.startCause (d : Dev) (kind source : Nat) : Dev :=
  (((d.wr RST_CAUSE_KIND 0 0 0 kind).wr RST_CAUSE_SOURCE 0 0 0 source).wr RST_CAUSE_RECOVERY 0 0 0 0).wr RST_CAUSE_REC_WHY 0 0 0 0

/-- R697: debug unlock ends at a reset, which is logged in the state after it. -/
def Dev.lostUnlock (d after : Dev) : Dev :=
  if d.on SEC_STATUS_UNLOCKED 0 then after.hostEvent srcSecurity 0x0803 .ok none [2] else after

/-- R646: every port in UP sends a LINK flit with DOWN. -/
def Dev.quiescePorts (d : Dev) : Dev :=
  (List.range 8).foldl (fun (d : Dev) p => if d.portState p = pUp then d.sendLink p true else d) d

/-- R646, R668: a Device reset from a source. The event FIFOs are cleared, with the events that waited for a RUN
acknowledgement; the registers that show the link stay with it. -/
def Dev.deviceReset (d : Dev) (source : Nat) : Dev :=
  let keepCfg := decide (source ≠ 0x03) && decide (source ≠ 0x04)
  let d0 := d.quiescePorts
  let d1 : Dev := { d0.lost .device with
    mem := deviceCells d0.mem, gens := d0.advancedGens, formerly := d0.formerNames, log := d0.log
    ports := (List.range 8).map (fun p => (p, ({ since := d0.time } : PortRec)))
    ctxs := if keepCfg then (d0.ctxs.map (fun e => (e.1, e.2.config))).filter (fun e => decide (e.2 ≠ {})) else []
    vfEnable := keepCfg && d0.vfEnable, numVFs := if keepCfg then d0.numVFs else 0
    bar2Pf := if keepCfg then d0.bar2Pf else 5, bar2Vf := if keepCfg then d0.bar2Vf else 2
    ideInsecure := if keepCfg then d0.ideInsecure else []
    railsOn := d0.railsOn, life := .starting }
  let d2 := if keepCfg then d1.setWord PCI_LINK_STATUS 0 0 0 (d0.word PCI_LINK_STATUS 0) else d1
  -- FLT_STATUS.LOST: whether this start follows a device-lost fault
  let d3 := if source = 0x07 then d2 else d2.wr FLT_STATUS_LOST 0 0 0 0
  d0.lostUnlock (d3.startCause 1 source)

/-- R640, R668: a Cold reset from a source: device time returns to 0. -/
def Dev.coldReset (d : Dev) (source : Nat) : Dev :=
  let d1 : Dev := { d.lost .cold with time := 0, startedAt := 0, mpKicked := 0, coldStart := 0, lastFlush := 0, life := .starting }
  d.lostUnlock (d1.startCause 0 source)

/-- R640, R665, R668: the module enters Off; the rails stop, and what the always-on SRAM held is lost, the OFF_ENTRY entry too.
TRIP_N is pulled low unless POWER_DOWN asked for it (R707). -/
def Dev.enterOff (d : Dev) (cause : Nat) : Dev :=
  let d1 := (d.quiescePorts.logEntry (srcUnit 0x12) (.fixed 0x0707) .ok false (Config.logContext 0x0707).val [cause]).lost .off
  { d1 with life := .off, offAt := d.time, perstOff := d.perst, railsOn := 0, tripN := decide (cause ≠ 1) }.wr RST_OFF_CAUSE_CAUSE 0 0 0 cause

/-- R666: a start from Off. -/
def Dev.startFromOff (d : Dev) (source : Nat) : Dev :=
  { d with life := .starting, startedAt := d.time, coldStart := d.time, perstOff := false }.startCause 2 source

/-- RST_OFF_CAUSE for a device-lost fault whose source leads to Off: 3 thermal trip, 4 supply fault (R641). -/
def offCauseOf (trip : Bool) : Nat := if trip then 3 else 4

/-- R477: a device-lost fault: every run ends without a barrier signal, DEVICE_LOST is raised, and a Device reset follows. -/
def Dev.raiseLost (d : Dev) (source unit code : Nat) : Dev :=
  let d1 := (((d.wr FLT_LAST_CLASS 0 0 0 2).wr FLT_LAST_SOURCE 0 0 0 source).wr FLT_LAST_UNIT 0 0 0 unit).wr FLT_LAST_CODE 0 0 0 code
  let d2 := ((d1.wr FLT_STATUS_LOST 0 0 0 1).setWord FLT_LAST_TIME_LO 0 0 0 d.time).setWord FLT_LAST_TIME_HI 0 0 0 (d.time / 2 ^ 32)
  d2.hostEvent (srcUnit 0x13) 0x0301 .internal none [source]

def Dev.deviceLost (d : Dev) (source unit code : Nat) : Dev := (d.raiseLost source unit code).deviceReset 0x07

/-! ### Context reset (R645, R514, R381) -/

/-- R514: the mailbox of a context is cleared. -/
def Dev.clearMailbox (d : Dev) (c : Nat) : Dev :=
  { d with regs := keepRegs d.regs (fun r u f => decide (r.scope ≠ .fn) || decide (u ≠ c) || decide (2 ≤ f.kept.reset.depth))
           ctxs := Tbl.modify {} d.ctxs c CtxRec.config
           outstanding := d.outstanding.map (fun e => match e.2.purpose with
             | .hostSignal x _ => if x = c then (e.1, { e.2 with purpose := .forgotten }) else e
             | .mailboxWait x _ => if x = c then (e.1, { e.2 with purpose := .forgotten }) else e
             | .probe x _ => if x = c then (e.1, { e.2 with purpose := .forgotten }) else e
             | .command x _ => if x = c then (e.1, { e.2 with purpose := .forgotten }) else e
             | _ => e)
           restore := match d.restore with
             | some r => if r.ctx = c then none else some r
             | none => none }

/-- R645: what a Context reset of a context does. Its runs end first; their slots are among those R514 discards. -/
def Dev.contextReset (d : Dev) (c source : Nat) : Dev :=
  if d.life ≠ .run then d
  else
    let windowSet := decide (d.rd PCI_WIN_BASE_LO_BASE 0 c ≠ 0 ∨ d.rd PCI_WIN_BASE_HI_BASE 0 c ≠ 0)
    let d1 := ((d.clearMailbox c).abortRuns (fun r => r.ctx == c)).freeObjects (· == c)
    let d2 := (d1.withdraw (fun w => match w.who with
      | .mailbox x _ => x == c
      | _ => false))
    let d3 := { d2 with programs := d2.programs.filter (fun e => e.1 / 4 != c)
                        winPending := Tbl.del d2.winPending c }
    let d4 := (d3.setWord PCI_WIN_BASE_LO 0 c 0 0).setWord PCI_WIN_BASE_HI 0 c 0 0
    let d5 := if windowSet then d4.diag (srcUnit 0x00) .windowReset .ok [c] else d4
    (d5.count RST_CTX_CNT_COUNT 0 0).hostEvent (srcCtx c) 0x0703 .ok (some c) [c, source]

/-- R550: the configuration space of a function is reset. -/
def Dev.configReset (d : Dev) (c : Nat) : Dev := d.modCtx c (fun x => { x with
  msixTable := [], unmasked := [], functionMask := false, busMaster := false })

/-- R671: RESET_CONTEXT. Its own slot is not discarded: it becomes DONE with OK. -/
def Dev.resetContext (d : Dev) (c s : Nat) : Reply × Dev :=
  if !d.argsClean c s [] then (.st .badArg, d)
  else
    let ws := (List.range 16).map (fun k => d.cmd c s k)
    let d1 := d.contextReset c 0x11
    let d2 := (ws.zipIdx).foldl (fun (d : Dev) (w, k) => d.wr MBX_CMD_WORD c s k w) d1
    (.st .ok, d2.setSlot c s slotRunning)

/-! ### RESET_DEVICE (R670) -/

/-- R670: RESET_DEVICE: the reset begins 1 ms after the response. -/
def Dev.resetDevice (d : Dev) (c s : Nat) : Reply × Dev :=
  if !d.argsClean c s [3] then (.st .badArg, d)
  else
    let cold := bit (d.cmd c s 1) 0
    let d1 := if bit (d.cmd c s 1) 1 then d.wr RST_START_START_CNT 0 0 0 0 else d
    (.st .ok, d1.resetIn cold (if cold then 0x02 else 0x05) 1000000)

/-- R640, R646: a Device reset from a source; RESET_DEVICE and FW_ACTIVATE name the moment of theirs, and RESET_DEVICE may ask for
a Cold reset. -/
def Dev.resetFrom (d : Dev) (source : Nat) : Dev :=
  if d.life = .off then d
  else if source = 0x02 ∨ source = 0x05 then
    match d.pendingReset with
    | some p => if p.source = source ∧ p.due ≤ d.time then (if p.cold then d.coldReset source else d.deviceReset source) else d
    | none => d
  else if source = 0x03 then { d.deviceReset 0x03 with perst := true }
  else if 0x04 ≤ source ∧ source ≤ 0x08 then d.deviceReset source
  else d

/-! ### The start (R646 to R659) -/

/-- SOURCE of reset and start-up entries: the RST_ block, unit code 0x12. -/
def srcReset : Nat := srcUnit 0x12

/-- All 32 rails, and those of minimal recovery mode: without VCORE, VANA08, VANA18, VPRG and HBM (R657). -/
def allRails : Nat := 2 ^ 32 - 1
def recoveryRails : Nat := 0xE3000000

/-- R649: the copy a trim set loads from: 1 A, 2 B, 3 both failed. -/
def Fuses.copyOf (f : Fuses) (set : Nat) : Nat :=
  if !f.badCopyA.contains set then 1 else if !f.badCopyB.contains set then 2 else 3

/-- R649, R652: the trim sets are loaded, X-die set first. -/
def Dev.loadTrims (d : Dev) (f : Fuses) : Dev :=
  [4, 0, 1, 2, 3].foldl (fun (d : Dev) s =>
    let k := f.copyOf s
    let w := d.rd RST_TRIM_STATUS_COPY 0
    let d1 := d.wr RST_TRIM_STATUS_COPY 0 0 0 (setBits w (2 * s + 1) (2 * s) k)
    let d2 := if k = 3 then d1.wr RST_TRIM_STATUS_RESULT 0 0 0 Status.trimInvalid.code else d1
    let d3 := if s < 4 then (((d2.wr RST_STACK_STATUS_COPY s 0 0 k).wr RST_STACK_STATUS_TRIM_VALID s 0 0 (b2n (k != 3))).wr
      RST_STACK_STATUS_HELD s 0 0 (b2n (k == 3))) else d2
    if k = 1 then d3 else d3.hostEvent srcReset 0x0702 (if k = 3 then .trimInvalid else .ok) none [s, k])
    (d.setWord RST_TRIM_STATUS 0 0 0 0)

/-- R85: the bond test of every compute stack that is not held. -/
def Dev.bondTests (d : Dev) (failed : List Nat) : Dev :=
  (List.range 4).foldl (fun (d : Dev) s =>
    if d.on RST_STACK_STATUS_HELD s then d
    else
      let n := nth failed s
      let d1 := ((d.wr FLT_BOND_STATUS_DONE s 0 0 1).wr FLT_BOND_STATUS_PASS s 0 0 (b2n (n == 0))).wr FLT_BOND_STATUS_FAILED s 0 0
        (min n 0xFFFF)
      if n = 0 then d1 else d1.wr RST_STACK_STATUS_HELD s 0 0 1) d

/-- R646 to R652: trims and bond tests, with TRIM_VALID; the causes among them for a recovery start (R656: trims 2, bond test 4). -/
def Dev.early (d : Dev) (f : Fuses) (failed : List Nat) : Nat × Dev :=
  let d1 := (d.loadTrims f).bondTests failed
  let bad := (List.range 5).any (fun s => f.copyOf s == 3)
  let bond := (List.range 4).any (fun s => d1.on FLT_BOND_STATUS_DONE s && !d1.on FLT_BOND_STATUS_PASS s)
  (2 * b2n bad + 4 * b2n bond, d1.wr RST_START_TRIM_VALID 0 0 0 (b2n (!bad && !bond)))

/-- R683: the image the boot ROM runs: ACTIVE, else OTHER with IMAGE_FALLBACK; none where neither verifies. -/
def Dev.bootImage (d : Dev) (f : Fuses) : Bool × Dev :=
  let st := d.active.verify f
  if st = .ok then (true, { d with runningSlot := 0, runningImage := d.active })
  else if d.other.verify f = .ok then
    (true, { d with runningSlot := 1, runningImage := d.other }.hostEvent srcSecurity 0x0800 st none [st.code])
  else (false, d)

/-- R246: LIFE_COUNT and GEN after metadata that power loss took. -/
def Dev.addLost (d : Dev) : Dev :=
  ((List.range 16384).foldl (fun (d : Dev) a =>
    if d.arrState a = RETIRED then d
    else
      (d.setMeta PRG_LIFE_CNT_COUNT a (min (d.lifeCount a + 60) (2 ^ 24 - 1))).setMeta ARR_PROG_GEN_GEN a
        (d.rd ARR_PROG_GEN_GEN (grainOf a) (slotOf a) + 64)) d).diag srcModule .lifeAdded .ok []

/-- R137, R221: the checksum correction table is computed from the verified levels, and CHK_READY with it. -/
def Dev.makeTable (d : Dev) (a : Nat) : Dev :=
  match correctionTable (d.arr a).verified (d.rd ARR_CHK_CFG_DIV_LOG2 (grainOf a) (slotOf a)) with
  | none => d
  | some t => (d.modArr a (fun x => { x with chkTable := t })).wr ARR_CHK_STATUS_CHK_READY (grainOf a) (slotOf a) 0 1

/-- R138: a checksum correction table is rebuilt, and the rebuild logged. -/
def Dev.rebuildTable (d : Dev) (a : Nat) : Dev :=
  let d1 := d.makeTable a
  if d1.on ARR_CHK_STATUS_CHK_READY (grainOf a) (slotOf a) then d1.diag (srcArray a) .chkTableRebuilt .ok [a] else d1

/-- R245: an array is read back: its verified levels are measured, its targets unknown, its table rebuilt. -/
def Dev.readBack (d : Dev) (a : Nat) (levels : Option (List (Nat × Nat))) : Dev :=
  let d1 := d.modArr a (fun r => { r with
    verified := match levels with
      | none => r.verified
      | some l => l.foldl (fun (m : Tbl Nat) e => Tbl.set 0 m e.1 e.2) []
    targetsKnown := false, recOk := true, recGen := d.rd ARR_PROG_GEN_GEN (grainOf a) (slotOf a) })
  d1.rebuildTable a

/-- R245: the program record of every array that has one and is not RETIRED is checked. -/
def Dev.checkRecords (d : Dev) (rep : StartReport) (lost : Bool) : Dev :=
  (d.arrays.map (·.1)).foldl (fun (d : Dev) a =>
    let r := d.arr a
    if d.arrState a = RETIRED ∨ d.unbound a = true then d
    else if lost || rep.failing.contains a || !r.recOk || r.recGen != d.rd ARR_PROG_GEN_GEN (grainOf a) (slotOf a) then
      d.readBack a ((rep.levels.find? (fun e => e.1 == a)).map (·.2))
    else d) d

/-- R546, R547: the PCIe link has completed training: rate code 1 to 6, width, mode. -/
def Dev.linkTrained (d : Dev) (rate width : Nat) (flit : Bool) : Dev :=
  let d1 := ((d.wr PCI_LINK_STATUS_RATE 0 0 0 rate).wr PCI_LINK_STATUS_WIDTH 0 0 0 width).wr PCI_LINK_STATUS_FLIT 0 0 0 (b2n flit)
  if rate = 6 ∧ width = 16 then d1 else d1.hostEvent (srcUnit 0x00) 0x0400 .ok none []

/-- R675: the START event, and RST_CAUSE of a recovery start. -/
def Dev.logStart (d : Dev) (why : Nat) : Dev :=
  let d1 := (d.wr RST_CAUSE_RECOVERY 0 0 0 (b2n (why != 0))).wr RST_CAUSE_REC_WHY 0 0 0 why
  d1.hostEvent srcReset 0x0700 .ok none
    [d1.rd RST_CAUSE_KIND 0, d1.rd RST_CAUSE_SOURCE 0, d1.rd RST_START_START_CNT 0, b2n (why != 0), why]

/-- R657: the start ends in minimal recovery mode. -/
def Dev.recoveryStart (d : Dev) (why : Nat) : Dev :=
  ({ d with life := .recovery, railsOn := recoveryRails, mem := [] }.wr PWR_RAIL_STATUS_GOOD 0 0 0 recoveryRails).logStart why

/-- R646: the phases after the boot of an image: array states, release, monitors, branch self-tests, program records. -/
def Dev.bringUp (d : Dev) (rep : StartReport) (kind : Nat) : Dev :=
  let d1 := { d with mem := if kind = 1 && rep.hbmKept then d.mem else [] }
  let d2 := if decide (kind ≠ 1) && !d1.clean then d1.addLost else d1
  let d3 := (d2.arrays.map (·.1)).foldl (fun (d : Dev) a => d.loseTarget a) d2
  let d4 := (List.range 16).foldl (fun (d : Dev) b => (d.reloadScan b true).branchSelfTest b (nth rep.selfTests b)) d3
  -- the islands' clocks start: IDLE_DELAY counts from here (R661)
  let d4 := (List.range 128).foldl (fun (d : Dev) p => d.stir p) d4
  { d4.checkRecords rep (decide (kind ≠ 1) || !rep.hbmKept) with startDone := true }.allVcore

/-- R666: a start from Off may not begin before the wait after a trip (10 s) or a supply fault (1 s) has passed. -/
def Dev.offWaitOver (d : Dev) : Bool :=
  let c := d.rd RST_OFF_CAUSE_CAUSE 0
  decide (d.offAt + (if c = 3 then 10000000000 else if c = 4 then 1000000000 else 0) ≤ d.time)

/-- R666: the start that waits in Off begins once the wait is over. -/
def Dev.beginDue (d : Dev) : Dev :=
  if d.life = .off ∧ d.startDue = true ∧ d.offWaitOver = true then { d with startDue := false }.startFromOff 0x32 else d

/-- R646 to R656: the start runs its phases, up to RUN acknowledgement or into minimal recovery mode. -/
def Dev.runStart_ (d : Dev) (f : Fuses) (rep : StartReport) : Dev :=
  if d.life = .starting ∧ d.startDone = false ∧ d.perst = false then
    let kind := d.rd RST_CAUSE_KIND 0
    let d1 := if kind = 1 then d else d.writeEpoch
    let d2 := ({ d1 with railsOn := allRails, mpKicked := d.time, tripN := d1.tripN && kind == 1 }.wr PWR_RAIL_STATUS_GOOD 0 0 0 allRails).countWrap RST_START_TOTAL_COUNT 0 0
    let (why, d3) := (d2.wr RST_START_RUN_ACK 0 0 0 0).early f rep.bondFailed
    let d4 := (d3.linkTrained rep.rate rep.width rep.flit)
    let why1 := why + b2n (decide (3 ≤ d.rd RST_START_START_CNT 0))
    if why1 ≠ 0 then d4.recoveryStart why1
    else
      match d4.bootImage f with
      | (false, d5) => d5.recoveryStart 8
      | (true, d5) =>
        let d6 := (d5.wr RST_START_START_CNT 0 0 0 (min 7 (d5.rd RST_START_START_CNT 0 + 1))).wr SEC_STATUS_SLOT 0 0 0 d5.runningSlot
        (d6.measureStart.logStart 0).bringUp rep kind
  else d

/-- A start from Off that was due begins first. -/
def Dev.start (d : Dev) (f : Fuses) (rep : StartReport) : Dev := d.beginDue.runStart_ f rep

/-- R530, R675: the events of the start enter the FIFOs. -/
def Dev.deliverHeld (d : Dev) : Dev :=
  d.heldEvents.foldl (fun (d : Dev) e => d.deliverEvent e.1 e.2) { d with heldEvents := [] }

/-- The start has run its phases and waits for RUN acknowledgement. -/
def Dev.mayAck (d : Dev) : Bool := decide (d.life = .starting) && d.startDone && !d.mpDown

/-- R647, R684, R691: RUN acknowledgement; the fuses after it are given. -/
def Dev.runAck (d : Dev) (old new : Fuses) : Dev :=
  let d1 := ({ d with life := .run, mpKicked := d.time }.wr RST_START_RUN_ACK 0 0 0 1).wr RST_START_START_CNT 0 0 0 0
  let d2 := (d1.deliverHeld.logAdvance old new).extendSecurity new
  (d2.extend 4 (Config.measured 4 [])).hostEvent srcReset 0x0701 .ok none (leBytes 4 ((d.time - d.startedAt) / 1000))

/-! ### PERST#, hot reset, power (R640, R666, R709, R711) -/

/-- PERST# is asserted: a Device reset whose start waits, or, in Off, the first half of what starts the module. -/
def Dev.perstAssert (d : Dev) : Dev :=
  if d.life = .off then { d with perst := true, perstOff := true, startDue := false }
  else { d.deviceReset 0x03 with perst := true }

/-- PERST# is deasserted. In Off the module starts, except after an input fault; before the wait is over the start waits. -/
def Dev.perstDeassert (d : Dev) : Dev :=
  let d1 := { d with perst := false }
  if d.life = .off ∧ d.perstOff = true ∧ d.rd RST_OFF_CAUSE_CAUSE 0 ≠ 2 then { d1 with startDue := true }.beginDue
  else d1

/-- R640: PCIe hot reset, or Data Link Layer down. -/
def Dev.hotReset (d : Dev) : Dev := if d.life = .off then d else d.deviceReset 0x04

/-- R619, R666: the input has been above 40.0 V for 100 ms. -/
def Dev.inputRestored (d : Dev) : Dev :=
  if d.life = .off ∧ d.rd RST_OFF_CAUSE_CAUSE 0 = 2 then d.startFromOff 0x31 else d

/-- R640, R709: VAON rises from below its threshold. -/
def Dev.powerOn (d : Dev) : Dev := { d.coldReset 0x01 with perst := d.perst }

end Sys2Proof.Machine
end

