-- ==== Sys2Proof/Machine/Rebuild.lean ====
section
/-! DEFINITION. Reconstruction of owned chunks from snapshots and the journal (R487 to R489), and REC_RESTORE (R499). -/
namespace Sys2Proof.Machine

/-! ### Where a tensor stands -/

/-- The program, exchange table and entry of a tensor; programs are taken in order of context and handle. -/
def Dev.tensorPlace (d : Dev) (tensor : Nat) : Option (Nat × Program × XchTable × XchTensor) :=
  d.programs.findSome? (fun (key, p) => p.xch.bind (fun x =>
    (x.tensors.find? (fun t => t.tensorId == tensor)).map (fun t => (key, p, x, t))))

/-- The policy entry of a tensor of a program. -/
def Program.policyOf (p : Program) (tensor : Nat) : Option (List Nat) :=
  p.policy.bind (fun pol => pol.entries.find? (fun e => bits (nth e 0) 63 32 == tensor))

/-- METHOD of a policy entry. -/
def methodOf (e : List Nat) : Nat := bits (nth e 0) 31 30

/-- R489: a chunk under an entry can be reconstructed. -/
def recoverable (e : List Nat) (efr : Bool) : Bool :=
  bit (nth e 0) (if efr then 28 else 29) && (methodOf e == 1 || (methodOf e == 2 && bits (nth e 0) 15 0 != 0))

/-- R488: the newer slot of those with a valid CRC. -/
def newerSlot (c : Nat) (slots : List SnapSlot) : Option SnapSlot :=
  slots.foldl (fun acc s => match acc with
    | none => some s
    | some b => if (c + 2 ^ 32 - s.stamp) % 2 ^ 32 < (c + 2 ^ 32 - b.stamp) % 2 ^ 32 then some s else some b) none

/-! ### Rolling a chunk forward (R426, R487) -/

/-- Writes a chunk's masters, momentum and momentum plane, or its residual. -/
def Dev.putChunk (d : Dev) (x : XchTable) (t : XchTensor) (chunk : Nat) (efr : Bool) (s : SnapSlot) : Dev :=
  let k := 4096 * (chunk - (x.owned t d.nodeId).1)
  if efr then d.setBytes (devCell (t.efUse + 8192 * chunk)) s.efr
  else ((d.setBytes (devCell (t.master + 4 * k)) s.masters).setBytes (devCell (t.mom + k)) s.mom).setBytes
    (devCell (t.momPlane + k / 32)) s.plane

/-- Applies the sections of an entry that hold a chunk's votes: the step of each and what it adds to the sums of R461, as FP32 words. -/
def Dev.rollEntry (d : Dev) (x : XchTable) (t : XchTensor) (chunk : Nat) (b : List Nat) : List (Nat × Nat × Nat) × Dev :=
  let p0 := 4096 * chunk
  let n := t.chunkLen chunk
  let k := 4096 * (chunk - (x.owned t d.nodeId).1)
  (sectionsOf (b.drop 64) (entrySections b)).foldl (fun (acc : List (Nat × Nat × Nat) × Dev) (h, plane) =>
    let first := leAt h 8 5
    if leAt h 4 4 = t.tensorId ∧ first ≤ p0 ∧ p0 + n ≤ first + leAt h 16 5 then
      let vs := ((sectionVotes h plane).drop (p0 - first)).take n
      let (res, d1) := acc.2.applyUpdate (sectionRule (entryStep b) h) t.master t.mom t.momPlane p0 k vs
      (acc.1 ++ [(entryStep b, fp32Encode res.u2, fp32Encode res.w2)], d1)
    else acc) ([], d)

/-- R487: the entries of steps `s` to `c - 1` of a context, if each is there and its CRC holds. -/
def rollEntries (es : List (List Nat)) (ctx s c : Nat) : Option (List (List Nat)) :=
  match stepEntries (es.filter (fun b => entryCtx b == ctx)) s ((c + 2 ^ 32 - s) % 2 ^ 32) with
  | none => none
  | some l => if l.all entryCrcOk then some l else none

/-- R488: a chunk from a slot's contents and the journal, up to the committed step value; the sections applied, or none where an
entry is missing or broken. A residual is taken as the slot holds it. -/
def Dev.rollChunk (d : Dev) (key : Nat) (x : XchTable) (t : XchTensor) (chunk : Nat) (efr : Bool) (c : Nat) (s : SnapSlot)
    (es : List (List Nat)) : Option (List (Nat × Nat × Nat) × Dev) :=
  let d1 := d.putChunk x t chunk efr s
  if efr then some ([], d1)
  else (rollEntries es (key / 4) s.stamp c).map (fun l =>
    l.foldl (fun acc b => let (ss, d2) := acc.2.rollEntry x t chunk b; (acc.1 ++ ss, d2)) ([], d1))

/-- What METHOD 1 gives a chunk: its part of the newest mirror record. -/
def MirrorRecord.slotOf (m : MirrorRecord) (x : XchTable) (node : Nat) (t : XchTensor) (chunk : Nat) : Option SnapSlot :=
  (m.tensors.find? (fun e => e.tensor == t.tensorId)).map (fun e =>
    let n := t.chunkLen chunk
    let k := 4096 * (chunk - (x.owned t node).1)
    ⟨m.stamp, (e.masters.drop (4 * k)).take (4 * n), (e.mom.drop k).take n, (e.plane.drop (k / 32)).take ((n + 31) / 32),
      (e.efr.drop (8192 * chunk)).take (2 * n)⟩)

/-! ### Reconstruction on the owner (R438, R488, R489) -/

/-- The chunk's working copy is recomputed and sent again (R427, R438). -/
def Dev.republish (d : Dev) (key : Nat) (p : Program) (x : XchTable) (t : XchTensor) (chunk : Nat) : Dev :=
  d.sendAgain (key / 4) p.base ((d.stampNow + 2 ^ 32 - 1) % 2 ^ 32) x t chunk

/-- A chunk leaves the list of those that await reconstruction. -/
def Dev.rebuildDone (d : Dev) (tensor chunk : Nat) (efr : Bool) : Dev :=
  { d with rebuild := d.rebuild.filter (fun y => y ≠ (tensor, chunk, efr)) }

/-- R488, R489: one owned chunk of the list is reconstructed from its slots and the journal's entries in ring order. A tensor without
protection makes the fault device-lost with SOURCE 0x0F (R468, R489). DESIGN CHOICE (log entry 75): where no slot or journal entry can be used
the chunk stays due, and a chunk of a tensor that no loaded program names any more is dropped. -/
def Dev.rebuildOwned (d : Dev) (tensor chunk : Nat) (efr : Bool) (slots : List SnapSlot) (es : List (List Nat)) : Dev :=
  let fails := d.diag (srcUnit 0x04) .other .checkFailed [tensor, chunk]
  match d.tensorPlace tensor with
  | none => (d.rebuildDone tensor chunk efr).showUpdate
  | some (key, p, x, t) =>
    match p.policyOf tensor with
    | none => d.deviceLost 0x0F 0xFF 0
    | some e =>
      if !recoverable e efr then d.deviceLost 0x0F 0xFF 0
      else
        let slot := if methodOf e = 1 then d.homeCopy.bind (fun m => m.slotOf x d.nodeId t chunk) else newerSlot d.stampNow slots
        match slot with
        | none => fails
        | some s =>
          match d.rollChunk key x t chunk efr d.stampNow s es with
          | none => fails
          | some (sums, d1) =>
            let d2 := d1.rebuildDone tensor chunk efr
            if efr then (d2.diag (srcUnit 0x04) .efRestored .ok [tensor, chunk]).showUpdate
            else ((d2.republish key p x t chunk).chunkRecovered tensor chunk sums).showUpdate

/-! ### REC_RESTORE (R490 to R492, R499) -/

/-- The nodes of space 4 that a policy table names: the snapshots' and the journal's. -/
def RecPolicy.nodes (pol : RecPolicy) : List Nat :=
  let at_ := fun (w n : Nat) => if bits w 63 61 = 4 then [bits n 11 0] else []
  at_ (nth pol.header 1) (nth pol.header 2) ++ pol.entries.flatMap (fun e => if methodOf e = 2 then at_ (nth e 1) (nth e 2) else [])

/-- R499, check 5: the first status of a node that cannot be reached. -/
def Dev.restoreLinks (d : Dev) (c s : Nat) (p : Program) : Option Status :=
  let w1 := d.cmd c s 1
  let nodes := [(bits (d.cmd c s 2) 11 0, true)] ++ (if bit w1 10 then [(bits (d.cmd c s 3) 11 0, false)] else [])
    ++ (if bit w1 9 then (p.policy.map RecPolicy.nodes).getD [] else []).map (fun n => (n, false))
  nodes.findSome? (fun e => d.unreachable e.1 e.2)

/-- R499: REC_RESTORE: the checks, and the request to the buddy. -/
def Dev.recRestore (d : Dev) (c s : Nat) : Reply × Dev :=
  let w1 := d.cmd c s 1
  match Tbl.find d.programs (progKey c (bits w1 1 0)) with
  | none => (.st .badArg, d)
  | some p =>
    if p.xch.isNone || !d.argsClean c s [0xF03, 0xFFF, 0xFFF] then (.st .badArg, d)
    else if d.runs ≠ [] then (.st .busy, d)
    else if bits w1 11 8 = 0 then (.st .okZeroWork, d)
    else if bit w1 9 && p.policy.isNone then (.st .notPermitted, d)
    else
      match d.restoreLinks c s p with
      | some st => (.st st, d)
      | none =>
        let (st, d1) := d.originate { typ := tyMgmt, dst := bits (d.cmd c s 2) 11 0, src := 0, length := 64 } (.command c s)
        if st = .ok then (.wait (.work 2), { d1 with restore := some { ctx := c, slot := s } }) else (.st st, d)

/-- A REC_RESTORE that cannot go on. -/
def Dev.restoreFails (d : Dev) (st : Status) : Dev :=
  match d.restore with
  | none => d
  | some r => { d with restore := none }.finishWaiting r.ctx r.slot (.work 2) st

/-- R499: everything flagged is restored. -/
def Dev.restoreCheck (d : Dev) : Dev :=
  match d.restore with
  | some r =>
    if r.known = true ∧ r.todo = [] ∧ r.reads = 0 then
      { d with restore := none }.finishWaiting r.ctx r.slot (.work 2) .ok [r.committed, r.remaining, r.applied]
    else d
  | none => d

/-- R490: a mirrored object is created again, with its VID, generation, value and flags. -/
def Dev.remap (d : Dev) (o : MirrorObject) : Dev :=
  let key := o.ctx * 4096 + o.vid
  match o.remote with
  | some (n, c, v, g) => { d with vmap := Tbl.put d.vmap key (.remote n c v g) }
  | none =>
    let phys := match Tbl.find d.vmap key with
      | some (.object k) => some k
      | _ => d.freePhys
    match phys with
    | none => d
    | some k =>
      let obj : SyncObj := { owner := o.ctx, vid := o.vid, value := o.value, satHi := o.satHi, satLo := o.satLo
                             exported := o.exported, kind := match o.ready with
                               | some t => .ready t
                               | none => .ordinary }
      { (d.setObj k obj) with gens := Tbl.set 0 d.gens k o.gen, vmap := Tbl.put d.vmap key (.object k) }.showHub

/-- SCHEDULE: RNG state, scale entries, norm entries and objects of the context. With the lower stamp the RNG state is derived
under R475. -/
def Dev.restoreSchedule (d : Dev) (c key : Nat) (p : Program) (m : MirrorRecord) (behind : Bool) : Dev :=
  let rng := if behind then (List.range 128).foldl (fun (t : Tbl Nat) q =>
    Tbl.set 0 t q (Config.rngAdvance (Tbl.get 0 t q) m.stamp).toNat) m.rng else m.rng
  let d1 := (m.scales.filter (fun e => e.1 == key)).foldl (fun (d : Dev) (_, i, w) =>
    match d.scaleEntry p.base i with
    | some e => (d.setLe e.addr 4 (w / 2 ^ 32)).setLe (e.addr + 5) 1
        (setBits (d.byte (devCell (e.addr + 5))) 7 6 (w % 4))
    | none => d) { d with rng := rng }
  let d2 := match p.wch with
    | none => d1
    | some w => (m.norms.filter (fun e => e.1 == key)).foldl (fun (d : Dev) (_, i, v) => d.setLe (devCell (normAddr w.base i + 16)) 8 v) d1
  (m.objects.filter (fun o => o.ctx == c && !m.barriers.any (fun b => b.ctx == c && b.vid == o.vid))).foldl
    (fun (d : Dev) o => d.remap o) d2

/-- R491: a barrier is created again from its write-ahead record; the last outcome goes out again, and the attempt in progress is
refused with ISOLATED. -/
def Dev.restoreBarrier (d : Dev) (b : MirrorBarrier) : Dev :=
  let key := b.ctx * 4096 + b.vid
  let phys := match Tbl.find d.vmap key with
    | some (.object k) => some k
    | _ => d.freePhys
  match phys with
  | none => d
  | some k =>
    let bar : Barrier := ⟨b.committed, b.attempt, b.participants, b.arrived, b.worst, b.outcome, none⟩
    let d1 := d.setObj k { owner := b.ctx, vid := b.vid, kind := .barrier bar, exported := true }
    let d2 := { d1 with gens := Tbl.set 0 d1.gens k b.gen, vmap := Tbl.put d1.vmap key (.object k) }.showHub
    (d2.sendOutcome k).decideBarrier k .isolated

/-- MASTERS: tensors with METHOD 1 take the record's contents; the chunks that a journal or a snapshot still has to complete. -/
def Dev.restoreMasters (d : Dev) (p : Program) (x : XchTable) (m : MirrorRecord) (behind : Bool) : List (Nat × Nat × Bool) × Dev :=
  let node := d.nodeId
  match p.policy with
  | none => ([], d)
  | some pol =>
    pol.entries.foldl (fun (acc : List (Nat × Nat × Bool) × Dev) e =>
      match x.tensors.find? (fun t => t.tensorId == bits (nth e 0) 63 32) with
      | none => acc
      | some t =>
        let (lo, hi) := x.owned t node
        let owned := (List.range (hi - lo)).map (fun i => (t.tensorId, lo + i, false))
        let efrs := (List.range t.chunks).map (fun i => (t.tensorId, i, true))
        let m1 := decide (methodOf e = 1)
        let d1 := match m1, m.tensors.find? (fun y => y.tensor == t.tensorId) with
          | true, some y => (((acc.2.setBytes (devCell t.master) y.masters).setBytes (devCell t.mom) y.mom).setBytes
              (devCell t.momPlane) y.plane).setBytes (devCell t.efUse) y.efr
          | _, _ => acc.2
        let todo := if m1 then (if behind then owned else [])
          else if methodOf e = 2 then (if bit (nth e 0) 29 then owned else []) ++ (if bit (nth e 0) 28 then efrs else [])
          else []
        (acc.1 ++ todo, d1)) ([], d)

/-- Reads `n` bytes of another node's device memory at an address into the same place here. -/
def Dev.readCopy (d : Dev) (node addr n : Nat) (restore : Bool) : Nat × Status × Dev :=
  (pieces n).foldl (fun (acc : Nat × Status × Dev) (o, l) =>
    let (st, d1) := acc.2.2.originate { typ := tyMemRd, dst := node, src := 0, addr := addr + o, length := l } (.copyRead (addr + o) restore)
    if st = .ok then (acc.1 + 1, acc.2.1, d1) else (acc.1, st, d1)) (0, .ok, d)

/-- WCOPY: the working copies of the table's tensors are read from the replica named. -/
def Dev.restoreCopies (d : Dev) (p : Program) (x : XchTable) (node : Nat) : Nat × Status × Dev :=
  x.tensors.foldl (fun (acc : Nat × Status × Dev) t =>
    let f := acc.2.2.wcFormat p.base t
    let (n1, st1, d1) := acc.2.2.readCopy node t.wcopy ((t.p * f.bits + 7) / 8) true
    let (n2, st2, d2) := d1.readCopy node t.wcPlane ((t.p + 31) / 32) true
    (acc.1 + n1 + n2, if acc.2.1 ≠ .ok then acc.2.1 else if st1 ≠ .ok then st1 else st2, d2)) (0, .ok, d)

/-- R478, R499: steps of the mirrored run of a handle that remain at the committed step value. -/
def MirrorRecord.remaining (m : MirrorRecord) (c h : Nat) (behind : Bool) : Nat :=
  match m.runs.find? (fun r => r.ctx == c && r.handle == h) with
  | some r => r.steps - r.committed - b2n behind
  | none => 0

/-- The buddy's answer (R490 to R492, R499): the newest mirror record with a valid CRC, the barriers' write-ahead records, the
committed step value. -/
def Dev.restoreAnswer (d : Dev) (node : Nat) (rec : Option MirrorRecord) (barriers : List MirrorBarrier) (committed : Nat) : Dev :=
  match d.restore with
  | none => d
  | some r =>
    let w1 := d.cmd r.ctx r.slot 1
    let key := progKey r.ctx (bits w1 1 0)
    if r.known ∨ bits (d.cmd r.ctx r.slot 2) 11 0 ≠ node then d
    else
      match rec, Tbl.find d.programs key with
      | some m, some p =>
        let behind := decide ((m.stamp + 1) % 2 ^ 32 = committed)
        if m.stamp ≠ committed ∧ behind = false then d.restoreFails .checkFailed
        else
          let d1 := if bit w1 8 then d.restoreSchedule r.ctx key p m behind else d
          let d2 := if bit w1 11 then (barriers.filter (fun b => b.ctx == r.ctx)).foldl (fun (d : Dev) b => d.restoreBarrier b) d1 else d1
          let x := p.xch.getD ⟨0, [], [], [], [], []⟩
          let (todo, d3) := if bit w1 9 then d2.restoreMasters p x m behind else ([], d2)
          let (reads, st, d4) := if bit w1 10 then d3.restoreCopies p x (bits (d.cmd r.ctx r.slot 3) 11 0) else (0, .ok, d3)
          let d5 : Dev := { d4 with restore := some { r with
            known := true, committed := committed, remaining := m.remaining r.ctx (bits w1 1 0) behind, todo := todo, reads := reads
            stamp := m.stamp, tensors := m.tensors } }
          if st ≠ .ok then d5.restoreFails st else d5.restoreCheck
      | _, _ => d.restoreFails .checkFailed

/-- R487, R499: one chunk of a REC_RESTORE is rolled forward. -/
def Dev.restoreChunk (d : Dev) (r : Restore) (tensor chunk : Nat) (efr : Bool) (slots : List SnapSlot) (es : List (List Nat)) : Dev :=
  match d.tensorPlace tensor with
  | none => d.restoreFails .checkFailed
  | some (key, p, x, t) =>
    let mirrored := (p.policyOf tensor).any (fun e => methodOf e == 1)
    let m : MirrorRecord := ⟨r.stamp, 0, 0, [], [], [], [], [], [], r.tensors⟩
    match (if mirrored then m.slotOf x d.nodeId t chunk else newerSlot r.committed slots) with
    | none => d.restoreFails .checkFailed
    | some s =>
      match d.rollChunk key x t chunk efr r.committed s es with
      | none => d.restoreFails .checkFailed
      | some (n, d1) =>
        { d1 with restore := some { r with applied := r.applied + n.length, todo := r.todo.filter (fun y => y ≠ (tensor, chunk, efr)) } }.restoreCheck

/-- The command RECONSTRUCTION: the next step of firmware's reconstruction, of a chunk that awaits it. -/
def Dev.reconstruct (d : Dev) (tensor chunk : Nat) (efr : Bool) (slots : List SnapSlot) (es : List (List Nat)) : Dev :=
  if d.firmware = false then d
  else if d.rebuild.contains (tensor, chunk, efr) then d.rebuildOwned tensor chunk efr slots es
  else
    match d.restore with
    | some r => if r.todo.contains (tensor, chunk, efr) then d.restoreChunk r tensor chunk efr slots es else d
    | none => d

/-- A read of a working copy has ended: with its bytes, or with a status. -/
def Dev.copyReadDone (d : Dev) (addr : Nat) (restore : Bool) (st : Status) (data : List Nat) : Dev :=
  let d1 := if st = .ok then d.setBytes (devCell addr) data else d
  if restore then
    match d1.restore with
    | none => d1
    | some r =>
      if st ≠ .ok then d1.restoreFails st
      else
        let d2 : Dev := { d1 with restore := some { r with reads := r.reads - 1 } }
        if r.reads = 1 then
          -- every working copy of the table is present again
          let h := bits (d2.cmd r.ctx r.slot 1) 1 0
          let ts := (((Tbl.find d2.programs (progKey r.ctx h)).bind (·.xch)).map (·.tensors)).getD []
          (ts.foldl (fun (d : Dev) t => (Tbl.get [] d.wcMissing t.tensorId).foldl (fun (d : Dev) c => d.chunkPresent t.tensorId c) d)
            d2).restoreCheck
        else d2
  else d1

end Sys2Proof.Machine
end

