-- ==== Sys2Proof/Machine/Ports.lean ====
section
/-! DEFINITION. The Furlong ports (R569 to R602): answers to outstanding packets, a port's way down and up, the LINK flits. -/
namespace Sys2Proof.Machine

/-! ### Answers (R588, R385, R439) -/

/-- R395: a remote host signal completes with a status of the fabric. -/
def Dev.signalFails (d : Dev) (c s : Nat) (st : Status) : Dev :=
  (match d.slotWait c s with
    | .remote v => d.finishWaiting c s (.remote v) st
    | _ => d).dropSignal

/-- What the answer to an outstanding packet leads to: its status and, for a read, its data. -/
def Dev.answered (d : Dev) (why : Purpose) (st : Status) (data : List Nat) : Dev :=
  match why with
  | .forgotten => d
  | .chainWrite i u => d.chainStatus i u st
  | .chainRead i u off => if st = .ok then d.chainData i u off data else d.chainStatus i u st
  | .taskSignal _ => if st = .ok then d else d.dropSignal
  | .hostSignal c s => if st = .ok then d else d.signalFails c s st
  | .summed => if st = .ok then d else d.dropSignal
  | .taskWait i b => if st = .ok then d else d.waitLost (.task i b) st
  | .segWait i => if st = .ok then d else d.waitLost (.seg i) st
  | .mailboxWait c s => if st = .ok then d else d.waitLost (.mailbox c s) st
  | .triggerWait i => if st = .ok then d else d.waitLost (.trigger i) st
  | .probe c s => if st = .ok then d else d.probeReply c s st
  | .exchange _ _ => if st = .ok then d else d.markIsolated
  | .writeAhead => d.aheadAnswered st
  | .snapshot => d
  | .barrierSignal => if st = .ok then d else d.count SYN_REMOTE_DROP_CNT_COUNT 0 0
  | .mirror stamp => d.mirrorAnswered stamp st
  | .barrierCopy k => if st = .ok then d.barrierAcked k else d.mirrorLost
  | .copyRead a r => d.copyReadDone a r st data
  | .command c s =>
    if st = .ok then d
    else match d.slotWait c s with
      | .work 1 => d.finishWaiting c s (.work 1) st
      | .work 2 => d.restoreFails st
      | _ => d

/-- R588: a packet that waited for a TTAG is sent. -/
def Dev.sendUnsent (d : Dev) : Dev :=
  match d.unsent with
  | [] => d
  | (pk, why) :: rest =>
    let (st, d1) := { d with unsent := rest }.originate pk why
    if st = .ok then d1 else d1.answered why st []

/-- R588: an outstanding packet completes. -/
def Dev.completeTag (d : Dev) (ttag : Nat) (st : Status) (data : List Nat) : Dev :=
  match Tbl.find d.outstanding ttag with
  | none => d
  | some o => ((({ d with outstanding := Tbl.del d.outstanding ttag }).showTtags).answered o.purpose st data).sendUnsent

/-- R588: a packet unanswered for 20 ms completes with LINK_DOWN. -/
def Dev.e2eTimeout (d : Dev) (ttag : Nat) : Dev :=
  match Tbl.find d.outstanding ttag with
  | none => d
  | some o =>
    if o.sent + 20000000 ≤ d.time then (d.count FUR_E2E_TIMEOUT_CNT_COUNT 0 0).completeTag ttag .linkDown [] else d

/-! ### DELIVERY pairs (R586, R589) -/

/-- Sends up to 48 pairs that are due to a node in one DELIVERY packet. -/
def Dev.sendPairs (d : Dev) (node : Nat) : Dev :=
  let mine := d.duePairs.filter (fun e => e.node == node)
  let now := mine.take 48
  if now.isEmpty then d
  else
    let body := now.flatMap (fun e => leBytes 2 e.ttag ++ [e.status, 0])
    ({ d with duePairs := d.duePairs.filter (fun (e : DuePair) => e.node != node) ++ mine.drop 48 }.originate
      { typ := tyDelivery, dst := node, src := 0, length := body.length, body := body } .forgotten false).2

/-- R589: a pair falls due; 48 of them are sent at once. -/
def Dev.addPair (d : Dev) (node ttag : Nat) (st : Status) : Dev :=
  let d1 := { d with duePairs := d.duePairs ++ [⟨node, ttag, st.code, d.time + 1000⟩] }
  if 48 ≤ (d1.duePairs.filter (fun e => e.node == node)).length then d1.sendPairs node else d1

/-- R589: the originator of a packet receives a status: by a MEM_CPL for a read, by a DELIVERY pair for the other types that expect
an answer. -/
def Dev.answerTo (d : Dev) (p : Packet) (st : Status) : Dev :=
  if p.typ = tyMemCpl ∨ p.typ = tyDelivery then d
  else if p.typ = tyMemRd then
    (d.originate { typ := tyMemCpl, dst := p.src, src := 0, ttag := p.ttag, length := p.length, addr := p.addr, status := st.code }
      .forgotten false).2
  else d.addPair p.src p.ttag st

/-- R589: the pairs of a node are sent once the first of them has been due for 1 µs. -/
def Dev.pairsDue (d : Dev) : Dev :=
  match d.duePairs.find? (fun e => decide (e.due ≤ d.time)) with
  | none => d
  | some e => d.sendPairs e.node

/-! ### A port goes down (R596, R597) -/

/-- A port enters a state. -/
def Dev.setPort (d : Dev) (p st : Nat) : Dev :=
  (d.wr FUR_PORT_STATUS_STATE p 0 0 st).modPort p (fun r => { r with since := d.time, retryNow := false })

/-- The originator of a packet of this module, or of one it forwards, receives a status. -/
def Dev.failPacket (d : Dev) (p : Packet) (st : Status) : Dev :=
  if d.node = some p.src then
    (if p.typ = tyMemCpl ∨ p.typ = tyDelivery then d else d.completeTag p.ttag st [])
  else d.answerTo p st

/-- R594: a packet that is under way here is routed (again). -/
def Dev.routePacket (d : Dev) (p : Packet) : Dev :=
  match d.route p.dst (decide (p.cls = 5) && decide (d.node = some p.src)) with
  | .inl q => d.enqueuePacket q p
  | .inr st => d.failPacket p st

/-- R472, R596: held packets complete with a status, queued ones are routed again, credits are void. -/
def Dev.dropTraffic (d : Dev) (p : Nat) (st : Status) : Dev :=
  let r := d.port p
  let d1 := (List.range 6).foldl (fun (d : Dev) c => d.setWord FUR_CREDIT p c 0 0)
    (d.modPort p (fun x => { x with held := [], queued := [], freed := [], nackDue := false, nextEpoch := none, rxNextEpoch := none }))
  let d2 := r.held.foldl (fun (d : Dev) h => d.failPacket h.packet st) d1
  r.queued.foldl (fun (d : Dev) pk => d.routePacket pk) d2

/-- R597: a port enters DOWN with a cause. From UP it sends a LINK flit with DOWN first, PORT_DOWN is logged, and its traffic is dealt
with. -/
def Dev.portDown (d : Dev) (p cause : Nat) : Dev :=
  let up := decide (d.portState p = pUp)
  let d0 := if up && cause != 0x0D then d.sendLink p true else d
  let d1 := ((d0.setPort p pDown).wr FUR_PORT_STATUS_DOWN_CAUSE p 0 0 cause).wr FUR_PORT_STATUS_LANES_OK p 0 0 0
  let d2 := (d1.setWord FUR_PARTNER p 0 0 0).modPort p (fun r => { r with partnerHash := 0, attest := [] })
  if up then
    ((d2.hostEvent (srcUnit (8 + p)) 0x0501 .linkDown none []).dropTraffic p (if cause = 0x0E then .isolated else .linkDown)).failRemote
  else d2

/-! ### Bring-up (R571, R597 to R600) -/

/-- The ports run: the X-die is up, outside minimal recovery mode and Sleep. -/
def Dev.portsRun (d : Dev) : Bool :=
  decide (d.life ≠ .off) && decide (d.life ≠ .recovery) && decide (d.powerState ≠ 2) && !d.perst

/-- A port is not under Block reset. -/
def Dev.portFree (d : Dev) (p : Nat) : Bool := d.portsRun && !d.inRecovery (0x80 + p)

/-- R597: DOWN to DETECT. -/
def Dev.portRetry (d : Dev) (p : Nat) : Dev :=
  let r := d.port p
  if d.portFree p && decide (d.portState p = pDown) && d.on FUR_PORT_STATUS_EN p
      && (r.retryNow || decide (r.since + d.rd FUR_RETRY_CFG_RETRY p * 1000000 ≤ d.time)) then d.setPort p pDetect
  else d

/-- The byte of a lane in FUR_LANE_STATUS. -/
def Dev.setLane (d : Dev) (p l v : Nat) : Dev :=
  d.setWord FUR_LANE_STATUS p 0 0 (setBits (d.word FUR_LANE_STATUS p) (8 * l + 7) (8 * l) v)

/-- R571, R597: detection ends; lanes open, lanes shorted, as masks. -/
def Dev.detectComplete (d : Dev) (p open_ short : Nat) : Dev :=
  if d.portFree p && decide (d.portState p = pDetect) then
    let d1 := (List.range 4).foldl (fun (d : Dev) l => d.setLane p l (128 * b2n (bit open_ l) + 64 * b2n (bit short l))) d
    if open_ % 16 ≠ 0 then d1.portDown p 0x02
    else if short % 16 ≠ 0 then d1.portDown p 0x03
    else d1.setPort p pTrain
  else d

/-- Sends one TRAINING flit's message. -/
def Dev.sendTraining (d : Dev) (p msg : Nat) : Dev := { d with out := d.out ++ [.training p msg] }

/-- R570, R597: all lanes lock: the polarity mask and the logical lane of each lane. The port sends its IDENTIFY flit. -/
def Dev.trainComplete (d : Dev) (p polarity : Nat) (logical : List Nat) : Dev :=
  if d.portFree p && decide (d.portState p = pTrain) then
    let d1 := (List.range 4).foldl (fun (d : Dev) l => d.setLane p l (32 + 16 * b2n (bit polarity l) + nth logical l % 4)) d
    (((d1.wr FUR_PORT_STATUS_LANES_OK p 0 0 15).setPort p pIdentify).modPort p (fun r => { r with blockReleased := false })).sendTraining p 1
  else d

/-- R597: a state's time is over. -/
def Dev.portTimeout (d : Dev) (p st ms cause : Nat) : Dev :=
  if d.portFree p && decide (d.portState p = st) && decide ((d.port p).since + ms * 1000000 ≤ d.time) then d.portDown p cause else d

/-- R597, R598: the partner's IDENTIFY flit: its port, node ID with VALID, firmware version, identity hash. -/
def Dev.identifyFlit (d : Dev) (p port node : Nat) (valid : Bool) (version hash : Nat) : Dev :=
  if d.portFree p && decide (d.portState p = pIdentify) then
    let d1 := (((d.wr FUR_PARTNER_VALID p 0 0 (b2n valid)).wr FUR_PARTNER_PORT p 0 0 port).wr FUR_PARTNER_NODE p 0 0 node).modPort p
      (fun r => { r with partnerHash := hash, attest := [] })
    if hash = Config.identityHash.toNat then d1.portDown p 0x06
    else if version / 2 ^ 24 ≠ d.firmwareVersion / 2 ^ 24 then d1.portDown p 0x07
    else (d1.setPort p pAttest).sendTraining p 2
  else d

/-- R584: grants of the six classes, split evenly between the two sub-channels. -/
def grantOf (c : Nat) : Nat := nth [64, 768, 512, 192, 384, 128] c

/-- R600: the partner just attested is the confirmed partner. -/
def Dev.isConfirmed (d : Dev) (p : Nat) : Bool :=
  let r := d.port p
  r.confirmed && decide (r.partnerHash = r.confirmedHash) && decide (d.rd FUR_PARTNER_NODE p = d.rd FUR_CONFIRMED_NODE p)
    && decide (d.rd FUR_PARTNER_VALID p = d.rd FUR_CONFIRMED_VALID p)

/-- R583, R599, R600: a port enters UP: new keys, sequences at 0, credits at the grants; a partner other than the confirmed one
suspends the port and is reported. -/
def Dev.portUp (d : Dev) (p : Nat) (messages : List (List Nat)) : Dev :=
  let d1 := d.modPort p (fun r => { r with
    held := [], packetNo := 0, epochStart := d.time, nextEpoch := none, rxNextEpoch := none, lcount := 0, nackDue := false
    accepted := false, nackedFor := none, freed := [], attest := []
    secret := (Config.sessionSecret messages).toNat })
  let d2 := ((d1.setWord FUR_TX_SEQ p 0 0 0).setWord FUR_RX_SEQ p 0 0 0).setWord FUR_KEY_EPOCH p 0 0 0
  let d3 := (List.range 6).foldl (fun (d : Dev) c => (d.setCredits p c 0 (grantOf c / 2)).setCredits p c 1 (grantOf c / 2)) d2
  let d4 := d3.setPort p pUp
  if d.isConfirmed p then (d4.wr FUR_PORT_STATUS_SUSPENDED p 0 0 0).pump p
  else
    let node := if d.on FUR_PARTNER_VALID p then d.rd FUR_PARTNER_NODE p else 0xFFFF
    (((d4.wr FUR_PORT_STATUS_SUSPENDED p 0 0 1).countWrap FUR_PORT_STATUS_PARTNER_GEN p 0).hostEvent (srcUnit (8 + p)) 0x0500
      .partnerChanged none (p :: leBytes 2 node)).failRemote

/-- R599: the fragments of an ATTEST message, if all have come. -/
def PortRec.whole (r : PortRec) (msg : Nat) : Option (List Nat) :=
  match Tbl.find r.attest (2 ^ 24 + msg) with
  | none => none
  | some meta_ =>
    (List.range (nth meta_ 0)).foldr (fun i acc => acc.bind (fun l => (Tbl.find r.attest (msg * 65536 + i)).map (fun b => b ++ l)))
      (some []) |>.map (fun l => l.take (nth meta_ 1))

/-- R599: a TRAINING flit with a fragment of an ATTEST message. With the last of the three messages the partner is verified
(R690). -/
def Dev.attestFlit (d : Dev) (p msg index count len : Nat) (bytes : List Nat) : Dev :=
  if d.portFree p && decide (d.portState p = pAttest) && decide (2 ≤ msg ∧ msg ≤ 4) && decide (index < count) then
    let before := ((d.port p).whole msg).isSome
    let d1 := d.modPort p (fun r => { r with
      attest := Tbl.put (Tbl.put r.attest (msg * 65536 + index) bytes) (2 ^ 24 + msg) [count, len] })
    let r := d1.port p
    match r.whole 2, r.whole 3, r.whole 4 with
    | some a, some b, some e =>
      if partnerAccepted (d1.port p).partnerHash e (Config.transcript [a, b] p) then d1.portUp p [a, b, e]
      else ((d1.count SEC_AUTH_FAIL_CNT_COUNT 0 0).hostEvent srcSecurity 0x0804 .authFailed none
        (4 :: leBytes 2 (d.rd FUR_PARTNER_NODE p))).portDown p 0x08
    | _, _, _ => if before || (r.whole msg).isNone || msg == 4 then d1 else d1.sendTraining p (msg + 1)
  else d

/-! ### LINK flits (R575, R578, R580, R581, R583) -/

/-- R580: the packets an ACK covers leave the replay buffer. -/
def ackHeld (held : List Held) (ack : Nat) : List Held :=
  match held with
  | [] => []
  | h :: _ => if (ack + 2 ^ 24 - h.seq) % 2 ^ 24 < held.length then held.drop ((ack + 2 ^ 24 - h.seq) % 2 ^ 24 + 1) else held

/-- R580, R581: every held packet is sent again, in order of SEQ; one that has been sent again 16 times takes the port down. -/
def Dev.replay (d : Dev) (p : Nat) : Dev :=
  let held := (d.port p).held
  if held.any (fun h => decide (16 ≤ h.resends)) then d.portDown p 0x0B
  else
    let d1 := d.modPort p (fun r => { r with held := r.held.map (fun h => { h with resends := h.resends + 1 }) })
    { d1 with out := d1.out ++ held.map (fun (h : Held) => OutMsg.packet p h.seq h.packet) }.count FUR_REPLAY_CNT_COUNT p 0 held.length

/-- R581: a tag has failed. -/
def Dev.tagFails (d : Dev) (p : Nat) : Dev :=
  ((d.count FUR_AUTH_FAIL_CNT_COUNT p 0).diag (srcUnit (8 + p)) .other .authFailed [p]).portDown p 0x0C

/-- R575: a LINK flit of the partner in UP whose tag holds: ACK, FLAGS, EPOCH_SEQ and the credits it returns. -/
def Dev.linkFlit (d : Dev) (p ack flags epochSeq : Nat) (credits : List Nat) : Dev :=
  let d1 := if bit flags 0 then d.modPort p (fun r => { r with held := ackHeld r.held ack }) else d
  let d2 := (credits.take 12).zipIdx.foldl (fun (d : Dev) (v, i) =>
    d.setCredits p (i / 2) (i % 2) (d.credits p (i / 2) (i % 2) + v % 4096)) d1
  let d3 := if bit flags 3 then d2.modPort p (fun r => { r with rxNextEpoch := some epochSeq }) else d2
  if bit flags 2 then d3.portDown p 0x0D
  else
    let d4 := if bit flags 1 then d3.replay p else d3
    d4.pump p

/-- R575: an UP port sends a LINK flit. -/
def Dev.linkFlitSend (d : Dev) (p : Nat) : Dev := if d.portState p = pUp then d.sendLink p false else d

/-- R578: epoch e + 1 begins, and a LINK flit announces its first SEQ. -/
def Dev.newEpoch (d : Dev) (p : Nat) : Dev :=
  let d1 := (d.countWrap FUR_KEY_EPOCH_EPOCH p 0).modPort p (fun r => { r with
    packetNo := 0, epochStart := d.time, nextEpoch := some (d.rd FUR_TX_SEQ_SEQ p) })
  (d1.sendLink p false).modPort p (fun r => { r with nextEpoch := none })

/-- R578: 2^31 packets, or 3,600 s. -/
def Dev.keyEpochChange (d : Dev) (p : Nat) : Dev :=
  let r := d.port p
  if d.portState p = pUp ∧ (2 ^ 31 ≤ r.packetNo ∨ r.epochStart + 3600000000000 ≤ d.time) then d.newEpoch p else d

/-- R597: lock is lost on a lane for 2 µs. -/
def Dev.lockLost (d : Dev) (p lanes : Nat) : Dev :=
  if d.portState p = pUp ∧ lanes % 16 ≠ 0 then
    let d1 := d.portDown p 0x0A
    (List.range 4).foldl (fun (d : Dev) l => if bit lanes l then
      d.setLane p l (setBits (bits (d.word FUR_LANE_STATUS p) (8 * l + 7) (8 * l)) 5 5 0) else d) d1
  else d

end Sys2Proof.Machine
end

