-- ==== Sys2Proof/Machine/BlockReset.lean ====
section
/-! DEFINITION. Faults and their containment (14): Block resets of a Peck, a port or the exchange unit and their release, correctable
and uncorrectable errors, restarts of the management processor, early release. -/
namespace Sys2Proof.Machine

/-! ### What a Peck loses (R230, R268, R474, R668) -/

/-- What an array keeps when its Peck's logic is reset or unpowered: conductances, metadata, the program in work; what stands in its
Grain's SRAM and registers goes. -/
def ArrayRec.powerless (r : ArrayRec) : ArrayRec :=
  { r with listed := false, chkTable := [], refMeasured := [0, 0, 0, 0], refIdeal := [0, 0, 0, 0], refSlots := 0, refCycles := 0
           windowCycles := 0, windowMismatch := 0, cycles := [], residuals := [], decisionDue := none, decisionRuns := none
           nuUsed := 0, rejected := none, diodePrev := none, trims := [], endOfRange := [], calNow := 0
           monGroup := r.monGroup, passed := false }

/-- The registers of a Peck: its common block's and its Grains'. -/
def inPeck (r : Reg) (u p : Nat) : Bool :=
  (decide (r.scope = .peck) && decide (u = p)) || (decide (r.scope = .grain) && decide (peckOfGrain u = p))

/-- SRAM cells of a Peck and of its Grains. -/
def sramOf (p cell : Nat) : Bool :=
  cellExists cell && (cell / 2 ^ 64 == 1 + p || (decide (129 + 8 * p ≤ cell / 2 ^ 64) && decide (cell / 2 ^ 64 < 137 + 8 * p)))

/-- A Peck's logic and SRAM are reset or lose their power: registers whose Kept entry does not name the event return to their reset values,
SRAM reads zero, counters and their waits are gone, and attempts halt, as PRG_LAST_RESULT shows after a Block reset (R255). DESIGN CHOICE (log
entry 108): CNV_CAL_STATUS.POS then reads its reset value 0 (R209) also where SUBST keeps the spare at p (R190). -/
def Dev.peckLoses (d : Dev) (p : Nat) (keep : Kept → Bool) (why : HaltWhy) : Dev :=
  let mine := (d.arrays.map (·.1)).filter (fun a => peckOf a == p)
  let d1 : Dev := { d with
    regs := keepRegs d.regs (fun r u f => !inPeck r u p || keep f.kept)
    arrays := (d.arrays.map (fun e => if peckOf e.1 = p then (e.1, e.2.powerless) else e)).filter (fun e => decide (e.2 ≠ {}))
    mem := d.mem.filter (fun c => !sramOf p c.1)
    lcWaiters := d.lcWaiters.filter (fun e => e.1 / 48 != p)
    lcLast := d.lcLast.filter (fun e => e.1 / 48 != p)
    monWaits := d.monWaits.filter (fun g => peckOfGrain g != p)
    fbQueue := d.fbQueue.filter (fun e => peckOfGrain e.1 != p) }
  mine.foldl (fun (d : Dev) a => d.haltAttempt a why) d1

/-- R138, R268, R276: after release or return of power the tracker of every SERVING array takes the monitor's results, a rebuild falls due for
every bound one, which waits for VALID, and one entry is logged for the Peck. -/
def Dev.peckReturns (d : Dev) (p : Nat) : Dev :=
  let all := (List.range 128).map (fun i => p * 128 + i)
  let due := all.filter (fun a => d.arrState a == SERVING && !d.unbound a)
  let d1 := all.foldl (fun (d : Dev) a => d.loadTracker a) (d.stir p)
  let d2 := due.foldl (fun (d : Dev) a => (d.modArr a (fun r => { r with lostList := true })).makeDue a .rebuild) d1
  if due.isEmpty then d2 else d2.diag (srcPeck p) .listsRebuilt .ok [p, due.length]

/-! ### Records of faults (R468, R471) -/

/-- FLT_LAST and its time. -/
def Dev.recordFault (d : Dev) (cls source unit code : Nat) : Dev :=
  let d1 := (((d.wr FLT_LAST_CLASS 0 0 0 cls).wr FLT_LAST_SOURCE 0 0 0 source).wr FLT_LAST_UNIT 0 0 0 unit).wr FLT_LAST_CODE 0 0 0 code
  (d1.setWord FLT_LAST_TIME_LO 0 0 0 d.time).setWord FLT_LAST_TIME_HI 0 0 0 (d.time / 2 ^ 32)

/-- Shows the closed wrappers and whether a unit recovers. -/
def Dev.showFaults (d : Dev) : Dev :=
  let closed := (List.range 128).foldl (fun n p => n + b2n (d.wrapperClosed p)) 0
    + (List.range 9).foldl (fun n i => n + b2n (bit (d.word FLT_ISO_X 0) i)) 0
  (d.wr FLT_STATUS_ISO_COUNT 0 0 0 closed).wr FLT_STATUS_RECOVERING 0 0 0 (b2n (!d.recovering.isEmpty))

/-- Closes or opens a unit's wrapper; UNIT is coded as in FLT_LAST. -/
def Dev.setWrapper (d : Dev) (unit : Nat) (closed : Bool) : Dev :=
  (if unit < 128 then
    d.setWord FLT_ISO 0 (unit / 32) 0 (setBits (d.word FLT_ISO 0 (unit / 32)) (unit % 32) (unit % 32) (b2n closed))
  else d.setWord FLT_ISO_X 0 0 0 (setBits (d.word FLT_ISO_X 0) (unit - 128) (unit - 128) (b2n closed))).showFaults

/-- A unit of containment: a Peck, a port or the exchange unit (R71). -/
def isUnit (unit : Nat) : Bool := decide (unit ≤ 0x88)

/-! ### Block reset (R471 to R474, R437, R438) -/

/-- A unit's source code in the log (R527). -/
def srcOfUnit (unit : Nat) : Nat := if unit < 128 then srcPeck unit else if unit < 0x88 then srcUnit (unit - 0x80 + 8) else srcUnit 0x04

/-- R72, R472: the tasks of a Peck; an attempt with tasks at home there can no longer pass and is cut short. -/
def Dev.isolatePeck (d : Dev) (p : Nat) : Dev :=
  let d1 := d.isolateTasks p
  let touched : Bool := match d1.attempt with
    | some a => a.tasks.any (fun e => decide (e.2.phase ≠ .done) && peckOfGrain e.2.home == p)
    | none => false
  if touched then d1.cutShort else d1

/-- R438: an update that a fault of the exchange unit meets: its chunks still to do await reconstruction, and the others' working copies are
sent again. -/
def UpdateRun.interrupted (u : UpdateRun) (node : Nat) : UpdateRun :=
  let broken := u.broken ++ u.todo
  { u with todo := [], broken := broken, resend := (u.table.ownedChunks node).filter (fun e => !broken.contains e) }

/-- R437, R438: what a Block reset of the exchange unit does: an attempt that has not signalled is refused, and owned chunks whose update
is not complete await reconstruction. -/
def Dev.exchangeLoses (d : Dev) : Dev :=
  let d1 := d.cutShort
  let chunks := d1.updates.flatMap (fun u => u.todo.map (fun e => (((u.table.tensors[e.1]?).map XchTensor.tensorId).getD 0, e.2, false)))
  let inUnit := fun (r : Reg) => decide (r.scope = .xdie) && decide (XCH_STATUS.base ≤ r.base) && decide (r.base < FUR_PORT_STATUS.base)
  let d2 : Dev := { d1 with
    rebuild := d1.rebuild ++ chunks.filter (fun c => !d1.rebuild.contains c)
    updates := d1.updates.map (fun (u : UpdateRun) => u.interrupted d1.nodeId)
    regs := keepRegs d1.regs (fun r _ f => !inUnit r || decide (1 ≤ f.kept.reset.depth)) }
  d2.showXch.showUpdate

/-- R12: a port's registers that neither a Block reset nor Sleep keeps. -/
def Dev.portLoses (d : Dev) (p : Nat) : Dev :=
  { d with regs := keepRegs d.regs (fun r u f => decide (r.scope ≠ .xdie) || decide (r.base < FUR_PORT_STATUS.base)
      || decide (FUR_NODE.base ≤ r.base) || decide (u ≠ p) || decide (1 ≤ f.kept.reset.depth)) }

/-- R447: a Block reset of a Peck abandons its sample. -/
def Dev.dropSample (d : Dev) (p : Nat) : Dev := d.modAttempt (fun a => { a with samples := Tbl.del a.samples p })

/-- R471, R473, R644: a Block reset of a unit begins: its wrapper closes, the participant is bound by R34, the unit is reset. Where
the unit already recovers, the recovery begins again at the reset phase. -/
def Dev.blockReset (d : Dev) (unit source : Nat) : Dev :=
  if d.life = .run ∧ isUnit unit = true then
    let since := ((Tbl.find d.recovering unit).map (·.1)).getD d.time
    let d1 := ({ d with recovering := Tbl.put d.recovering unit (since, source) }.setWrapper unit true).markIsolated
    if unit < 128 then
      { (d1.isolatePeck unit).dropSample unit with rng := Tbl.del d1.rng unit }.peckLoses unit (fun k => decide (1 ≤ k.reset.depth)) .blockReset
    else if unit < 0x88 then (d1.portDown (unit - 0x80) 0x0E).portLoses (unit - 0x80)
    else d1.exchangeLoses
  else d

/-- R672: RESET_BLOCK. -/
def Dev.resetBlock (d : Dev) (c s : Nat) : Reply × Dev :=
  let u := bits (d.cmd c s 1) 7 0
  if !d.argsClean c s [0xFF] || decide (0x89 ≤ u) then (.st .badArg, d)
  else (.wait .reset, d.blockReset u 0x20)

/-- R475, R476: control restore of a Peck: its step-start RNG state from the newest mirror record; none where it cannot be restored.
Before the first record the state is that of reset. -/
def Dev.controlRestore (d : Dev) (p : Nat) : Option Dev :=
  match d.homeSlots.getD d.homeNewest none with
  | none => some d
  | some h =>
    if h.ok || d.on FLT_MIRROR_STATUS_BUDDY_OK 0 then
      let v := Tbl.get 0 h.record.rng p
      let v1 := if (h.record.stamp + 1) % 2 ^ 32 = d.stampNow then (Config.rngAdvance v h.record.stamp).toNat else v
      some { d with rng := Tbl.set 0 d.rng p v1 }
    else none

/-- Every RESET_BLOCK that waits for the release of a unit completes (R672). -/
def Dev.releaseSlots (d : Dev) (unit : Nat) : Dev :=
  (List.range 16).foldl (fun (d : Dev) c => (List.range 8).foldl (fun (d : Dev) s =>
    if d.opcode c s = 0x92 ∧ bits (d.cmd c s 1) 7 0 = unit then d.finishWaiting c s .reset .ok else d) d) d

/-- The release of a unit: its wrapper opens, the interruption is recorded, the Block reset is raised, and a fault logged; an
attempt that was cut short is refused then (R50). A participant that recovers during an attempt is bound by R34. -/
def Dev.openUnit (d : Dev) (unit since source : Nat) : Dev :=
  let d1 := ({ d with recovering := Tbl.del d.recovering unit }.setWrapper unit false).setWord FLT_INT_LAST 0 0 0
    (min ((d.time - since) / 100) (2 ^ 32 - 1))
  let d2 := if source = 0x21 then d1.diag (srcOfUnit unit) .faultRecord .isolated [unit, d1.rd FLT_LAST_SOURCE 0, d1.rd FLT_LAST_CODE 0] else d1
  ((d2.hostEvent (srcOfUnit unit) 0x0704 .ok none [unit, source]).releaseSlots unit).markIsolated.refuseCut

/-- R474: a unit reaches release: a Peck once its rail is good and its clock locks, a port into DETECT. -/
def Dev.blockRelease (d : Dev) (unit : Nat) : Dev :=
  match Tbl.find d.recovering unit with
  | none => d
  | some v =>
    let (since, source) := v
    if unit < 128 then
      if d.powered unit = false then d
      else
        match d.controlRestore unit with
        | none => d.deviceLost 0x0F 0xFF 0
        | some d1 => ((d1.openUnit unit since source).setVcore (bushelOfPeck unit)).peckReturns unit
    else if unit < 0x88 then
      (d.openUnit unit since source).modPort (unit - 0x80) (fun r => { r with retryNow := true, blockReleased := true })
    else d.openUnit unit since source

/-- R653, R67: FORCE_REL releases a Peck before clock-good, while debug is unlocked with the scope of such writes. -/
def Dev.forceRelease (d : Dev) (p : Nat) : Dev :=
  match Tbl.find d.recovering p with
  | none => d
  | some v =>
    if d.on SEC_STATUS_UNLOCKED 0 && bit (d.rd SEC_STATUS_SCOPE 0) 1 then
      (((d.openUnit p v.1 v.2).wr CLK_ISL_STATUS_UNSTABLE p 0 0 1).diag (srcPeck p) .other .clockUnstable [p]).peckReturns p
    else d

/-! ### Detected faults (R468 to R471, R477) -/

/-- A block-contained fault of a unit. -/
def Dev.blockFault (d : Dev) (source unit code : Nat) : Dev :=
  ((d.recordFault 1 source unit code).count FLT_BLOCK_CNT_COUNT 0 0).blockReset unit 0x21

/-- R470: a correctable error of an HBM stack (0x90 on), a Peck, or the module: counted, logged in coalesced form, and above 1,000 in one
second reported once for the unit. -/
def Dev.correctable (d : Dev) (source unit code : Nat) : Dev :=
  let fresh := decide (d.ceSince + 1000000000 ≤ d.time)
  let d1 : Dev := if fresh then { d with ceSince := d.time, ceCounts := [], ceRaised := [] } else d
  let n := Tbl.get 0 d1.ceCounts unit + 1
  let src := if unit < 128 then srcPeck unit else if 0x90 ≤ unit ∧ unit ≤ 0x95 then srcHbm (unit - 0x90) else srcModule
  let d2 := ({ d1 with ceCounts := Tbl.put d1.ceCounts unit n }.recordFault 0 source unit code).count FLT_CE_CNT_COUNT 0 0
  let d3 := d2.diag src .correctableError .ok [source, unit, code]
  if 1000 < n ∧ unit ≠ 0xFF ∧ d3.ceRaised.contains unit = false then
    { d3 with ceRaised := d3.ceRaised ++ [unit] }.hostEvent src 0x0302 .ok none (leBytes 2 unit ++ leBytes 4 n)
  else d3

/-- R468, source 0x0B: a sync object takes its value from the home copy of the mirror record, else from the buddy's. -/
def Dev.restoreObject (d : Dev) (k : Nat) : Dev :=
  match d.obj k with
  | none => d
  | some o =>
    match d.homeSlots.getD d.homeNewest none with
    | none => let (v, d1) := d.fresh; d1.setObj k { o with value := v % 65536 }
    | some h =>
      if h.ok || d.on FLT_MIRROR_STATUS_BUDDY_OK 0 then
        match h.record.objects.find? (fun m => m.ctx == o.owner && m.vid == o.vid) with
        | some m => d.setObj k { o with value := m.value }
        | none => let (v, d1) := d.fresh; d1.setObj k { o with value := v % 65536 }
      else d.deviceLost 0x0F 0xFF 0

/-- R468: the fault collection unit records a fault with its SOURCE, UNIT and CODE, and acts by its class. For source 0x0B CODE is the
physical object. -/
def Dev.faultDetected (d : Dev) (source unit code : Nat) : Dev :=
  if d.life ≠ .run then d
  else if 0x01 ≤ source ∧ source ≤ 0x03 then d.correctable source unit code
  else if 0x05 ≤ source ∧ source ≤ 0x07 then (if unit < 128 then d.blockFault source unit code else d)
  else if source = 0x08 then
    (if unit < 128 then (List.range 8).foldl (fun (d : Dev) i => d.blockFault 0x08 (8 * bushelOfPeck unit + i) code) d else d)
  else if source = 0x09 then (if 0x80 ≤ unit ∧ unit < 0x88 then d.blockFault source unit code else d)
  else if source = 0x0A ∨ source = 0x10 then d.blockFault source 0x88 code
  else if source = 0x0B then
    (((d.recordFault 1 source 0xFF code).count FLT_BLOCK_CNT_COUNT 0 0).diag (srcUnit 0x03) .faultRecord .isolated [code]).markIsolated.restoreObject
      code
  else if source = 0x0C ∨ source = 0x0D ∨ source = 0x0F then d.deviceLost source 0xFF code
  else d

/-- R477: the command DEVICE_LOST: a device-lost fault of a source whose handling is a Device reset. -/
def Dev.lostSource (d : Dev) (source : Nat) : Dev :=
  if d.life = .run ∧ (source = 0x0C ∨ source = 0x0D ∨ source = 0x0F) then d.deviceLost source 0xFF 0 else d

/-! ### Uncorrectable HBM errors (R469, R719) -/

/-- A region of `n` bytes at `a` holds the address. -/
def holds (a n addr : Nat) : Bool := decide (a ≤ addr) && decide (addr < a + n)

/-- Ingest tasks of the loaded programs whose extent covers an address, for the running program. -/
def Dev.ingestOver (d : Dev) (addr : Nat) : List Nat :=
  match d.attempt with
  | none => []
  | some a => (a.tasks.filter (fun e =>
      let arg := if e.2.arg.isEmpty then d.argWords e.2 else e.2.arg
      decide (e.2.kind = 3) && chIngest arg && decide (chDstSpace arg = 0)
        && decide ((chDstExtent arg).1 ≤ addr) && decide ((addr : Int) < (chDstExtent arg).2))).map (·.1)

/-- The tensors of every loaded table, with program key and table. -/
def Dev.allTensors (d : Dev) : List (Nat × Program × XchTable × XchTensor) :=
  d.programs.flatMap (fun (k, p) => match p.xch with
    | none => []
    | some x => x.tensors.map (fun t => (k, p, x, t)))

/-- A chunk awaits reconstruction (R488). -/
def Dev.needsRebuild (d : Dev) (tensor chunk : Nat) (efr : Bool) : Dev :=
  { d with rebuild := if d.rebuild.contains (tensor, chunk, efr) then d.rebuild else d.rebuild ++ [(tensor, chunk, efr)] }.showUpdate

/-- R422, R469: the journal ring of a loaded table holds an address: whether an entry that is still needed does, and the program's key. -/
def Dev.journalAt (d : Dev) (addr : Nat) : Option (Bool × Nat) :=
  d.programs.findSome? (fun (k, p) => p.xch.bind (fun x =>
    let base := bits (nth x.header 1) 47 0
    let len := bits (nth x.header 2) 47 0
    if holds base len addr then
      let i := (addr - base) / 64
      some (overwritesKept (d.word UPD_JOURNAL_KEEP 0) (d.word UPD_JOURNAL_HEAD 0) (len / 64) i (i + 1), k)
    else none))

/-- R469: the repair of the region that holds an address, and whether it is block-contained. -/
def Dev.repairRegion (d : Dev) (addr : Nat) : Bool × Dev :=
  let node := d.nodeId
  let ingest := d.ingestOver addr
  let owned := fun (e : Nat × Program × XchTable × XchTensor) =>
    let n := (e.2.2.1.ownedParams e.2.2.2 node).2
    if holds e.2.2.2.master (4 * n) addr then some ((addr - e.2.2.2.master) / 4)
    else if holds e.2.2.2.mom n addr then some (addr - e.2.2.2.mom)
    else if holds e.2.2.2.momPlane ((n + 31) / 32) addr then some (32 * (addr - e.2.2.2.momPlane)) else none
  let copyAt := fun (e : Nat × Program × XchTable × XchTensor) =>
    let f := d.wcFormat e.2.1.base e.2.2.2
    if holds e.2.2.2.wcopy ((e.2.2.2.p * f.bits + 7) / 8) addr then some ((addr - e.2.2.2.wcopy) * 8 / f.bits)
    else if holds e.2.2.2.wcPlane ((e.2.2.2.p + 31) / 32) addr then some (32 * (addr - e.2.2.2.wcPlane)) else none
  match d.allTensors.findSome? (fun e => (owned e).map (fun k => (e, k))) with
  | some ((_, _, x, t), k) =>
    let c := (x.owned t node).1 + k / 4096
    (true, d.needsRebuild t.tensorId c false)
  | none =>
    match d.allTensors.findSome? (fun e => (copyAt e).map (fun k => (e, k))) with
    | some ((_, p, x, t), k) =>
      let c := k / 4096
      let f := d.wcFormat p.base t
      (match x.ownerOf t c with
        | some o =>
          if o = node then
            -- the module's own copy is recomputed from its masters (R427)
            let masters := (List.range (t.chunkLen c)).map (fun i => d.le (devCell (t.master + 4 * (4096 * (c - (x.owned t node).1) + i))) 4)
            (match d.scaleEntry p.base t.wcScale with
              | none => (true, d)
              | some e =>
                let qs : List QBlock := wcBlocks e masters
                (true, d.writeCopy t f (4096 * c) (qs.flatMap (fun (q : QBlock) => q.codes)) (qs.map (fun (q : QBlock) => q.scale))))
          else
            let (_, _, d1) := d.readCopy o (t.wcopy + 4096 * c * f.bits / 8) ((t.chunkLen c * f.bits + 7) / 8) false
            let (_, _, d2) := d1.readCopy o (t.wcPlane + 128 * c) ((t.chunkLen c + 31) / 32) false
            (true, d2)
        | none => (true, d))
    | none =>
      match d.allTensors.find? (fun e => holds e.2.2.2.efUse (2 * e.2.2.2.p) addr) with
      | some (_, _, _, t) => (true, d.needsRebuild t.tensorId ((addr - t.efUse) / 8192) true)
      | none =>
        if !ingest.isEmpty then (true, { d with ingestDone := d.ingestDone.filter (fun i => !ingest.contains i) })
        else if 471141629952 ≤ addr ∧ 471141629952 + 16384 * 540672 > addr then
          -- the program records stand at the top of device memory (R244)
          (false, d.readBack ((addr - 471141629952) / 540672) none)
        else
          match d.journalAt addr with
          | some (true, k) => (true, (d.wr UPD_STATUS_JOURNAL_LOST 0 0 0 1).hostEvent (srcUnit 0x05) 0x0305 .ok (some (k / 4)) (leBytes 4 (d.word UPD_LAST_STEP 0)))
          | _ => (true, d)

/-- R56: the HBM stack that holds an address of device memory: addresses interleave over the six stacks every 512 bytes. -/
def hbmStackOf (addr : Nat) : Nat := addr / 512 % 6

/-- R56: the address of device memory that stands at `a` within a stack. -/
def hbmAddress (stack a : Nat) : Nat := (a / 512 * 6 + stack) * 512 + a % 512

/-- Commands that read a table or an image from device memory (R719): STEP_LOAD, XCH_LOAD, WCH_LOAD, SYNC_BARRIER_SET, ROUTE_LOAD,
REC_POLICY_LOAD. -/
def readsMemory (op : Nat) : Bool := [0x20, 0x28, 0x2B, 0x46, 0x50, 0x60].contains op

/-- R719: a command meets an uncorrectable error: one that runs completes with INTERNAL; one that is next is started, and completes so after
the checks every command passes. -/
def Dev.commandMeets (d : Dev) (c s : Nat) : Dev :=
  if d.slotState c s = slotRunning then d.finishSlot c s .internal
  else d.serve c s readsMemory (fun d => (.st .internal, d))

/-- R469, R719: an uncorrectable HBM read of an address: the transfer that made it ends, and firmware repairs the region. The fault is recorded
once, with the stack that holds the address (R56); a transfer of the exchange unit ends as a fault of that unit. -/
def Dev.hbmUncorrectable (d : Dev) (addr : Nat) (reader : HbmReader) : Dev :=
  if d.life ≠ .run then d
  else
    let unit := 0x90 + hbmStackOf addr
    let d1 : Dev := match reader with
      | .chain i u => d.chainStatus i u .internal
      | .exchange => d.blockReset 0x88 0x21
      | .command c s => d.commandMeets c s
      | .mirror k => { d with homeSlots := setAt d.homeSlots k ((d.homeSlots.getD k none).map (fun h => { h with ok := false })) }
      | .other => d
    match reader with
    | .mirror _ => d1.correctable 0x04 unit 0
    | _ =>
      let (contained, d2) := d1.repairRegion addr
      if contained || decide (reader = HbmReader.exchange) then ((d2.recordFault 1 0x04 unit 0).count FLT_BLOCK_CNT_COUNT 0 0).markIsolated
      else d2.correctable 0x04 unit 0

/-! ### Restarts of the management processor (R503 to R506) -/

/-- R503: a restart cause: 1 watchdog, 2 SRAM, 3 assertion. The third within 60 s resets the device. -/
def Dev.mpRestart (d : Dev) (cause : Nat) : Dev :=
  if (d.life = .run ∨ d.life = .starting) ∧ d.mpDown = false then
    let (n, d1) := d.countRestart cause
    if 3 ≤ n then d1.deviceReset 0x06 else { d1 with mpDown := true }
  else d

/-- R505, R506, R683: image load, table rebuild and command resolution are over: firmware serves again. -/
def Dev.mpServes (d : Dev) (f : Fuses) : Dev :=
  if d.mpDown = false then d
  else
    match d.bootImage f with
    | (false, d1) => d1
    | (true, d1) =>
      let d2 := (d1.wr SEC_STATUS_SLOT 0 0 0 d1.runningSlot).setStage 0
      ({ d2 with mpDown := false }.resolveCommands)

end Sys2Proof.Machine
end

