-- ==== Sys2Proof/Machine/Supply.lean ====
section
/-! DEFINITION. Supplies and power states: rail and input faults, thermal trip, power gating of a Bushel, Idle, Standby, Sleep and
POWER_DOWN (18, 19, 21). -/
namespace Sys2Proof.Machine

/-! ### Rails (R613 to R617) -/

/-- Enables or stops a rail; its bit of PWR_RAIL_STATUS follows. -/
def Dev.setRail (d : Dev) (c : Nat) (on : Bool) : Dev :=
  let rails := setBits d.railsOn c c (b2n on)
  { d with railsOn := rails }.setWord PWR_RAIL_STATUS 0 0 0 (setBits (d.word PWR_RAIL_STATUS 0) c c (b2n on))

/-- R616, R641: a supply fault or a trip: device-lost, with the entry to Off in place of a Device reset; 3 trip, 4 supply fault. -/
def Dev.supplyLost (d : Dev) (cause code : Nat) : Dev := (d.raiseLost 0x0E 0xFF code).enterOff cause

/-- R613 to R616: a rail from 0x00 to 0x1C is shut: 1 overcurrent, 2 undervoltage, 3 overvoltage. -/
def Dev.railFault (d : Dev) (c cause : Nat) : Dev :=
  if bit d.railsOn c = false ∨ 0x1C < c then d
  else
    let d1 := (((d.wr PWR_RAIL_FAULT_RAIL 0 0 0 c).wr PWR_RAIL_FAULT_CAUSE 0 0 0 cause).count PWR_FAULT_CNT_COUNT 0 0).setRail c false
    let tell := fun (d : Dev) (action : Nat) => d.hostEvent srcPower 0x0600 .ok none [c, cause, action]
    if c < 16 then
      let again := match Tbl.find d.vcoreFaults c with
        | some t => decide (d.time < t + 1000000000)
        | none => false
      if again then (tell d1 3).supplyLost 4 c
      else { tell d1 1 with vcoreFaults := Tbl.put d.vcoreFaults c d.time }.faultDetected 0x08 (8 * c) c
    else if c = 0x1C then
      let d2 : Dev := { tell d1 (if d.vprgFaults = 0 then 1 else 2) with vprgFaults := d.vprgFaults + 1 }
      (List.range 16).foldl (fun (d : Dev) b => d.latchBranch b 4) d2
    else (tell d1 3).supplyLost 4 c

/-- R614: the power controller restarts a faulted VCORE rail 1 ms after its fault. -/
def Dev.vcoreRestart (d : Dev) (b : Nat) : Dev :=
  match Tbl.find d.vcoreFaults b with
  | some t =>
    if t + 1000000 ≤ d.time ∧ bit d.railsOn b = false ∧ d.gated b = false ∧ (d.life = .run ∨ d.life = .starting) ∧ d.powerState ≠ 2 then
      (d.setRail b true).wr PWR_VCORE_SET b 0 0 800
    else d
  | none => d

/-- R615: VPRG restarts once. -/
def Dev.vprgRestart (d : Dev) : Dev :=
  if d.vprgFaults = 1 ∧ bit d.railsOn 0x1C = false ∧ (d.life = .run ∨ d.life = .starting) ∧ d.powerState ≠ 2 then d.setRail 0x1C true else d

/-- R617: VCORE of a Bushel (0 to 15) or VANA18 of a stack (16 on) leaves its window or is back in it. -/
def Dev.inhibit (d : Dev) (unit : Nat) (outside : Bool) : Dev :=
  let bs := if unit < 16 then [unit] else (List.range 4).map (fun i => 4 * (unit - 16) + i)
  if outside then
    let d1 := bs.foldl (fun (d : Dev) b => (d.programmingIn b).foldl (fun (d : Dev) a => d.haltAttempt a .branch) d) d
    { d1 with inhibited := d1.inhibited ++ bs.filter (fun b => !d1.inhibited.contains b) }
  else { d with inhibited := d.inhibited.filter (fun b => !bs.contains b) }

/-- R619: an input fault: 1 undervoltage, 2 overvoltage, 3 overcurrent. -/
def Dev.inputFault (d : Dev) (cause : Nat) : Dev :=
  if d.life = .off then d else (d.hostEvent srcPower 0x0607 .ok none [cause]).enterOff 2

/-- R634: a thermal trip: a Bushel's reading (unit 0 to 15) or an HBM stack's (0x10 on). -/
def Dev.thermalTrip (d : Dev) (unit : Nat) (t : Int) : Dev :=
  if d.life ≠ .off ∧ (unit < 16 ∧ 1150 ≤ t ∨ 16 ≤ unit ∧ 1050 ≤ t) then
    (d.hostEvent srcPower 0x0605 .ok none (unit :: leBytes 2 (unsigned 16 t))).supplyLost 3 unit
  else d

/-! ### Losses of power below Run (R77, R627, R662, R663) -/

/-- Every Peck of a list loses its SRAM and logic; attempts halt (R232). -/
def Dev.pecksLose (d : Dev) (ps : List Nat) (depth : Nat) : Dev :=
  ps.foldl (fun (d : Dev) p => d.peckLoses p (fun k => decide (depth ≤ k.power.depth)) .power) d

/-- R138, R268, R276: every Peck of a list returns. -/
def Dev.pecksReturn (d : Dev) (ps : List Nat) : Dev := ps.foldl (fun (d : Dev) p => d.peckReturns p) d

/-- Pecks of a Bushel. -/
def pecksOf (b : Nat) : List Nat := (List.range 8).map (fun i => 8 * b + i)

/-- R197, R207, R276: a Bushel's reference selection, scan table and monitor results are lost. -/
def Dev.bushelLoses (d : Dev) (b : Nat) : Dev :=
  { d with
    regs := keepRegs d.regs (fun r u _ => decide (r.scope ≠ .bushel) || decide (u ≠ b) || decide (r.base / 2 ^ 16 ≠ 2))
    monArmed := d.monArmed.filter (· != b), monLen := Tbl.del d.monLen b, extRefBad := d.extRefBad
    monAt := Tbl.set 0 d.monAt b 0, monSince := Tbl.set 0 d.monSince b d.time
    monWaits := d.monWaits.filter (fun g => bushelOfPeck (peckOfGrain g) != b)
    arrays := (d.arrays.map (fun (a, r) => if bushelOf a = b then (a, { r with awaitsMonitor := true, monSeen := false }) else (a, r))).filter
      (fun e => decide (e.2 ≠ {})) }

/-! ### Power gating (R627) -/

/-- R627: a write of 1 to PWR_BUSHEL_CTRL.GATE. -/
def Dev.bushelGate (d : Dev) (b : Nat) : Dev :=
  let d1 := d.wr PWR_BUSHEL_CTRL_GATE b 0 0 1
  if d.gated b then d1 else d1.wr PWR_BUSHEL_CTRL_PENDING b 0 0 1

/-- R627: no task runs on the Bushel's Grains, and none of its arrays is in PROGRAMMING or VERIFYING. -/
def Dev.mayGate (d : Dev) (b : Nat) : Bool :=
  d.on PWR_BUSHEL_CTRL_PENDING b && d.running.all (fun e => bushelOfPeck (peckOfGrain e.2.grain) != b)
    && (d.arrays.map (·.1)).all (fun a => bushelOf a != b || (d.arrState a != PROGRAMMING && d.arrState a != VERIFYING))

/-- R627: a pending gate takes effect. -/
def Dev.gateEffect (d : Dev) (b : Nat) : Dev :=
  if d.mayGate b = true then
    (((d.pecksLose (pecksOf b) 2).bushelLoses b).wr PWR_BUSHEL_CTRL_PENDING b 0 0 0).wr PWR_BUSHEL_CTRL_GATED b 0 0 1 |>.setRail b false
  else d

/-- R627: a write of 0 to PWR_BUSHEL_CTRL.GATE. -/
def Dev.bushelUngate (d : Dev) (b : Nat) : Dev :=
  let d1 := (d.wr PWR_BUSHEL_CTRL_GATE b 0 0 0).wr PWR_BUSHEL_CTRL_PENDING b 0 0 0
  if d.gated b then
    ((((d1.wr PWR_BUSHEL_CTRL_GATED b 0 0 0).setRail b true).reloadScan b true).pecksReturn (pecksOf b)).setVcore b
  else d1

/-! ### Idle (R661) -/

/-- R661: the conditions under which a Peck enters Idle; they have held for IDLE_DELAY island clocks. A decision that runs keeps it out as one
that is due does (log entry 122). -/
def Dev.mayIdle (d : Dev) (p : Nat) : Bool :=
  d.on RST_PECK_CTRL_IDLE_EN p && d.clocksPast p (Tbl.get 0 d.quietAt p) (d.rd RST_PECK_CTRL_IDLE_DELAY p) && d.clockGood p && !d.on RST_PECK_STATUS_IDLE p && d.inflight p == 0
    && (match d.attempt with
      | none => true
      | some a => a.tasks.all (fun e => !(decide (e.2.phase = .ready) && peckOfGrain e.2.home == p)
          && !(decide (e.2.phase = .running) && e.2.kind == 3 && (peckOfGrain e.2.home == p || peckOfGrain e.2.grain == p))))
    && (List.range 8).all (fun i => !d.on PRG_ENG_STATUS_BUSY (8 * p + i))
    && d.arrays.all (fun e => peckOf e.1 != p || (e.2.decisionDue.isNone && e.2.decisionRuns.isNone))

/-- R12, R668: a field of a Peck that Idle leaves. Fields whose Kept entry is none go back to their reset values, but for the items that
R668 keeps at Idle (local counters, checksum tables), the rotation's position (R189), and the run state of the scheduler (log entry 122). -/
def idleKeeps (r : Reg) (f : FieldDef) : Bool :=
  decide (1 ≤ f.kept.power.depth) || r.is SYN_LC || r.is TSK_SCHED_STATUS || (r.is ARR_CHK_STATUS && f.hi == 30)
    || (r.is CNV_CAL_STATUS && (f.hi == 30 || f.hi == 6))

/-- R661: a Peck enters Idle: its island clock stops. -/
def Dev.idleEntry (d : Dev) (p : Nat) : Dev :=
  if d.mayIdle p = true then
    { d with regs := keepRegs d.regs (fun r u f => !inPeck r u p || idleKeeps r f) }.wr RST_PECK_STATUS_IDLE p 0 0 1
  else d

/-! ### Standby and Sleep (R662 to R664, R667, R673) -/

/-- The module shows a power state and raises POWER_STATE. -/
def Dev.showPower (d : Dev) (st old : Nat) : Dev := (d.wr RST_PWR_STATE_STATE 0 0 0 st).hostEvent srcReset 0x0705 .ok none [st, old]

/-- Rails that stay on in Sleep: all but VPRG, VCORE, VANA08 and VANA18. -/
def sleepRails : Nat := 0xEF000000

/-- R662: entry to Standby. -/
def Dev.enterStandby (d : Dev) : Dev := (d.pecksLose (List.range 128) 2).showPower 1 0

/-- R663: entry to Sleep. -/
def Dev.enterSleep (d : Dev) : Dev :=
  let d1 := (List.range 8).foldl (fun (d : Dev) p => (d.portDown p 0x0F).portLoses p) d.flushMeta
  let d2 := (List.range 16).foldl (fun (d : Dev) b => d.bushelLoses b) (d1.pecksLose (List.range 128) 3)
  let d3 : Dev := { d2 with
    regs := keepRegs d2.regs (fun r _ f => (decide (r.scope ≠ .bushel) && decide (r.scope ≠ .die)) || decide (3 ≤ f.kept.power.depth))
    railsOn := sleepRails }
  (d3.setWord PWR_RAIL_STATUS 0 0 0 sleepRails).showPower 2 0

/-- R662, R663, R673: return to Run; from Sleep the rails start and the branch self-tests run. -/
def Dev.resume (d : Dev) (selfTests : List Nat) : Dev :=
  if d.powerState = 1 then ((d.wr RST_PWR_STATE_STATE 0 0 0 0).pecksReturn (List.range 128)).showPower 0 1
  else if d.powerState = 2 then
    let d1 := ({ d with railsOn := allRails }.setWord PWR_RAIL_STATUS 0 0 0 allRails).wr RST_PWR_STATE_STATE 0 0 0 0
    let d2 := (List.range 16).foldl (fun (d : Dev) b => (d.reloadScan b true).branchSelfTest b (nth selfTests b)) d1
    let d3 := (List.range 16).foldl (fun (d : Dev) b => d.showActive b) d2
    ((d3.pecksReturn (List.range 128)).allVcore).showPower 0 2
  else d

/-- R673: a transition; one between Standby and Sleep passes through Run. -/
def Dev.transition (d : Dev) (st : Nat) (selfTests : List Nat) : Dev :=
  let d1 := d.resume selfTests
  if st = 1 then d1.enterStandby else if st = 2 then d1.enterSleep else d1

/-- R667, R673: POWER_STATE; one that meets a Block reset in progress waits for its release. -/
def Dev.powerStateCmd (d : Dev) (c s : Nat) (selfTests : List Nat) : Reply × Dev :=
  let st := bits (d.cmd c s 1) 1 0
  if !d.argsClean c s [3] || st == 3 then (.st .badArg, d)
  else if st = d.powerState then (.done .ok [st], d)
  else if st ≠ 0 ∧ d.runs ≠ [] then (.st .busy, d)
  else if d.recovering ≠ [] then (.wait .reset, d.wr RST_PWR_STATE_PENDING 0 0 0 1)
  else (.done .ok [st], d.transition st selfTests)

/-- R667: with the last unit released, the POWER_STATE commands that waited take their course. -/
def Dev.powerWaiters (d : Dev) : Dev :=
  if d.recovering ≠ [] then d
  else
    (List.range 16).foldl (fun (d : Dev) c => (List.range 8).foldl (fun (d : Dev) s =>
      if d.opcode c s = 0x93 ∧ d.slotState c s = slotRunning ∧ d.slotWait c s = .reset then
        let st := bits (d.cmd c s 1) 1 0
        let d1 := d.wr RST_PWR_STATE_PENDING 0 0 0 0
        -- the results of the self-tests on a way out of Sleep are what the hardware finds: open values
        let (tests, d2) := d1.freshWords 16
        (if st = d.powerState then d1 else d2.transition st tests).finishSlot c s .ok [st]
      else d) d) d

/-- R474, R667: BLOCK_RESET_RELEASE. -/
def Dev.release_ (d : Dev) (unit : Nat) : Dev := (d.blockRelease unit).powerWaiters

/-! ### POWER_DOWN (R665, R674) -/

/-- R674: POWER_DOWN. -/
def Dev.powerDownCmd (d : Dev) (c s : Nat) : Reply × Dev :=
  if !d.argsClean c s [] then (.st .badArg, d)
  else if d.runs ≠ [] then (.st .busy, d)
  else (.st .ok, { d.flushMeta with powerDown := some (d.time + 1000000) })

/-- R665: 1 ms after the response the rails stop. -/
def Dev.railStop (d : Dev) : Dev :=
  match d.powerDown with
  | some t => if t ≤ d.time ∧ d.life ≠ .off then d.enterOff 1 else d
  | none => d

end Sys2Proof.Machine
end

