-- ==== Sys2Proof/Machine/Fabric.lean ====
section
/-! DEFINITION. Packets that arrive on the Furlong ports (R579 to R602) and the fabric commands (R603 to R607). -/
namespace Sys2Proof.Machine

/-! ### Local delivery (R586, R589) -/

/-- R593: a memory access of `n` bytes at an address by a node lies in a window that allows it; a buddy region is a window for
writes and reads of its node. -/
def Dev.windowAllows (d : Dev) (node addr n : Nat) (write : Bool) : Bool :=
  d.windows.any (fun w => (w.any || decide (w.src = node)) && (if write then w.wr else w.rd)
      && decide (w.base ≤ addr) && decide (addr + n ≤ w.base + w.size))
    || d.buddyRegions.any (fun r => decide (r.node = node) && decide (r.addr ≤ addr) && decide (addr + n ≤ r.addr + r.size))

/-- MEM_WR (R589): checked against the windows, written, and answered. -/
def Dev.memWrite (d : Dev) (p : Packet) : Dev :=
  if d.windowAllows p.src p.addr p.length true then
    (d.setBytes (devCell p.addr) (p.body.take p.length)).addPair p.src p.ttag .ok
  else d.addPair p.src p.ttag .notPermitted

/-- MEM_RD (R589): checked against the windows, and answered by a MEM_CPL with the data or with the status. -/
def Dev.memRead (d : Dev) (p : Packet) : Dev :=
  if d.windowAllows p.src p.addr p.length false then
    (d.originate { typ := tyMemCpl, dst := p.src, src := 0, ttag := p.ttag, length := p.length, addr := p.addr, status := 0
                   body := d.bytes (devCell p.addr) p.length } .forgotten false).2
  else d.answerTo p .notPermitted

/-- MEM_CPL (R586): the outstanding read completes. -/
def Dev.memCompletion (d : Dev) (p : Packet) : Dev := d.completeTag p.ttag (Status.ofCode p.status) (p.body.take p.length)

/-- DELIVERY (R586): each pair completes an outstanding packet with its status. -/
def Dev.deliveryPairs (d : Dev) (p : Packet) : Dev :=
  (List.range (p.length / 4)).foldl (fun (d : Dev) i =>
    d.completeTag (leAt p.body (4 * i) 2 % 16384) (Status.ofCode (nth p.body (4 * i + 2))) []) d

/-- EXCH (R414, R431, R437): a contribution, or a working-copy message, at the exchange unit. -/
def Dev.exchArrives (d : Dev) (port : Nat) (p : Packet) : Dev :=
  if d.on FLT_ISO_X_XCH 0 then d.addPair p.src p.ttag .isolated
  else
    let d1 := if nth p.body 0 = 3 then d.copyArrives (2 * port + p.sub) p.body else d.contributionArrives p.body
    d1.addPair p.src p.ttag .ok

/-! ### SYNC_OP (R592) -/

/-- Fields of a SYNC_OP body. -/
def Packet.op (p : Packet) : Nat := nth p.body 0
def Packet.vid (p : Packet) : Nat := leAt p.body 2 2 % 4096
def Packet.octx (p : Packet) : Nat := leAt p.body 2 2 / 4096
def Packet.gen (p : Packet) : Nat := leAt p.body 4 2
def Packet.value (p : Packet) : Nat := leAt p.body 6 2
def Packet.waiter (p : Packet) : Nat := leAt p.body 8 4
def Packet.opStatus (p : Packet) : Status := Status.ofCode (nth p.body 12)
def Packet.step (p : Packet) : Nat := leAt p.body 16 4
def Packet.attempt (p : Packet) : Nat := nth p.body 20

/-- OP 1 at the home hub. -/
def Dev.opSignal (d : Dev) (port : Nat) (p : Packet) : Dev :=
  d.remoteSignal p.src port p.ctx p.octx p.vid p.gen (signed 16 p.value) p.waiter

/-- OP 2 at the home hub. -/
def Dev.opWait (d : Dev) (p : Packet) : Dev := d.remoteWait p.src p.octx p.vid p.gen (bit (nth p.body 1) 0) p.value p.waiter

/-- OP 3: a release, or the answer to a wait or a host signal. -/
def Dev.opRelease (d : Dev) (p : Packet) : Dev := d.remoteAnswer p.src p.waiter p.value p.opStatus p.step

/-- OP 4 at the home hub. -/
def Dev.opWithdraw (d : Dev) (p : Packet) : Dev := d.remoteWithdraw p.src p.waiter

/-- OP 5 at the home hub. -/
def Dev.opBarrier (d : Dev) (p : Packet) : Dev :=
  d.barrierMessage p.src p.octx p.vid p.gen p.step p.attempt (bit (nth p.body 1) 1) (bits (nth p.body 1) 3 2)

/-- OP 6: an outcome of the barrier of the running program, from its home. -/
def Dev.opOutcome (d : Dev) (p : Packet) : Dev :=
  if d.barrierRef = .remote p.src p.octx p.vid p.gen then
    d.barrierOutcome (some ⟨nth p.body 12, p.step, p.attempt⟩)
  else d

/-- OP 7 at the home. -/
def Dev.opProbe (d : Dev) (p : Packet) : Dev := d.mapProbe p.src p.octx p.vid p.gen p.waiter

/-- OP 8: the waiter ID is that of a mailbox slot. -/
def Dev.opReply (d : Dev) (p : Packet) : Dev :=
  if waiterKind p.waiter = 2 then d.probeReply (bits p.waiter 19 16) (bits p.waiter 2 0) p.opStatus else d

/-- R592: a SYNC_OP packet at the hub, by its OP; it is answered with OK. -/
def Dev.syncOp (d : Dev) (port : Nat) (p : Packet) : Dev :=
  (match p.op with
    | 1 => d.opSignal port p
    | 2 => d.opWait p
    | 3 => d.opRelease p
    | 4 => d.opWithdraw p
    | 5 => d.opBarrier p
    | 6 => d.opOutcome p
    | 7 => d.opProbe p
    | 8 => d.opReply p
    | _ => d).addPair p.src p.ttag .ok

/-! ### RESET_REQ and firmware messages (R643, R698, R498) -/

/-- R643, R698: a request whose credential verifies is answered with OK, SEC_RESET_CTR takes its counter, and the reset begins; any
other is answered with AUTH_FAILED and reported. -/
def Dev.resetRequest (d : Dev) (p : Packet) : Dev :=
  let kind := nth p.body 0
  let c := nth p.body 1
  let cred := p.body.drop 192
  if d.credentialOk cred kind c then
    let d1 := ((d.takeCounter cred).addPair p.src p.ttag .ok).sendPairs p.src
    if kind = 1 then d1.deviceReset 0x08 else if kind = 2 ∧ c < 16 then d1.contextReset c 0x13 else d1
  else
    ((d.addPair p.src p.ttag .authFailed).authFail 3 p.src).hostEvent srcReset 0x0706 .authFailed none
      (leBytes 2 p.src ++ [Status.authFailed.code])

/-- The MIRROR_SET that awaits a node's answer. -/
def Dev.mirrorAsker (d : Dev) (node : Nat) : Option (Nat × Nat) :=
  ((List.range 16).flatMap (fun c => (List.range 8).map (fun s => (c, s)))).find? (fun (c, s) =>
    decide (d.slotState c s = slotRunning) && decide (d.slotWait c s = .work 1) && decide (bits (d.cmd c s 1) 11 0 = node))

/-- What firmware does with a message of another module's firmware. -/
def Dev.mgmtContent (d : Dev) (p : Packet) (m : MgmtContent) : Dev :=
  if d.firmware = false then d
  else
    match m with
    | .mirrorAnswer ok base size =>
      (match d.mirrorAsker p.src with
        | some (c, s) => d.mirrorAnswer p.src c s ok base size
        | none => d)
    | .mirrorRecord rec barriers committed => d.restoreAnswer p.src rec barriers committed
    | .barrierHeld phys => if d.rd FLT_MIRROR_STATUS_BUDDY 0 = p.src then d.barrierAcked phys else d
    | .question bytes =>
      let b := (Config.mgmtAnswer bytes).take 8384
      if b.isEmpty then d
      else (d.originate { typ := tyMgmt, dst := p.src, src := 0, length := b.length, body := b } .forgotten).2
    | .other => d

/-- R586: a MGMT_MSG is taken and answered. -/
def Dev.mgmtMessage (d : Dev) (p : Packet) (m : MgmtContent) : Dev := (d.addPair p.src p.ttag .ok).mgmtContent p m

/-- Flits of buffer that a packet takes (R583). -/
def Packet.flits (p : Packet) : Nat := 1 + p.dflits

/-- R583: the packet's buffer is free again. -/
def Dev.freeBuffer (d : Dev) (port : Nat) (p : Packet) : Dev := d.freeCredits port p.cls p.sub p.flits

/-- R586: a packet for this module is taken, by its type. -/
def Dev.takePacket (d : Dev) (port : Nat) (p : Packet) (m : MgmtContent) : Dev :=
  match p.typ with
  | 1 => d.exchArrives port p
  | 2 => d.syncOp port p
  | 3 => d.memWrite p
  | 4 => d.memRead p
  | 5 => d.memCompletion p
  | 6 => d.deliveryPairs p
  | 8 => d.resetRequest p
  | 9 => d.mgmtMessage p m
  | _ => d

/-- R587: the oldest packet of this module for its own node is delivered; the PORT that a signal shows for it is open (log entry 117). One
for a node ID that the module no longer has is routed. -/
def Dev.deliverOwn (d : Dev) : Dev :=
  match d.own with
  | [] => d
  | p :: rest =>
    if d.node = some p.dst then
      if p.typ = tySync ∧ p.op = 1 then
        let (v, d1) := { d with own := rest }.fresh
        d1.takePacket (v % 8) p .other
      else { d with own := rest }.takePacket 8 p .other
    else { d with own := rest }.routePacket p

/-- A packet for this module is delivered; its buffer is free then, but a held working-copy message keeps it (R431). -/
def Dev.deliver (d : Dev) (port : Nat) (p : Packet) (m : MgmtContent) : Dev :=
  let d1 := d.takePacket port p m
  if d.heldWc.length < d1.heldWc.length ∨ d1.portState port ≠ pUp then d1 else d1.freeBuffer port p

/-! ### Arrival, forwarding (R585, R587, R594, R595, R601) -/

/-- R585, R587, R594: a packet for another node goes on with one hop less, or its originator receives a status. -/
def Dev.forward (d : Dev) (port : Nat) (p : Packet) : Dev :=
  let d1 := d.freeBuffer port p
  if p.hops = 0 then (d1.count FUR_HOP_DROP_CNT_COUNT 0 0).answerTo p .linkDown
  else
    match d1.route p.dst false with
    | .inr st => d1.answerTo p st
    | .inl q =>
      d1.enqueuePacket q { p with hops := p.hops - 1, sub := if bit (Tbl.get 0 d.routes p.dst) 28 || p.sub == 1 then 1 else 0 }

/-- R595, R601, R587: where an accepted packet goes. -/
def Dev.receive (d : Dev) (port : Nat) (p : Packet) (m : MgmtContent) : Dev :=
  match d.node with
  | none => d.freeBuffer port p
  | some n =>
    if d.suspended port && !(decide (p.cls = 5) && decide (p.dst = n)) then
      ((d.freeBuffer port p).count FUR_SUSP_DROP_CNT_COUNT port 0).answerTo p .routeSuspended
    else if p.dst = n then d.deliver port p m
    else d.forward port p

/-- R575, R579: a NACK goes out in a LINK flit. -/
def Dev.sendNack (d : Dev) (port : Nat) : Dev := (d.modPort port (fun r => { r with nackDue := true })).sendLink port false

/-- R579: the packet with the SEQ expected is accepted; with the first packet of an announced epoch the partner's epoch begins (R578). -/
def Dev.acceptSeq (d : Dev) (port seq : Nat) : Dev :=
  (d.wr FUR_RX_SEQ_SEQ port 0 0 (seq + 1)).modPort port (fun r => { r with
    accepted := true, nackedFor := none, rxNextEpoch := if r.rxNextEpoch = some seq then none else r.rxNextEpoch })

/-- R572, R574, R579, R581: a HEAD flit and its data flits arrive: `bad` uncorrectable codewords, `corrected` symbols, whether the tag
holds, DFLITS. -/
def Dev.headPacket (d : Dev) (port seq bad corrected : Nat) (tagOk : Bool) (dflits : Nat) (p : Packet) (m : MgmtContent) : Dev :=
  if d.portsRun = false then d
  else if d.portState port ≠ pUp then (if d.portState port < pIdentify then d else d.faultDetected 0x09 (0x80 + port) 0)
  else
    let d1 := (d.count FUR_FEC_CORR_CNT_COUNT port 0 corrected).count FUR_FEC_UNCORR_CNT_COUNT port 0 bad
    let e := d1.rd FUR_RX_SEQ_SEQ port
    let off := (seq + 2 ^ 24 - e) % 2 ^ 24
    if bad = 0 ∧ tagOk = false then d1.tagFails port
    else if off = 0 ∧ bad ≠ 0 then d1.sendNack port
    else if off = 0 then
      if p.lawful dflits then (d1.acceptSeq port seq).receive port p m else d1.faultDetected 0x09 (0x80 + port) 0
    else if off < 2 ^ 23 then
      if (d1.port port).nackedFor = some e then d1
      else (d1.modPort port (fun r => { r with nackedFor := some e })).sendNack port
    else d1

/-- R575, R581: a LINK flit arrives: LCOUNT is the sender's, the tag holds or not. -/
def Dev.linkArrives (d : Dev) (port ack flags epochSeq : Nat) (credits : List Nat) (tagOk : Bool) : Dev :=
  if d.portsRun = false then d
  else if d.portState port ≠ pUp then (if d.portState port < pIdentify then d else d.faultDetected 0x09 (0x80 + port) 0)
  else if tagOk then d.linkFlit port ack flags epochSeq credits
  else d.tagFails port

/-- A packet of one type that a port of this module has accepted is delivered. -/
def Dev.accepted_ (d : Dev) (port : Nat) (p : Packet) (m : MgmtContent) (mine : Packet → Bool) : Dev :=
  if d.portsRun && decide (d.portState port = pUp) && mine p && p.lawful p.dflits then d.receive port p m else d

/-! ### ROUTE_LOAD and ROUTE_READ (R604, R605) -/

/-- R594: the layout of a route entry. -/
def routeOk (e : Nat) : Bool :=
  !bit e 30 && decide (bits e 27 11 = 0) && decide (bits e 7 3 = 0) && !(bit e 29 && decide (bits e 10 8 = bits e 2 0))

/-- R593: the layout of a window entry, by its four 64-bit words; it lies in device memory. -/
def windowOk (ws : List Nat) : Bool :=
  decide (bits (nth ws 0) 63 48 = 0) && decide (nth ws 0 % 2 ^ 21 = 0) && decide (bits (nth ws 1) 63 24 = 0)
    && decide (bits (nth ws 2) 63 15 = 0) && decide (nth ws 3 = 0) && inMemory (nth ws 0) (nth ws 1 * 2 ^ 21)

/-- A window entry. -/
def windowOf (ws : List Nat) : Window :=
  ⟨nth ws 0, nth ws 1 * 2 ^ 21, bits (nth ws 2) 11 0, bit (nth ws 2) 12, bit (nth ws 2) 13, bit (nth ws 2) 14⟩

/-- R597, R604: the node ID changes: every UP port identifies itself again; what it held and queued is dealt with under R596. -/
def Dev.setNode (d : Dev) (n : Nat) : Dev :=
  let d1 := (d.wr FUR_NODE_NODE 0 0 0 n).wr FUR_NODE_VALID 0 0 0 1
  if d.node = some n then d1
  else (List.range 8).foldl (fun (d : Dev) p =>
    if d.portState p = pUp then (((d.setPort p pIdentify).setWord FUR_PARTNER p 0 0 0).modPort p (fun r => { r with
      partnerHash := 0, attest := [] })).dropTraffic p .linkDown |>.sendTraining p 1
    else d) d1

/-- R600, R604: the confirmation of a port is applicable. -/
def Dev.mayConfirm (d : Dev) (p gen : Nat) : Bool :=
  decide (d.portState p = pUp) && d.suspended p && decide (d.rd FUR_PORT_STATUS_PARTNER_GEN p = gen)

/-- R600, R604: the current partner becomes the confirmed partner, and the suspension ends. -/
def Dev.confirm (d : Dev) (p : Nat) : Dev :=
  (((d.setWord FUR_CONFIRMED p 0 0 (d.word FUR_PARTNER p)).modPort p (fun r => { r with
    confirmed := true, confirmedHash := r.partnerHash })).wr FUR_PORT_STATUS_SUSPENDED p 0 0 0).pump p

/-- R604: ROUTE_LOAD. -/
def Dev.routeLoad (d : Dev) (c s : Nat) : Reply × Dev :=
  let w1 := d.cmd c s 1
  let first := bits (d.cmd c s 2) 11 0
  let count := bits (d.cmd c s 3) 12 0
  let ea := d.cmd48 c s 4
  let wa := d.cmd48 c s 6
  let win := bit w1 13
  let entries := (List.range count).map (fun i => d.le (devCell (ea + 4 * i)) 4)
  let wins := (List.range 16).map (fun i => d.words64 (devCell (wa + 32 * i)) 4)
  let genOf := fun p => bits (d.cmd c s (8 + p / 4)) (8 * (p % 4) + 7) (8 * (p % 4))
  if !d.argsClean c s [0xFF7FFF, 0x3F0FFF, 0x1FFF, mWord, mHigh, mWord, mHigh, mWord, mWord]
      || decide (4096 < first + count)
      || (decide (count ≠ 0) && (decide (ea % 64 ≠ 0) || !inMemory ea (4 * count) || !entries.all routeOk))
      || (win && (decide (wa % 64 ≠ 0) || !inMemory wa 512 || !wins.all windowOk)) then (.st .badArg, d)
  else if bit w1 12 && decide (d.node ≠ some (bits w1 11 0)) && decide (d.runs ≠ []) then (.st .busy, d)
  else if count = 0 ∧ bit w1 12 = false ∧ win = false ∧ bit w1 14 = false ∧ bits w1 23 16 = 0 then (.st .okZeroWork, d)
  else
    let d1 := if bit w1 12 then d.setNode (bits w1 11 0) else d
    let d2 := if bit w1 14 then { d1 with maxHops := bits (d.cmd c s 2) 21 16 } else d1
    let d3 := if win then { d2 with windows := wins.map windowOf } else d2
    let d4 := entries.zipIdx.foldl (fun (d : Dev) (e, i) => { d with routes := Tbl.set 0 d.routes (first + i) e }) d3
    let (ignored, d5) := (List.range 8).foldl (fun (acc : Nat × Dev) p =>
      if bit w1 (16 + p) then
        if acc.2.mayConfirm p (genOf p) then (acc.1, acc.2.confirm p) else (acc.1 + 2 ^ p, acc.2)
      else acc) (0, d4)
    (.done .ok [ignored, d5.nodeWord], d5.failRemote)

/-- R605: ROUTE_READ. -/
def Dev.routeRead (d : Dev) (c s : Nat) : Reply × Dev :=
  let first := bits (d.cmd c s 1) 11 0
  let count := bits (d.cmd c s 2) 3 0
  if !d.argsClean c s [0xFFF, 0xF] || decide (14 < count) || decide (4096 < first + count) then (.st .badArg, d)
  else if count = 0 then (.st .okZeroWork, d)
  else (.done .ok (d.nodeWord :: (List.range count).map (fun i => Tbl.get 0 d.routes (first + i))), d)

/-! ### PORT_CTRL and PORT_INFO (R606, R607) -/

/-- R606: PORT_CTRL. -/
def Dev.portCtrl (d : Dev) (c s : Nat) : Reply × Dev :=
  let w1 := d.cmd c s 1
  let p := bits w1 2 0
  let action := bits w1 10 8
  let set := bit w1 12
  let up := decide (d.portState p = pUp)
  if !d.argsClean c s [0x1707, 0xFFFF] || decide (4 < action) then (.st .badArg, d)
  else if action = 0 ∧ set = false then (.st .okZeroWork, d)
  else if 3 ≤ action ∧ up = false then (.st .notPermitted, d)
  else
    let d0 := if set then d.wr FUR_RETRY_CFG_RETRY p 0 0 (bits (d.cmd c s 2) 15 0) else d
    let d1 : Dev := match action with
      | 1 => (d0.wr FUR_PORT_STATUS_EN p 0 0 1).modPort p (fun r => { r with retryNow := true })
      | 2 => (d0.wr FUR_PORT_STATUS_EN p 0 0 0).portDown p 0x01
      | 3 => (d0.portDown p (d0.rd FUR_PORT_STATUS_DOWN_CAUSE p)).setPort p pDetect
      | 4 => d0.newEpoch p
      | _ => d0
    (.st .ok, d1)

/-- R607: PORT_INFO. -/
def Dev.portInfo (d : Dev) (c s : Nat) : Reply × Dev :=
  let p := bits (d.cmd c s 1) 2 0
  if !d.argsClean c s [7] then (.st .badArg, d)
  else
    let hash := (d.port p).partnerHash
    (.done .ok ([d.word FUR_PORT_STATUS p, d.word FUR_PARTNER p, d.word FUR_CONFIRMED p, d.word FUR_LANE_STATUS p, d.word FUR_KEY_EPOCH p]
      ++ (List.range 8).map (fun i => hash / 2 ^ (32 * i) % 2 ^ 32) ++ [d.word FUR_FEC_UNCORR_CNT p]), d)

end Sys2Proof.Machine
end

