-- ==== Sys2Proof/Machine/Access.lean ====
section
/-! DEFINITION. Register accesses: internal CSRs by level and address (R58 to R62), their access codes (R11), BAR0 (R556 to R559),
the debug aperture, BAR2 (R560, R561), MSI-X, functions (R548 to R550), and the commands CSR_READ, CSR_WRITE and CSR_DUMP. -/
namespace Sys2Proof.Machine

/-! ### Addresses (R59 to R62) -/

/-- R62 check 1: the address is well formed for its level, and names an allocated block or unit. -/
def csrAllocated (lvl x : Nat) : Bool :=
  let b := bits x 21 16
  decide (x % 4 = 0) && (match lvl with
    | 0 => decide (b ≤ 0x25) || (decide (b = 0x3F) && decide (bits x 24 22 = 0))
    | 1 => decide (bits x 27 22 = 0) && decide (b ≤ 3)
    | 2 => decide (bits x 29 22 = 0) && decide (b ≤ 1)
    | _ =>
      let u := bits x 27 22
      decide (bits x 31 28 = 15) && decide (b = 0) && (decide (u ≤ 5) || (decide (8 ≤ u) && decide (u ≤ 0x14))))

/-- R62 check 2: the block's domain is powered: a Peck's own; for the blocks common to a Bushel or a die, the compute stack's. In a gated
Bushel the thermal group's block 0x03 is off and the voltage domain's block 0x00 is not (R638); DEDUCED (log entry 123): the converter block
0x02, whose state gating loses (R207), is off, and the branch block 0x01, whose state it keeps, is not. -/
def Dev.blockPowered (d : Dev) (lvl x : Nat) : Bool :=
  match lvl with
  | 0 => d.powered (x / 2 ^ 25)
  | 3 => true
  | 1 => decide (d.life ≠ .off) && decide (d.life ≠ .recovery) && decide (d.powerState ≠ 2)
      && !(d.gated (x / 2 ^ 28) && decide (2 ≤ x % 2 ^ 28 / 2 ^ 16))
  | _ => decide (d.life ≠ .off) && decide (d.life ≠ .recovery) && decide (d.powerState ≠ 2)

/-- R71: the unit of containment that holds an address, coded as in FLT_LAST. -/
def csrUnit (lvl x : Nat) : Option Nat :=
  if lvl = 0 then some (x / 2 ^ 25)
  else if lvl = 3 then
    let u := bits x 27 22
    if 8 ≤ u ∧ u ≤ 15 then some (0x78 + u) else if u = 4 ∨ u = 5 then some 0x88 else none
  else none

/-- R62 check 3: the unit's wrapper is closed. -/
def Dev.unitClosed (d : Dev) (unit : Nat) : Bool := if unit < 128 then d.wrapperClosed unit else bit (d.word FLT_ISO_X 0) (unit - 128)

/-- DEDUCED (log entry 40): the clock and reset registers of a Peck stand outside its isolation wrapper: R630 lets FREQ_REQ be written
while the Peck is in Block reset, R653 FORCE_REL, and RST_PECK_STATUS shows IN_RESET and WRAPPER. -/
def outsideWrapper (lvl x : Nat) : Bool :=
  decide (lvl = 0) && [CLK_ISL_CFG, CLK_ISL_STATUS, RST_PECK_CTRL, RST_PECK_STATUS].any (fun r => r.base == x % 2 ^ 25)

/-- R62: the status of an access. -/
def Dev.csrStatus (d : Dev) (lvl x : Nat) : Status :=
  if !csrAllocated lvl x then .badArg
  else if !d.blockPowered lvl x then .notPermitted
  else if !outsideWrapper lvl x && (csrUnit lvl x).any (fun u => d.unitClosed u) then .isolated
  else .ok

/-- The address at which a shared register stands: offsets 0xF00 to 0xFFF of the ARR_ blocks of a Grain, and 0x80 to 0xFF of the
ports' FUR_ blocks. -/
def csrAlias (lvl x : Nat) : Nat :=
  if lvl = 0 ∧ bits x 21 16 ≤ 15 ∧ 0xF00 ≤ bits x 15 0 ∧ bits x 15 0 ≤ 0xFFF then setBits x 21 16 0
  else if lvl = 3 ∧ 8 ≤ bits x 27 22 ∧ bits x 27 22 ≤ 15 ∧ 0x80 ≤ bits x 15 0 ∧ bits x 15 0 ≤ 0xFF then setBits x 27 22 8
  else x

/-! ### What registers show -/

/-- R402: the counter and the waiter that SYN_LC_SEL selects. -/
def Dev.lcShown (d : Dev) (p : Nat) : Option LastSignal × Option Waiter :=
  let n := d.rd SYN_LC_SEL_COUNTER p
  if n < 48 then (Tbl.find d.lcLast (lcKey p n), (d.lcWait p n)[d.rd SYN_LC_SEL_INDEX p]?) else (none, none)

/-- A register of a Grain, a Peck or a compute stack as a read returns it. -/
def Dev.stackView (d : Dev) (r : Reg) (u n k : Nat) : Nat :=
  let w := d.word r u n k
  if r.is ARR_GRAIN_CONC then setBits w 3 0 (d.grainLimit u)
  else if r.is DMX_STATUS then
    setBits w 30 30 (b2n (((d.attempt.map Attempt.gen1).getD false) && !d.inReset (peckOfGrain u)))
  else if r.is TSK_PORT_STATUS then (if d.inReset (peckOfGrain u) then w else setBits w 23 16 (d.readyOn u))
  else if r.is ARR_CHK_STATUS then
    if d.unbound (16 * u + n) && !d.inReset (peckOfGrain u) then setBits w 30 30 1 else w
  else if r.is CNV_TRIM_DATA then
    let s := d.rd CNV_TRIM_SEL_SLICE u n
    let g := d.rd CNV_TRIM_SEL_GAIN u n
    if 66 < s then 0 else unsigned 6 (d.trim (16 * u + n) s g 0) * 2 ^ 8 + unsigned 7 (d.trim (16 * u + n) s g 1)
  else if r.is SYN_LC_LAST then
    match (d.lcShown u).1 with
    | some l => 2 ^ 31 + l.ctx % 16 * 2 ^ 24 + l.grain % 8
    | none => 0
  else if r.is SYN_LC_TIME_LO then (((d.lcShown u).1.map LastSignal.time).getD 0) % 2 ^ 32
  else if r.is SYN_LC_TIME_HI then (((d.lcShown u).1.map LastSignal.time).getD 0) / 2 ^ 32 % 2 ^ 32
  else if r.is SYN_LC_WAITER then
    match (d.lcShown u).2 with
    | some x => 2 ^ 31 + b2n x.take * 2 ^ 30 + waiterKind x.id % 4 * 2 ^ 28 + bits x.id 18 16 * 2 ^ 24 + x.id % 2 ^ 16
    | none => 0
  else if r.is SYN_LC_WTHRESH then ((d.lcShown u).2.map Waiter.thresh).getD 0
  else if r.is CLK_ISL_STATUS then
    setBits (setBits (setBits (setBits w 31 31 (b2n (d.clockGood u))) 30 30 (b2n (d.clockStopped u))) 19 16 (d.effLevel (bushelOfPeck u)))
      6 0 (d.curFreq u)
  else if r.is RST_PECK_STATUS then
    setBits (setBits (setBits w 31 31 (b2n (d.inReset u))) 30 30 (b2n (d.wrapperClosed u))) 28 28 (b2n (!d.powered u))
  else if r.is RST_TRIM_SHADOW then (Config.trimWord u n).toNat
  else w

/-- A register of the X-die as a read returns it. -/
def Dev.xdieView (d : Dev) (f : Fuses) (r : Reg) (u n k : Nat) : Nat :=
  let w := d.word r u n k
  if r.is MBX_LOAD then
    let c := fun (k : Nat) => min 255 ((d.accepted.filter (fun e => e.2.2.1 == k)).length)
    c 0 * 2 ^ 24 + c 1 * 2 ^ 16 + c 2 * 2 ^ 8 + c 3
  else if r.is LOG_TIME_LO then d.time % 2 ^ 32
  else if r.is RST_PWR_STATE then setBits w 7 0 (((List.range 128).filter (fun p => d.on RST_PECK_STATUS_IDLE p)).length)
  else if r.is SEC_STATUS then setBits (setBits w 27 24 f.revoked) 6 0 f.rbCount
  else w

/-- A register of a function's BAR0 as a read returns it. -/
def Dev.pageView (d : Dev) (r : Reg) (c n k : Nat) : Nat :=
  let w := d.word r c n k
  if r.is MBX_GO then
    (List.range 8).foldl (fun v s => v + b2n (d.slotState c s == slotAccepted || d.slotState c s == slotRunning) * 2 ^ s) 0
  else if r.is MBX_PAGE_STATUS then setBits (setBits w 31 30 d.mpState) 29 27 (d.rd MBX_MP_STATUS_SHED 0)
  else if r.is MBX_DATA_FIFO then d.windowFifo c
  else if r.is MBX_EVT then
    match (d.ctx c).events with
    | e :: _ => nth e.words n
    | [] => 0
  else if r.is MBX_EVT_CTRL then setBits w 6 0 (d.ctx c).events.length
  else if r.is PCI_ID then identityWord
  else if r.is PCI_FUNC then b2n (c != 0) * 16 + c
  else if r.is PCI_SERIAL_LO then Config.serial.toNat % 2 ^ 32
  else if r.is PCI_SERIAL_HI then Config.serial.toNat / 2 ^ 32
  else if r.is PCI_IRQ_STATUS then
    b2n (d.rd MBX_DONE_DONE c != 0) * 2 ^ 31 + b2n (!(d.ctx c).events.isEmpty) * 2 ^ 30 + d.mpState * 2 ^ 28
  else if r.is PCI_TIME_LO then d.time % 2 ^ 32
  else if r.is PCI_TIME_HI then (d.ctx c).timeHi
  else if r.is PCI_DBG_SEL then setBits w 13 13 (d.rd SEC_STATUS_UNLOCKED 0)
  else w

/-- A register as a read returns it. -/
def Dev.viewOf (d : Dev) (f : Fuses) (r : Reg) (u n k : Nat) : Nat :=
  match r.scope with
  | .xdie => d.xdieView f r u n k
  | .fn => d.pageView r u n k
  | _ => d.stackView r u n k

/-! ### Reads and writes by access code (R11) -/

/-- R11: a word after a read: RC fields are zero. -/
def Reg.afterRead (r : Reg) (w : Nat) : Nat :=
  r.fields.foldl (fun w f => if f.access = .rc then setBits w f.hi f.lo 0 else w) w

/-- R10, R11: a word after a write of `v`: RW fields store, W1C and W1S fields clear and set where `v` has ones; the rest stays. -/
def Reg.afterWrite (r : Reg) (w v : Nat) : Nat :=
  r.fields.foldl (fun w f =>
    let old := bits w f.hi f.lo
    let x := bits v f.hi f.lo
    match f.access with
    | .rw => setBits w f.hi f.lo x
    | .w1c => setBits w f.hi f.lo (old - (old &&& x))
    | .w1s => setBits w f.hi f.lo (old ||| x)
    | _ => w) w

/-- A read of a register: what it returns, and what it changes (R11, R521, R524). -/
def Dev.regRead (d : Dev) (f : Fuses) (r : Reg) (u n k : Nat) : Nat × Dev :=
  let v := d.viewOf f r u n k
  if r.is LOG_TIME_LO then (v, d.setWord LOG_TIME_HI 0 0 0 (d.time / 2 ^ 32))
  else if r.is PCI_TIME_LO then (v, d.modCtx u (fun x => { x with timeHi := d.time / 2 ^ 32 % 2 ^ 32 }))
  else if r.is MBX_DATA_RD then d.windowRead u
  else if r.fields.any (fun x => decide (x.access = .rc)) then (v, d.setWord r u n k (r.afterRead (d.word r u n k)))
  else (v, d)

/-- The access codes' effect alone. -/
def Dev.plainWrite (d : Dev) (r : Reg) (u n k v : Nat) : Dev := d.setWord r u n k (r.afterWrite (d.word r u n k) v)

/-- R568: one write of a pair to a window base; the pair applies with its second write. -/
def Dev.windowBaseWrite (d : Dev) (c : Nat) (hi : Bool) (v : Nat) : Dev :=
  match Tbl.find d.winPending c with
  | some (h, old) =>
    if h = hi then { d with winPending := Tbl.put d.winPending c (hi, v) }
    else
      let (lo, up) := if hi then (old, v) else (v, old)
      ({ d with winPending := Tbl.del d.winPending c }.plainWrite PCI_WIN_BASE_LO 0 c 0 lo).plainWrite PCI_WIN_BASE_HI 0 c 0 up
  | none => { d with winPending := Tbl.put d.winPending c (hi, v) }

/-- A write of a register, with what the fields that act on a write do. -/
def Dev.regWrite (d : Dev) (f : Fuses) (r : Reg) (u n k v : Nat) : Dev :=
  if r.is CNV_SEQ_CTRL then d.seqCtrlWrite u n v
  -- R183: entries are not written while an arm check runs
  else if r.is CNV_SEQ_ENTRY && d.on CNV_SEQ_STATUS_ARM_BUSY u n then d
  else if r.is CNV_CAL_CFG then
    (if bit v 30 then (d.plainWrite r u n k v).calNow (16 * u + n) else (d.plainWrite r u n k v).calPark (16 * u + n))
  else if r.is RSD_CTRL then d.rsdRebuild u (bits v 15 0)
  else if r.is CLK_ISL_CFG then d.writeFreq u (bits v 6 0)
  else if r.is RST_PECK_CTRL then
    let d1 := d.plainWrite r u n k v
    -- IDLE_DELAY counts from the moment IDLE_EN is set (R661)
    let d2 := if bit v 31 && !d.on RST_PECK_CTRL_IDLE_EN u then d1.stir u else d1
    (if bit v 30 then d2.forceRelease u else d2)
  else if r.is CNV_REF_SEL then d.refSelWrite u (bits v 1 0)
  else if r.is CNV_MON_CTRL then (if bit v 31 then (d.plainWrite r u n k v).monArm u else d.plainWrite r u n k v)
  else if r.is PWR_BUSHEL_CTRL then (if bit v 31 then d.bushelGate u else d.bushelUngate u)
  else if r.is CLK_REF_CTRL then (if bit v 31 then d.refclkRestore else d)
  else if r.is SEC_FMKEY_CTRL then (if bit v 31 then d.lockFmKey else d)
  else if r.is MBX_CMD then d.cmdWrite u n k v
  else if r.is MBX_GO then d.goWrite u (bits v 7 0)
  else if r.is MBX_DATA_WR then d.dataWrite f u v
  else if r.is MBX_EVT_CTRL then (if bit v 31 then (d.plainWrite r u n k v).popEvent u else d.plainWrite r u n k v)
  else d.plainWrite r u n k v

/-- R661: an access to a CSR of a Peck wakes it from Idle. -/
def Dev.wakeFor (d : Dev) (lvl x : Nat) : Dev := if lvl = 0 then d.wake (x / 2 ^ 25) else d

/-- R62: an internal CSR read: its status, the word, and the state after it. -/
def Dev.csrRead (d : Dev) (f : Fuses) (lvl x : Nat) : Status × Nat × Dev :=
  match d.csrStatus lvl x with
  | .ok =>
    let d1 := d.wakeFor lvl x
    (match regAt lvl (csrAlias lvl x) with
      | some (r, u, n, k) =>
        let (v, d2) := d1.regRead f r u n k
        (.ok, v, d2)
      | none => (.ok, 0, d1))
  | st => (st, 0, d)

/-- R62, R567, R699: an internal CSR write: its status and the state after it. The window registers are written through CSR_WRITE
only (`command`). -/
def Dev.csrWrite (d : Dev) (f : Fuses) (command : Bool) (lvl x v : Nat) : Status × Dev :=
  match d.csrStatus lvl x with
  | .ok =>
    let d1 := d.wakeFor lvl x
    (match regAt lvl (csrAlias lvl x) with
      | some (r, u, n, k) =>
        if r.is SEC_FMKEY_HASH && d.on SEC_FMKEY_CTRL_LOCK 0 then (.notPermitted, d)
        else if r.is PCI_WIN_BASE_LO || r.is PCI_WIN_BASE_HI then
          (.ok, if command then d1.windowBaseWrite n (r.is PCI_WIN_BASE_HI) v else d1)
        else (.ok, d1.regWrite f r u n k v)
      | none => (.ok, d1))
  | st => (st, d)

/-! ### CSR_READ, CSR_WRITE, CSR_DUMP (R540 to R542) -/

/-- R540: reads in turn, up to the first that fails. -/
def Dev.csrReads (d : Dev) (f : Fuses) (lvl x n : Nat) : Status × List Nat × Dev :=
  match n with
  | 0 => (.ok, [], d)
  | n + 1 =>
    match d.csrRead f lvl x with
    | (.ok, v, d1) =>
      let (st, vs, d2) := Dev.csrReads d1 f lvl ((x + 4) % 2 ^ 32) n
      (st, v :: vs, d2)
    | (st, _, d1) => (st, List.replicate (n + 1) 0, d1)

/-- R540: CSR_READ. -/
def Dev.csrReadCmd (d : Dev) (f : Fuses) (c s : Nat) : Reply × Dev :=
  let n := bits (d.cmd c s 2) 19 16
  if !d.argsClean c s [mWord, 0xF0003] || decide (14 < n) then (.st .badArg, d)
  else if n = 0 then (.st .okZeroWork, d)
  else
    let (st, vs, d1) := d.csrReads f (bits (d.cmd c s 2) 1 0) (d.cmd c s 1) n
    (.done st (0 :: vs), d1)

/-- R541: CSR_WRITE. -/
def Dev.csrWriteCmd (d : Dev) (f : Fuses) (c s : Nat) : Reply × Dev :=
  if !d.argsClean c s [mWord, 3, mWord] then (.st .badArg, d)
  else
    let (st, d1) := d.csrWrite f true (bits (d.cmd c s 2) 1 0) (d.cmd c s 1) (d.cmd c s 3)
    (.st st, d1)

/-- R542: reads in turn, all of them; the status of the first that fails. -/
def Dev.csrDumps (d : Dev) (f : Fuses) (lvl x n : Nat) : Status × List Nat × Dev :=
  match n with
  | 0 => (.ok, [], d)
  | n + 1 =>
    let (st, v, d1) := d.csrRead f lvl x
    let (st2, vs, d2) := Dev.csrDumps d1 f lvl ((x + 4) % 2 ^ 32) n
    (if st = .ok then st2 else st, v :: vs, d2)

/-- R542: CSR_DUMP. -/
def Dev.csrDumpCmd (d : Dev) (f : Fuses) (c s : Nat) : Reply × Dev :=
  let n := bits (d.cmd c s 3) 14 0
  if !d.argsClean c s [mWord, 3, 0x7FFF] || decide (16384 < n) then (.st .badArg, d)
  else if n = 0 then (.st .okZeroWork, d)
  else if d.windowOpen c then (.st .busy, d)
  else
    let (st, vs, d1) := d.csrDumps f (bits (d.cmd c s 2) 1 0) (d.cmd c s 1) n
    d1.deliverWindow c s vs st [n]

/-! ### MSI-X (R556, R564) -/

/-- R564: messages that were pending and are masked no longer are sent. -/
def Dev.sendPending (d : Dev) (c : Nat) : Dev :=
  let x := d.ctx c
  if x.functionMask then d
  else
    let go := x.pba.filter (fun v => x.unmasked.contains v)
    go.foldl (fun (d : Dev) v => d.msix c v) (d.modCtx c (fun x => { x with pba := x.pba.filter (fun v => !x.unmasked.contains v) }))

/-- The mask bit of a vector is cleared, or with no vector the Function Mask. -/
def Dev.unmask (d : Dev) (c : Nat) (v : Option Nat) : Dev :=
  (d.modCtx c (fun x => match v with
    | some v => { x with unmasked := if x.unmasked.contains v then x.unmasked else x.unmasked ++ [v] }
    | none => { x with functionMask := false })).sendPending c

/-- The mask bit of a vector is set, or with no vector the Function Mask. -/
def Dev.mask (d : Dev) (c : Nat) (v : Option Nat) : Dev :=
  d.modCtx c (fun x => match v with
    | some v => { x with unmasked := x.unmasked.filter (· != v) }
    | none => { x with functionMask := true })

/-- MSIX_VECTOR_UNMASK: the host clears a mask. -/
def Dev.unmaskRow (d : Dev) (c : Nat) (v : Option Nat) : Dev := if d.answers c then d.unmask c v else d

/-- A word of the MSI-X table. -/
def Dev.msixRead (d : Dev) (c o : Nat) : Nat :=
  let x := d.ctx c
  if o / 4 % 4 = 3 then b2n (!x.unmasked.contains (o / 16)) else Tbl.get 0 x.msixTable (o / 4)

/-- A write of a word of the MSI-X table. -/
def Dev.msixWrite (d : Dev) (c o v : Nat) : Dev :=
  if o / 4 % 4 = 3 then (if bit v 0 then d.mask c (some (o / 16)) else d.unmask c (some (o / 16)))
  else d.modCtx c (fun x => { x with msixTable := Tbl.set 0 x.msixTable (o / 4) v })

/-! ### BAR0 (R556 to R559) -/

/-- R559: an access through the debug aperture at an offset: a read, or a write of a word. -/
def Dev.aperture (d : Dev) (f : Fuses) (c o : Nat) (write : Option Nat) : Nat × Dev :=
  if c ≠ 0 ∨ d.on SEC_STATUS_UNLOCKED 0 = false ∨ bit (d.rd SEC_STATUS_SCOPE 0) 0 = false then
    (0, d.wr PCI_DBG_SEL_STATUS 0 0 0 Status.notPermitted.code)
  else
    let lvl := d.rd PCI_DBG_SEL_LVL 0
    let x := d.rd PCI_DBG_SEL_ADDR_HI 0 * 2 ^ 16 + o
    match write with
    | some v =>
      let (st, d1) := d.csrWrite f false lvl x v
      (0, d1.wr PCI_DBG_SEL_STATUS 0 0 0 st.code)
    | none =>
      let (st, v, d1) := d.csrRead f lvl x
      (v, d1.wr PCI_DBG_SEL_STATUS 0 0 0 st.code)

/-- The range of BAR0 an offset lies in. -/
def inRange (o lo n : Nat) : Bool := decide (lo ≤ o) && decide (o < lo + n)

/-- One 4-byte read of BAR0. -/
def Dev.bar0Read4 (d : Dev) (f : Fuses) (c o : Nat) : Nat × Dev :=
  if inRange o 0x10000 1024 then (d.msixRead c (o - 0x10000), d)
  else if inRange o 0x18000 8 then
    (((d.ctx c).pba.filter (fun v => v / 32 == (o - 0x18000) / 4)).foldl (fun w v => w + 2 ^ (v % 32)) 0, d)
  else if inRange o 0x810000 0x10000 then d.aperture f c (o - 0x810000) none
  else if c ≠ 0 ∧ 0x800000 ≤ o then (0, d)
  else
    match regAt 4 (c * 2 ^ 24 + o) with
    | some (r, u, n, k) => d.regRead f r u n k
    | none => (0, d)

/-- One 4-byte write of BAR0. -/
def Dev.bar0Write4 (d : Dev) (f : Fuses) (c o v : Nat) : Dev :=
  if inRange o 0x10000 1024 then d.msixWrite c (o - 0x10000) v
  else if inRange o 0x810000 0x10000 then (d.aperture f c (o - 0x810000) (some v)).2
  else if c ≠ 0 ∧ 0x800000 ≤ o then d
  else
    match regAt 4 (c * 2 ^ 24 + o) with
    | some (r, u, n, k) => d.regWrite f r u n k v
    | none => d

/-- Data of a read, or its Unsupported Request, goes to the host; the latter is counted. -/
def Dev.hostData (d : Dev) (c : Nat) (data : Option (List Nat)) : Dev :=
  let d1 := if data.isNone then d.count PCI_UR_CNT_COUNT 0 0 else d
  { d1 with out := d1.out ++ [.readData c data] }

/-- R557: a read of BAR0 of some size. -/
def Dev.bar0Read (d : Dev) (f : Fuses) (c o size : Nat) : Dev :=
  if d.answers c = false ∨ 2 ^ 24 ≤ o then d
  else if size = 4 ∧ o % 4 = 0 then
    let (v, d1) := d.bar0Read4 f c o
    d1.hostData c (some (leBytes 4 v))
  else if size = 8 ∧ o % 8 = 0 then
    let (v, d1) := d.bar0Read4 f c o
    let (w, d2) := d1.bar0Read4 f c (o + 4)
    d2.hostData c (some (leBytes 4 v ++ leBytes 4 w))
  else d.hostData c none

/-- R555, R557: a write of BAR0 of some size; a poisoned one is discarded. -/
def Dev.bar0Write (d : Dev) (f : Fuses) (c o size v : Nat) (poisoned : Bool) : Dev :=
  if d.answers c = false ∨ poisoned = true ∨ 2 ^ 24 ≤ o then d
  else if size = 4 ∧ o % 4 = 0 then d.bar0Write4 f c o (v % 2 ^ 32)
  else if size = 8 ∧ o % 8 = 0 then (d.bar0Write4 f c o (v % 2 ^ 32)).bar0Write4 f c (o + 4) (v / 2 ^ 32 % 2 ^ 32)
  else d.count PCI_UR_CNT_COUNT 0 0

/-! ### Configuration space (R551, R552) -/

/-- A register of a function's configuration space. -/
def Dev.cfgRead (d : Dev) (c : Nat) : CfgReg → Nat
  | .vendorId => 0x1FD2
  | .deviceId => if c = 0 then 0x1024 else 0x1025
  | .revisionId => 0x10
  | .classCode => 0x120000
  | .subsystem => 0x60481FD2
  | .headerType => 0
  | .interruptPin => 0
  | .busMaster => b2n (d.ctx c).busMaster
  | .functionMask => b2n (d.ctx c).functionMask
  | .bar2Size => if c = 0 then d.bar2Pf else d.bar2Vf

/-- A write of a register of a function's configuration space. -/
def Dev.cfgWrite (d : Dev) (c : Nat) (r : CfgReg) (v : Nat) : Dev :=
  match r with
  | .busMaster => d.modCtx c (fun x => { x with busMaster := bit v 0 })
  | .functionMask => if bit v 0 then d.mask c none else d.unmask c none
  | .bar2Size => if c = 0 then (if v ≤ 9 then { d with bar2Pf := v } else d) else if v ≤ 5 then { d with bar2Vf := v } else d
  | _ => d

/-- RC_FIELD_READ, and every read of a register: by the host, or by the management processor (`csr`), whose own use of the word is
none of the block's state. -/
def Dev.readPlace (d : Dev) (f : Fuses) (p : RegPlace) (size : Nat) : Dev :=
  match p with
  | .bar0 c o => d.bar0Read f c.val o size
  | .csr lvl x => if d.mpState = 0 then (d.csrRead f lvl.val (x % 2 ^ 32)).2.2 else d
  | .config c r => if d.answers c.val then d.hostData c.val (some (leBytes 4 (d.cfgRead c.val r))) else d

/-- REGISTER_WRITE. -/
def Dev.writePlace (d : Dev) (f : Fuses) (p : RegPlace) (size v : Nat) (poisoned : Bool) : Dev :=
  match p with
  | .bar0 c o => d.bar0Write f c.val o size v poisoned
  | .csr lvl x => if d.mpState = 0 then (d.csrWrite f false lvl.val (x % 2 ^ 32) (v % 2 ^ 32)).2 else d
  | .config c r => if d.answers c.val then d.cfgWrite c.val r v else d

/-- LOG_TIME_LO_READ: the LOG_ register, or the copy in a function's BAR0; an 8-byte read takes both halves (R524, R557). -/
def Dev.readTime (d : Dev) (f : Fuses) (bar0 : Option (Fin 16)) (wide : Bool) : Dev :=
  match bar0 with
  | some c => d.bar0Read f c.val 0x3000 (if wide then 8 else 4)
  | none => (d.regRead f LOG_TIME_LO 0 0 0).2

/-! ### BAR2 (R554, R555, R560 to R562, R694) -/

/-- Every byte of a range lies in a region of a context's memory map. -/
def Dev.mapCovers (d : Dev) (c a n : Nat) : Bool :=
  (List.range n).all (fun i => (d.ctx c).map.any (fun r => decide (r.addr ≤ a + i) && decide (a + i < r.addr + r.size)))

/-- PCI_WIN_BASEn as an address. -/
def Dev.windowBase (d : Dev) (c : Nat) : Nat := d.rd PCI_WIN_BASE_LO_BASE 0 c * 2 ^ 21 + d.rd PCI_WIN_BASE_HI_BASE 0 c * 2 ^ 32

/-- R560, R561: a request of `n` bytes at a BAR2 offset of a function: a write of its data, or a read. One that came over an IDE stream
in the Insecure state is discarded, a poisoned write too. -/
def Dev.bar2Request (d : Dev) (c o n : Nat) (data : Option (List Nat)) (poisoned : Bool) (stream : Option (Fin 4)) : Dev :=
  let a := d.windowBase c + o
  if d.answers c = false ∨ d.life = .recovery ∨ 2 ^ (30 + if c = 0 then d.bar2Pf else d.bar2Vf) < o + n then d
  else if stream.any (fun s => d.ideInsecure.contains s.val) then d
  else if data.isSome && poisoned then d
  else if deviceMemory < a + n ∨ (c ≠ 0 ∧ d.mapCovers c a n = false) then
    (if data.isSome then d.count PCI_UR_CNT_COUNT 0 0 else d.hostData c none)
  else
    match data with
    | some bs => d.setBytes (devCell a) (bs.take n)
    | none => d.hostData c (some (d.bytes (devCell a) n))

/-! ### Functions (R549, R550) -/

/-- The configuration of a VF that ceases to exist, or is reset, is that of reset. -/
def Dev.vfEnds (d : Dev) (c source : Nat) : Dev := (d.contextReset c source).configReset c

/-- VF contexts from `lo` up to `hi`, reset in ascending order. -/
def Dev.vfsEnd (d : Dev) (lo hi source : Nat) : Dev :=
  ((List.range 16).filter (fun c => decide (lo ≤ c) && decide (c ≤ hi))).foldl (fun (d : Dev) c => d.vfEnds c source) d

/-- The link is up and configuration requests reach the functions. -/
def Dev.configUp (d : Dev) : Bool := d.answers 0

/-- VF_ENABLE_SET: VF Enable with NumVFs; contexts above a lowered NumVFs are reset. -/
def Dev.vfEnableSet (d : Dev) (n : Nat) : Dev :=
  if d.configUp then
    let d1 := if d.vfEnable then d.vfsEnd (n + 1) d.numVFs 0x12 else d
    { d1 with vfEnable := true, numVFs := n }
  else d

/-- VF_ENABLE_CLEAR: every VF's context is reset before VF Enable reads as 0. -/
def Dev.vfEnableClear (d : Dev) : Dev :=
  if d.configUp && d.vfEnable then { d.vfsEnd 1 d.numVFs 0x12 with vfEnable := false } else d

/-- R550: a Function Level Reset. That of PF0 clears VF Enable first. -/
def Dev.flr (d : Dev) (c : Nat) : Dev :=
  if d.answers c then
    let d1 := if c = 0 then d.vfEnableClear else d
    (d1.contextReset c 0x10).configReset c
  else d

/-! ### Completions of reads of host memory (R365, R555) -/

/-- A read of host memory failed: a stream fault with a cause. -/
def Dev.hostReadFails (d : Dev) (tag : Nat) (cause : Status) : Dev :=
  match Tbl.find d.hostReads tag with
  | none => d
  | some (i, u) =>
    (({ d with hostReads := Tbl.del d.hostReads tag }.chainAnswered i u).modTask i (fun t =>
      if t.faultCause.isSome || t.ending.isSome then t else { t with faultCause := some cause }))

/-- A completion: data, or none for Unsupported Request, Completer Abort and poison, which are one fault. -/
def Dev.hostReadDone (d : Dev) (tag : Nat) (data : Option (List Nat)) : Dev :=
  match data, Tbl.find d.hostReads tag with
  | some bs, some (i, u) => { d with hostReads := Tbl.del d.hostReads tag }.chainData i u 0 bs
  | none, some _ => d.hostReadFails tag .notPermitted
  | _, none => d

end Sys2Proof.Machine
end

