-- ==== Sys2Proof/Machine/Events.lean ====
section
/-! DEFINITION. Small operations behind single rows of the opcode table: actions that wait for firmware (R504), writes of one
named register, deliveries of a packet by its type, and events that are due at a count or a time. -/
namespace Sys2Proof.Machine

/-- R504: an action of firmware: while the MP restarts, and before RUN acknowledgement, it waits. -/
def Dev.byFirmware (d : Dev) (act : Dev → Dev) : Dev := if d.firmware then act d else d

/-- R62: a direct write of a register by its unit and number: an access at its internal CSR address. -/
def Dev.trigger (d : Dev) (f : Fuses) (r : Reg) (u n v : Nat) : Dev :=
  let x := r.key u n 0 % 2 ^ 40
  if d.csrStatus r.scope.lvl x = .ok then (d.wakeFor r.scope.lvl x).regWrite f r u n 0 v else d

/-- R559: an access in the debug aperture of a function's BAR0: a read, or a write of a word. -/
def Dev.apertureAccess (d : Dev) (f : Fuses) (c o : Nat) (write : Option Nat) : Dev :=
  match write with
  | none => d.bar0Read f c (0x810000 + o) 4
  | some v => d.bar0Write f c (0x810000 + o) 4 v false

/-- R347: a ready task starts at home. -/
def Dev.taskStart (d : Dev) (i : Nat) : Dev :=
  match d.task i with
  | some t => d.startTask i t.home false
  | none => d

/-- R140: 1,024 read cycles since the last publication. -/
def Dev.ratioDue (d : Dev) (a : Nat) : Dev := if 1024 ≤ (d.arr a).refCycles then d.publishRatios a else d

/-- R243: every 10 minutes, or once the life counts of an array have grown by 60 steps since the last flush. -/
def Dev.flushDue (d : Dev) : Dev :=
  d.byFirmware (fun d =>
    if d.lastFlush + 600000000000 ≤ d.time ∨ d.arrays.any (fun e => decide (60 ≤ e.2.lifeGrowth)) = true then d.flushMeta else d)

/-- R194: a reference that has been switched settles, in Standby too (R662); in a gated Bushel none does. -/
def Dev.refSettled (d : Dev) (b : Nat) : Dev :=
  if d.gated b = false ∧ decide (d.powerState ≤ 1) = true ∧ d.held = false ∧ bit d.railsOn b = true then
    d.wr CNV_REF_STATUS_SETTLED b 0 0 1
  else d

/-- R138: firmware rebuilds the checksum correction table of a bound array that has lost it, and logs that it did. Through an
island without clock-good nothing starts (R67). An attempt still in PROGRAMMING has its table to come (R221). -/
def Dev.tableRebuild (d : Dev) (a : Nat) : Dev :=
  let p := peckOf a
  if d.unbound a = false ∧ d.arrState a ≠ PROGRAMMING ∧ d.clockGood p = true
      ∧ d.on ARR_CHK_STATUS_CHK_READY (grainOf a) (slotOf a) = false then
    let d1 := d.rebuildTable a
    -- R230: an abandoned verification runs again from its start
    if d1.on ARR_CHK_STATUS_CHK_READY (grainOf a) (slotOf a) = false then d
    else if d.arrState a = VERIFYING then d1.showEngine a (d.arr a).attempt 3 1023 else d1
  else d

/-- R226, R504: the drain of an array completes; a program that it starts waits for firmware, a retirement does not. -/
def Dev.drainRow (d : Dev) (a : Nat) : Dev :=
  if d.firmware || (d.arr a).pendingRetire.isSome then d.drainComplete a else d

/-- R503: the watchdog expires, 200 ms after firmware last kicked it. DESIGN CHOICE (log entry 125): the kicks that the model holds are those
of a start, of RUN acknowledgement and of a restart. -/
def Dev.watchdogExpires (d : Dev) : Dev := if d.mpKicked + 200000000 ≤ d.time then d.mpRestart 1 else d

/-- R506, R499: the restart of the MP is complete. A REC_RESTORE in progress ended with its command. -/
def Dev.mpReturns (d : Dev) (f : Fuses) : Dev :=
  if d.mpDown then
    let d1 := d.mpServes f
    if d1.mpDown then d1 else { d1 with restore := none, mpKicked := d.time }
  else d

/-- An accepted packet of one type. -/
def isType (t : Nat) (p : Packet) : Bool := p.typ == t

/-- An accepted SYNC_OP packet with one OP (R592). -/
def isSyncOp (op : Nat) (p : Packet) : Bool := p.typ == tySync && p.op == op

/-- EXCH packets by their message type: 3 is a working copy, every other a contribution (R414). -/
def isWorkingCopy (p : Packet) : Bool := p.typ == tyExch && nth p.body 0 == 3
def isContribution (p : Packet) : Bool := p.typ == tyExch && nth p.body 0 != 3

/-- R389: an outcome: of a barrier homed here, or by a packet of a partner's hub. -/
def Dev.outcomeRow (d : Dev) (message : Option (Fin 8 × Packet)) : Dev :=
  match message with
  | none => d.barrierOutcome none
  | some (port, p) => d.accepted_ port.val p .other (isSyncOp 6)

end Sys2Proof.Machine
end

