-- ==== Sys2Proof/Machine/ArrayEvents.lean ====
section
/-! DEFINITION. Arrays: decisions, programming, calibration, references, monitors (05 to 07). -/
namespace Sys2Proof.Machine

/-- RESIDUAL_DECISION_START (R267). -/
def execResidualDecisionStart (array : Fin 16384) (s : State) : Host.Outcome State Fault Refusal :=
  s.to (s.dev.byFirmware (fun d => d.decisionStart array.val))

/-- RESIDUAL_DECISION_COMPLETE (R263). -/
def execResidualDecisionComplete (array : Fin 16384) (s : State) : Host.Outcome State Fault Refusal :=
  s.to (s.dev.decisionComplete array.val)

/-- PROGRAM_SELECT (R240). -/
def execProgramSelect (s : State) : Host.Outcome State Fault Refusal :=
  s.to (s.dev.byFirmware Dev.select)

/-- DRAIN_COMPLETE (R226). -/
def execDrainComplete (array : Fin 16384) (s : State) : Host.Outcome State Fault Refusal :=
  s.to (s.dev.drainRow array.val)

/-- PROGRAM_ROW (R219). -/
def execProgramRow (array : Fin 16384) (reads : List (List (List Int))) (s : State) : Host.Outcome State Fault Refusal :=
  s.to (s.dev.programRow array.val reads)

/-- VERIFICATION_COMPLETE (R222). -/
def execVerificationComplete (array : Fin 16384) (cycles : List (List Rat)) (results : List (BitVec 32)) (s : State) : Host.Outcome State Fault Refusal :=
  s.to (s.dev.verificationComplete array.val cycles (results.map BitVec.toNat))

/-- ATTEMPT_RESTART (R226). -/
def execAttemptRestart (array : Fin 16384) (s : State) : Host.Outcome State Fault Refusal :=
  s.to (s.dev.byFirmware (fun d => d.restartAttempt array.val))

/-- CHECKSUM_TABLE_REBUILD (R138). -/
def execChecksumTableRebuild (array : Fin 16384) (s : State) : Host.Outcome State Fault Refusal :=
  s.to (s.dev.byFirmware (fun d => d.tableRebuild array.val))

/-- BRANCH_FAULT (R216). -/
def execBranchFault (bushel : Fin 16) (sample : BranchSample) (s : State) : Host.Outcome State Fault Refusal :=
  s.to (s.dev.branchReading bushel.val sample.milliamps sample.millivolts sample.pulsing sample.micros)

/-- METADATA_FLUSH (R243). -/
def execMetadataFlush (s : State) : Host.Outcome State Fault Refusal :=
  s.to (s.dev.flushDue)

/-- CALIBRATION_DWELL (R188). -/
def execCalibrationDwell (array : Fin 16384) (gains : List Int) (offsets : List Int) (s : State) : Host.Outcome State Fault Refusal :=
  s.to (s.dev.dwell array.val gains offsets)

/-- CALIBRATION_CHECK (R190). -/
def execCalibrationCheck (array : Fin 16384) (s : State) : Host.Outcome State Fault Refusal :=
  s.to (s.dev.dwellCheck array.val)

/-- REFERENCE_SETTLED (R194). -/
def execReferenceSettled (bushel : Fin 16) (s : State) : Host.Outcome State Fault Refusal :=
  s.to (s.dev.refSettled bushel.val)

/-- EXT_REF_FAULT (R195). -/
def execExtRefFault (bushel : Fin 16) (millivolts : Nat) (s : State) : Host.Outcome State Fault Refusal :=
  s.to (s.dev.extRef bushel.val millivolts)

/-- MONITOR_READING (R204). -/
def execMonitorReading (bushel : Fin 16) (entry : Fin 512) (array : Fin 16) (sample : MonSample) (s : State) : Host.Outcome State Fault Refusal :=
  s.to (s.dev.monReading bushel.val entry.val array.val sample.codes (sample.readings.map BitVec.toNat))

/-- MONITOR_PASS_END (R205). -/
def execMonitorPassEnd (bushel : Fin 16) (deviation : Int) (s : State) : Host.Outcome State Fault Refusal :=
  s.to (s.dev.monPassEnd bushel.val deviation)

end Sys2Proof.Machine
end

