-- ==== Sys2Proof/Machine/FabricEvents.lean ====
section
/-! DEFINITION. Furlong ports and packets (17). -/
namespace Sys2Proof.Machine

/-- PORT_RETRY (R597). -/
def execPortRetry (port : Fin 8) (s : State) : Host.Outcome State Fault Refusal :=
  s.to (s.dev.portRetry port.val)

/-- DETECT_COMPLETE (R571). -/
def execDetectComplete (port : Fin 8) (opens : Fin 16) (shorts : Fin 16) (s : State) : Host.Outcome State Fault Refusal :=
  s.to (s.dev.detectComplete port.val opens.val shorts.val)

/-- TRAIN_COMPLETE (R597). -/
def execTrainComplete (port : Fin 8) (polarity : Fin 16) (logical : List (Fin 4)) (s : State) : Host.Outcome State Fault Refusal :=
  s.to (s.dev.trainComplete port.val polarity.val (logical.map Fin.val))

/-- TRAIN_TMO (R597). -/
def execTrainTmo (port : Fin 8) (s : State) : Host.Outcome State Fault Refusal :=
  s.to (s.dev.portTimeout port.val pTrain 500 0x04)

/-- IDENTIFY_FLIT_RECEIVED (R598). -/
def execIdentifyFlitReceived (port : Fin 8) (theirPort : Fin 8) (node : Fin 4096) (valid : Bool) (version : BitVec 32) (identity : BitVec 256) (s : State) : Host.Outcome State Fault Refusal :=
  s.to (s.dev.identifyFlit port.val theirPort.val node.val valid version.toNat identity.toNat)

/-- ID_TMO (R597). -/
def execIdTmo (port : Fin 8) (s : State) : Host.Outcome State Fault Refusal :=
  s.to (s.dev.portTimeout port.val pIdentify 10 0x05)

/-- ATTEST_MESSAGE_RECEIVED (R599). Bytes 10-11, which the sender leaves zero, are read by nothing (log entry 67). -/
def execAttestMessageReceived (port : Fin 8) (msg : BitVec 8) (index : BitVec 16) (count : BitVec 16) (length : BitVec 32) (_zeros : BitVec 16) (bytes : List Byte) (s : State) : Host.Outcome State Fault Refusal :=
  s.to (s.dev.attestFlit port.val msg.toNat index.toNat count.toNat length.toNat (bytes.map BitVec.toNat))

/-- ATTEST_TMO (R597). -/
def execAttestTmo (port : Fin 8) (s : State) : Host.Outcome State Fault Refusal :=
  s.to (s.dev.portTimeout port.val pAttest 50 0x09)

/-- LANE_LOCK_LOST (R597). -/
def execLaneLockLost (port : Fin 8) (lanes : Fin 16) (s : State) : Host.Outcome State Fault Refusal :=
  s.to (s.dev.lockLost port.val lanes.val)

/-- LINK_FLIT_RECEIVED (R575). -/
def execLinkFlitReceived (port : Fin 8) (ack : BitVec 24) (flags : BitVec 8) (epochSeq : BitVec 24) (credits : List (BitVec 12)) (tagHolds : Bool) (s : State) : Host.Outcome State Fault Refusal :=
  s.to (s.dev.linkArrives port.val ack.toNat flags.toNat epochSeq.toNat (credits.map BitVec.toNat) tagHolds)

/-- LINK_FLIT_SEND (R575). -/
def execLinkFlitSend (port : Fin 8) (s : State) : Host.Outcome State Fault Refusal :=
  s.to (s.dev.linkFlitSend port.val)

/-- KEY_EPOCH_CHANGE (R578). -/
def execKeyEpochChange (port : Fin 8) (s : State) : Host.Outcome State Fault Refusal :=
  s.to (s.dev.keyEpochChange port.val)

/-- HEAD_PACKET_RECEIVED (R579). -/
def execHeadPacketReceived (port : Fin 8) (seq : BitVec 24) (uncorrectable : Nat) (corrected : Nat) (tagHolds : Bool) (dflits : BitVec 8) (p : Packet) (message : MgmtContent) (s : State) : Host.Outcome State Fault Refusal :=
  s.to (s.dev.headPacket port.val seq.toNat uncorrectable corrected tagHolds dflits.toNat p message)

/-- E2E_TIMEOUT (R588). -/
def execE2eTimeout (ttag : Fin 16384) (s : State) : Host.Outcome State Fault Refusal :=
  s.to (s.dev.e2eTimeout ttag.val)

/-- MEM_WR_RECEIVED (R589). -/
def execMemWrReceived (port : Fin 8) (p : Packet) (s : State) : Host.Outcome State Fault Refusal :=
  s.to (s.dev.accepted_ port.val p .other (isType tyMemWr))

/-- MEM_RD_RECEIVED (R589). -/
def execMemRdReceived (port : Fin 8) (p : Packet) (s : State) : Host.Outcome State Fault Refusal :=
  s.to (s.dev.accepted_ port.val p .other (isType tyMemRd))

/-- MEM_CPL_RECEIVED (R586). -/
def execMemCplReceived (port : Fin 8) (p : Packet) (s : State) : Host.Outcome State Fault Refusal :=
  s.to (s.dev.accepted_ port.val p .other (isType tyMemCpl))

/-- DELIVERY_RECEIVED (R586). -/
def execDeliveryReceived (port : Fin 8) (p : Packet) (s : State) : Host.Outcome State Fault Refusal :=
  s.to (s.dev.accepted_ port.val p .other (isType tyDelivery))

/-- RESET_REQ_RECEIVED (R643). -/
def execResetReqReceived (port : Fin 8) (p : Packet) (s : State) : Host.Outcome State Fault Refusal :=
  s.to (s.dev.accepted_ port.val p .other (isType tyReset))

/-- MGMT_MSG_RECEIVED (R586). -/
def execMgmtMsgReceived (port : Fin 8) (p : Packet) (message : MgmtContent) (s : State) : Host.Outcome State Fault Refusal :=
  s.to (s.dev.accepted_ port.val p message (isType tyMgmt))

/-- SYNC_OP_SIGNAL (R384). -/
def execSyncOpSignal (port : Fin 8) (p : Packet) (s : State) : Host.Outcome State Fault Refusal :=
  s.to (s.dev.accepted_ port.val p .other (isSyncOp 1))

/-- SYNC_OP_WAIT (R384). -/
def execSyncOpWait (port : Fin 8) (p : Packet) (s : State) : Host.Outcome State Fault Refusal :=
  s.to (s.dev.accepted_ port.val p .other (isSyncOp 2))

/-- SYNC_OP_RELEASE (R721). -/
def execSyncOpRelease (port : Fin 8) (p : Packet) (s : State) : Host.Outcome State Fault Refusal :=
  s.to (s.dev.accepted_ port.val p .other (isSyncOp 3))

/-- SYNC_OP_WITHDRAW (R374). -/
def execSyncOpWithdraw (port : Fin 8) (p : Packet) (s : State) : Host.Outcome State Fault Refusal :=
  s.to (s.dev.accepted_ port.val p .other (isSyncOp 4))

/-- MAP_PROBE (R397). -/
def execMapProbe (port : Fin 8) (p : Packet) (s : State) : Host.Outcome State Fault Refusal :=
  s.to (s.dev.accepted_ port.val p .other (isSyncOp 7))

/-- PROBE_REPLY (R397). -/
def execProbeReply (port : Fin 8) (p : Packet) (s : State) : Host.Outcome State Fault Refusal :=
  s.to (s.dev.accepted_ port.val p .other (isSyncOp 8))

/-- DELIVERY_PAIRS_DUE (R589). -/
def execDeliveryPairsDue (s : State) : Host.Outcome State Fault Refusal :=
  s.to (s.dev.pairsDue)

end Sys2Proof.Machine
end

