-- ==== Sys2Proof/Machine/FaultEvents.lean ====
section
/-! DEFINITION. Faults and their recovery, power and temperature (14, 18, 19). -/
namespace Sys2Proof.Machine

/-- FAULT_DETECTED (R468). -/
def execFaultDetected (source : Fin 256) (unit : Fin 256) (code : BitVec 16) (s : State) : Host.Outcome State Fault Refusal :=
  s.to (s.dev.faultDetected source.val unit.val code.toNat)

/-- CORRECTABLE_ERROR (R470). -/
def execCorrectableError (source : Fin 256) (unit : Fin 256) (code : BitVec 16) (s : State) : Host.Outcome State Fault Refusal :=
  s.to (s.dev.correctable source.val unit.val code.toNat)

/-- HBM_UNCORRECTABLE (R469). -/
def execHbmUncorrectable (stack : Fin 6) (address : Nat) (reader : HbmReader) (s : State) : Host.Outcome State Fault Refusal :=
  s.to (s.dev.hbmUncorrectable (hbmAddress stack.val address) reader)

/-- BLOCK_RESET (R471). -/
def execBlockReset (unit : Fin 137) (s : State) : Host.Outcome State Fault Refusal :=
  s.to (s.dev.blockReset unit.val 0x21)

/-- BLOCK_RESET_RELEASE (R474). -/
def execBlockResetRelease (unit : Fin 137) (s : State) : Host.Outcome State Fault Refusal :=
  s.to (s.dev.release_ unit.val)

/-- DEVICE_LOST (R477). -/
def execDeviceLost (source : Fin 256) (s : State) : Host.Outcome State Fault Refusal :=
  s.to (s.dev.lostSource source.val)

/-- RAIL_FAULT (R613). -/
def execRailFault (rail : Fin 32) (cause : Fin 4) (s : State) : Host.Outcome State Fault Refusal :=
  s.to (s.dev.railFault rail.val cause.val)

/-- VCORE_RESTART (R614). -/
def execVcoreRestart (bushel : Fin 16) (s : State) : Host.Outcome State Fault Refusal :=
  s.to (s.dev.vcoreRestart bushel.val)

/-- VPRG_RESTART (R615). -/
def execVprgRestart (s : State) : Host.Outcome State Fault Refusal :=
  s.to (s.dev.vprgRestart)

/-- SENSE_LOST (R611). -/
def execSenseLost (rail : Fin 32) (s : State) : Host.Outcome State Fault Refusal :=
  s.to (s.dev.senseLost rail.val)

/-- PHASE_SHED (R612). -/
def execPhaseShed (rail : Fin 32) (phase : Fin 16) (s : State) : Host.Outcome State Fault Refusal :=
  s.to (s.dev.phaseShed rail.val phase.val)

/-- INPUT_FAULT (R619). -/
def execInputFault (cause : Fin 4) (s : State) : Host.Outcome State Fault Refusal :=
  s.to (s.dev.inputFault cause.val)

/-- INPUT_RESTORED (R666). -/
def execInputRestored (s : State) : Host.Outcome State Fault Refusal :=
  s.to (s.dev.inputRestored)

/-- PEAK_POWER (R624). -/
def execPeakPower (s : State) : Host.Outcome State Fault Refusal :=
  s.to (s.dev.peakPower)

/-- POWER_EVALUATION (R622). -/
def execPowerEvaluation (mean : BitVec 16) (volt : BitVec 16) (current : BitVec 16) (s : State) : Host.Outcome State Fault Refusal :=
  s.to (s.dev.powerEvaluation mean.toNat volt.toNat current.toNat)

/-- AVS_STEP (R626). -/
def execAvsStep (bushel : Fin 16) (up : Bool) (measured : BitVec 16) (s : State) : Host.Outcome State Fault Refusal :=
  s.to (s.dev.avsStep bushel.val up measured.toNat)

/-- REFCLK_LOST (R628). -/
def execRefclkLost (ppm : Int) (s : State) : Host.Outcome State Fault Refusal :=
  s.to (s.dev.refclkMeasured ppm)

/-- THERMAL_THROTTLE (R632). -/
def execThermalThrottle (bushel : Fin 16) (reading : Int) (held : Bool) (s : State) : Host.Outcome State Fault Refusal :=
  s.to (s.dev.thermalThrottle bushel.val reading held)

/-- HBM_LEVEL_CHANGE (R633). -/
def execHbmLevelChange (reading : Int) (held : Bool) (s : State) : Host.Outcome State Fault Refusal :=
  s.to (s.dev.hbmLevel reading held)

/-- THERMAL_TRIP (R634). -/
def execThermalTrip (unit : Fin 32) (reading : Int) (s : State) : Host.Outcome State Fault Refusal :=
  s.to (s.dev.thermalTrip unit.val reading)

/-- PECK_IDLE_ENTRY (R661). -/
def execPeckIdleEntry (peck : Fin 128) (s : State) : Host.Outcome State Fault Refusal :=
  s.to (s.dev.idleEntry peck.val)

/-- PECK_IDLE_EXIT (R661). -/
def execPeckIdleExit (peck : Fin 128) (s : State) : Host.Outcome State Fault Refusal :=
  s.to (s.dev.wake peck.val)

/-- POWER_DOWN_RAIL_STOP (R665). -/
def execPowerDownRailStop (s : State) : Host.Outcome State Fault Refusal :=
  s.to (s.dev.railStop)

/-- PROGRAMMING_INHIBIT (R617). -/
def execProgrammingInhibit (unit : Fin 20) (outside : Bool) (s : State) : Host.Outcome State Fault Refusal :=
  s.to (s.dev.inhibit unit.val outside)

end Sys2Proof.Machine
end

