-- ==== Sys2Proof/Machine/HostCommands.lean ====
section
/-! DEFINITION. The commands of the mailbox (15): the management processor serves an ACCEPTED command of a slot. Each meaning is the shared wrapper `Dev.serveOp` over the command itself. -/
namespace Sys2Proof.Machine

/-- IDENTIFY (R532). -/
def execIdentify (ctx : Fin 16) (slot : Fin 8) (s : State) : Host.Outcome State Fault Refusal :=
  s.to (s.dev.serveOp ctx.val slot.val 0x00 (fun d => d.identify ctx.val slot.val))

/-- CAPABILITIES (R533). -/
def execCapabilities (ctx : Fin 16) (slot : Fin 8) (s : State) : Host.Outcome State Fault Refusal :=
  s.to (s.dev.serveOp ctx.val slot.val 0x01 (fun d => d.capabilities ctx.val slot.val))

/-- MEM_ALLOC (R534). -/
def execMemAlloc (ctx : Fin 16) (slot : Fin 8) (s : State) : Host.Outcome State Fault Refusal :=
  s.to (s.dev.serveOp ctx.val slot.val 0x10 (fun d => d.memAlloc ctx.val slot.val))

/-- MEM_FREE (R535). -/
def execMemFree (ctx : Fin 16) (slot : Fin 8) (s : State) : Host.Outcome State Fault Refusal :=
  s.to (s.dev.serveOp ctx.val slot.val 0x11 (fun d => d.memFree ctx.val slot.val))

/-- CTX_INFO (R536). -/
def execCtxInfo (ctx : Fin 16) (slot : Fin 8) (s : State) : Host.Outcome State Fault Refusal :=
  s.to (s.dev.serveOp ctx.val slot.val 0x12 (fun d => d.ctxInfo ctx.val slot.val))

/-- STEP_LOAD (R333). -/
def execStepLoad (ctx : Fin 16) (slot : Fin 8) (s : State) : Host.Outcome State Fault Refusal :=
  s.to (s.dev.serveOp ctx.val slot.val 0x20 (fun d => d.stepLoad ctx.val slot.val))

/-- STEP_SUBMIT (R334). -/
def execStepSubmit (ctx : Fin 16) (slot : Fin 8) (s : State) : Host.Outcome State Fault Refusal :=
  s.to (s.dev.serveOp ctx.val slot.val 0x21 (fun d => d.stepSubmit ctx.val slot.val))

/-- STEP_UNLOAD (R335). -/
def execStepUnload (ctx : Fin 16) (slot : Fin 8) (s : State) : Host.Outcome State Fault Refusal :=
  s.to (s.dev.serveOp ctx.val slot.val 0x22 (fun d => d.stepUnload ctx.val slot.val))

/-- STEP_ABORT (R336). -/
def execStepAbort (ctx : Fin 16) (slot : Fin 8) (s : State) : Host.Outcome State Fault Refusal :=
  s.to (s.dev.serveOp ctx.val slot.val 0x23 (fun d => d.stepAbort ctx.val slot.val))

/-- XCH_LOAD (R434). -/
def execXchLoad (ctx : Fin 16) (slot : Fin 8) (s : State) : Host.Outcome State Fault Refusal :=
  s.to (s.dev.serveOp ctx.val slot.val 0x28 (fun d => d.xchLoad ctx.val slot.val))

/-- XCH_UNLOAD (R435). -/
def execXchUnload (ctx : Fin 16) (slot : Fin 8) (s : State) : Host.Outcome State Fault Refusal :=
  s.to (s.dev.serveOp ctx.val slot.val 0x29 (fun d => d.xchUnload ctx.val slot.val))

/-- UPD_SET (R436). -/
def execUpdSet (ctx : Fin 16) (slot : Fin 8) (s : State) : Host.Outcome State Fault Refusal :=
  s.to (s.dev.serveOp ctx.val slot.val 0x2A (fun d => d.updSet ctx.val slot.val))

/-- WCH_LOAD (R464). -/
def execWchLoad (ctx : Fin 16) (slot : Fin 8) (s : State) : Host.Outcome State Fault Refusal :=
  s.to (s.dev.serveOp ctx.val slot.val 0x2B (fun d => d.wchLoad ctx.val slot.val))

/-- WCH_UNLOAD (R465). -/
def execWchUnload (ctx : Fin 16) (slot : Fin 8) (s : State) : Host.Outcome State Fault Refusal :=
  s.to (s.dev.serveOp ctx.val slot.val 0x2C (fun d => d.wchUnload ctx.val slot.val))

/-- REPLAY_DIAG (R466). -/
def execReplayDiag (ctx : Fin 16) (slot : Fin 8) (s : State) : Host.Outcome State Fault Refusal :=
  s.to (s.dev.serveOp ctx.val slot.val 0x6A (fun d => d.replayDiag ctx.val slot.val))

/-- ARRAY_PROGRAM (R248). -/
def execArrayProgram (ctx : Fin 16) (slot : Fin 8) (s : State) : Host.Outcome State Fault Refusal :=
  s.to (s.dev.serveOp ctx.val slot.val 0x30 (fun d => d.arrayProgram ctx.val slot.val))

/-- ARRAY_BIND (R249). -/
def execArrayBind (ctx : Fin 16) (slot : Fin 8) (s : State) : Host.Outcome State Fault Refusal :=
  s.to (s.dev.serveOp ctx.val slot.val 0x31 (fun d => d.arrayBind ctx.val slot.val))

/-- ARRAY_RETIRE (R250). -/
def execArrayRetire (ctx : Fin 16) (slot : Fin 8) (s : State) : Host.Outcome State Fault Refusal :=
  s.to (s.dev.serveOp ctx.val slot.val 0x32 (fun d => d.arrayRetire ctx.val slot.val))

/-- ARRAY_INFO (R251). -/
def execArrayInfo (ctx : Fin 16) (slot : Fin 8) (s : State) : Host.Outcome State Fault Refusal :=
  s.to (s.dev.serveOp ctx.val slot.val 0x33 (fun d => d.arrayInfo ctx.val slot.val))

/-- HV_BRANCH_RESTORE (R252). -/
def execHvBranchRestore (ctx : Fin 16) (slot : Fin 8) (selfTest : Fin 8) (s : State) : Host.Outcome State Fault Refusal :=
  s.to (s.dev.serveOp ctx.val slot.val 0x34 (fun d => d.branchRestore ctx.val slot.val selfTest.val))

/-- ARRAY_BUDGET_SET (R253). -/
def execArrayBudgetSet (ctx : Fin 16) (slot : Fin 8) (s : State) : Host.Outcome State Fault Refusal :=
  s.to (s.dev.serveOp ctx.val slot.val 0x35 (fun d => d.budgetSet ctx.val slot.val))

/-- SYNC_ALLOC (R393). -/
def execSyncAlloc (ctx : Fin 16) (slot : Fin 8) (s : State) : Host.Outcome State Fault Refusal :=
  s.to (s.dev.serveOp ctx.val slot.val 0x40 (fun d => d.syncAlloc ctx.val slot.val))

/-- SYNC_FREE (R394). -/
def execSyncFree (ctx : Fin 16) (slot : Fin 8) (s : State) : Host.Outcome State Fault Refusal :=
  s.to (s.dev.serveOp ctx.val slot.val 0x41 (fun d => d.syncFree ctx.val slot.val))

/-- SYNC_SIGNAL (R395). -/
def execSyncSignal (ctx : Fin 16) (slot : Fin 8) (s : State) : Host.Outcome State Fault Refusal :=
  s.to (s.dev.serveOp ctx.val slot.val 0x42 (fun d => d.syncSignal ctx.val slot.val))

/-- SYNC_WAIT (R396). -/
def execSyncWait (ctx : Fin 16) (slot : Fin 8) (s : State) : Host.Outcome State Fault Refusal :=
  s.to (s.dev.serveOp ctx.val slot.val 0x43 (fun d => d.syncWait ctx.val slot.val))

/-- SYNC_READ (R400). -/
def execSyncRead (ctx : Fin 16) (slot : Fin 8) (s : State) : Host.Outcome State Fault Refusal :=
  s.to (s.dev.serveOp ctx.val slot.val 0x44 (fun d => d.syncRead ctx.val slot.val))

/-- SYNC_MAP_REMOTE (R397). -/
def execSyncMapRemote (ctx : Fin 16) (slot : Fin 8) (s : State) : Host.Outcome State Fault Refusal :=
  s.to (s.dev.serveOp ctx.val slot.val 0x45 (fun d => d.syncMapRemote ctx.val slot.val))

/-- SYNC_BARRIER_SET (R398). -/
def execSyncBarrierSet (ctx : Fin 16) (slot : Fin 8) (s : State) : Host.Outcome State Fault Refusal :=
  s.to (s.dev.serveOp ctx.val slot.val 0x46 (fun d => d.syncBarrierSet ctx.val slot.val))

/-- SYNC_READY_BIND (R399). -/
def execSyncReadyBind (ctx : Fin 16) (slot : Fin 8) (s : State) : Host.Outcome State Fault Refusal :=
  s.to (s.dev.serveOp ctx.val slot.val 0x47 (fun d => d.syncReadyBind ctx.val slot.val))

/-- ROUTE_LOAD (R604). -/
def execRouteLoad (ctx : Fin 16) (slot : Fin 8) (s : State) : Host.Outcome State Fault Refusal :=
  s.to (s.dev.serveOp ctx.val slot.val 0x50 (fun d => d.routeLoad ctx.val slot.val))

/-- ROUTE_READ (R605). -/
def execRouteRead (ctx : Fin 16) (slot : Fin 8) (s : State) : Host.Outcome State Fault Refusal :=
  s.to (s.dev.serveOp ctx.val slot.val 0x51 (fun d => d.routeRead ctx.val slot.val))

/-- PORT_CTRL (R606). -/
def execPortCtrl (ctx : Fin 16) (slot : Fin 8) (s : State) : Host.Outcome State Fault Refusal :=
  s.to (s.dev.serveOp ctx.val slot.val 0x52 (fun d => d.portCtrl ctx.val slot.val))

/-- PORT_INFO (R607). -/
def execPortInfo (ctx : Fin 16) (slot : Fin 8) (s : State) : Host.Outcome State Fault Refusal :=
  s.to (s.dev.serveOp ctx.val slot.val 0x53 (fun d => d.portInfo ctx.val slot.val))

/-- REC_POLICY_LOAD (R497). -/
def execRecPolicyLoad (ctx : Fin 16) (slot : Fin 8) (s : State) : Host.Outcome State Fault Refusal :=
  s.to (s.dev.serveOp ctx.val slot.val 0x60 (fun d => d.policyLoad ctx.val slot.val))

/-- MIRROR_SET (R498). -/
def execMirrorSet (ctx : Fin 16) (slot : Fin 8) (s : State) : Host.Outcome State Fault Refusal :=
  s.to (s.dev.serveOp ctx.val slot.val 0x61 (fun d => d.mirrorSet ctx.val slot.val))

/-- REC_RESTORE (R499). -/
def execRecRestore (ctx : Fin 16) (slot : Fin 8) (s : State) : Host.Outcome State Fault Refusal :=
  s.to (s.dev.serveOp ctx.val slot.val 0x62 (fun d => d.recRestore ctx.val slot.val))

/-- FAULT_INFO (R500). -/
def execFaultInfo (ctx : Fin 16) (slot : Fin 8) (s : State) : Host.Outcome State Fault Refusal :=
  s.to (s.dev.serveOp ctx.val slot.val 0x63 (fun d => d.faultInfo ctx.val slot.val))

/-- LOG_READ (R537). -/
def execLogRead (ctx : Fin 16) (slot : Fin 8) (s : State) : Host.Outcome State Fault Refusal :=
  s.to (s.dev.serveOp ctx.val slot.val 0x70 (fun d => d.logRead ctx.val slot.val))

/-- TELEM_READ (R538). -/
def execTelemRead (ctx : Fin 16) (slot : Fin 8) (s : State) : Host.Outcome State Fault Refusal :=
  s.to (s.dev.serveOp ctx.val slot.val 0x71 (fun d => d.telemRead ctx.val slot.val))

/-- TELEM_CFG (R539). -/
def execTelemCfg (ctx : Fin 16) (slot : Fin 8) (s : State) : Host.Outcome State Fault Refusal :=
  s.to (s.dev.serveOp ctx.val slot.val 0x72 (fun d => d.telemCfg ctx.val slot.val))

/-- CSR_READ (R540). -/
def execCsrRead (ctx : Fin 16) (slot : Fin 8) (s : State) : Host.Outcome State Fault Refusal :=
  s.to (s.dev.serveOp ctx.val slot.val 0x74 (fun d => d.csrReadCmd s.fuses ctx.val slot.val))

/-- CSR_WRITE (R541). -/
def execCsrWrite (ctx : Fin 16) (slot : Fin 8) (s : State) : Host.Outcome State Fault Refusal :=
  s.to (s.dev.serveOp ctx.val slot.val 0x75 (fun d => d.csrWriteCmd s.fuses ctx.val slot.val))

/-- CSR_DUMP (R542). -/
def execCsrDump (ctx : Fin 16) (slot : Fin 8) (s : State) : Host.Outcome State Fault Refusal :=
  s.to (s.dev.serveOp ctx.val slot.val 0x76 (fun d => d.csrDumpCmd s.fuses ctx.val slot.val))

/-- FW_STAGE (R686). -/
def execFwStage (ctx : Fin 16) (slot : Fin 8) (s : State) : Host.Outcome State Fault Refusal :=
  s.to (s.dev.serveOp ctx.val slot.val 0x80 (fun d => d.fwStage ctx.val slot.val))

/-- FW_ACTIVATE (R687). -/
def execFwActivate (ctx : Fin 16) (slot : Fin 8) (s : State) : Host.Outcome State Fault Refusal :=
  s.to (s.dev.serveOp ctx.val slot.val 0x81 (fun d => d.fwActivate s.fuses ctx.val slot.val))

/-- FW_INFO (R688). -/
def execFwInfo (ctx : Fin 16) (slot : Fin 8) (s : State) : Host.Outcome State Fault Refusal :=
  s.to (s.dev.serveOp ctx.val slot.val 0x82 (fun d => d.fwInfo s.fuses ctx.val slot.val))

/-- RESET_DEVICE (R670). -/
def execResetDevice (ctx : Fin 16) (slot : Fin 8) (s : State) : Host.Outcome State Fault Refusal :=
  s.to (s.dev.serveOp ctx.val slot.val 0x90 (fun d => d.resetDevice ctx.val slot.val))

/-- RESET_CONTEXT (R671). -/
def execResetContext (ctx : Fin 16) (slot : Fin 8) (s : State) : Host.Outcome State Fault Refusal :=
  s.to (s.dev.serveOp ctx.val slot.val 0x91 (fun d => d.resetContext ctx.val slot.val))

/-- RESET_BLOCK (R672). -/
def execResetBlock (ctx : Fin 16) (slot : Fin 8) (s : State) : Host.Outcome State Fault Refusal :=
  s.to (s.dev.serveOp ctx.val slot.val 0x92 (fun d => d.resetBlock ctx.val slot.val))

/-- POWER_STATE (R673). -/
def execPowerState (ctx : Fin 16) (slot : Fin 8) (selfTests : List (Fin 8)) (s : State) : Host.Outcome State Fault Refusal :=
  s.to (s.dev.serveOp ctx.val slot.val 0x93 (fun d => d.powerStateCmd ctx.val slot.val (selfTests.map Fin.val)))

/-- POWER_DOWN (R674). -/
def execPowerDown (ctx : Fin 16) (slot : Fin 8) (s : State) : Host.Outcome State Fault Refusal :=
  s.to (s.dev.serveOp ctx.val slot.val 0x94 (fun d => d.powerDownCmd ctx.val slot.val))

/-- POWER_LIMIT (R625). -/
def execPowerLimit (ctx : Fin 16) (slot : Fin 8) (s : State) : Host.Outcome State Fault Refusal :=
  s.to (s.dev.serveOp ctx.val slot.val 0x95 (fun d => d.powerLimit ctx.val slot.val))

/-- DEBUG_UNLOCK (R695). -/
def execDebugUnlock (ctx : Fin 16) (slot : Fin 8) (s : State) : Host.Outcome State Fault Refusal :=
  s.to (s.dev.serveOp ctx.val slot.val 0xA0 (fun d => d.debugUnlock ctx.val slot.val))

/-- MEASURE_READ (R692). -/
def execMeasureRead (ctx : Fin 16) (slot : Fin 8) (s : State) : Host.Outcome State Fault Refusal :=
  s.to (s.dev.serveOp ctx.val slot.val 0xA1 (fun d => d.measureRead ctx.val slot.val))

/-- DEBUG_LOCK (R697). -/
def execDebugLock (ctx : Fin 16) (slot : Fin 8) (s : State) : Host.Outcome State Fault Refusal :=
  s.to (s.dev.serveOp ctx.val slot.val 0xA2 (fun d => d.debugLock s.fuses ctx.val slot.val))

/-- UNKNOWN_OPCODE (R515). -/
def execUnknownOpcode (ctx : Fin 16) (slot : Fin 8) (s : State) : Host.Outcome State Fault Refusal :=
  s.to (s.dev.serve ctx.val slot.val (fun op => (opcodeRow op).isNone) (fun d => (.st .unknownOpcode, d)))

end Sys2Proof.Machine
end

