-- ==== Sys2Proof/Machine/LinkEvents.lean ====
section
/-! DEFINITION. SPDM, IDE and completions on the PCIe link (16, 20). -/
namespace Sys2Proof.Machine

/-- SPDM_REQUEST (R693). -/
def execSpdmRequest (request : SpdmRequest) (s : State) : Host.Outcome State Fault Refusal :=
  s.to (s.dev.spdmRequest request)

/-- IDE_FAIL (R694). -/
def execIdeFail (stream : Fin 4) (s : State) : Host.Outcome State Fault Refusal :=
  s.to (s.dev.ideFail stream.val)

/-- PCIE_COMPLETION_TIMEOUT (R365). -/
def execPcieCompletionTimeout (tag : Fin 65536) (s : State) : Host.Outcome State Fault Refusal :=
  s.to (s.dev.hostReadFails tag.val .timeout)

/-- PCIE_COMPLETION_RECEIVED (R555). -/
def execPcieCompletionReceived (tag : Fin 65536) (data : Option (List Byte)) (s : State) : Host.Outcome State Fault Refusal :=
  s.to (s.dev.hostReadDone tag.val (data.map (fun l => l.map BitVec.toNat)))

end Sys2Proof.Machine
end

