-- ==== Sys2Proof/Machine/PageAccess.lean ====
section
/-! DEFINITION. Accesses of the host to its functions: mailbox pages, registers, the debug aperture, MSI-X, BAR2, SR-IOV (15, 16). -/
namespace Sys2Proof.Machine

/-- MBX_GO_WRITE (R508). -/
def execMbxGoWrite (ctx : Fin 16) (value : BitVec 32) (s : State) : Host.Outcome State Fault Refusal :=
  s.to (s.dev.goWrite ctx.val (bits value.toNat 7 0))

/-- MBX_CMD_WRITE (R508). -/
def execMbxCmdWrite (ctx : Fin 16) (slot : Fin 8) (word : Fin 16) (value : BitVec 32) (s : State) : Host.Outcome State Fault Refusal :=
  s.to (s.dev.cmdWrite ctx.val slot.val word.val value.toNat)

/-- MBX_DATA_RD_READ (R521). -/
def execMbxDataRdRead (ctx : Fin 16) (s : State) : Host.Outcome State Fault Refusal :=
  s.to (s.dev.bar0Read s.fuses ctx.val MBX_DATA_RD.base 4)

/-- MBX_DATA_WR_WRITE (R521). -/
def execMbxDataWrWrite (ctx : Fin 16) (value : BitVec 32) (s : State) : Host.Outcome State Fault Refusal :=
  s.to (s.dev.bar0Write s.fuses ctx.val MBX_DATA_WR.base 4 value.toNat false)

/-- EVENT_POP (R530). -/
def execEventPop (ctx : Fin 16) (s : State) : Host.Outcome State Fault Refusal :=
  s.to (s.dev.bar0Write s.fuses ctx.val MBX_EVT_CTRL.base 4 (2 ^ 31) false)

/-- LOG_TIME_LO_READ (R524). -/
def execLogTimeLoRead (page : Option (Fin 16)) (wide : Bool) (s : State) : Host.Outcome State Fault Refusal :=
  s.to (s.dev.readTime s.fuses page wide)

/-- RC_FIELD_READ (R11). -/
def execRcFieldRead (place : RegPlace) (wide : Bool) (s : State) : Host.Outcome State Fault Refusal :=
  s.to (s.dev.readPlace s.fuses place (if wide then 8 else 4))

/-- REGISTER_WRITE (R11). -/
def execRegisterWrite (place : RegPlace) (wide : Bool) (value : BitVec 64) (poisoned : Bool) (s : State) : Host.Outcome State Fault Refusal :=
  s.to (s.dev.writePlace s.fuses place (if wide then 8 else 4) value.toNat poisoned)

/-- PCI_WIN_BASE_WRITE (R568). -/
def execPciWinBaseWrite (ctx : Fin 16) (high : Bool) (value : BitVec 32) (s : State) : Host.Outcome State Fault Refusal :=
  s.to (s.dev.windowBaseWrite ctx.val high value.toNat)

/-- DEBUG_APERTURE_ACCESS (R559). -/
def execDebugApertureAccess (ctx : Fin 16) (offset : BitVec 16) (write : Option (BitVec 32)) (s : State) : Host.Outcome State Fault Refusal :=
  s.to (s.dev.apertureAccess s.fuses ctx.val offset.toNat (write.map BitVec.toNat))

/-- MSIX_VECTOR_UNMASK (R564). -/
def execMsixVectorUnmask (ctx : Fin 16) (vector : Option (Fin 64)) (s : State) : Host.Outcome State Fault Refusal :=
  s.to (s.dev.unmaskRow ctx.val (vector.map Fin.val))

/-- BAR2_REQUEST (R560). -/
def execBar2Request (ctx : Fin 16) (offset : Nat) (length : Nat) (data : Option (List Byte)) (poisoned : Bool) (stream : Option (Fin 4)) (s : State) : Host.Outcome State Fault Refusal :=
  s.to (s.dev.bar2Request ctx.val offset length (data.map (fun l => l.map BitVec.toNat)) poisoned stream)

/-- FLR (R550). -/
def execFlr (ctx : Fin 16) (s : State) : Host.Outcome State Fault Refusal :=
  s.to (s.dev.flr ctx.val)

/-- VF_ENABLE_SET (R549). -/
def execVfEnableSet (numVFs : Fin 16) (s : State) : Host.Outcome State Fault Refusal :=
  s.to (s.dev.vfEnableSet numVFs.val)

/-- VF_ENABLE_CLEAR (R549). -/
def execVfEnableClear (s : State) : Host.Outcome State Fault Refusal :=
  s.to (s.dev.vfEnableClear)

end Sys2Proof.Machine
end

