-- ==== Sys2Proof/Machine/ResetEvents.lean ====
section
/-! DEFINITION. Resets, starts, and the management processor (15, 16, 19). -/
namespace Sys2Proof.Machine

/-- PERST_ASSERT (R640). -/
def execPerstAssert (s : State) : Host.Outcome State Fault Refusal :=
  s.to (s.dev.perstAssert)

/-- PERST_DEASSERT (R666). -/
def execPerstDeassert (s : State) : Host.Outcome State Fault Refusal :=
  s.to (s.dev.perstDeassert)

/-- HOT_RESET (R640). -/
def execHotReset (s : State) : Host.Outcome State Fault Refusal :=
  s.to (s.dev.hotReset)

/-- LINK_DEGRADED (R547). -/
def execLinkDegraded (rate : Fin 7) (width : Fin 17) (flit : Bool) (s : State) : Host.Outcome State Fault Refusal :=
  s.to (s.dev.linkTrained rate.val width.val flit)

/-- CONTEXT_RESET (R645). -/
def execContextReset (ctx : Fin 16) (source : Fin 256) (s : State) : Host.Outcome State Fault Refusal :=
  s.to (s.dev.contextReset ctx.val source.val)

/-- DEVICE_RESET (R646). -/
def execDeviceReset (source : Fin 256) (s : State) : Host.Outcome State Fault Refusal :=
  s.to (s.dev.resetFrom source.val)

/-- POWER_ON (R709). -/
def execPowerOn (s : State) : Host.Outcome State Fault Refusal :=
  s.to (s.dev.powerOn)

/-- START (R646). -/
def execStart (report : StartReport) (s : State) : Host.Outcome State Fault Refusal :=
  s.to (s.dev.start s.fuses report)

/-- RUN_ACK (R647). -/
def execRunAck (s : State) : Host.Outcome State Fault Refusal :=
  if s.dev.mayAck then
    .next { s with fuses := s.fuses.advance s.dev.runningImage, dev := s.dev.runAck s.fuses (s.fuses.advance s.dev.runningImage) }
  else .next s

/-- PRESENCE_LOST (R711). -/
def execPresenceLost (s : State) : Host.Outcome State Fault Refusal :=
  s.to (s.dev.inputFault 1)

/-- MP_RESTART (R503). -/
def execMpRestart (assertion : Bool) (s : State) : Host.Outcome State Fault Refusal :=
  s.to (s.dev.mpRestart (if assertion then 3 else 2))

/-- MP_WATCHDOG_EXPIRY (R503). -/
def execMpWatchdogExpiry (s : State) : Host.Outcome State Fault Refusal :=
  s.to (s.dev.watchdogExpires)

/-- MP_RESTART_COMPLETE (R506). -/
def execMpRestartComplete (s : State) : Host.Outcome State Fault Refusal :=
  s.to (s.dev.mpReturns s.fuses)

/-- SHED_STAGE (R518). -/
def execShedStage (busy : Fin 101) (held : Bool) (s : State) : Host.Outcome State Fault Refusal :=
  s.to (s.dev.shedStage busy.val held)

/-- DATA_WINDOW_TIMEOUT (R522). -/
def execDataWindowTimeout (ctx : Fin 16) (s : State) : Host.Outcome State Fault Refusal :=
  s.to (s.dev.windowTimeout ctx.val)

/-- TELEMETRY_SAMPLE (R538). -/
def execTelemetrySample (s : State) : Host.Outcome State Fault Refusal :=
  s.to (s.dev.telemetrySample)

/-- LOG_EPOCH (R528). -/
def execLogEpoch (s : State) : Host.Outcome State Fault Refusal :=
  s.to (s.dev.logEpoch)

end Sys2Proof.Machine
end

