-- ==== Sys2Proof/Machine/StepEvents.lean ====
section
/-! DEFINITION. Exchange, commit, update, recovery records (11 to 14). -/
namespace Sys2Proof.Machine

/-- COMPRESSION (R411). -/
def execCompression (tensor : Fin 65536) (s : State) : Host.Outcome State Fault Refusal :=
  s.to (s.dev.compress tensor.val)

/-- EXCH_CONTRIBUTION_RECEIVED (R416). -/
def execExchContributionReceived (port : Fin 8) (p : Packet) (s : State) : Host.Outcome State Fault Refusal :=
  s.to (s.dev.accepted_ port.val p .other isContribution)

/-- WORKING_COPY_RECEIVED (R431). -/
def execWorkingCopyReceived (port : Fin 8) (p : Packet) (s : State) : Host.Outcome State Fault Refusal :=
  s.to (s.dev.accepted_ port.val p .other isWorkingCopy)

/-- BARRIER_SIGNAL (R388). -/
def execBarrierSignal (port : Fin 8) (p : Packet) (s : State) : Host.Outcome State Fault Refusal :=
  s.to (s.dev.accepted_ port.val p .other (isSyncOp 5))

/-- BARRIER_OUTCOME (R389). -/
def execBarrierOutcome (message : Option (Fin 8 × Packet)) (s : State) : Host.Outcome State Fault Refusal :=
  s.to (s.dev.outcomeRow message)

/-- BARRIER_MIRROR_ACK (R480). -/
def execBarrierMirrorAck (phys : Fin 16384) (s : State) : Host.Outcome State Fault Refusal :=
  s.to (s.dev.barrierAcked phys.val)

/-- SCALE_RECOMPUTATION (R455). -/
def execScaleRecomputation (s : State) : Host.Outcome State Fault Refusal :=
  s.to (s.dev.byFirmware Dev.recomputeScales)

/-- UPDATE_CHUNK (R423). -/
def execUpdateChunk (grain : Fin 1024) (s : State) : Host.Outcome State Fault Refusal :=
  s.to (s.dev.updateChunk grain.val)

/-- MIRROR_RECORD_WRITE (R479). -/
def execMirrorRecordWrite (s : State) : Host.Outcome State Fault Refusal :=
  s.to (s.dev.writeMirror)

/-- MIRROR_ACK (R479). -/
def execMirrorAck (s : State) : Host.Outcome State Fault Refusal :=
  s.to (s.dev.mirrorAck)

/-- SNAPSHOT_COPY (R484). -/
def execSnapshotCopy (s : State) : Host.Outcome State Fault Refusal :=
  s.to (s.dev.snapshotCopy)

/-- RECONSTRUCTION (R488). -/
def execReconstruction (tensor : BitVec 32) (chunk : Nat) (errorFeedback : Bool) (slots : List SnapSlot) (entries : List (List Byte)) (s : State) : Host.Outcome State Fault Refusal :=
  s.to (s.dev.reconstruct tensor.toNat chunk errorFeedback slots (entries.map (fun e => e.map BitVec.toNat)))

end Sys2Proof.Machine
end

