-- ==== Sys2Proof/Machine/TaskEvents.lean ====
section
/-! DEFINITION. Runs, attempts, tasks and the engines that run them (04 to 10). -/
namespace Sys2Proof.Machine

/-- RUN_START (R334). -/
def execRunStart (s : State) : Host.Outcome State Fault Refusal :=
  s.to (s.dev.runStart)

/-- ATTEMPT_START (R337). -/
def execAttemptStart (answer : Option (BitVec 32 × BitVec 8)) (s : State) : Host.Outcome State Fault Refusal :=
  s.to (s.dev.attemptStart (answer.map (fun (v, n) => (v.toNat, n.toNat))))

/-- TASK_START (R347). -/
def execTaskStart (task : Fin 65536) (s : State) : Host.Outcome State Fault Refusal :=
  s.to (s.dev.taskStart task.val)

/-- TASK_COMPLETE (R350). -/
def execTaskComplete (task : Fin 65536) (s : State) : Host.Outcome State Fault Refusal :=
  s.to (s.dev.completeTask task.val)

/-- WORK_STEAL (R355). -/
def execWorkSteal (grain : Fin 1024) (vector : Bool) (s : State) : Host.Outcome State Fault Refusal :=
  s.to (s.dev.steal grain.val (if vector then 2 else 1))

/-- BUSHEL_STEAL (R356). -/
def execBushelSteal (grain : Fin 1024) (vector : Bool) (s : State) : Host.Outcome State Fault Refusal :=
  s.to (s.dev.bushelSteal grain.val (if vector then 2 else 1))

/-- ROW_GROUP_START (R154). -/
def execRowGroupStart (task : Fin 65536) (token : Fin 65536) (entry : Fin 16) (row : Fin 1024) (s : State) : Host.Outcome State Fault Refusal :=
  s.to (s.dev.rowGroupStart task.val token.val entry.val row.val)

/-- READ_CYCLE (R147). -/
def execReadCycle (array : Fin 16384) (codes : List Int) (s : State) : Host.Outcome State Fault Refusal :=
  s.to (s.dev.readCycle array.val codes)

/-- CHECKSUM_WINDOW_END (R162). -/
def execChecksumWindowEnd (array : Fin 16384) (s : State) : Host.Outcome State Fault Refusal :=
  s.to (s.dev.windowEnd array.val)

/-- PERSIST_CLEAR (R165). -/
def execPersistClear (array : Fin 16384) (s : State) : Host.Outcome State Fault Refusal :=
  s.to (s.dev.persistClear array.val)

/-- REF_RATIO_PUBLISH (R140). -/
def execRefRatioPublish (array : Fin 16384) (s : State) : Host.Outcome State Fault Refusal :=
  s.to (s.dev.ratioDue array.val)

/-- FALLBACK_ROW_GROUP (R302). -/
def execFallbackRowGroup (grain : Fin 1024) (s : State) : Host.Outcome State Fault Refusal :=
  s.to (s.dev.fallbackGroup grain.val)

/-- TILE_PASS (R282). -/
def execTilePass (grain : Fin 1024) (s : State) : Host.Outcome State Fault Refusal :=
  s.to (s.dev.tilePass grain.val)

/-- WIDE_RECOMPUTATION (R444). -/
def execWideRecomputation (peck : Fin 128) (s : State) : Host.Outcome State Fault Refusal :=
  s.to (s.dev.wideRecompute peck.val)

/-- VECTOR_DESCRIPTOR (R322). -/
def execVectorDescriptor (grain : Fin 1024) (s : State) : Host.Outcome State Fault Refusal :=
  s.to (s.dev.vecDescriptor grain.val)

/-- CHAIN_UNIT (R360). -/
def execChainUnit (grain : Fin 1024) (peckDma : Bool) (s : State) : Host.Outcome State Fault Refusal :=
  s.to (s.dev.chainUnit grain.val peckDma)

/-- TASK_ABORTED_STREAM_FAULT (R365). -/
def execTaskAbortedStreamFault (task : Fin 65536) (s : State) : Host.Outcome State Fault Refusal :=
  s.to (s.dev.streamAbort task.val)

/-- MAILBOX_WAIT_TIMEOUT (R383). -/
def execMailboxWaitTimeout (ctx : Fin 16) (slot : Fin 8) (s : State) : Host.Outcome State Fault Refusal :=
  s.to (s.dev.waitTimeout ctx.val slot.val)

end Sys2Proof.Machine
end

