-- ==== Sys2Proof/Machine/Triggers.lean ====
section
/-! DEFINITION. Writes of registers that start something, and what they start (05, 07, 16, 18, 19, 20). -/
namespace Sys2Proof.Machine

/-- CNV_SEQ_ARM (R182). -/
def execCnvSeqArm (array : Fin 16384) (value : BitVec 32) (s : State) : Host.Outcome State Fault Refusal :=
  s.to (s.dev.trigger s.fuses CNV_SEQ_CTRL (grainOf array.val) (slotOf array.val) (setBits value.toNat 31 31 1))

/-- CNV_SEQ_ARM_COMPLETE (R182). -/
def execCnvSeqArmComplete (array : Fin 16384) (s : State) : Host.Outcome State Fault Refusal :=
  s.to (s.dev.seqArmComplete (grainOf array.val) (slotOf array.val))

/-- CNV_SEQ_DEFAULT (R183). -/
def execCnvSeqDefault (array : Fin 16384) (value : BitVec 32) (s : State) : Host.Outcome State Fault Refusal :=
  s.to (s.dev.trigger s.fuses CNV_SEQ_CTRL (grainOf array.val) (slotOf array.val) (setBits value.toNat 30 30 1))

/-- CAL_NOW (R191). -/
def execCalNow (array : Fin 16384) (value : BitVec 32) (s : State) : Host.Outcome State Fault Refusal :=
  s.to (s.dev.trigger s.fuses CNV_CAL_CFG (grainOf array.val) (slotOf array.val) (setBits value.toNat 30 30 1))

/-- CNV_REF_SEL_WRITE (R195). -/
def execCnvRefSelWrite (bushel : Fin 16) (value : BitVec 32) (s : State) : Host.Outcome State Fault Refusal :=
  s.to (s.dev.trigger s.fuses CNV_REF_SEL bushel.val 0 value.toNat)

/-- CNV_MON_ARM (R206). -/
def execCnvMonArm (bushel : Fin 16) (value : BitVec 32) (s : State) : Host.Outcome State Fault Refusal :=
  s.to (s.dev.trigger s.fuses CNV_MON_CTRL bushel.val 0 (setBits value.toNat 31 31 1))

/-- RSD_REBUILD (R265). -/
def execRsdRebuild (grain : Fin 1024) (value : BitVec 32) (s : State) : Host.Outcome State Fault Refusal :=
  s.to (s.dev.trigger s.fuses RSD_CTRL grain.val 0 value.toNat)

/-- FREQ_REQ_WRITE (R630). -/
def execFreqReqWrite (peck : Fin 128) (value : BitVec 32) (s : State) : Host.Outcome State Fault Refusal :=
  s.to (s.dev.trigger s.fuses CLK_ISL_CFG peck.val 0 value.toNat)

/-- REFCLK_RESTORE (R628). -/
def execRefclkRestore (s : State) : Host.Outcome State Fault Refusal :=
  s.to (s.dev.trigger s.fuses CLK_REF_CTRL 0 0 (2 ^ 31))

/-- BUSHEL_GATE (R627). -/
def execBushelGate (bushel : Fin 16) (s : State) : Host.Outcome State Fault Refusal :=
  s.to (s.dev.trigger s.fuses PWR_BUSHEL_CTRL bushel.val 0 (2 ^ 31))

/-- BUSHEL_GATE_EFFECT (R627). -/
def execBushelGateEffect (bushel : Fin 16) (s : State) : Host.Outcome State Fault Refusal :=
  s.to (s.dev.gateEffect bushel.val)

/-- BUSHEL_UNGATE (R627). -/
def execBushelUngate (bushel : Fin 16) (s : State) : Host.Outcome State Fault Refusal :=
  s.to (s.dev.trigger s.fuses PWR_BUSHEL_CTRL bushel.val 0 0)

/-- FORCE_REL (R653). -/
def execForceRel (peck : Fin 128) (s : State) : Host.Outcome State Fault Refusal :=
  s.to (s.dev.trigger s.fuses RST_PECK_CTRL peck.val 0 (setBits (s.dev.word RST_PECK_CTRL peck.val) 30 30 1))

/-- SEC_FMKEY_LOCK (R699). -/
def execSecFmkeyLock (s : State) : Host.Outcome State Fault Refusal :=
  s.to (s.dev.trigger s.fuses SEC_FMKEY_CTRL 0 0 (2 ^ 31))

end Sys2Proof.Machine
end

