-- ==== Sys2Proof/Machine/Dispatch.lean ====
section
/-! DEFINITION. Dispatch: one arm per command, each one direct call of its meaning. -/
namespace Sys2Proof.Machine

def exec (i : Instr) (s : State) : Host.Outcome State Fault Refusal :=
  match i with
  | .identify ctx slot => Sys2Proof.Machine.execIdentify ctx slot s
  | .capabilities ctx slot => Sys2Proof.Machine.execCapabilities ctx slot s
  | .memAlloc ctx slot => Sys2Proof.Machine.execMemAlloc ctx slot s
  | .memFree ctx slot => Sys2Proof.Machine.execMemFree ctx slot s
  | .ctxInfo ctx slot => Sys2Proof.Machine.execCtxInfo ctx slot s
  | .stepLoad ctx slot => Sys2Proof.Machine.execStepLoad ctx slot s
  | .stepSubmit ctx slot => Sys2Proof.Machine.execStepSubmit ctx slot s
  | .stepUnload ctx slot => Sys2Proof.Machine.execStepUnload ctx slot s
  | .stepAbort ctx slot => Sys2Proof.Machine.execStepAbort ctx slot s
  | .xchLoad ctx slot => Sys2Proof.Machine.execXchLoad ctx slot s
  | .xchUnload ctx slot => Sys2Proof.Machine.execXchUnload ctx slot s
  | .updSet ctx slot => Sys2Proof.Machine.execUpdSet ctx slot s
  | .wchLoad ctx slot => Sys2Proof.Machine.execWchLoad ctx slot s
  | .wchUnload ctx slot => Sys2Proof.Machine.execWchUnload ctx slot s
  | .replayDiag ctx slot => Sys2Proof.Machine.execReplayDiag ctx slot s
  | .arrayProgram ctx slot => Sys2Proof.Machine.execArrayProgram ctx slot s
  | .arrayBind ctx slot => Sys2Proof.Machine.execArrayBind ctx slot s
  | .arrayRetire ctx slot => Sys2Proof.Machine.execArrayRetire ctx slot s
  | .arrayInfo ctx slot => Sys2Proof.Machine.execArrayInfo ctx slot s
  | .hvBranchRestore ctx slot selfTest => Sys2Proof.Machine.execHvBranchRestore ctx slot selfTest s
  | .arrayBudgetSet ctx slot => Sys2Proof.Machine.execArrayBudgetSet ctx slot s
  | .syncAlloc ctx slot => Sys2Proof.Machine.execSyncAlloc ctx slot s
  | .syncFree ctx slot => Sys2Proof.Machine.execSyncFree ctx slot s
  | .syncSignal ctx slot => Sys2Proof.Machine.execSyncSignal ctx slot s
  | .syncWait ctx slot => Sys2Proof.Machine.execSyncWait ctx slot s
  | .syncRead ctx slot => Sys2Proof.Machine.execSyncRead ctx slot s
  | .syncMapRemote ctx slot => Sys2Proof.Machine.execSyncMapRemote ctx slot s
  | .syncBarrierSet ctx slot => Sys2Proof.Machine.execSyncBarrierSet ctx slot s
  | .syncReadyBind ctx slot => Sys2Proof.Machine.execSyncReadyBind ctx slot s
  | .routeLoad ctx slot => Sys2Proof.Machine.execRouteLoad ctx slot s
  | .routeRead ctx slot => Sys2Proof.Machine.execRouteRead ctx slot s
  | .portCtrl ctx slot => Sys2Proof.Machine.execPortCtrl ctx slot s
  | .portInfo ctx slot => Sys2Proof.Machine.execPortInfo ctx slot s
  | .recPolicyLoad ctx slot => Sys2Proof.Machine.execRecPolicyLoad ctx slot s
  | .mirrorSet ctx slot => Sys2Proof.Machine.execMirrorSet ctx slot s
  | .recRestore ctx slot => Sys2Proof.Machine.execRecRestore ctx slot s
  | .faultInfo ctx slot => Sys2Proof.Machine.execFaultInfo ctx slot s
  | .logRead ctx slot => Sys2Proof.Machine.execLogRead ctx slot s
  | .telemRead ctx slot => Sys2Proof.Machine.execTelemRead ctx slot s
  | .telemCfg ctx slot => Sys2Proof.Machine.execTelemCfg ctx slot s
  | .csrRead ctx slot => Sys2Proof.Machine.execCsrRead ctx slot s
  | .csrWrite ctx slot => Sys2Proof.Machine.execCsrWrite ctx slot s
  | .csrDump ctx slot => Sys2Proof.Machine.execCsrDump ctx slot s
  | .fwStage ctx slot => Sys2Proof.Machine.execFwStage ctx slot s
  | .fwActivate ctx slot => Sys2Proof.Machine.execFwActivate ctx slot s
  | .fwInfo ctx slot => Sys2Proof.Machine.execFwInfo ctx slot s
  | .resetDevice ctx slot => Sys2Proof.Machine.execResetDevice ctx slot s
  | .resetContext ctx slot => Sys2Proof.Machine.execResetContext ctx slot s
  | .resetBlock ctx slot => Sys2Proof.Machine.execResetBlock ctx slot s
  | .powerState ctx slot selfTests => Sys2Proof.Machine.execPowerState ctx slot selfTests s
  | .powerDown ctx slot => Sys2Proof.Machine.execPowerDown ctx slot s
  | .powerLimit ctx slot => Sys2Proof.Machine.execPowerLimit ctx slot s
  | .debugUnlock ctx slot => Sys2Proof.Machine.execDebugUnlock ctx slot s
  | .measureRead ctx slot => Sys2Proof.Machine.execMeasureRead ctx slot s
  | .debugLock ctx slot => Sys2Proof.Machine.execDebugLock ctx slot s
  | .unknownOpcode ctx slot => Sys2Proof.Machine.execUnknownOpcode ctx slot s
  | .mbxGoWrite ctx value => Sys2Proof.Machine.execMbxGoWrite ctx value s
  | .mbxCmdWrite ctx slot word value => Sys2Proof.Machine.execMbxCmdWrite ctx slot word value s
  | .mbxDataRdRead ctx => Sys2Proof.Machine.execMbxDataRdRead ctx s
  | .mbxDataWrWrite ctx value => Sys2Proof.Machine.execMbxDataWrWrite ctx value s
  | .eventPop ctx => Sys2Proof.Machine.execEventPop ctx s
  | .logTimeLoRead page wide => Sys2Proof.Machine.execLogTimeLoRead page wide s
  | .rcFieldRead place wide => Sys2Proof.Machine.execRcFieldRead place wide s
  | .registerWrite place wide value poisoned => Sys2Proof.Machine.execRegisterWrite place wide value poisoned s
  | .cnvSeqArm array value => Sys2Proof.Machine.execCnvSeqArm array value s
  | .cnvSeqArmComplete array => Sys2Proof.Machine.execCnvSeqArmComplete array s
  | .cnvSeqDefault array value => Sys2Proof.Machine.execCnvSeqDefault array value s
  | .calNow array value => Sys2Proof.Machine.execCalNow array value s
  | .cnvRefSelWrite bushel value => Sys2Proof.Machine.execCnvRefSelWrite bushel value s
  | .cnvMonArm bushel value => Sys2Proof.Machine.execCnvMonArm bushel value s
  | .rsdRebuild grain value => Sys2Proof.Machine.execRsdRebuild grain value s
  | .freqReqWrite peck value => Sys2Proof.Machine.execFreqReqWrite peck value s
  | .refclkRestore => Sys2Proof.Machine.execRefclkRestore s
  | .bushelGate bushel => Sys2Proof.Machine.execBushelGate bushel s
  | .bushelGateEffect bushel => Sys2Proof.Machine.execBushelGateEffect bushel s
  | .bushelUngate bushel => Sys2Proof.Machine.execBushelUngate bushel s
  | .forceRel peck => Sys2Proof.Machine.execForceRel peck s
  | .secFmkeyLock => Sys2Proof.Machine.execSecFmkeyLock s
  | .pciWinBaseWrite ctx high value => Sys2Proof.Machine.execPciWinBaseWrite ctx high value s
  | .debugApertureAccess ctx offset write => Sys2Proof.Machine.execDebugApertureAccess ctx offset write s
  | .msixVectorUnmask ctx vector => Sys2Proof.Machine.execMsixVectorUnmask ctx vector s
  | .bar2Request ctx offset length data poisoned stream => Sys2Proof.Machine.execBar2Request ctx offset length data poisoned stream s
  | .flr ctx => Sys2Proof.Machine.execFlr ctx s
  | .vfEnableSet numVFs => Sys2Proof.Machine.execVfEnableSet numVFs s
  | .vfEnableClear => Sys2Proof.Machine.execVfEnableClear s
  | .perstAssert => Sys2Proof.Machine.execPerstAssert s
  | .perstDeassert => Sys2Proof.Machine.execPerstDeassert s
  | .hotReset => Sys2Proof.Machine.execHotReset s
  | .linkDegraded rate width flit => Sys2Proof.Machine.execLinkDegraded rate width flit s
  | .contextReset ctx source => Sys2Proof.Machine.execContextReset ctx source s
  | .deviceReset source => Sys2Proof.Machine.execDeviceReset source s
  | .powerOn => Sys2Proof.Machine.execPowerOn s
  | .start report => Sys2Proof.Machine.execStart report s
  | .runAck => Sys2Proof.Machine.execRunAck s
  | .presenceLost => Sys2Proof.Machine.execPresenceLost s
  | .mpRestart assertion => Sys2Proof.Machine.execMpRestart assertion s
  | .mpWatchdogExpiry => Sys2Proof.Machine.execMpWatchdogExpiry s
  | .mpRestartComplete => Sys2Proof.Machine.execMpRestartComplete s
  | .shedStage busy held => Sys2Proof.Machine.execShedStage busy held s
  | .dataWindowTimeout ctx => Sys2Proof.Machine.execDataWindowTimeout ctx s
  | .telemetrySample => Sys2Proof.Machine.execTelemetrySample s
  | .logEpoch => Sys2Proof.Machine.execLogEpoch s
  | .runStart => Sys2Proof.Machine.execRunStart s
  | .attemptStart answer => Sys2Proof.Machine.execAttemptStart answer s
  | .taskStart task => Sys2Proof.Machine.execTaskStart task s
  | .taskComplete task => Sys2Proof.Machine.execTaskComplete task s
  | .workSteal grain vector => Sys2Proof.Machine.execWorkSteal grain vector s
  | .bushelSteal grain vector => Sys2Proof.Machine.execBushelSteal grain vector s
  | .rowGroupStart task token entry row => Sys2Proof.Machine.execRowGroupStart task token entry row s
  | .readCycle array codes => Sys2Proof.Machine.execReadCycle array codes s
  | .checksumWindowEnd array => Sys2Proof.Machine.execChecksumWindowEnd array s
  | .persistClear array => Sys2Proof.Machine.execPersistClear array s
  | .refRatioPublish array => Sys2Proof.Machine.execRefRatioPublish array s
  | .fallbackRowGroup grain => Sys2Proof.Machine.execFallbackRowGroup grain s
  | .tilePass grain => Sys2Proof.Machine.execTilePass grain s
  | .wideRecomputation peck => Sys2Proof.Machine.execWideRecomputation peck s
  | .vectorDescriptor grain => Sys2Proof.Machine.execVectorDescriptor grain s
  | .chainUnit grain peckDma => Sys2Proof.Machine.execChainUnit grain peckDma s
  | .taskAbortedStreamFault task => Sys2Proof.Machine.execTaskAbortedStreamFault task s
  | .mailboxWaitTimeout ctx slot => Sys2Proof.Machine.execMailboxWaitTimeout ctx slot s
  | .compression tensor => Sys2Proof.Machine.execCompression tensor s
  | .exchContributionReceived port p => Sys2Proof.Machine.execExchContributionReceived port p s
  | .workingCopyReceived port p => Sys2Proof.Machine.execWorkingCopyReceived port p s
  | .barrierSignal port p => Sys2Proof.Machine.execBarrierSignal port p s
  | .barrierOutcome message => Sys2Proof.Machine.execBarrierOutcome message s
  | .barrierMirrorAck phys => Sys2Proof.Machine.execBarrierMirrorAck phys s
  | .scaleRecomputation => Sys2Proof.Machine.execScaleRecomputation s
  | .updateChunk grain => Sys2Proof.Machine.execUpdateChunk grain s
  | .mirrorRecordWrite => Sys2Proof.Machine.execMirrorRecordWrite s
  | .mirrorAck => Sys2Proof.Machine.execMirrorAck s
  | .snapshotCopy => Sys2Proof.Machine.execSnapshotCopy s
  | .reconstruction tensor chunk errorFeedback slots entries => Sys2Proof.Machine.execReconstruction tensor chunk errorFeedback slots entries s
  | .residualDecisionStart array => Sys2Proof.Machine.execResidualDecisionStart array s
  | .residualDecisionComplete array => Sys2Proof.Machine.execResidualDecisionComplete array s
  | .programSelect => Sys2Proof.Machine.execProgramSelect s
  | .drainComplete array => Sys2Proof.Machine.execDrainComplete array s
  | .programRow array reads => Sys2Proof.Machine.execProgramRow array reads s
  | .verificationComplete array cycles results => Sys2Proof.Machine.execVerificationComplete array cycles results s
  | .attemptRestart array => Sys2Proof.Machine.execAttemptRestart array s
  | .checksumTableRebuild array => Sys2Proof.Machine.execChecksumTableRebuild array s
  | .branchFault bushel sample => Sys2Proof.Machine.execBranchFault bushel sample s
  | .metadataFlush => Sys2Proof.Machine.execMetadataFlush s
  | .calibrationDwell array gains offsets => Sys2Proof.Machine.execCalibrationDwell array gains offsets s
  | .calibrationCheck array => Sys2Proof.Machine.execCalibrationCheck array s
  | .referenceSettled bushel => Sys2Proof.Machine.execReferenceSettled bushel s
  | .extRefFault bushel millivolts => Sys2Proof.Machine.execExtRefFault bushel millivolts s
  | .monitorReading bushel entry array sample => Sys2Proof.Machine.execMonitorReading bushel entry array sample s
  | .monitorPassEnd bushel deviation => Sys2Proof.Machine.execMonitorPassEnd bushel deviation s
  | .faultDetected source unit code => Sys2Proof.Machine.execFaultDetected source unit code s
  | .correctableError source unit code => Sys2Proof.Machine.execCorrectableError source unit code s
  | .hbmUncorrectable stack address reader => Sys2Proof.Machine.execHbmUncorrectable stack address reader s
  | .blockReset unit => Sys2Proof.Machine.execBlockReset unit s
  | .blockResetRelease unit => Sys2Proof.Machine.execBlockResetRelease unit s
  | .deviceLost source => Sys2Proof.Machine.execDeviceLost source s
  | .railFault rail cause => Sys2Proof.Machine.execRailFault rail cause s
  | .vcoreRestart bushel => Sys2Proof.Machine.execVcoreRestart bushel s
  | .vprgRestart => Sys2Proof.Machine.execVprgRestart s
  | .senseLost rail => Sys2Proof.Machine.execSenseLost rail s
  | .phaseShed rail phase => Sys2Proof.Machine.execPhaseShed rail phase s
  | .inputFault cause => Sys2Proof.Machine.execInputFault cause s
  | .inputRestored => Sys2Proof.Machine.execInputRestored s
  | .peakPower => Sys2Proof.Machine.execPeakPower s
  | .powerEvaluation mean volt current => Sys2Proof.Machine.execPowerEvaluation mean volt current s
  | .avsStep bushel up measured => Sys2Proof.Machine.execAvsStep bushel up measured s
  | .refclkLost ppm => Sys2Proof.Machine.execRefclkLost ppm s
  | .thermalThrottle bushel reading held => Sys2Proof.Machine.execThermalThrottle bushel reading held s
  | .hbmLevelChange reading held => Sys2Proof.Machine.execHbmLevelChange reading held s
  | .thermalTrip unit reading => Sys2Proof.Machine.execThermalTrip unit reading s
  | .peckIdleEntry peck => Sys2Proof.Machine.execPeckIdleEntry peck s
  | .peckIdleExit peck => Sys2Proof.Machine.execPeckIdleExit peck s
  | .portRetry port => Sys2Proof.Machine.execPortRetry port s
  | .detectComplete port opens shorts => Sys2Proof.Machine.execDetectComplete port opens shorts s
  | .trainComplete port polarity logical => Sys2Proof.Machine.execTrainComplete port polarity logical s
  | .trainTmo port => Sys2Proof.Machine.execTrainTmo port s
  | .identifyFlitReceived port theirPort node valid version identity => Sys2Proof.Machine.execIdentifyFlitReceived port theirPort node valid version identity s
  | .idTmo port => Sys2Proof.Machine.execIdTmo port s
  | .attestMessageReceived port msg index count length zeros bytes => Sys2Proof.Machine.execAttestMessageReceived port msg index count length zeros bytes s
  | .attestTmo port => Sys2Proof.Machine.execAttestTmo port s
  | .laneLockLost port lanes => Sys2Proof.Machine.execLaneLockLost port lanes s
  | .linkFlitReceived port ack flags epochSeq credits tagHolds => Sys2Proof.Machine.execLinkFlitReceived port ack flags epochSeq credits tagHolds s
  | .linkFlitSend port => Sys2Proof.Machine.execLinkFlitSend port s
  | .keyEpochChange port => Sys2Proof.Machine.execKeyEpochChange port s
  | .headPacketReceived port seq uncorrectable corrected tagHolds dflits p message => Sys2Proof.Machine.execHeadPacketReceived port seq uncorrectable corrected tagHolds dflits p message s
  | .e2eTimeout ttag => Sys2Proof.Machine.execE2eTimeout ttag s
  | .memWrReceived port p => Sys2Proof.Machine.execMemWrReceived port p s
  | .memRdReceived port p => Sys2Proof.Machine.execMemRdReceived port p s
  | .memCplReceived port p => Sys2Proof.Machine.execMemCplReceived port p s
  | .deliveryReceived port p => Sys2Proof.Machine.execDeliveryReceived port p s
  | .resetReqReceived port p => Sys2Proof.Machine.execResetReqReceived port p s
  | .mgmtMsgReceived port p message => Sys2Proof.Machine.execMgmtMsgReceived port p message s
  | .syncOpSignal port p => Sys2Proof.Machine.execSyncOpSignal port p s
  | .syncOpWait port p => Sys2Proof.Machine.execSyncOpWait port p s
  | .syncOpRelease port p => Sys2Proof.Machine.execSyncOpRelease port p s
  | .syncOpWithdraw port p => Sys2Proof.Machine.execSyncOpWithdraw port p s
  | .mapProbe port p => Sys2Proof.Machine.execMapProbe port p s
  | .probeReply port p => Sys2Proof.Machine.execProbeReply port p s
  | .spdmRequest request => Sys2Proof.Machine.execSpdmRequest request s
  | .ideFail stream => Sys2Proof.Machine.execIdeFail stream s
  | .powerDownRailStop => Sys2Proof.Machine.execPowerDownRailStop s
  | .deliveryPairsDue => Sys2Proof.Machine.execDeliveryPairsDue s
  | .pcieCompletionTimeout tag => Sys2Proof.Machine.execPcieCompletionTimeout tag s
  | .pcieCompletionReceived tag data => Sys2Proof.Machine.execPcieCompletionReceived tag data s
  | .programmingInhibit unit outside => Sys2Proof.Machine.execProgrammingInhibit unit outside s

end Sys2Proof.Machine
end

