-- ==== Sys2Proof/Machine/Step.lean ====
section
/-! DEFINITION. One step of the block. -/
namespace Sys2Proof.Machine

/-- DESIGN CHOICE (log entry 5): with no command waiting, one edge of the 100 MHz clock passes: device time moves on by 10 ns
(R523), and the oldest packet of the module for its own node, if there is one, is delivered (R587, log entry 117). -/
def State.tick (s : State) : State := { s with dev := { s.dev with time := (s.dev.time + 10) % 2 ^ 64 }.deliverOwn }

/-- Takes the command at the front of the queue and runs it with the queue's rest; with an empty queue, one clock edge. -/
def step (s : State) : Host.Outcome State Fault Refusal :=
  match s.pending with
  | [] => .next s.tick
  | c :: rest => exec c { s with pending := rest }

/-- The state with the command that a word of the table spells at the front of its queue; no word spells one. -/
def State.withFetchWord (s : State) (nbits w : Nat) : State :=
  match Sys2Proof.decodeTableWord nbits w with
  | some c => { s with pending := c :: s.pending }
  | none => s

end Sys2Proof.Machine
end

