-- ==== Sys2Proof/WellFormed.lean ====
section
/-! DEFINITION. Which operands a command can carry: the lengths of lists, the ranges of fields, where the operand's type alone does
not say it. -/
namespace Sys2Proof
open Sys2Proof.Machine

/-- Every element is a byte. -/
def areBytes (l : List Nat) : Bool := l.all (fun b => decide (b < 256))

/-- R573: the widths of a packet's fields. -/
def Machine.Packet.wellFormed (p : Packet) : Bool :=
  decide (p.typ < 16) && decide (p.dst < 4096) && decide (p.src < 4096) && decide (p.ctx < 16) && decide (p.hops < 64)
    && decide (p.ttag < 16384) && decide (p.sub < 2) && decide (p.addr < 2 ^ 48) && decide (p.status < 256) && areBytes p.body

/-- R646: a start reports one self-test for each branch, failed lanes for each compute stack, and a trained link. -/
def Machine.StartReport.wellFormed (r : StartReport) : Bool :=
  decide (r.bondFailed.length = 4) && decide (r.selfTests.length = 16) && r.selfTests.all (fun t => decide (t < 8))
    && r.failing.all (fun a => decide (a < 16384)) && decide (1 ≤ r.rate ∧ r.rate ≤ 6) && decide (1 ≤ r.width ∧ r.width ≤ 16)

/-- A register's place lies in the space it names (R59, R556). -/
def Machine.RegPlace.wellFormed : RegPlace → Bool
  | .bar0 _ o => decide (o < 2 ^ 24)
  | .csr _ x => decide (x < 2 ^ 32)
  | .config _ _ => true

/-- The check of a command's operands. Commands whose operand types say all there is to say are well formed as they stand. -/
def Instr.wellFormed : Instr → Bool
  | .powerState _ _ t => decide (t.length = 16)
  | .rcFieldRead p _ => p.wellFormed
  | .registerWrite p _ _ _ => p.wellFormed
  | .bar2Request _ _ n d _ _ => decide (1 ≤ n) && d.all (fun l => decide (l.length = n))
  | .linkDegraded r w _ => decide (1 ≤ r.val ∧ r.val ≤ 6) && decide (1 ≤ w.val)
  | .start r => r.wellFormed
  | .readCycle _ codes => decide (codes.length = 264)
  | .exchContributionReceived _ p => p.wellFormed
  | .workingCopyReceived _ p => p.wellFormed
  | .barrierSignal _ p => p.wellFormed
  | .barrierOutcome m => m.all (fun x => x.2.wellFormed)
  | .programRow _ reads => !reads.isEmpty && reads.all (fun l => decide (l.length = 528) && l.all (fun c => decide (c.length = 8)))
  | .verificationComplete _ cs r => decide (cs.length = 4096) && cs.all (fun c => decide (c.length = 4)) && decide (r.length = 4)
  | .branchFault _ _ => true
  | .calibrationDwell _ g o => decide (g.length = 4) && decide (o.length = 4)
  | .hbmUncorrectable _ a _ => decide (a < 80000000000)
  | .railFault _ c => decide (c.val ≠ 0)
  | .inputFault c => decide (c.val ≠ 0)
  | .trainComplete _ _ l => decide (l.length = 4) && decide l.Nodup
  | .attestMessageReceived _ m _ _ _ _ _ => decide (2 ≤ m.toNat ∧ m.toNat ≤ 4)
  | .linkFlitReceived _ _ _ _ c _ => decide (c.length = 12)
  | .headPacketReceived _ _ _ _ _ _ p _ => p.wellFormed
  | .memWrReceived _ p => p.wellFormed
  | .memRdReceived _ p => p.wellFormed
  | .memCplReceived _ p => p.wellFormed
  | .deliveryReceived _ p => p.wellFormed
  | .resetReqReceived _ p => p.wellFormed
  | .mgmtMsgReceived _ p _ => p.wellFormed
  | .syncOpSignal _ p => p.wellFormed
  | .syncOpWait _ p => p.wellFormed
  | .syncOpRelease _ p => p.wellFormed
  | .syncOpWithdraw _ p => p.wellFormed
  | .mapProbe _ p => p.wellFormed
  | .probeReply _ p => p.wellFormed
  | .identify _ _ => true
  | .capabilities _ _ => true
  | .memAlloc _ _ => true
  | .memFree _ _ => true
  | .ctxInfo _ _ => true
  | .stepLoad _ _ => true
  | .stepSubmit _ _ => true
  | .stepUnload _ _ => true
  | .stepAbort _ _ => true
  | .xchLoad _ _ => true
  | .xchUnload _ _ => true
  | .updSet _ _ => true
  | .wchLoad _ _ => true
  | .wchUnload _ _ => true
  | .replayDiag _ _ => true
  | .arrayProgram _ _ => true
  | .arrayBind _ _ => true
  | .arrayRetire _ _ => true
  | .arrayInfo _ _ => true
  | .hvBranchRestore _ _ _ => true
  | .arrayBudgetSet _ _ => true
  | .syncAlloc _ _ => true
  | .syncFree _ _ => true
  | .syncSignal _ _ => true
  | .syncWait _ _ => true
  | .syncRead _ _ => true
  | .syncMapRemote _ _ => true
  | .syncBarrierSet _ _ => true
  | .syncReadyBind _ _ => true
  | .routeLoad _ _ => true
  | .routeRead _ _ => true
  | .portCtrl _ _ => true
  | .portInfo _ _ => true
  | .recPolicyLoad _ _ => true
  | .mirrorSet _ _ => true
  | .recRestore _ _ => true
  | .faultInfo _ _ => true
  | .logRead _ _ => true
  | .telemRead _ _ => true
  | .telemCfg _ _ => true
  | .csrRead _ _ => true
  | .csrWrite _ _ => true
  | .csrDump _ _ => true
  | .fwStage _ _ => true
  | .fwActivate _ _ => true
  | .fwInfo _ _ => true
  | .resetDevice _ _ => true
  | .resetContext _ _ => true
  | .resetBlock _ _ => true
  | .powerDown _ _ => true
  | .powerLimit _ _ => true
  | .debugUnlock _ _ => true
  | .measureRead _ _ => true
  | .debugLock _ _ => true
  | .unknownOpcode _ _ => true
  | .mbxGoWrite _ _ => true
  | .mbxCmdWrite _ _ _ _ => true
  | .mbxDataRdRead _ => true
  | .mbxDataWrWrite _ _ => true
  | .eventPop _ => true
  | .logTimeLoRead _ _ => true
  | .pciWinBaseWrite _ _ _ => true
  | .debugApertureAccess _ _ _ => true
  | .msixVectorUnmask _ _ => true
  | .flr _ => true
  | .vfEnableSet _ => true
  | .vfEnableClear => true
  | .cnvSeqArm _ _ => true
  | .cnvSeqArmComplete _ => true
  | .cnvSeqDefault _ _ => true
  | .calNow _ _ => true
  | .cnvRefSelWrite _ _ => true
  | .cnvMonArm _ _ => true
  | .rsdRebuild _ _ => true
  | .freqReqWrite _ _ => true
  | .refclkRestore => true
  | .bushelGate _ => true
  | .bushelGateEffect _ => true
  | .bushelUngate _ => true
  | .forceRel _ => true
  | .secFmkeyLock => true
  | .perstAssert => true
  | .perstDeassert => true
  | .hotReset => true
  | .contextReset _ _ => true
  | .deviceReset _ => true
  | .powerOn => true
  | .runAck => true
  | .presenceLost => true
  | .mpRestart _ => true
  | .mpWatchdogExpiry => true
  | .mpRestartComplete => true
  | .shedStage _ _ => true
  | .dataWindowTimeout _ => true
  | .telemetrySample => true
  | .logEpoch => true
  | .runStart => true
  | .attemptStart _ => true
  | .taskStart _ => true
  | .taskComplete _ => true
  | .workSteal _ _ => true
  | .bushelSteal _ _ => true
  | .rowGroupStart _ _ _ _ => true
  | .checksumWindowEnd _ => true
  | .persistClear _ => true
  | .refRatioPublish _ => true
  | .fallbackRowGroup _ => true
  | .tilePass _ => true
  | .wideRecomputation _ => true
  | .vectorDescriptor _ => true
  | .chainUnit _ _ => true
  | .taskAbortedStreamFault _ => true
  | .mailboxWaitTimeout _ _ => true
  | .compression _ => true
  | .barrierMirrorAck _ => true
  | .scaleRecomputation => true
  | .updateChunk _ => true
  | .mirrorRecordWrite => true
  | .mirrorAck => true
  | .snapshotCopy => true
  | .reconstruction _ _ _ _ _ => true
  | .residualDecisionStart _ => true
  | .residualDecisionComplete _ => true
  | .programSelect => true
  | .drainComplete _ => true
  | .attemptRestart _ => true
  | .checksumTableRebuild _ => true
  | .metadataFlush => true
  | .calibrationCheck _ => true
  | .referenceSettled _ => true
  | .extRefFault _ _ => true
  | .monitorReading _ _ _ _ => true
  | .monitorPassEnd _ _ => true
  | .faultDetected _ _ _ => true
  | .correctableError _ _ _ => true
  | .blockReset _ => true
  | .blockResetRelease _ => true
  | .deviceLost _ => true
  | .vcoreRestart _ => true
  | .vprgRestart => true
  | .senseLost _ => true
  | .phaseShed _ _ => true
  | .inputRestored => true
  | .peakPower => true
  | .powerEvaluation _ _ _ => true
  | .avsStep _ _ _ => true
  | .refclkLost _ => true
  | .thermalThrottle _ _ _ => true
  | .hbmLevelChange _ _ => true
  | .thermalTrip _ _ => true
  | .peckIdleEntry _ => true
  | .peckIdleExit _ => true
  | .powerDownRailStop => true
  | .programmingInhibit _ _ => true
  | .portRetry _ => true
  | .detectComplete _ _ _ => true
  | .trainTmo _ => true
  | .identifyFlitReceived _ _ _ _ _ _ => true
  | .idTmo _ => true
  | .attestTmo _ => true
  | .laneLockLost _ _ => true
  | .linkFlitSend _ => true
  | .keyEpochChange _ => true
  | .e2eTimeout _ => true
  | .deliveryPairsDue => true
  | .spdmRequest _ => true
  | .ideFail _ => true
  | .pcieCompletionTimeout _ => true
  | .pcieCompletionReceived _ _ => true

end Sys2Proof
end

