-- ==== Sys2Proof/Safety.lean ====
section
/-! DEFINITION. The terms in which claims about the block are stated: a command that may be served and what serving leaves, runs
without a stop, the canonical form of the state's tables. -/
namespace Sys2Proof.Machine

/-- The state with everything but the queue and the fuses replaced. -/
def State.withDev (s : State) (d : Dev) : State := { s with dev := d }

/-- The command of slot `k` of context `c` is the next to be served (R517, R518), has the opcode `op`, and passes checks 2 to 4 of R512. -/
def Ready (s : State) (c k op : Nat) : Prop :=
  s.dev.servable c k = true ∧ s.dev.opcode c k = op ∧ ((s.dev.setSlot c k slotRunning).refuse c k).1 = none

/-- The module as a command's own part finds it: the slot RUNNING and the SEQ consumed (R508, R513). -/
def Dev.begun (d : Dev) (c k : Nat) : Dev :=
  (d.setSlot c k slotRunning).consumeSeq c (bits ((d.setSlot c k slotRunning).cmd c k 0) 15 8)

/-- The module at `d`, with the command of the slot complete (R509). -/
def State.done (s : State) (c k : Nat) (d : Dev) (st : Status) (words : List Nat := []) : State := s.withDev (d.finishSlot c k st words)

/-- The module at `d`, with the slot RUNNING until what it waits for happens. -/
def State.waits (s : State) (c k : Nat) (d : Dev) (w : SlotWait) : State :=
  s.withDev (d.modCtx c (fun x => { x with waits := Tbl.put x.waits k w }))

/-- A state from which no run ever stops in a fault or a refusal. -/
def Safe (s : State) : Prop := ∀ n, ∃ t, Host.Core.run Sys2Proof.core n s = .next t

/-- The canonical form of the state: registers, memory, arrays, contexts and ports in rising order of their keys, memory without cells
that hold what an unlisted cell reads as. -/
def Dev.ordered (d : Dev) : Prop :=
  Tbl.rising d.regs = true ∧ Memory.wf d.mem = true ∧ Tbl.rising d.arrays = true ∧ Tbl.rising d.ctxs = true ∧ Tbl.rising d.ports = true

/-- Two states differ in registers at most. -/
def Dev.sameButRegs (d e : Dev) : Prop := e = { d with regs := e.regs }

/-- Two states differ in registers, contexts' pages and messages to the host at most. -/
def Dev.sameButPages (d e : Dev) : Prop := e = { d with regs := e.regs, ctxs := e.ctxs, out := e.out }

/-- R62: an access at the internal CSR address of a register would be performed. -/
def Dev.accessible (d : Dev) (r : Reg) (u n : Nat) : Prop := d.csrStatus r.scope.lvl (r.key u n 0 % 2 ^ 40) = .ok

/-- R661: the module after such an access woke a Peck from Idle. -/
def Dev.roused (d : Dev) (r : Reg) (u n : Nat) : Dev := d.wakeFor r.scope.lvl (r.key u n 0 % 2 ^ 40)

/-- The register has no field that acts on a write, beyond its access codes (R11), and CSR writes may reach it. -/
def Reg.plain (r : Reg) : Bool :=
  [CNV_SEQ_CTRL, CNV_SEQ_ENTRY, CNV_CAL_CFG, RSD_CTRL, CLK_ISL_CFG, RST_PECK_CTRL, CNV_REF_SEL, CNV_MON_CTRL, PWR_BUSHEL_CTRL, CLK_REF_CTRL,
    SEC_FMKEY_CTRL, SEC_FMKEY_HASH, MBX_CMD, MBX_GO, MBX_DATA_WR, MBX_EVT_CTRL, PCI_WIN_BASE_LO, PCI_WIN_BASE_HI].all (fun x => !r.is x)

/-- An accepted packet of a type that a row names is for this module, on a port in UP that is not suspended (R595, R601). -/
def Dev.lands (d : Dev) (port : Nat) (p : Packet) : Prop :=
  d.portsRun = true ∧ d.portState port = pUp ∧ p.lawful p.dflits = true ∧ d.node = some p.dst ∧ d.suspended port = false

/-- R583, R431: after delivery the packet's buffer is free, but where a working-copy message is held or the port has left UP. -/
def Dev.taken (d : Dev) (port : Nat) (p : Packet) (after : Dev) : Dev :=
  if d.heldWc.length < after.heldWc.length ∨ after.portState port ≠ pUp then after else after.freeBuffer port p

/-- The context, slot and opcode of a mailbox command of the opcode table (R515); every other row of the table has none. -/
def mailboxCommand : Instr → Option (Nat × Nat × Nat)
  | .identify c k => some (c, k, 0x00)
  | .capabilities c k => some (c, k, 0x01)
  | .memAlloc c k => some (c, k, 0x10)
  | .memFree c k => some (c, k, 0x11)
  | .ctxInfo c k => some (c, k, 0x12)
  | .stepLoad c k => some (c, k, 0x20)
  | .stepSubmit c k => some (c, k, 0x21)
  | .stepUnload c k => some (c, k, 0x22)
  | .stepAbort c k => some (c, k, 0x23)
  | .xchLoad c k => some (c, k, 0x28)
  | .xchUnload c k => some (c, k, 0x29)
  | .updSet c k => some (c, k, 0x2A)
  | .wchLoad c k => some (c, k, 0x2B)
  | .wchUnload c k => some (c, k, 0x2C)
  | .replayDiag c k => some (c, k, 0x6A)
  | .arrayProgram c k => some (c, k, 0x30)
  | .arrayBind c k => some (c, k, 0x31)
  | .arrayRetire c k => some (c, k, 0x32)
  | .arrayInfo c k => some (c, k, 0x33)
  | .hvBranchRestore c k _ => some (c, k, 0x34)
  | .arrayBudgetSet c k => some (c, k, 0x35)
  | .syncAlloc c k => some (c, k, 0x40)
  | .syncFree c k => some (c, k, 0x41)
  | .syncSignal c k => some (c, k, 0x42)
  | .syncWait c k => some (c, k, 0x43)
  | .syncRead c k => some (c, k, 0x44)
  | .syncMapRemote c k => some (c, k, 0x45)
  | .syncBarrierSet c k => some (c, k, 0x46)
  | .syncReadyBind c k => some (c, k, 0x47)
  | .routeLoad c k => some (c, k, 0x50)
  | .routeRead c k => some (c, k, 0x51)
  | .portCtrl c k => some (c, k, 0x52)
  | .portInfo c k => some (c, k, 0x53)
  | .recPolicyLoad c k => some (c, k, 0x60)
  | .mirrorSet c k => some (c, k, 0x61)
  | .recRestore c k => some (c, k, 0x62)
  | .faultInfo c k => some (c, k, 0x63)
  | .logRead c k => some (c, k, 0x70)
  | .telemRead c k => some (c, k, 0x71)
  | .telemCfg c k => some (c, k, 0x72)
  | .csrRead c k => some (c, k, 0x74)
  | .csrWrite c k => some (c, k, 0x75)
  | .csrDump c k => some (c, k, 0x76)
  | .fwStage c k => some (c, k, 0x80)
  | .fwActivate c k => some (c, k, 0x81)
  | .fwInfo c k => some (c, k, 0x82)
  | .resetDevice c k => some (c, k, 0x90)
  | .resetContext c k => some (c, k, 0x91)
  | .resetBlock c k => some (c, k, 0x92)
  | .powerState c k _ => some (c, k, 0x93)
  | .powerDown c k => some (c, k, 0x94)
  | .powerLimit c k => some (c, k, 0x95)
  | .debugUnlock c k => some (c, k, 0xA0)
  | .measureRead c k => some (c, k, 0xA1)
  | .debugLock c k => some (c, k, 0xA2)
  | _ => none

end Sys2Proof.Machine
end

