-- ==== Sys2Proof/Certificates/Slice0/Obligations.lean ====
section
/-! DEFINITION. The statements for the provers. Where a statement has several clauses, each is one conjunct for one command or one form
of it. In the clauses about mailbox commands `b` is the module as the command's own part finds it: the slot RUNNING and the SEQ consumed.
Argument words are read with `Dev.cmd`, word 1 the first after the header. -/
open Sys2Proof Sys2Proof.Machine

/-! ### The block: its queue, its clock, its reset state, its fuses -/

/-- The command at the front of the queue is taken and executed with the queue's rest. -/
def Obligations.StepRunsFrontCommand : Prop :=
  ∀ (c : Instr) (rest : List Instr) (s : State), s.pending = c :: rest → step s = exec c { s with pending := rest }

/-- Log entries 5 and 117 (the model's choice): with an empty queue, a step is one edge of the 100 MHz clock: device time (R523) moves on
by 10 ns modulo 2^64, and nothing else changes where no packet of the module waits for its own node; where one waits, the oldest is then
delivered, and the queue and the fuses stay. -/
def Obligations.IdleStepIsOneClockEdge : Prop :=
  ∀ s : State, s.pending = [] →
    let d := { s.dev with time := (s.dev.time + 10) % 2 ^ 64 }
    (s.dev.own = [] → step s = .next (s.withDev d))
      ∧ (s.dev.own ≠ [] → step s = .next (s.withDev d.deliverOwn) ∧ (s.withDev d.deliverOwn).pending = [])

/-- Log entry 6 (the model's choices, with the reset columns of the register tables): the state the block starts from. -/
def Obligations.ResetStateHoldsResetValues : Prop :=
  State.reset.pending = []
    ∧ (∀ (r : Reg) (u n k : Nat), State.reset.dev.word r u n k = r.resetAt n k)
    ∧ (∀ a : Fin 16384, State.reset.dev.arrState a.val = SERVING ∧ State.reset.dev.unbound a.val = true)
    ∧ State.reset.dev.rd PWR_LIMIT_LIMIT 0 = 1500
    ∧ (∀ p : Fin 128, State.reset.dev.rd CLK_ISL_CFG_FREQ_REQ p.val = 80)
    ∧ (∀ (c : Fin 16) (k : Fin 8), State.reset.dev.slotState c.val k.val = slotFree)
    ∧ State.reset.dev.maxHops = 16 ∧ State.reset.dev.telemetryPeriod = 1000 ∧ State.reset.dev.minInterval = 100
    ∧ State.reset.dev.lifeLimit = 180000 ∧ State.reset.dev.time = 0 ∧ State.reset.dev.life = .starting

/-- The reset state meets the invariants the other statements name: canonical form, and a key slot that is not revoked. -/
def Obligations.ResetStateMeetsInvariants : Prop :=
  State.reset.dev.ordered ∧ State.reset.fuses.revoked < 15

/-- Every command completes in a next state with the queue untouched, and every command but RUN_ACK leaves the fuses as they were. -/
def Obligations.CommandsKeepQueueAndFuses : Prop :=
  ∀ (c : Instr) (s : State), ∃ t, exec c s = .next t ∧ t.pending = s.pending ∧ (c ≠ .runAck → t.fuses = s.fuses)

/-- No run of the block ever stops, and `n` steps take exactly the `n` oldest commands from the queue. -/
def Obligations.CommandsAreTakenInOrder : Prop :=
  ∀ (n : Nat) (s : State), ∃ t, Host.Core.run Sys2Proof.core n s = .next t ∧ t.pending = s.pending.drop n

/-- Over any run the anti-rollback count never falls, revoked keys stay revoked, and a key stays unrevoked -/
def Obligations.FusesNeverGoBack : Prop :=
  -- R684, R685: over any run the anti-rollback count never falls, and a revoked image key stays revoked.
  (
    ∀ (n : Nat) (s t : State), Host.Core.run Sys2Proof.core n s = .next t →
      s.fuses.rbCount ≤ t.fuses.rbCount ∧ (∀ k : Nat, bit s.fuses.revoked k = true → bit t.fuses.revoked k = true)
        ∧ t.fuses.badCopyA = s.fuses.badCopyA ∧ t.fuses.badCopyB = s.fuses.badCopyB)
  -- R685: every step keeps an image key that is not revoked.
  ∧ (
    ∀ s t : State, step s = .next t → s.fuses.revoked < 15 → t.fuses.revoked < 15)

/-- Every step keeps the canonical form of the memory: cells strictly rising, none that holds what an unlisted cell reads as. -/
def Obligations.StepKeepsMemoryCanonical : Prop :=
  ∀ s t : State, step s = .next t → Memory.wf s.dev.mem = true → Memory.wf t.dev.mem = true

/-- Every step keeps the tables of registers, arrays, contexts and ports in rising order of their keys. -/
def Obligations.StepKeepsTablesOrdered : Prop :=
  ∀ s t : State, step s = .next t →
    Tbl.rising s.dev.regs = true ∧ Tbl.rising s.dev.arrays = true ∧ Tbl.rising s.dev.ctxs = true ∧ Tbl.rising s.dev.ports = true →
    Tbl.rising t.dev.regs = true ∧ Tbl.rising t.dev.arrays = true ∧ Tbl.rising t.dev.ctxs = true ∧ Tbl.rising t.dev.ports = true

/-- R685: the REVOKE bits that RUN acknowledgement of an image blows: every bit blown before stays, the key that verified the running
image is never added, bits come from the image's REVOKE field only, and a slot is left that is not revoked. -/
def Obligations.RevocationLeavesTheRunningKey : Prop :=
  ∀ (f : Fuses) (i : Image), f.revoked < 15 →
    (f.advance i).revoked < 15
      ∧ (∀ k : Nat, bit f.revoked k = true → bit (f.advance i).revoked k = true)
      ∧ (∀ k : Nat, bit (f.advance i).revoked k = true → bit f.revoked k = true ∨ bit i.revoke k = true)
      ∧ (bit f.revoked i.keySlot = false → bit (f.advance i).revoked i.keySlot = false)

/-- R647, R684, R691: RUN acknowledgement of a start that has run its phases: RUN_ACK reads 1, START_CNT returns to 0, the module is in
Run, the anti-rollback count takes the larger of its value and the image's SVN, and REVOKE advances. Otherwise it changes nothing. -/
def Obligations.RunAckEndsTheStart : Prop :=
  (∀ s : State, s.dev.mayAck = true → s.dev.ordered →
    ∃ t, exec .runAck s = .next t ∧ t.pending = s.pending ∧ t.dev.life = .run ∧ t.dev.rd RST_START_RUN_ACK 0 = 1
      ∧ t.dev.rd RST_START_START_CNT 0 = 0 ∧ t.fuses.rbCount = max s.fuses.rbCount s.dev.runningImage.svn
      ∧ t.fuses.revoked = revokeAfter s.fuses.revoked s.dev.runningImage ∧ t.dev.heldEvents = [])
    ∧ (∀ s : State, s.dev.mayAck = false → exec .runAck s = .next s)

/-! ### The mailbox: checks before a command, queries, GO and command words -/

/-- Mailbox commands wait for their turn, and the checks of the header come first, in the order of R512 -/
def Obligations.MailboxServesInOrder : Prop :=
  -- R515: an opcode outside the table is answered with UNKNOWN_OPCODE; its SEQ is not consumed (R512).
  (
    ∀ (s : State) (c : Fin 16) (k : Fin 8), s.dev.servable c k = true → opcodeRow (s.dev.opcode c k) = none →
      exec (.unknownOpcode c k) s = .next (s.done c k (s.dev.setSlot c k slotRunning) .unknownOpcode))
  -- R512, R513, R658: every command of the opcode table is checked in the order of R512 when firmware starts it: the context (and in
  -- minimal recovery mode the list of R658), the reserved bits of word 0, the SEQ, whose refusal sets SEQ_ERR. A refusal leaves HIGH and the
  -- marks of R513 as they were.
  ∧ (
    ∀ (i : Instr) (s : State) (c : Fin 16) (k : Fin 8) (op : Nat), mailboxCommand i = some (c.val, k.val, op) →
      s.dev.servable c k = true → s.dev.opcode c k = op →
      let d := s.dev.setSlot c k slotRunning
      let w := d.cmd c k 0
      ((opcodeRow op).any (·.2) = true ∧ c.val ≠ 0 ∨ d.mpState = 2 ∧ recoveryOps.contains op = false →
        exec i s = .next (s.done c k d .notPermitted))
      ∧ (((opcodeRow op).any (·.2) = false ∨ c.val = 0) → (d.mpState ≠ 2 ∨ recoveryOps.contains op = true) →
        (bits w 31 16 ≠ 0 → exec i s = .next (s.done c k d .badArg))
        ∧ (bits w 31 16 = 0 → d.seqAccepted c (bits w 15 8) = false →
          exec i s = .next (s.done c k (d.wr MBX_PAGE_STATUS_SEQ_ERR c 0 0 1) .badArg))))
  -- R508, R517: a command that is not the next to be served, or whose slot holds another opcode, is left alone.
  ∧ (
    ∀ (i : Instr) (s : State) (c k op : Nat), mailboxCommand i = some (c, k, op) →
      ¬ (s.dev.servable c k = true ∧ s.dev.opcode c k = op) → exec i s = .next s)

/-- R509: completion writes the response header and words, moves the slot to DONE, and sets its MBX_DONE bit; the other slots of the
context keep their states. -/
def Obligations.CompletionShowsTheResponse : Prop :=
  ∀ (d : Dev) (c : Fin 16) (k j : Fin 8) (st : Status) (ws : List Nat) (i : Fin 15), d.ordered →
    let e := d.finishSlot c k st ws
    e.slotState c k = slotDone
      ∧ (j ≠ k → e.slotState c j = d.slotState c j)
      ∧ bit (e.rd MBX_DONE_DONE c) k = true
      ∧ e.rd MBX_RSP_WORD c k 0 = (d.responseHeader c k st) % 2 ^ 32
      ∧ (i.val < ws.length → e.rd MBX_RSP_WORD c k (i.val + 1) = nth ws i % 2 ^ 32)

/-- The queries change registers of their context's BAR0 page, that context's record and messages to the host only: every register of the
internal CSR space, and everything else of the module, stays. -/
def Obligations.QueriesChangeOnlyTheirPage : Prop :=
  ∀ (i : Instr) (s t : State) (c : Fin 16) (k : Fin 8),
    (i = .identify c k ∨ i = .capabilities c k ∨ i = .ctxInfo c k ∨ i = .arrayInfo c k ∨ i = .routeRead c k ∨ i = .portInfo c k
      ∨ i = .faultInfo c k ∨ i = .telemRead c k ∨ i = .measureRead c k) →
    s.dev.ordered → exec i s = .next t →
    s.dev.sameButPages t.dev
      ∧ (∀ key : Nat, key / 2 ^ 40 ≠ 4 → Tbl.find t.dev.regs key = Tbl.find s.dev.regs key)
      ∧ (∀ x : Nat, x ≠ c.val → t.dev.ctx x = s.dev.ctx x)

/-- IDENTIFY, CAPABILITIES, CTX_INFO, ARRAY_INFO, PORT_INFO and TELEM_READ answer from the state -/
def Obligations.QueriesAnswer : Prop :=
  -- R532, R533, R536: IDENTIFY, CAPABILITIES and CTX_INFO; a set argument bit is BAD_ARG.
  (
    (∀ (s : State) (c : Fin 16) (k : Fin 8), Ready s c k 0x00 →
      let b := s.dev.begun c k
      exec (.identify c k) s = .next (if b.argsClean c k [] then
        s.done c k b .ok [0x10241003, if b.life = .recovery then 0 else b.runningImage.version, Config.serial.toNat % 2 ^ 32,
          Config.serial.toNat / 2 ^ 32, b.word FUR_NODE 0, c]
        else s.done c k b .badArg))
    ∧ (∀ (s : State) (c : Fin 16) (k : Fin 8), Ready s c k 0x01 →
      let b := s.dev.begun c k
      let retired := ((b.regs.filter (fun e => ARR_STATE.hasKey e.1)).filter (fun e => bits e.2 2 0 == RETIRED)).length
      exec (.capabilities c k) s = .next (if b.argsClean c k [] then
        s.done c k b .ok [480000000000 % 2 ^ 32, 480000000000 / 2 ^ 32, 471074521088 % 2 ^ 32, 471074521088 / 2 ^ 32,
          16384 + retired * 2 ^ 16, 16 + 4 * 2 ^ 8 + 16 * 2 ^ 16 + 8 * 2 ^ 24]
        else s.done c k b .badArg))
    ∧ (∀ (s : State) (c : Fin 16) (k : Fin 8), Ready s c k 0x12 →
      let b := s.dev.begun c k
      let size := (b.ctx c).map.foldl (fun n r => n + r.size) 0
      exec (.ctxInfo c k) s = .next (if b.argsClean c k [] then
        s.done c k b .ok [size % 2 ^ 32, size / 2 ^ 32, (b.ctx c).map.length, (b.vmap.filter (fun e => e.1 / 4096 == c.val)).length,
          (b.handles c).length + (b.runs.filter (fun r => r.ctx == c.val)).length * 2 ^ 8, (b.ctx c).events.length]
        else s.done c k b .badArg)))
  -- R251, R607, R538: ARRAY_INFO, PORT_INFO and TELEM_READ.
  ∧ (
    (∀ (s : State) (c : Fin 16) (k : Fin 8), Ready s c k 0x33 →
      let b := s.dev.begun c k
      let a := b.cmd c k 1 % 16384
      let r := b.arr a
      let flags := b2n r.halted.isSome * 2 ^ 9 + b2n r.pendingBind.isSome * 2 ^ 8
      exec (.arrayInfo c k) s = .next (if b.argsClean c k [0x3FFF] then
        s.done c k b .ok [r.cause * 2 ^ 13 + b.rd ARR_CHK_STATUS_PERSIST (grainOf a) (slotOf a) * 2 ^ 11
            + b.rd CNV_CAL_STATUS_SUBST (grainOf a) (slotOf a) * 2 ^ 10 + flags + r.attempt * 2 ^ 6
            + ((b.queued a).map (·.cls)).getD 0 * 2 ^ 3 + b.arrState a,
          b.rd ARR_PROG_GEN_GEN (grainOf a) (slotOf a), b.lifeCount a, b.rd PRG_STUCK_CNT_COUNT (grainOf a) (slotOf a),
          min ((b.time - max r.lastStart b.coldStart) / 100000000) 0xFFFFFFFF, (b.binding a).tensor,
          (b.binding a).rowTile * 2 ^ 16 + (b.binding a).colTile]
        else s.done c k b .badArg))
    ∧ (∀ (s : State) (c : Fin 16) (k : Fin 8), Ready s c k 0x53 →
      let b := s.dev.begun c k
      let p := bits (b.cmd c k 1) 2 0
      exec (.portInfo c k) s = .next (if b.argsClean c k [7] then
        s.done c k b .ok ([b.word FUR_PORT_STATUS p, b.word FUR_PARTNER p, b.word FUR_CONFIRMED p, b.word FUR_LANE_STATUS p,
          b.word FUR_KEY_EPOCH p] ++ (List.range 8).map (fun i => (b.port p).partnerHash / 2 ^ (32 * i) % 2 ^ 32)
          ++ [b.word FUR_FEC_UNCORR_CNT p])
        else s.done c k b .badArg))
    ∧ (∀ (s : State) (c : Fin 16) (k : Fin 8), Ready s c k 0x71 →
      let b := s.dev.begun c k
      exec (.telemRead c k) s = .next (if b.argsClean c k [] then
        s.done c k b .ok ([b.telemetry.number, b.telemetry.time % 2 ^ 32, b.telemetry.time / 2 ^ 32 % 2 ^ 32] ++ b.telemetry.words)
        else s.done c k b .badArg)))

/-- FAULT_INFO, ROUTE_READ and MEASURE_READ answer as their rules say -/
def Obligations.InformationCommandsAnswer : Prop :=
  -- R500: FAULT_INFO.
  (
    ∀ (s : State) (c : Fin 16) (k : Fin 8), Ready s c k 0x63 →
      let b := s.dev.begun c k
      exec (.faultInfo c k) s = .next (if b.argsClean c k [] then
        s.done c k b .ok [b.word FLT_STATUS 0, b.word FLT_LAST 0, b.word FLT_LAST_TIME_LO 0, b.word FLT_LAST_TIME_HI 0,
          b.word FLT_CE_CNT 0, b.word FLT_BLOCK_CNT 0, b.word FLT_INT_LAST 0, b.word FLT_ISO 0 0, b.word FLT_ISO 0 1, b.word FLT_ISO 0 2,
          b.word FLT_ISO 0 3, b.word FLT_ISO_X 0, b.word FLT_MIRROR_STEP 0]
        else s.done c k b .badArg))
  -- R605: ROUTE_READ.
  ∧ (
    ∀ (s : State) (c : Fin 16) (k : Fin 8), Ready s c k 0x51 →
      let b := s.dev.begun c k
      let first := bits (b.cmd c k 1) 11 0
      let count := bits (b.cmd c k 2) 3 0
      exec (.routeRead c k) s = .next (
        if b.argsClean c k [0xFFF, 0xF] = false ∨ 14 < count ∨ 4096 < first + count then s.done c k b .badArg
        else if count = 0 then s.done c k b .okZeroWork
        else s.done c k b .ok (b.word FUR_NODE 0 :: (List.range count).map (fun i => Tbl.get 0 b.routes (first + i)))))
  -- R692: MEASURE_READ.
  ∧ (
    ∀ (s : State) (c : Fin 16) (k : Fin 8), Ready s c k 0xA1 →
      let b := s.dev.begun c k
      let i := bits (b.cmd c k 1) 3 0
      exec (.measureRead c k) s = .next (
        if b.argsClean c k [0xF] = false ∨ 8 ≤ i then s.done c k b .badArg
        else s.done c k b .ok ((List.range 8).map (fun j => (b.measure i).1 / 2 ^ (32 * j) % 2 ^ 32) ++ [(b.measure i).2 % 2 ^ 32])))

/-- GO, command words, the data window and the event FIFO act on a function's page as stated -/
def Obligations.PageAccessesTakeEffect : Prop :=
  -- R508, R512 check 1, R518, R519: a GO with one bit set. On a FREE or DONE slot it clears the response words and moves the slot to
  -- ACCEPTED (in shedding stage 4 a command below P0 completes with BUSY at once and is counted, in a stage from 1 on a P3 command is counted as
  -- deferred); on an ACCEPTED or RUNNING slot, or on a context other than 0 in minimal recovery mode, it sets GO_IGN.
  (
    ∀ (s : State) (c : Fin 16) (k : Fin 8), s.dev.exists_ c = true → s.dev.life ≠ .off → s.dev.perst = false →
      let d := s.dev
      let cls := opcodeClass (d.opcode c k)
      let stage := d.rd MBX_MP_STATUS_SHED 0
      let queued := ((d.putWords c k 0 (List.replicate 16 0)).setSlot c k slotAccepted).modCtx c (fun x => { x with
        goOrder := Tbl.put x.goOrder k d.nextGo, goTime := Tbl.put x.goTime k d.time, waits := Tbl.del x.waits k,
        deadline := Tbl.del x.deadline k })
      exec (.mbxGoWrite c (BitVec.ofNat 32 (2 ^ k.val))) s = .next (s.withDev (
        if d.slotState c k = slotAccepted ∨ d.slotState c k = slotRunning ∨ (d.life = .recovery ∧ c.val ≠ 0) then
          d.wr MBX_PAGE_STATUS_GO_IGN c 0 0 1
        else if stage = 4 ∧ cls ≠ 0 then (queued.finishSlot c k .busy).count MBX_BUSY_CNT_COUNT 0 0
        else if 1 ≤ stage ∧ cls = 3 then queued.count MBX_DEFER_CNT_COUNT 0 0
        else queued)))
  -- R508, R521, R522, R530: writes of command words, reads and writes through the data window, and the removal of an event.
  ∧ (
    (∀ (s : State) (c : Fin 16) (k : Fin 8) (w : Fin 16) (v : BitVec 32), s.dev.answers c = true →
      exec (.mbxCmdWrite c k w v) s = .next (s.withDev (
        if s.dev.slotState c k = slotAccepted ∨ s.dev.slotState c k = slotRunning then s.dev.wr MBX_PAGE_STATUS_WR_BUSY c 0 0 1
        else s.dev.wr MBX_CMD_WORD c k w v.toNat)))
    ∧ (∀ (s : State) (c : Fin 16) (w : Nat) (rest : List Nat), s.dev.answers c = true → s.dev.windowOpen c = true →
      s.dev.on MBX_DATA_STATUS_DIR c = false → (s.dev.ctx c).window = w :: rest →
      let d := (s.dev.modCtx c (fun x => { x with window := rest, windowAccess := s.dev.time })).wr MBX_DATA_STATUS_REMAIN c 0 0 rest.length
      let reply := (s.dev.ctx c).windowReply
      exec (.mbxDataRdRead c) s = .next (s.withDev ((if rest = [] then
          (d.closeWindow c).finishSlot c (s.dev.rd MBX_DATA_STATUS_SLOT c) (Status.ofCode reply.1) reply.2 else d).hostData c (some (leBytes 4 w)))))
    ∧ (∀ (s : State) (c : Fin 16), s.dev.answers c = true → s.dev.windowOpen c = false →
      exec (.mbxDataRdRead c) s = .next (s.withDev ((s.dev.wr MBX_DATA_STATUS_UNDERRUN c 0 0 1).hostData c (some (leBytes 4 0)))))
    ∧ (∀ (s : State) (c : Fin 16) (v : BitVec 32), s.dev.answers c = true → s.dev.windowOpen c = true →
      s.dev.on MBX_DATA_STATUS_DIR c = true → 2 ≤ s.dev.rd MBX_DATA_STATUS_REMAIN c →
      exec (.mbxDataWrWrite c v) s = .next (s.withDev ((s.dev.modCtx c (fun x => { x with
        window := x.window ++ [v.toNat], windowAccess := s.dev.time })).wr MBX_DATA_STATUS_REMAIN c 0 0 (s.dev.rd MBX_DATA_STATUS_REMAIN c - 1))))
    ∧ (∀ (s : State) (c : Fin 16) (v : BitVec 32), s.dev.answers c = true → s.dev.windowOpen c = false →
      exec (.mbxDataWrWrite c v) s = .next (s.withDev (s.dev.wr MBX_DATA_STATUS_OVERRUN c 0 0 1)))
    ∧ (∀ (s : State) (c : Fin 16), s.dev.windowOpen c = true → (s.dev.ctx c).windowAccess + 10000000000 ≤ s.dev.time →
      exec (.dataWindowTimeout c) s = .next (s.done c (s.dev.rd MBX_DATA_STATUS_SLOT c) (s.dev.closeWindow c) .timeout))
    ∧ (∀ (s : State) (c : Fin 16), s.dev.answers c = true →
      ∃ t, exec (.eventPop c) s = .next t ∧ (t.dev.ctx c).events = (s.dev.ctx c).events.drop 1
        ∧ t.dev.out = s.dev.out ∧ t.dev.mem = s.dev.mem))

/-! ### Step programs and their tables -/

/-- STEP_LOAD, STEP_SUBMIT and STEP_ABORT take effect, and an abort leaves no run of its program -/
def Obligations.StepCommandsTakeEffect : Prop :=
  -- R333, R334, R336: STEP_LOAD of a program that passes its checks takes the lowest free handle; STEP_SUBMIT of a loaded program queues a
  -- run that holds the slot, or completes with OK_ZERO_WORK for zero steps or zero microbatches; STEP_ABORT ends the program's runs.
  (
    (∀ (s : State) (c : Fin 16) (k : Fin 8), Ready s c k 0x20 →
      let b := s.dev.begun c k
      let base := b.cmd48 c k 1
      let free := (List.range 4).find? (fun h => !(b.handles c).contains h)
      exec (.stepLoad c k) s = .next (
        if b.argsClean c k [mWord, mHigh, mWord] = false ∨ inMemory base 1088 = false then s.done c k b .badArg
        else match b.programCheck c base (b.cmd c k 3), free with
          | some st, _ => s.done c k b st
          | none, none => s.done c k b .busy
          | none, some h => s.done c k { b with programs := Tbl.put b.programs (progKey c h) { base := base, length := b.cmd c k 3 } } .ok [h]))
    ∧ (∀ (s : State) (c : Fin 16) (k : Fin 8) (p : Program), Ready s c k 0x21 →
      let b := s.dev.begun c k
      let h := bits (b.cmd c k 1) 1 0
      let n := bits (b.cmd c k 2) 15 0
      Tbl.find b.programs (progKey c h) = some p → b.argsClean c k [3, mHigh] = true →
      exec (.stepSubmit c k) s = .next (
        if b.powerState ≠ 0 then s.done c k b .notPermitted
        else if 16 ≤ b.runs.length then s.done c k b .busy
        else if n = 0 ∨ b.mbCount p.base = 0 then s.done c k (b.barrierValue c h).2 .okZeroWork [0, (b.barrierValue c h).1, 0]
        else s.waits c k { b with runs := b.runs ++ [⟨c, h, k, n, 0⟩] } .run))
    ∧ (∀ (s : State) (c : Fin 16) (k : Fin 8), Ready s c k 0x23 →
      let b := s.dev.begun c k
      let h := bits (b.cmd c k 1) 1 0
      exec (.stepAbort c k) s = .next (
        if b.argsClean c k [3] = false ∨ Tbl.find b.programs (progKey c h) = none then s.done c k b .badArg
        else if b.hasRun c h = false then s.done c k b .okZeroWork
        else s.done c k (b.abortRuns (fun r => r.ctx == c.val && r.handle == h)) .ok)))
  -- R336, R337: an abort before the first queued run has started takes the program's runs out of the queue and leaves every other run in
  -- its place, and every loaded program as it was.
  ∧ (
    ∀ (s t : State) (c : Fin 16) (k : Fin 8), Ready s c k 0x23 →
      let b := s.dev.begun c k
      let h := bits (b.cmd c k 1) 1 0
      b.argsClean c k [3] = true → b.hasRun c h = true → (Tbl.find b.programs (progKey c h)).isSome = true →
      b.runStarted = false → exec (.stepAbort c k) s = .next t →
      t.dev.runs = b.runs.filter (fun r => !(r.ctx == c.val && r.handle == h)) ∧ t.dev.programs = b.programs)

/-- R335: STEP_UNLOAD. -/
def Obligations.StepUnloadAnswers : Prop :=
  ∀ (s : State) (c : Fin 16) (k : Fin 8), Ready s c k 0x22 →
    let b := s.dev.begun c k
    let h := bits (b.cmd c k 1) 1 0
    exec (.stepUnload c k) s = .next (
      if b.argsClean c k [3] = false ∨ Tbl.find b.programs (progKey c h) = none then s.done c k b .badArg
      else if b.runs.any (fun r => r.ctx == c.val && r.handle == h) then s.done c k b .busy
      else s.done c k { b with programs := Tbl.del b.programs (progKey c h) } .ok)

/-- XCH_LOAD, WCH_LOAD and REC_POLICY_LOAD attach tables, UPD_SET keeps fields for the commit, REPLAY_DIAG replays -/
def Obligations.TableCommandsTakeEffect : Prop :=
  -- R434, R435, R464, R465, R497: exchange, watch and policy tables are attached to a program and detached from it while it has no run;
  -- `b.modProgram` changes that program's record only, and the lists lost of arrays bound to a
  -- loaded table's tensors fall due (R265).
  (
    (∀ (s : State) (c : Fin 16) (k : Fin 8) (p : Program), Ready s c k 0x28 →
      let b := s.dev.begun c k
      let h := bits (b.cmd c k 1) 1 0
      let a := b.cmd48 c k 2
      Tbl.find b.programs (progKey c h) = some p → b.argsClean c k [3, mWord, mHigh, mWord] = true →
      exec (.xchLoad c k) s = .next (match b.xchCheck p a (b.cmd c k 4) with
        | some st => s.done c k b st
        | none =>
          if b.hasRun c h = true ∨ p.xch.isSome = true then s.done c k b .busy
          else s.done c k ((b.modProgram (progKey c h) (fun p => { p with xch := some (b.readXch a) })).copiesReturn (b.readXch a)) .ok))
    ∧ (∀ (s : State) (c : Fin 16) (k : Fin 8), Ready s c k 0x29 →
      let b := s.dev.begun c k
      let h := bits (b.cmd c k 1) 1 0
      exec (.xchUnload c k) s = .next (
        if b.argsClean c k [3] = false ∨ ((Tbl.find b.programs (progKey c h)).bind (·.xch)) = none then s.done c k b .badArg
        else if b.hasRun c h then s.done c k b .busy
        else s.done c k (b.modProgram (progKey c h) (fun p => { p with xch := none })) .ok))
    ∧ (∀ (s : State) (c : Fin 16) (k : Fin 8) (p : Program), Ready s c k 0x2B →
      let b := s.dev.begun c k
      let h := bits (b.cmd c k 1) 1 0
      let a := b.cmd48 c k 2
      Tbl.find b.programs (progKey c h) = some p →
      exec (.wchLoad c k) s = .next (
        if b.argsClean c k [3, mWord, mHigh, mWord] = false ∨ b.wchOk p a (b.cmd c k 4) = false then s.done c k b .badArg
        else if b.hasRun c h = true ∨ p.wch.isSome = true then s.done c k b .busy
        else s.done c k (b.modProgram (progKey c h) (fun p => { p with wch := some ⟨a⟩ })) .ok))
    ∧ (∀ (s : State) (c : Fin 16) (k : Fin 8), Ready s c k 0x2C →
      let b := s.dev.begun c k
      let h := bits (b.cmd c k 1) 1 0
      exec (.wchUnload c k) s = .next (
        if b.argsClean c k [3] = false ∨ ((Tbl.find b.programs (progKey c h)).bind (·.wch)) = none then s.done c k b .badArg
        else if b.hasRun c h then s.done c k b .busy
        else s.done c k (b.modProgram (progKey c h) (fun p => { p with wch := none })) .ok))
    ∧ (∀ (s : State) (c : Fin 16) (k : Fin 8) (x : XchTable), Ready s c k 0x60 →
      let b := s.dev.begun c k
      let h := bits (b.cmd c k 1) 1 0
      let a := b.cmd48 c k 2
      let pol := b.readPolicy a
      let len := b.cmd c k 4
      (Tbl.find b.programs (progKey c h)).bind (·.xch) = some x → b.argsClean c k [3, mWord, mHigh, mWord] = true →
      exec (.recPolicyLoad c k) s = .next (
        if a % 64 ≠ 0 ∨ len < 64 ∨ inMemory a len = false ∨ len < 64 + 32 * pol.entries.length ∨ pol.ok x b.nodeId = false then
          s.done c k b .badArg
        else if b.hasRun c h then s.done c k b .busy
        else s.done c k { b.modProgram (progKey c h) (fun p => { p with policy := some pol }) with
          slotStamps := b.slotStamps.filter (fun e => !(pol.entries.map (fun e => bits (nth e 0) 63 32)).contains e.tensor) } .ok)))
  -- R436: UPD_SET keeps the new fields of `count` tensors from `first` on for the next commit, and changes nothing else.
  ∧ (
    ∀ (s : State) (c : Fin 16) (k : Fin 8) (x : XchTable), Ready s c k 0x2A →
      let b := s.dev.begun c k
      let h := bits (b.cmd c k 1) 1 0
      let fields := bits (b.cmd c k 1) 12 8
      let first := bits (b.cmd c k 2) 15 0
      let count := bits (b.cmd c k 3) 15 0
      let now := fun i => (Tbl.find x.pending i).getD (x.tensors.getD i ⟨[]⟩).words
      let new := (List.range count).map (fun j => (first + j, updFields fields (fun f => b.cmd c k (4 + f)) (now (first + j))))
      (Tbl.find b.programs (progKey c h)).bind (·.xch) = some x →
      b.argsClean c k [3 + 31 * 256, mHigh, mHigh, mWord, mWord, mWord, mWord, mWord] = true →
      exec (.updSet c k) s = .next (
        if x.tensors.length < first + count ∨ new.any (fun e => let t : XchTensor := ⟨e.2⟩; !hyperOk t.rule t.eta t.lambda t.beta t.theta) then
          s.done c k b .badArg
        else if count = 0 ∨ fields = 0 then s.done c k b .okZeroWork
        else s.done c k (b.modProgram (progKey c h) (fun p => { p with xch := p.xch.map (fun x => { x with
          pending := new.foldl (fun m e => Tbl.put m e.1 e.2) x.pending }) })) .ok))
  -- R466: REPLAY_DIAG with lawful arguments and no run: the journal entries of the steps named are applied to a copy of the region, and
  -- the CRC-32 of the masters and of the momentum come back. A missing step is BAD_ARG, an entry whose CRC fails or that names what this module
  -- does not own is CHECK_FAILED; then nothing changes.
  ∧ (
    ∀ (s : State) (c : Fin 16) (k : Fin 8) (x : XchTable), Ready s c k 0x6A →
      let b := s.dev.begun c k
      let count := bits (b.cmd c k 1) 23 8
      let src := b.cmd48 c k 3
      let dst := b.cmd48 c k 5
      let places := (x.layout b.nodeId dst).1
      let len := (x.layout b.nodeId dst).2
      let ring := bits (nth x.header 2) 47 0 / 64
      let entries := (b.ringEntries (bits (nth x.header 1) 47 0) ring (b.word UPD_JOURNAL_KEEP 0) (b.word UPD_JOURNAL_HEAD 0)
        (2 * ring + 2)).filter (fun e => entryCtx e == c.val)
      (Tbl.find b.programs (progKey c (bits (b.cmd c k 1) 1 0))).bind (·.xch) = some x →
      b.argsClean c k [3 + 0xFFFF * 256, mWord, mWord, mHigh, mWord, mHigh] = true → src % 64 = 0 → dst % 64 = 0 →
      inMemory src len = true → inMemory dst len = true → (dst + len ≤ src ∨ src + len ≤ dst) → b.runs = [] →
      exec (.replayDiag c k) s = .next (
        if count = 0 then s.done c k b .okZeroWork
        else match stepEntries entries (b.cmd c k 2) count with
          | none => s.done c k b .badArg
          | some l =>
            if l.any (fun e => !entryCrcOk e || (sectionsOf (e.drop 64) (entrySections e)).any (fun h => !x.ownsSection b.nodeId h.1)) then
              s.done c k b .checkFailed
            else
              let d := l.foldl (fun (d : Dev) e => d.applyEntry places e) (b.copyBytes (devCell src) (devCell dst) len)
              s.done c k d .ok [count, crc32 (places.flatMap (fun (_, n, m, _, _) => d.bytes (devCell m) (4 * n))),
                crc32 (places.flatMap (fun (_, n, _, mom, plane) =>
                  if mom = plane then [] else d.bytes (devCell mom) n ++ d.bytes (devCell plane) ((n + 31) / 32)))]))

/-! ### Arrays -/

/-- R250: ARRAY_RETIRE decides the retirement of every named array, in the order named, with cause 5. -/
def Obligations.ArrayRetireAnswers : Prop :=
  ∀ (s : State) (c : Fin 16) (k : Fin 8), Ready s c k 0x32 →
    let b := s.dev.begun c k
    let count := bits (b.cmd c k 1) 7 0
    let named := (List.range count).map (fun i => bits (b.cmd c k (2 + i / 2)) (16 * (i % 2) + 15) (16 * (i % 2)))
    exec (.arrayRetire c k) s = .next (
      if 28 < count ∨ b.cmd c k 1 &&& (2 ^ 32 - 1 - 0xFF) ≠ 0 ∨ (∃ a ∈ named, 16384 ≤ a) ∨ ¬ named.Nodup then s.done c k b .badArg
      else if named = [] then s.done c k b .okZeroWork
      else s.done c k (named.foldl (fun (d : Dev) a => d.decideRetire a 5) b) .ok)

/-- R248, R249, R252, R253: ARRAY_PROGRAM queues the named arrays that are not queued or in program yet, class 3; ARRAY_BIND starts the
drain and leaves a program due; HV_BRANCH_RESTORE runs the self-test of a branch that is off (log entry 60: a stopped VPRG rail fails it;
log entry 124: a self-test that fails shows its causes);
ARRAY_BUDGET_SET stores both limits. -/
def Obligations.ArrayCommandsTakeEffect : Prop :=
  (∀ (s : State) (c : Fin 16) (k : Fin 8), Ready s c k 0x30 →
    let b := s.dev.begun c k
    let named := b.arrayArgs c k
    let now := bit (b.cmd c k 1) 9
    let new := named.filter (fun a => !b.already a)
    exec (.arrayProgram c k) s = .next (
      if b.arrayArgsBad c k 0x2FF then s.done c k b .badArg
      else if named = [] then s.done c k b .badLength
      else if ∃ a ∈ named, b.branchShut a = true ∨ (b.unbound a = true ∧ (b.arr a).pendingBind = none) then s.done c k b .notPermitted
      else if ∃ a ∈ named, b.arrState a = RETIRED then s.done c k b .arrayRetired
      else if ∃ a ∈ new, b.lifeLimit ≤ b.lifeCount a ∨ (now = true ∧ b.budgetOk a = false) then s.done c k b .writeBudget
      else s.done c k (new.foldl (fun (d : Dev) a => d.enqueue a 3 now false) b) .ok [new.length + (named.length - new.length) * 2 ^ 8]))
  ∧ (∀ (s : State) (c : Fin 16) (k : Fin 8), Ready s c k 0x31 →
    let b := s.dev.begun c k
    let a := b.cmd c k 1 % 16384
    let bind : Binding := ⟨b.cmd c k 2, bits (b.cmd c k 3) 31 16, bits (b.cmd c k 3) 15 0⟩
    let drained := ((b.unqueue a).modArr a (fun r => { r with pendingBind := some bind, checksumCaused := false })).startDrain a
    exec (.arrayBind c k) s = .next (
      if b.argsClean c k [0x3FFF, mWord, mWord] = false ∨ bind.tensor = noTensor ∨ bind = b.binding a then s.done c k b .badArg
      else if b.branchShut a then s.done c k b .notPermitted
      else if b.arrState a = RETIRED then s.done c k b .arrayRetired
      else if b.arrState a ≠ SERVING then s.done c k b .busy
      else if b.lifeLimit ≤ b.lifeCount a then s.done c k b .writeBudget
      else s.done c k { drained with due := drained.due ++ [a] } .ok))
  ∧ (∀ (s : State) (c : Fin 16) (k test : Fin 8), Ready s c k 0x34 →
    let b := s.dev.begun c k
    let n := b.cmd c k 1 % 16
    exec (.hvBranchRestore c k test) s = .next (
      if b.argsClean c k [0xF] = false then s.done c k b .badArg
      else if b.on PRG_BRANCH_STATUS_ON n then s.done c k b .ok
      else if b.gated n = true ∨ bit b.railsOn 0x1C = false then s.done c k b .notPermitted
      else s.done c k (b.branchSelfTest n test) (if test.val = 0 then .ok else .notPermitted)))
  ∧ (∀ (s : State) (c : Fin 16) (k : Fin 8), Ready s c k 0x35 →
    let b := s.dev.begun c k
    let limit := bits (b.cmd c k 2) 23 0
    exec (.arrayBudgetSet c k) s = .next (
      if b.argsClean c k [0xFFFF, 0xFFFFFF] = false ∨ 250000 < limit then s.done c k b .badArg
      else s.done c k { b with minInterval := bits (b.cmd c k 1) 15 0, lifeLimit := limit } .ok))

/-! ### Synchronisation objects -/

/-- R369, R370, R371: values and waits. A signed increment saturates at 0 and 0xFFFF and says which end it met; a wait with threshold 0
holds at once; an OBSERVE wait holds where the value has reached its threshold and takes nothing; a TAKE wait then takes its threshold,
unless another TAKE wait is ahead of it. -/
def Obligations.CountersSaturateAndWaitsHold : Prop :=
  (∀ (v : Fin 65536) (inc : Int),
    addSigned v inc = (if 0xFFFF < (v.val : Int) + inc then (0xFFFF, true, false)
      else if (v.val : Int) + inc < 0 then (0, false, true) else (((v.val : Int) + inc).toNat, false, false)))
  ∧ (∀ (v : Nat) (ws : List Waiter) (take : Bool) (thresh : Nat),
    arrives v ws take thresh =
      if thresh = 0 then (true, v)
      else if thresh ≤ v ∧ take = false then (true, v)
      else if thresh ≤ v ∧ (∀ w ∈ ws, w.take = false) then (true, v - thresh)
      else (false, v))
  ∧ (∀ (v : Nat) (ws : List Waiter),
    -- after the releases no TAKE waiter is left at the head whose threshold the value left reaches, and nothing is lost
    let r := takeInOrder v ws
    v = r.2.2 + (r.1.map (fun e => e.1.thresh)).sum ∧ ws = r.1.map (·.1) ++ r.2.1
      ∧ (∀ w rest, r.2.1 = w :: rest → r.2.2 < w.thresh))

/-- Sync objects are allocated, freed, read, and take their kinds; stale handles are refused -/
def Obligations.SyncObjectCommandsTakeEffect : Prop :=
  -- R393, R394: allocation takes the lowest free object (log entry 30: the spec does not say which) and maps it; freeing takes the
  -- mapping away and advances the generation.
  (
    (∀ (s : State) (c : Fin 16) (k : Fin 8), Ready s c k 0x40 →
      let b := s.dev.begun c k
      let vid := bits (b.cmd c k 1) 11 0
      let free := (List.range 16384).find? (fun o => (Tbl.find b.objects o).isNone)
      exec (.syncAlloc c k) s = .next (
        if b.argsClean c k [0xFFF + 2 ^ 16, mHigh] = false then s.done c k b .badArg
        else match b.mapped c vid, free with
          | none, some o => s.done c k (Dev.showHub { b with
              objects := Tbl.put b.objects o { owner := c, vid := vid, value := bits (b.cmd c k 2) 15 0, exported := bit (b.cmd c k 1) 16 }
              vmap := Tbl.put b.vmap (c * 4096 + vid) (.object o) }) .ok [b.gen o]
          | _, _ => s.done c k b .busy))
    ∧ (∀ (s : State) (c : Fin 16) (k : Fin 8) (o : Nat) (x : SyncObj), Ready s c k 0x41 →
      let b := s.dev.begun c k
      b.argsClean c k [0xFFF, mHigh] = true → b.cmdRef c k = .object o → b.gen o = bits (b.cmd c k 2) 15 0 → b.obj o = some x →
      x.kind = .ordinary →
      exec (.syncFree c k) s = .next (
        if x.waiters ≠ [] ∨ b.runs.any (fun r => r.ctx == c.val) = true then s.done c k b .busy
        else s.done c k (Dev.showHub { b with
          objects := Tbl.del b.objects o, gens := Tbl.set 0 b.gens o ((b.gen o + 1) % 2 ^ 16)
          vmap := Tbl.del b.vmap (x.owner * 4096 + x.vid)
          formerly := Tbl.put b.formerly (x.owner * 4096 + x.vid) o }) .ok)))
  -- R378, R392: a command whose GEN is stale, or whose VID is not mapped, is refused with BAD_ARG; it is counted where its GEN differs from
  -- that of the object its VID names, or named before it was freed (log entry 96).
  ∧ (
    ∀ (s : State) (c : Fin 16) (k : Fin 8),
      let b := s.dev.begun c k
      let gen := bits (b.cmd c k 2) 15 0
      let former := Tbl.find b.formerly (c * 4096 + bits (b.cmd c k 1) 11 0)
      let refused := if b.cmdRef c k = .unused ∧ (former = none ∨ former.map b.gen = some gen) then s.done c k b .badArg
        else s.done c k (b.count SYN_STALE_CNT_COUNT 0 0) .badArg
      b.cmdRef c k = .unused ∨ b.refGen (b.cmdRef c k) ≠ bits (b.cmd c k 2) 15 0 →
        (Ready s c k 0x41 → b.argsClean c k [0xFFF, mHigh] = true → exec (.syncFree c k) s = .next refused)
        ∧ (Ready s c k 0x42 → b.argsClean c k [0xFFF, mHigh, mHigh] = true → exec (.syncSignal c k) s = .next refused)
        ∧ (Ready s c k 0x43 → b.argsClean c k [0xFFF + 3 * 2 ^ 16, mHigh, mHigh, mWord] = true → exec (.syncWait c k) s = .next refused)
        ∧ (Ready s c k 0x47 → b.argsClean c k [0xFFF + 2 ^ 16, mHigh, mWord] = true → exec (.syncReadyBind c k) s = .next refused))
  -- R397, R398, R399: a probe of a remote object waits for its answer; a barrier is created on a free VID with its participants; a VID
  -- becomes a ready object of a tensor, or an ordinary object again.
  ∧ (
    (∀ (s : State) (c : Fin 16) (k : Fin 8), Ready s c k 0x45 →
      let b := s.dev.begun c k
      let w1 := b.cmd c k 1
      let w2 := b.cmd c k 2
      let probe := syncPacket (bits w1 27 16) 7 0 (bits w2 19 16) (bits w2 11 0) (bits (b.cmd c k 3) 15 0) 0 (mailboxWaiterId c k) 0 0 0
      let r := b.originate probe (.probe c k)
      b.argsClean c k [0xFFFFFFF - 0xF000, 0xFFF + 0xF * 2 ^ 16, mHigh] = true →
      exec (.syncMapRemote c k) s = .next (
        if b.mapped c (bits w1 11 0) ≠ none then s.done c k b .busy
        else if r.1 = .ok then s.waits c k r.2 (.remote (bits w1 11 0))
        else s.done c k r.2 r.1))
    ∧ (∀ (s : State) (c : Fin 16) (k : Fin 8) (o : Nat), Ready s c k 0x46 →
      let b := s.dev.begun c k
      let vid := bits (b.cmd c k 1) 11 0
      let a := b.cmd48 c k 4
      let members := b.bitmap a
      let barrier : Barrier := ⟨b.cmd c k 2, 1, members, [], 0, 0, none⟩
      b.argsClean c k [0xFFF + 3 * 2 ^ 16, mWord, 0, mWord, mHigh] = true → bit (b.cmd c k 1) 16 = true → a % 64 = 0 →
      inMemory a 512 = true → members ≠ [] → b.mapped c vid = none → b.freePhys = some o → b.barrierCount < 16 →
      exec (.syncBarrierSet c k) s = .next (s.done c k (Dev.showHub { b with
        objects := Tbl.put b.objects o { owner := c, vid := vid, exported := true, kind := .barrier barrier }
        vmap := Tbl.put b.vmap (c * 4096 + vid) (.object o) }) .ok))
    ∧ (∀ (s : State) (c : Fin 16) (k : Fin 8) (o : Nat) (x : SyncObj), Ready s c k 0x47 →
      let b := s.dev.begun c k
      let tensor := b.cmd c k 3
      let bound := b.setObj o { x with kind := .ready tensor }
      b.argsClean c k [0xFFF + 2 ^ 16, mHigh, mWord] = true → b.cmdRef c k = .object o → b.gen o = bits (b.cmd c k 2) 15 0 →
      b.obj o = some x → x.kind = .ordinary → b.namesVid c (bits (b.cmd c k 1) 11 0) = false →
      exec (.syncReadyBind c k) s = .next (
        if bit (b.cmd c k 1) 16 then s.done c k (b.setObj o { x with kind := .ordinary }) .ok
        else if tensor = noTensor then s.done c k b .badArg
        else s.done c k (bound.setReady o (b2n (bound.refreshed tensor))) .ok)))
  -- R400: SYNC_READ of an object of this module shows its words, and with CLEAR clears both saturation flags; it changes nothing else.
  -- With ANY a stale generation is read too. Of an object that another module holds it shows open words in the layout of the view (log entry
  -- 119: the model's choice), or the status of a home that cannot be reached.
  ∧ (
    (∀ (s : State) (c : Fin 16) (k : Fin 8) (o : Nat) (x : SyncObj), Ready s c k 0x44 →
      let b := s.dev.begun c k
      let w1 := b.cmd c k 1
      b.argsClean c k [0xFFF + 3 * 2 ^ 16, mHigh, mHigh] = true → b.cmdRef c k = .object o → b.obj o = some x →
      exec (.syncRead c k) s = .next (
        if bit w1 16 = false ∧ b.gen o ≠ bits (b.cmd c k 2) 15 0 then s.done c k (b.count SYN_STALE_CNT_COUNT 0 0) .badArg
        else s.done c k (if bit w1 17 then b.setObj o { x with satHi := false, satLo := false } else b) .ok
          (b.viewWords o (bits (b.cmd c k 3) 15 0) x)))
    ∧ (∀ (s : State) (c : Fin 16) (k : Fin 8) (n x vid g : Nat), Ready s c k 0x44 →
      let b := s.dev.begun c k
      let any := bit (b.cmd c k 1) 16
      let r := b.freshWords 14
      b.argsClean c k [0xFFF + 3 * 2 ^ 16, mHigh, mHigh] = true → b.cmdRef c k = .remote n x vid g → b.node ≠ some n →
      (any = true ∨ g = bits (b.cmd c k 2) 15 0) →
      exec (.syncRead c k) s = .next (match b.unreachable n true with
        | some st => s.done c k b st
        | none => s.done c k r.2 .ok (remoteView r.1 (if any then none else some g) n (bits (b.cmd c k 3) 15 0)))))

/-- R395, R396, R383: a signal of an ordinary object, a wait that holds at once, a wait with a timeout of zero that does not hold, a wait
that is posted; through a mapping of another module's object, a signal or a wait that travels to its home, or the status of a home that
cannot be reached. -/
def Obligations.SignalsAndWaitsTakeEffect : Prop :=
  (∀ (s : State) (c : Fin 16) (k : Fin 8) (o : Nat), Ready s c k 0x42 →
    let b := s.dev.begun c k
    let inc := signed 16 (b.cmd c k 3)
    let r := b.signalObject o inc ⟨3, c, 0, 0, b.time⟩
    b.argsClean c k [0xFFF, mHigh, mHigh] = true → b.cmdRef c k = .object o → b.gen o = bits (b.cmd c k 2) 15 0 →
    exec (.syncSignal c k) s = .next (
      if (b.obj o).map SyncObj.kind ≠ some .ordinary then s.done c k b .notPermitted
      else if inc = 0 then s.done c k b .okZeroWork
      else s.done c k r.2.2 (if r.2.1 then .saturated else .ok) [r.1]))
  ∧ (∀ (s : State) (c : Fin 16) (k : Fin 8) (o : Nat) (x : SyncObj), Ready s c k 0x43 →
    let b := s.dev.begun c k
    let take := bit (b.cmd c k 1) 16
    let thresh := bits (b.cmd c k 3) 15 0
    let w : Waiter := ⟨.mailbox c k, mailboxWaiterId c k, take, thresh⟩
    b.argsClean c k [0xFFF + 3 * 2 ^ 16, mHigh, mHigh, mWord] = true → b.cmdRef c k = .object o →
    b.gen o = bits (b.cmd c k 2) 15 0 → b.obj o = some x → x.kind = .ordinary →
    exec (.syncWait c k) s = .next (match arrives x.value x.waiters take thresh with
      | (true, left) => s.done c k (b.setObj o { x with value := left }) .ok [x.value]
      | (false, _) =>
        if bit (b.cmd c k 1) 17 = true ∧ b.cmd c k 4 = 0 then s.done c k b .timeout
        else s.waits c k (let d := b.setObj o { x with waiters := x.waiters ++ [w] }
          if bit (b.cmd c k 1) 17 then d.modCtx c (fun y => { y with deadline := Tbl.put y.deadline k (b.time + b.cmd c k 4 * 1000) })
          else d) .sync))
  ∧ (∀ (s : State) (c : Fin 16) (k : Fin 8) (n x vid g : Nat), Ready s c k 0x42 →
    let b := s.dev.begun c k
    let p := { syncPacket n 1 0 x vid g (unsigned 16 (signed 16 (b.cmd c k 3))) (mailboxWaiterId c k) 0 0 0 with ctx := c.val }
    let r := b.originate p (.hostSignal c k)
    b.argsClean c k [0xFFF, mHigh, mHigh] = true → b.cmdRef c k = .remote n x vid g → g = bits (b.cmd c k 2) 15 0 →
    exec (.syncSignal c k) s = .next (if r.1 = .ok then s.waits c k r.2 (.remote vid) else s.done c k r.2.dropSignal r.1))
  ∧ (∀ (s : State) (c : Fin 16) (k : Fin 8) (n x vid g : Nat), Ready s c k 0x43 →
    let b := s.dev.begun c k
    let take := bit (b.cmd c k 1) 16
    let r := b.originate (syncPacket n 2 (b2n take) x vid g (bits (b.cmd c k 3) 15 0) (mailboxWaiterId c k) 0 0 0) (.mailboxWait c k)
    let d := { r.2 with remoteWaits := r.2.remoteWaits ++ [⟨.mailbox c k, n, x, vid, g, mailboxWaiterId c k⟩] }
    b.argsClean c k [0xFFF + 3 * 2 ^ 16, mHigh, mHigh, mWord] = true → b.cmdRef c k = .remote n x vid g →
    g = bits (b.cmd c k 2) 15 0 →
    exec (.syncWait c k) s = .next (
      if r.1 ≠ .ok then s.done c k r.2 r.1
      else s.waits c k (if bit (b.cmd c k 1) 17 then
          d.modCtx c (fun y => { y with deadline := Tbl.put y.deadline k (d.time + b.cmd c k 4 * 1000) }) else d) .sync))

/-! ### Memory, log and telemetry, registers through commands -/

/-- R535: MEM_FREE. -/
def Obligations.MemFreeAnswers : Prop :=
  ∀ (s : State) (c : Fin 16) (k : Fin 8), Ready s c k 0x11 →
    let b := s.dev.begun c k
    let a := b.cmd c k 1 + 2 ^ 32 * b.cmd c k 2
    exec (.memFree c k) s = .next (
      if b.argsClean c k [mWord, mWord] = false ∨ (∀ r ∈ (b.ctx c).map, r.addr ≠ a) then s.done c k b .badArg
      else if b.runs.any (fun r => r.ctx == c.val) then s.done c k b .busy
      else s.done c k (b.modCtx c (fun x => { x with map := x.map.filter (fun r => r.addr != a) })) .ok)

/-- MEM_ALLOC gives a free zeroed region (log entry 31), LOG_READ, TELEM_CFG, CSR_READ and CSR_DUMP take effect -/
def Obligations.MemoryLogAndCsrCommandsTakeEffect : Prop :=
  -- R534: MEM_ALLOC: a region of whole units of 2 MiB, zeroed, that overlaps no other context's region and lies below the memory of the
  -- management processor. (Log entry 31: the lowest free address is the model's choice.)
  (
    ∀ (s : State) (c : Fin 16) (k : Fin 8), Ready s c k 0x10 → s.dev.ordered →
      let b := s.dev.begun c k
      let n := bits (b.cmd c k 1) 23 0 * 2 ^ 21
      (b.argsClean c k [0xFFFFFF] = false → exec (.memAlloc c k) s = .next (s.done c k b .badArg))
      ∧ (b.argsClean c k [0xFFFFFF] = true → n = 0 → exec (.memAlloc c k) s = .next (s.done c k b .okZeroWork))
      ∧ (b.argsClean c k [0xFFFFFF] = true → n ≠ 0 → b.freeRegion n = none → exec (.memAlloc c k) s = .next (s.done c k b .busy))
      ∧ (∀ a, b.argsClean c k [0xFFFFFF] = true → n ≠ 0 → b.freeRegion n = some a →
        ∃ t, exec (.memAlloc c k) s = .next t ∧ (t.dev.ctx c).map = (b.ctx c).map ++ [⟨a, n⟩]
          ∧ a + n ≤ contextMemory ∧ (∀ r ∈ b.regions, a + n ≤ r.addr ∨ r.addr + r.size ≤ a)
          ∧ (∀ x, t.dev.byte x = if a ≤ x ∧ x < a + n then 0 else s.dev.byte x)
          ∧ t.dev.rd MBX_RSP_WORD c k 1 = a % 2 ^ 32 ∧ t.dev.rd MBX_RSP_WORD c k 2 = a / 2 ^ 32))
  -- R537, R539: LOG_READ delivers the entries wanted through the window, up to `count` from the first number on that the ring still
  -- holds; TELEM_CFG stores a period from 100 to 1,000,000.
  ∧ (
    (∀ (s : State) (c : Fin 16) (k : Fin 8), Ready s c k 0x70 →
      let b := s.dev.begun c k
      let count := bits (b.cmd c k 2) 13 0
      let written := b.word LOG_WR_CNT 0
      let behind := (written + 2 ^ 32 - b.cmd c k 1) % 2 ^ 32
      let back := min behind b.log.length
      let found := (b.log.drop (b.log.length - back)).take count
      let r := b.deliverWindow c k (found.flatMap LogEntry.words) .ok [found.length, (written + 2 ^ 32 - back) % 2 ^ 32, written]
      b.argsClean c k [mWord, 0x3FFF] = true → count ≤ 8192 → 0 < behind → behind ≤ 2 ^ 31 →
      exec (.logRead c k) s = .next (
        if count = 0 then s.done c k b .okZeroWork
        else if b.windowOpen c then s.done c k b .busy
        else s.withDev (r.2.settle c k r.1)))
    ∧ (∀ (s : State) (c : Fin 16) (k : Fin 8), Ready s c k 0x72 →
      let b := s.dev.begun c k
      let p := bits (b.cmd c k 1) 23 0
      exec (.telemCfg c k) s = .next (
        if b.argsClean c k [0xFFFFFF] = false then s.done c k b .badArg
        else if p = 0 then s.done c k b .okZeroWork
        else if p < 100 ∨ 1000000 < p then s.done c k b .badArg
        else s.done c k { b with telemetryPeriod := p } .ok)))
  -- R62: the checks of an access to the internal CSR space by LVL and address: an address that is not allocated is BAD_ARG, a block whose
  -- domain has no power NOT_PERMITTED, a unit behind a closed wrapper ISOLATED; such an access changes nothing. An allocated address with no
  -- register reads 0 and ignores writes.
  ∧ (
    ∀ (d : Dev) (f : Fuses) (command : Bool) (lvl x v : Nat),
      (csrAllocated lvl x = false → d.csrRead f lvl x = (.badArg, 0, d) ∧ d.csrWrite f command lvl x v = (.badArg, d))
      ∧ (csrAllocated lvl x = true → d.blockPowered lvl x = false →
        d.csrRead f lvl x = (.notPermitted, 0, d) ∧ d.csrWrite f command lvl x v = (.notPermitted, d))
      ∧ (∀ u, csrAllocated lvl x = true → d.blockPowered lvl x = true → outsideWrapper lvl x = false → csrUnit lvl x = some u →
        d.unitClosed u = true → d.csrRead f lvl x = (.isolated, 0, d) ∧ d.csrWrite f command lvl x v = (.isolated, d))
      ∧ (d.csrStatus lvl x = .ok → regAt lvl (csrAlias lvl x) = none →
        d.csrRead f lvl x = (.ok, 0, d.wakeFor lvl x) ∧ d.csrWrite f command lvl x v = (.ok, d.wakeFor lvl x)))
  -- R540, R542: CSR_READ reads up to 14 registers and stops at the first that fails; CSR_DUMP reads all of them and delivers them
  -- through the window.
  ∧ (
    (∀ (s : State) (c : Fin 16) (k : Fin 8), Ready s c k 0x74 →
      let b := s.dev.begun c k
      let n := bits (b.cmd c k 2) 19 16
      let r := b.csrReads s.fuses (bits (b.cmd c k 2) 1 0) (b.cmd c k 1) n
      exec (.csrRead c k) s = .next (
        if b.argsClean c k [mWord, 0xF0003] = false ∨ 14 < n then s.done c k b .badArg
        else if n = 0 then s.done c k b .okZeroWork
        else s.done c k r.2.2 r.1 (0 :: r.2.1)))
    ∧ (∀ (s : State) (c : Fin 16) (k : Fin 8), Ready s c k 0x76 →
      let b := s.dev.begun c k
      let n := bits (b.cmd c k 3) 14 0
      let r := b.csrDumps s.fuses (bits (b.cmd c k 2) 1 0) (b.cmd c k 1) n
      let w := r.2.2.deliverWindow c k r.2.1 r.1 [n]
      exec (.csrDump c k) s = .next (
        if b.argsClean c k [mWord, 3, 0x7FFF] = false ∨ 16384 < n then s.done c k b .badArg
        else if n = 0 then s.done c k b .okZeroWork
        else if b.windowOpen c then s.done c k b .busy
        else s.withDev (w.2.settle c k w.1))))

/-- R541: CSR_WRITE. -/
def Obligations.CsrWriteAnswers : Prop :=
  ∀ (s : State) (c : Fin 16) (k : Fin 8), Ready s c k 0x75 →
    let b := s.dev.begun c k
    let r := b.csrWrite s.fuses true (bits (b.cmd c k 2) 1 0) (b.cmd c k 1) (b.cmd c k 3)
    exec (.csrWrite c k) s = .next (
      if b.argsClean c k [mWord, 3, mWord] = false then s.done c k b .badArg else s.done c k r.2 r.1)

/-! ### Fabric, recovery, firmware, resets and power through the mailbox -/

/-- ROUTE_LOAD, PORT_CTRL, MIRROR_SET, REC_RESTORE, FW_ and DEBUG_ commands take effect -/
def Obligations.FabricAndFirmwareCommandsTakeEffect : Prop :=
  -- R604, R606: ROUTE_LOAD with lawful arguments and no node ID, window or confirmation in it stores the route entries, and what waits
  -- at a node that they no longer reach fails (R385); PORT_CTRL acts on one port.
  (
    (∀ (s : State) (c : Fin 16) (k : Fin 8), Ready s c k 0x50 →
      let b := s.dev.begun c k
      let first := bits (b.cmd c k 2) 11 0
      let count := bits (b.cmd c k 3) 12 0
      let a := b.cmd48 c k 4
      let entries := (List.range count).map (fun i => b.le (devCell (a + 4 * i)) 4)
      let d := entries.zipIdx.foldl (fun (d : Dev) (e, i) => { d with routes := Tbl.set 0 d.routes (first + i) e }) b
      b.argsClean c k [0xFF7FFF, 0x3F0FFF, 0x1FFF, mWord, mHigh, mWord, mHigh, mWord, mWord] = true → bits (b.cmd c k 1) 23 12 = 0 →
      0 < count → first + count ≤ 4096 →
      exec (.routeLoad c k) s = .next (
        if a % 64 ≠ 0 ∨ inMemory a (4 * count) = false ∨ (∃ e ∈ entries, routeOk e = false) then s.done c k b .badArg
        else s.done c k d.failRemote .ok [0, d.word FUR_NODE 0]))
    ∧ (∀ (s : State) (c : Fin 16) (k : Fin 8), Ready s c k 0x52 →
      let b := s.dev.begun c k
      let w1 := b.cmd c k 1
      let p := bits w1 2 0
      let action := bits w1 10 8
      let d := if bit w1 12 then b.wr FUR_RETRY_CFG_RETRY p 0 0 (bits (b.cmd c k 2) 15 0) else b
      exec (.portCtrl c k) s = .next (
        if b.argsClean c k [0x1707, 0xFFFF] = false ∨ 4 < action then s.done c k b .badArg
        else if action = 0 ∧ bit w1 12 = false then s.done c k b .okZeroWork
        else if 3 ≤ action ∧ b.portState p ≠ pUp then s.done c k b .notPermitted
        else s.done c k (
          if action = 1 then (d.wr FUR_PORT_STATUS_EN p 0 0 1).modPort p (fun r => { r with retryNow := true })
          else if action = 2 then (d.wr FUR_PORT_STATUS_EN p 0 0 0).portDown p 0x01
          else if action = 3 then (d.portDown p (d.rd FUR_PORT_STATUS_DOWN_CAUSE p)).setPort p pDetect
          else if action = 4 then d.newEpoch p
          else d) .ok)))
  -- R498, R499: MIRROR_SET with ACCEPT records the region; without it the node is asked, and the slot waits. REC_RESTORE asks the buddy
  -- for its record. Arguments are lawful here.
  ∧ (
    (∀ (s : State) (c : Fin 16) (k : Fin 8), Ready s c k 0x61 →
      let b := s.dev.begun c k
      let n := bits (b.cmd c k 1) 11 0
      let a := b.cmd48 c k 2
      let size := b.cmd c k 4 * 2 ^ 20
      let r := b.originate { typ := tyMgmt, dst := n, src := 0, length := 64 } (.command c k)
      b.argsClean c k [0xFFF + 3 * 2 ^ 16, mWord, mHigh, mWord] = true → b.node ≠ some n → b.runs = [] →
      exec (.mirrorSet c k) s = .next (
        if bit (b.cmd c k 1) 17 = false then (if r.1 = .ok then s.waits c k r.2 (.work 1) else s.done c k b r.1)
        else if a % 64 ≠ 0 ∨ inMemory a size = false then s.done c k b .badArg
        else if size = 0 then s.done c k b .okZeroWork
        else match b.unreachable n true with
          | some st => s.done c k b st
          | none => s.done c k { b with buddyRegions := b.buddyRegions.filter (fun r => r.node != n) ++ [⟨n, a, size⟩] } .ok))
    ∧ (∀ (s : State) (c : Fin 16) (k : Fin 8) (p : Program), Ready s c k 0x62 →
      let b := s.dev.begun c k
      let w1 := b.cmd c k 1
      let r := b.originate { typ := tyMgmt, dst := bits (b.cmd c k 2) 11 0, src := 0, length := 64 } (.command c k)
      Tbl.find b.programs (progKey c (bits w1 1 0)) = some p → p.xch.isSome = true → b.argsClean c k [0xF03, 0xFFF, 0xFFF] = true →
      exec (.recRestore c k) s = .next (
        if b.runs ≠ [] then s.done c k b .busy
        else if bits w1 11 8 = 0 then s.done c k b .okZeroWork
        else if bit w1 9 = true ∧ p.policy = none then s.done c k b .notPermitted
        else match b.restoreLinks c k p with
          | some st => s.done c k b st
          | none => if r.1 = .ok then s.waits c k { r.2 with restore := some { ctx := c, slot := k } } (.work 2) else s.done c k b r.1)))
  -- R686, R687, R688: FW_STAGE discards OTHER and opens the window; FW_ACTIVATE makes a verified OTHER active and, where asked, resets
  -- after 1 ms; FW_INFO shows both slots (log entry 42: fields of an OTHER slot without a whole header are open).
  ∧ (
    (∀ (s : State) (c : Fin 16) (k : Fin 8), Ready s c k 0x80 →
      let b := s.dev.begun c k
      let n := b.cmd c k 1
      exec (.fwStage c k) s = .next (
        if b.argsClean c k [mWord] = false ∨ n % 4 ≠ 0 ∨ 2 ^ 24 < n then s.done c k b .badArg
        else if n = 0 then s.done c k b .okZeroWork
        else if b.windowOpen c then s.done c k b .busy
        else s.waits c k (Dev.openWindow { b with other := .bytes [], otherValid := false } c k true (n / 4) [] (0, [])) .window))
    ∧ (∀ (s : State) (c : Fin 16) (k : Fin 8), Ready s c k 0x81 →
      let b := s.dev.begun c k
      let st := b.other.verify s.fuses
      let slot := if b.life = .recovery then 0 else 1 - b.runningSlot
      let d := (Dev.wr { b with active := b.other, other := b.active, otherValid := true, runningSlot := slot }
        RST_START_START_CNT 0 0 0 0).wr SEC_STATUS_SLOT 0 0 0 slot
      exec (.fwActivate c k) s = .next (
        if b.argsClean c k [1] = false then s.done c k b .badArg
        else if b.otherValid = false then s.done c k b .notPermitted
        else if b.runs ≠ [] ∨ b.windowOpen c = true then s.done c k b .busy
        else if st = .ok then s.done c k (if bit (b.cmd c k 1) 0 then d.resetIn false 0x05 1000000 else d) .ok
        else if st = .authFailed then s.done c k (b.authFail 1 0) .authFailed
        else s.done c k b st))
    ∧ (∀ (s : State) (c : Fin 16) (k : Fin 8) (image : List Nat), Ready s c k 0x82 →
      let b := s.dev.begun c k
      b.other = .bytes image → 5328 ≤ image.length →
      exec (.fwInfo c k) s = .next (if b.argsClean c k [] then
        s.done c k b .ok [(if b.life = .recovery then 2 ^ 30 else b.runningSlot * 2 ^ 31) + s.fuses.rbCount % 128, b.active.version,
          imgField image 8 4 % 2 ^ 32,
          b.active.svn + imgField image 6 1 % 256 * 2 ^ 8 + b2n b.otherValid * 2 ^ 16 + s.fuses.revoked % 16 * 2 ^ 24,
          Config.romVersion.toNat]
        else s.done c k b .badArg)))
  -- R695, R697: DEBUG_UNLOCK issues a challenge of 32 bytes, or opens the window for a token while the challenge is at most 600 s old;
  -- DEBUG_LOCK ends the unlock.
  ∧ (
    (∀ (s : State) (c : Fin 16) (k : Fin 8), Ready s c k 0xA0 →
      let b := s.dev.begun c k
      let r := b.newChallenge
      exec (.debugUnlock c k) s = .next (
        if b.argsClean c k [1, mWord] = false then s.done c k b .badArg
        else if bit (b.cmd c k 1) 0 = false then s.done c k r.2 .ok ((List.range 8).map (wordOf r.1))
        else if b.cmd c k 2 ≠ 5360 then s.done c k b .badArg
        else match b.challenge with
          | none => s.done c k b .notPermitted
          | some (bytes, t) =>
            if t + 600000000000 ≤ b.time then s.done c k b .notPermitted
            else if b.windowOpen c then s.done c k b .busy
            else s.waits c k (Dev.openWindow { b with challenge := none } c k true 1340 [] (0, bytes)) .window))
    ∧ (∀ (s : State) (c : Fin 16) (k : Fin 8), Ready s c k 0xA2 →
      let b := s.dev.begun c k
      let locked := if b.on SEC_STATUS_UNLOCKED 0 then
          ((b.wr SEC_STATUS_UNLOCKED 0 0 0 0).wr SEC_STATUS_SCOPE 0 0 0 0).hostEvent srcSecurity 0x0803 .ok none [1]
        else b
      exec (.debugLock c k) s = .next (
        if b.argsClean c k [] = false then s.done c k b .badArg else s.done c k (locked.extendSecurity s.fuses) .ok)))

/-- R683: OTHER never becomes ACTIVE, and a start never runs an image, unless it verifies with the fuses as they are; an image whose
SVN is below the anti-rollback count gives ROLLBACK, one signed with a revoked key AUTH_FAILED. -/
def Obligations.OnlyVerifiedImagesRun : Prop :=
  (∀ (d : Dev) (f : Fuses), (d.bootImage f).1 = true →
    (d.bootImage f).2.runningImage.verify f = .ok
      ∧ ((d.bootImage f).2.runningImage = d.active ∨ ((d.bootImage f).2.runningImage = d.other ∧ d.active.verify f ≠ .ok)))
  ∧ (∀ (d : Dev) (f : Fuses), (d.bootImage f).1 = false → d.active.verify f ≠ .ok ∧ d.other.verify f ≠ .ok)
  ∧ (∀ (f : Fuses) (i : Image), i.verify f = .ok → f.rbCount ≤ i.svn ∧ bit f.revoked i.keySlot = false ∧ bit i.revoke i.keySlot = false)
  ∧ (∀ (f : Fuses) (i : Image), i.svn < f.rbCount → i.verify f = .rollback)
  ∧ (∀ (f : Fuses) (i : Image), f.rbCount ≤ i.svn → bit f.revoked i.keySlot = true → i.verify f = .authFailed)

/-- RESET_DEVICE, RESET_CONTEXT, RESET_BLOCK, POWER_STATE and POWER_DOWN take effect -/
def Obligations.ResetAndPowerCommandsTakeEffect : Prop :=
  -- R670, R671, R672: RESET_DEVICE answers and the reset begins 1 ms later (log entry 49: a Cold reset that waits is not made shallower);
  -- RESET_CONTEXT resets its own context and answers in its slot; RESET_BLOCK starts a Block reset and waits for the release.
  (
    (∀ (s : State) (c : Fin 16) (k : Fin 8), Ready s c k 0x90 →
      let b := s.dev.begun c k
      let cold := bit (b.cmd c k 1) 0
      let d := if bit (b.cmd c k 1) 1 then b.wr RST_START_START_CNT 0 0 0 0 else b
      b.pendingReset = none →
      exec (.resetDevice c k) s = .next (if b.argsClean c k [3] then
        s.done c k { d with pendingReset := some ⟨cold, if cold then 0x02 else 0x05, b.time + 1000000⟩ } .ok
        else s.done c k b .badArg))
    ∧ (∀ (s : State) (c : Fin 16) (k : Fin 8), Ready s c k 0x91 →
      let b := s.dev.begun c k
      let words := ((List.range 16).map (fun i => b.cmd c k i)).zipIdx
      exec (.resetContext c k) s = .next (if b.argsClean c k [] then
        s.done c k ((words.foldl (fun (d : Dev) (w, i) => d.wr MBX_CMD_WORD c k i w) (b.contextReset c 0x11)).setSlot c k slotRunning) .ok
        else s.done c k b .badArg))
    ∧ (∀ (s : State) (c : Fin 16) (k : Fin 8), Ready s c k 0x92 →
      let b := s.dev.begun c k
      let unit := bits (b.cmd c k 1) 7 0
      exec (.resetBlock c k) s = .next (if b.argsClean c k [0xFF] = false ∨ 0x88 < unit then s.done c k b .badArg
        else s.waits c k (b.blockReset unit 0x20) .reset)))
  -- R667, R673, R674: POWER_STATE changes the state at once, except during a Block reset, when it waits; POWER_DOWN flushes the metadata
  -- and lets the rails stop 1 ms later.
  ∧ (
    (∀ (s : State) (c : Fin 16) (k : Fin 8) (tests : List (Fin 8)), Ready s c k 0x93 →
      let b := s.dev.begun c k
      let st := bits (b.cmd c k 1) 1 0
      exec (.powerState c k tests) s = .next (
        if b.argsClean c k [3] = false ∨ st = 3 then s.done c k b .badArg
        else if st = b.powerState then s.done c k b .ok [st]
        else if st ≠ 0 ∧ b.runs ≠ [] then s.done c k b .busy
        else if b.recovering ≠ [] then s.waits c k (b.wr RST_PWR_STATE_PENDING 0 0 0 1) .reset
        else s.done c k (b.transition st (tests.map Fin.val)) .ok [st]))
    ∧ (∀ (s : State) (c : Fin 16) (k : Fin 8), Ready s c k 0x94 →
      let b := s.dev.begun c k
      exec (.powerDown c k) s = .next (
        if b.argsClean c k [] = false then s.done c k b .badArg
        else if b.runs ≠ [] then s.done c k b .busy
        else s.done c k { b.flushMeta with powerDown := some (b.time + 1000000) } .ok)))

/-- R625: POWER_LIMIT. -/
def Obligations.PowerLimitAnswers : Prop :=
  ∀ (s : State) (c : Fin 16) (k : Fin 8), Ready s c k 0x95 →
    let b := s.dev.begun c k
    let n := bits (b.cmd c k 1) 15 0
    let shown := fun limit => [limit + b.rd PWR_LEVEL_POWER 0 * 2 ^ 16]
    exec (.powerLimit c k) s = .next (
      if b.argsClean c k [0xFFFF] = false then s.done c k b .badArg (shown (b.rd PWR_LIMIT_LIMIT 0))
      else if n = 0 then s.done c k b .okZeroWork (shown (b.rd PWR_LIMIT_LIMIT 0))
      else if n < 600 ∨ 1500 < n then s.done c k b .badArg (shown (b.rd PWR_LIMIT_LIMIT 0))
      else s.done c k (b.wr PWR_LIMIT_LIMIT 0 0 0 n) .ok (shown n))

/-! ### Registers, functions and windows (chapters 2, 16) -/

/-- Register reads and writes, the debug aperture, window bases, MSI-X masks, FLR and VF Enable take effect -/
def Obligations.RegisterAccessesTakeEffect : Prop :=
  -- R11, R524, R557: a read of LOG_TIME_LO latches the upper half of the time; a host read of four bytes of BAR0 sends the word back; a
  -- read of an RC register by its CSR address, outside minimal recovery and MP restart, clears its RC fields, and a write of a register
  -- without fields of its own effect changes what R11's access codes say.
  (
    (∀ (s : State) (wide : Bool), exec (.logTimeLoRead none wide) s = .next (s.withDev (s.dev.setWord LOG_TIME_HI 0 0 0 (s.dev.time / 2 ^ 32))))
    ∧ (∀ (s : State) (c : Fin 16), s.dev.answers c = true →
      exec (.logTimeLoRead (some c) false) s = .next (s.withDev (
        (s.dev.modCtx c (fun x => { x with timeHi := s.dev.time / 2 ^ 32 % 2 ^ 32 })).hostData c (some (leBytes 4 (s.dev.time % 2 ^ 32))))))
    ∧ (∀ (s : State) (wide : Bool) (lvl : Fin 4) (x : Nat) (r : Reg) (u n k : Nat), s.dev.mpState = 0 → x < 2 ^ 32 →
      s.dev.csrStatus lvl x = .ok → regAt lvl (csrAlias lvl x) = some (r, u, n, k) →
      r.is LOG_TIME_LO = false → r.is PCI_TIME_LO = false → r.is MBX_DATA_RD = false →
      let d := s.dev.wakeFor lvl x
      exec (.rcFieldRead (.csr lvl x) wide) s = .next (s.withDev (
        if r.fields.any (fun y => decide (y.access = .rc)) then d.setWord r u n k (r.afterRead (d.word r u n k)) else d)))
    ∧ (∀ (s : State) (wide : Bool) (lvl : Fin 4) (x : Nat) (v : BitVec 64) (r : Reg) (u n k : Nat), s.dev.mpState = 0 → x < 2 ^ 32 →
      s.dev.csrStatus lvl x = .ok → regAt lvl (csrAlias lvl x) = some (r, u, n, k) → r.plain = true →
      let d := s.dev.wakeFor lvl x
      exec (.registerWrite (.csr lvl x) wide v false) s = .next (s.withDev (
        d.setWord r u n k (r.afterWrite (d.word r u n k) (v.toNat % 2 ^ 32)))))
    ∧ (∀ (s : State) (c : Fin 16) (o : Nat) (v : BitVec 64), s.dev.answers c = true → o < 2 ^ 24 → o % 4 = 0 →
      let r := s.dev.bar0Read4 s.fuses c o
      exec (.rcFieldRead (.bar0 c o) false) s = .next (s.withDev (r.2.hostData c (some (leBytes 4 r.1))))
      ∧ exec (.registerWrite (.bar0 c o) false v false) s = .next (s.withDev (s.dev.bar0Write4 s.fuses c o (v.toNat % 2 ^ 32)))
      ∧ exec (.registerWrite (.bar0 c o) false v true) s = .next s)
    ∧ (∀ (s : State) (c : Fin 16) (r : CfgReg) (wide : Bool) (v : BitVec 64), s.dev.answers c = true →
      exec (.rcFieldRead (.config c r) wide) s = .next (s.withDev (s.dev.hostData c (some (leBytes 4 (s.dev.cfgRead c r)))))
      ∧ exec (.registerWrite (.config c r) wide v false) s = .next (s.withDev (s.dev.cfgWrite c r v.toNat))))
  -- R559: without debug unlocked for the aperture an access through it leaves NOT_PERMITTED in PCI_DBG_SEL and a read returns 0; with it,
  -- an access is the CSR access of the selected address.
  ∧ (
    ∀ (s : State) (c : Fin 16) (o v : BitVec 16), s.dev.answers c = true → o.toNat % 4 = 0 →
      let shut := c ≠ 0 ∨ s.dev.on SEC_STATUS_UNLOCKED 0 = false ∨ bit (s.dev.rd SEC_STATUS_SCOPE 0) 0 = false
      let x := s.dev.rd PCI_DBG_SEL_ADDR_HI 0 * 2 ^ 16 + o.toNat
      let lvl := s.dev.rd PCI_DBG_SEL_LVL 0
      exec (.debugApertureAccess c o none) s = .next (s.withDev (
        if shut then (s.dev.wr PCI_DBG_SEL_STATUS 0 0 0 Status.notPermitted.code).hostData c (some [0, 0, 0, 0])
        else let r := s.dev.csrRead s.fuses lvl x
             (r.2.2.wr PCI_DBG_SEL_STATUS 0 0 0 r.1.code).hostData c (some (leBytes 4 r.2.1))))
      ∧ exec (.debugApertureAccess c o (some (v.setWidth 32))) s = .next (s.withDev (
        if shut then s.dev.wr PCI_DBG_SEL_STATUS 0 0 0 Status.notPermitted.code
        else let r := s.dev.csrWrite s.fuses false lvl x v.toNat
             r.2.wr PCI_DBG_SEL_STATUS 0 0 0 r.1.code)))
  -- R568: a window base applies when both of its halves have been written; R564: clearing a mask sends what waited behind it.
  ∧ (
    (∀ (s : State) (c : Fin 16) (hi : Bool) (v : BitVec 32), Tbl.find s.dev.winPending c = none →
      exec (.pciWinBaseWrite c hi v) s = .next (s.withDev { s.dev with winPending := Tbl.put s.dev.winPending c (hi, v.toNat) }))
    ∧ (∀ (s : State) (c : Fin 16) (hi : Bool) (v : BitVec 32) (old : Nat), s.dev.ordered → Tbl.find s.dev.winPending c = some (!hi, old) →
      exec (.pciWinBaseWrite c hi v) s = .next (s.withDev (
        ({ s.dev with winPending := Tbl.del s.dev.winPending c }.setWord PCI_WIN_BASE_LO 0 c 0
            (PCI_WIN_BASE_LO.afterWrite (s.dev.word PCI_WIN_BASE_LO 0 c) (if hi then old else v.toNat))).setWord PCI_WIN_BASE_HI 0 c 0
            (PCI_WIN_BASE_HI.afterWrite (s.dev.word PCI_WIN_BASE_HI 0 c) (if hi then v.toNat else old)))))
    ∧ (∀ (s : State) (c : Fin 16) (v : Option (Fin 64)), s.dev.answers c = true →
      exec (.msixVectorUnmask c v) s = .next (s.withDev ((s.dev.modCtx c (fun x => match v with
        | some v => { x with unmasked := if x.unmasked.contains v.val then x.unmasked else x.unmasked ++ [v.val] }
        | none => { x with functionMask := false })).sendPending c))))
  -- R549, R550: a Function Level Reset resets the context with source 0x10 and the function's configuration, for PF0 after VF Enable is
  -- cleared; VF Enable is set with NumVFs, a context above a lowered NumVFs is reset first, and clearing it resets the VFs' contexts first.
  ∧ (
    (∀ (s : State) (c : Fin 16), s.dev.answers c = true →
      exec (.flr c) s = .next (s.withDev (((if c = 0 then s.dev.vfEnableClear else s.dev).contextReset c 0x10).configReset c)))
    ∧ (∀ (s : State) (n : Fin 16), s.dev.answers 0 = true →
      exec (.vfEnableSet n) s = .next (s.withDev
        { (if s.dev.vfEnable then s.dev.vfsEnd (n + 1) s.dev.numVFs 0x12 else s.dev) with vfEnable := true, numVFs := n.val }))
    ∧ (∀ (s : State), s.dev.answers 0 = true → s.dev.vfEnable = true →
      exec .vfEnableClear s = .next (s.withDev { s.dev.vfsEnd 1 s.dev.numVFs 0x12 with vfEnable := false })))

/-- R560: a host write through BAR2 stores its bytes at the window's place in device memory, in order, and leaves every other cell as it
was; a read leaves all of memory as it was. -/
def Obligations.HostWindowWritesOnlyItsBytes : Prop :=
  ∀ (s : State) (c : Fin 16) (o n : Nat) (data : Option (List Byte)), s.dev.answers c = true → s.dev.life ≠ .recovery →
    s.dev.ordered → o + n ≤ 2 ^ (30 + if c = 0 then s.dev.bar2Pf else s.dev.bar2Vf) →
    s.dev.windowBase c + o + n ≤ deviceMemory → (c ≠ 0 → s.dev.mapCovers c (s.dev.windowBase c + o) n = true) →
    (∀ bs, data = some bs → bs.length = n) →
    ∃ t, exec (.bar2Request c o n data false none) s = .next t
      ∧ (∀ bs i (h : i < bs.length), data = some bs → t.dev.byte (devCell (s.dev.windowBase c + o + i)) = bs[i].toNat)
      ∧ (∀ a, (data = none ∨ a < devCell (s.dev.windowBase c + o) ∨ devCell (s.dev.windowBase c + o) + n ≤ a) →
          t.dev.byte a = s.dev.byte a)
      ∧ (data = none → t.dev.out = s.dev.out ++ [.readData c (some (s.dev.bytes (devCell (s.dev.windowBase c + o)) n))])
      ∧ t.dev.regs = s.dev.regs

/-- Writes that act, of converter, residual, clock, power, reset and security registers -/
def Obligations.TriggersTakeEffect : Prop :=
  -- R182, R183, R191, R193, R206, R281: a write that acts, of a converter or residual register whose address may be accessed (R62).
  (
    (∀ (s : State) (a : Fin 16384) (v : BitVec 32), s.dev.accessible CNV_SEQ_CTRL (grainOf a) (slotOf a) →
      let g := grainOf a
      let n := slotOf a
      let d := s.dev.roused CNV_SEQ_CTRL g n
      d.on CNV_SEQ_STATUS_ARM_BUSY g n = false → bit v.toNat 30 = false →
      exec (.cnvSeqArm a v) s = .next (s.withDev ((d.wr CNV_SEQ_CTRL_LEN g n 0 (bits v.toNat 4 0)).wr CNV_SEQ_STATUS_ARM_BUSY g n 0 1)))
    ∧ (∀ (s : State) (a : Fin 16384),
      let g := grainOf a
      let n := slotOf a
      let es := s.dev.stagedSeq g n
      let st := armStatus (s.dev.rd CNV_SEQ_CTRL_LEN g n) es
      let d := (s.dev.wr CNV_SEQ_STATUS_ARM_BUSY g n 0 0).wr CNV_SEQ_STATUS_RESULT g n 0 st.code
      s.dev.on CNV_SEQ_STATUS_ARM_BUSY g n = true →
      exec (.cnvSeqArmComplete a) s = .next (s.withDev (
        if st = .ok then
          (((List.range 16).foldl (fun (d : Dev) k => d.wr CNV_SEQ_ACTIVE_ENTRY g n k (nth es k)) d).wr CNV_SEQ_STATUS_USER_ACTIVE g n 0 1).wr
            CNV_SEQ_STATUS_T_SEQ g n 0 (seqTime es)
        else d)))
    ∧ (∀ (s : State) (a : Fin 16384) (v : BitVec 32), s.dev.accessible CNV_SEQ_CTRL (grainOf a) (slotOf a) →
      let g := grainOf a
      let n := slotOf a
      let d := s.dev.roused CNV_SEQ_CTRL g n
      d.on CNV_SEQ_STATUS_ARM_BUSY g n = false → bit v.toNat 31 = false →
      exec (.cnvSeqDefault a v) s = .next (s.withDev (
        ((d.wr CNV_SEQ_CTRL_LEN g n 0 (bits v.toNat 4 0)).seqToDefault g n).wr CNV_SEQ_STATUS_RESULT g n 0 Status.ok.code)))
    ∧ (∀ (s : State) (a : Fin 16384) (v : BitVec 32), s.dev.accessible CNV_CAL_CFG (grainOf a) (slotOf a) →
      let g := grainOf a
      let n := slotOf a
      let d := (s.dev.roused CNV_CAL_CFG g n).plainWrite CNV_CAL_CFG g n 0 (setBits v.toNat 30 30 1)
      d.on CNV_REF_STATUS_SETTLED (bushelOf a) = true → d.on CNV_CAL_STATUS_SUBST g n = false → d.arrState a ≠ RETIRED →
      exec (.calNow a v) s = .next (s.withDev
        (((d.wr CNV_CAL_STATUS_ROTATING g n 0 0).wr CNV_CAL_STATUS_POS g n 0 0).modArr a (fun r => { r with calNow := 67 }))))
    ∧ (∀ (s : State) (b : Fin 16) (v : BitVec 32), s.dev.accessible CNV_REF_SEL b 0 →
      let d := s.dev.roused CNV_REF_SEL b 0
      let sel := bits v.toNat 1 0
      exec (.cnvRefSelWrite b v) s = .next (s.withDev (
        if sel = 3 then d.wr CNV_REF_STATUS_BAD_SEL b 0 0 1
        else
          let e := d.wr CNV_REF_SEL_SEL b 0 0 sel
          if sel = 1 then
            if d.on CNV_REF_STATUS_EXT_FAULT b then e
            else if d.extRefBad.contains b then (e.useReference b 0).wr CNV_REF_STATUS_EXT_FAULT b 0 0 1
            else e.useReference b 1
          else e.useReference b sel)))
    ∧ (∀ (s : State) (b : Fin 16) (v : BitVec 32), s.dev.accessible CNV_MON_CTRL b 0 →
      exec (.cnvMonArm b v) s = .next (s.withDev
        (((s.dev.roused CNV_MON_CTRL b 0).plainWrite CNV_MON_CTRL b 0 0 (setBits v.toNat 31 31 1)).monArm b)))
    ∧ (∀ (s : State) (g : Fin 1024) (v : BitVec 32), s.dev.accessible RSD_CTRL g 0 →
      exec (.rsdRebuild g v) s = .next (s.withDev ((List.range 16).foldl
        (fun (d : Dev) n => if bit (bits v.toNat 15 0) n then d.makeDue (g * 16 + n) .software else d) (s.dev.roused RSD_CTRL g 0)))))
  -- R206: ARM of a Bushel's monitor takes a table of at most 512 valid entries; none is OK_ZERO_WORK, a longer or an invalid one BAD_ARG.
  ∧ (
    ∀ (s : State) (b : Fin 16) (v : BitVec 32), s.dev.accessible CNV_MON_CTRL b 0 →
      let d := (s.dev.roused CNV_MON_CTRL b 0).plainWrite CNV_MON_CTRL b 0 0 (setBits v.toNat 31 31 1)
      let len := d.rd CNV_MON_CTRL_LEN b
      let es := (List.range len).map (fun i => d.scanEntry CNV_MON_ENTRY_ENTRY b i)
      (512 < len → exec (.cnvMonArm b v) s = .next (s.withDev (d.wr CNV_MON_STATUS_RESULT b 0 0 Status.badArg.code)))
      ∧ (len = 0 → exec (.cnvMonArm b v) s = .next (s.withDev (d.wr CNV_MON_STATUS_RESULT b 0 0 Status.okZeroWork.code)))
      ∧ (0 < len → len ≤ 512 → es.all scanEntryValid = false →
          exec (.cnvMonArm b v) s = .next (s.withDev (d.wr CNV_MON_STATUS_RESULT b 0 0 Status.badArg.code)))
      ∧ (0 < len → len ≤ 512 → es.all scanEntryValid = true →
          exec (.cnvMonArm b v) s = .next (s.withDev { d.wr CNV_MON_STATUS_RESULT b 0 0 Status.ok.code with
            monArmed := if d.monArmed.contains b.val then d.monArmed else d.monArmed ++ [b.val]
            monLast := Tbl.put d.monLast b es })))
  -- R627, R628, R630, R653, R699: writes that act, of clock, power, reset and security registers; FORCE_REL, with debug unlocked for such
  -- writes, releases its Peck and leaves it UNSTABLE.
  ∧ (
    (∀ (s : State) (p : Fin 128) (v : BitVec 32), s.dev.accessible CLK_ISL_CFG p 0 →
      let d := s.dev.roused CLK_ISL_CFG p 0
      let q := bits v.toNat 6 0
      exec (.freqReqWrite p v) s = .next (s.withDev (
        if 20 ≤ q ∧ q ≤ 88 then (d.wr CLK_ISL_CFG_FREQ_REQ p 0 0 q).setVcore (bushelOfPeck p)
        else d.wr CLK_ISL_STATUS_BAD_REQ p 0 0 1)))
    ∧ (∀ (s : State), s.dev.accessible CLK_REF_CTRL 0 0 → s.dev.on CLK_REF_STATUS_EXT_OK 0 = true → s.dev.on CLK_REF_STATUS_INTERNAL 0 = true →
      exec .refclkRestore s = .next (s.withDev
        ((s.dev.wr CLK_REF_STATUS_INTERNAL 0 0 0 0).hostEvent (srcUnit 0x11) 0x0603 .ok none [2])))
    ∧ (∀ (s : State) (b : Fin 16), s.dev.accessible PWR_BUSHEL_CTRL b 0 →
      let d := s.dev.roused PWR_BUSHEL_CTRL b 0
      d.gated b = false →
      exec (.bushelGate b) s = .next (s.withDev ((d.wr PWR_BUSHEL_CTRL_GATE b 0 0 1).wr PWR_BUSHEL_CTRL_PENDING b 0 0 1)))
    ∧ (∀ (s : State) (b : Fin 16), s.dev.mayGate b = true →
      exec (.bushelGateEffect b) s = .next (s.withDev
        (((((s.dev.pecksLose (pecksOf b) 2).bushelLoses b).wr PWR_BUSHEL_CTRL_PENDING b 0 0 0).wr PWR_BUSHEL_CTRL_GATED b 0 0 1).setRail b false)))
    ∧ (∀ (s : State) (b : Fin 16), s.dev.accessible PWR_BUSHEL_CTRL b 0 →
      let d := s.dev.roused PWR_BUSHEL_CTRL b 0
      let e := (d.wr PWR_BUSHEL_CTRL_GATE b 0 0 0).wr PWR_BUSHEL_CTRL_PENDING b 0 0 0
      exec (.bushelUngate b) s = .next (s.withDev (
        if d.gated b then
          ((((e.wr PWR_BUSHEL_CTRL_GATED b 0 0 0).setRail b true).reloadScan b true).pecksReturn (pecksOf b)).setVcore b
        else e)))
    ∧ (∀ (s : State) (p : Fin 128), s.dev.ordered → s.dev.accessible RST_PECK_CTRL p 0 → (Tbl.find s.dev.recovering p).isSome = true →
      s.dev.on SEC_STATUS_UNLOCKED 0 = true → bit (s.dev.rd SEC_STATUS_SCOPE 0) 1 = true →
      ∃ t, exec (.forceRel p) s = .next t ∧ Tbl.find t.dev.recovering p = none ∧ t.dev.on CLK_ISL_STATUS_UNSTABLE p = true)
    ∧ (∀ (s : State), s.dev.accessible SEC_FMKEY_CTRL 0 0 →
      exec .secFmkeyLock s = .next (s.withDev ((s.dev.wr SEC_FMKEY_CTRL_LOCK 0 0 0 1).wr SEC_FMKEY_CTRL_VALID 0 0 0 1))))

/-! ### Resets and starts (chapter 19) -/

/-- R640, R646, R668: a Device reset, whichever event brings it, leaves the module starting, with the kind and the source of the reset
shown, without runs, programs and objects, and with device time and device memory as they were. -/
def Obligations.DeviceResetsLeaveAFreshModule : Prop :=
  ∀ (s : State) (c : Instr) (source : Nat), s.dev.ordered →
    (c = .perstAssert ∧ source = 0x03 ∧ s.dev.life ≠ .off
      ∨ c = .hotReset ∧ source = 0x04 ∧ s.dev.life ≠ .off
      ∨ (∃ n : Fin 256, c = .deviceReset n ∧ n.val = source ∧ s.dev.life ≠ .off ∧ (source = 0x03 ∨ source = 0x04 ∨ source = 0x06 ∨ source = 0x07
          ∨ source = 0x08 ∨ (source = 0x05 ∧ ∃ due, s.dev.pendingReset = some ⟨false, 0x05, due⟩ ∧ due ≤ s.dev.time)))
      ∨ ((c = .mpWatchdogExpiry ∧ s.dev.mpKicked + 200000000 ≤ s.dev.time ∨ ∃ b, c = .mpRestart b) ∧ source = 0x06 ∧ s.dev.life = .run ∧ s.dev.mpDown = false
          ∧ 2 ≤ (s.dev.mpCauses.filter (fun t => decide (s.dev.time ≤ t + 60000000000))).length)) →
    ∃ t, exec c s = .next t ∧ t.fuses = s.fuses ∧ t.dev.life = .starting ∧ t.dev.startDone = false
      ∧ t.dev.rd RST_CAUSE_KIND 0 = 1 ∧ t.dev.rd RST_CAUSE_SOURCE 0 = source ∧ t.dev.rd RST_CAUSE_RECOVERY 0 = 0
      ∧ t.dev.runs = [] ∧ t.dev.programs = [] ∧ t.dev.objects = []
      ∧ t.dev.time = s.dev.time ∧ (∀ a, a < 2 ^ 40 → t.dev.byte a = s.dev.byte a)

/-- R514, R645, R668: a Context reset counts, takes the context's programs and its window base away, and leaves every other context's
window base and page configuration as they were. -/
def Obligations.ContextResetEndsTheContext : Prop :=
  ∀ (s : State) (c : Fin 16) (source : Fin 256), s.dev.life = .run → s.dev.ordered → Tbl.rising s.dev.winPending = true →
    ∃ t, exec (.contextReset c source) s = .next t ∧ t.dev.life = .run ∧ t.fuses = s.fuses
      ∧ (∀ h : Fin 4, Tbl.find t.dev.programs (progKey c.val h.val) = none)
      ∧ t.dev.rd PCI_WIN_BASE_LO_BASE 0 c.val = 0 ∧ t.dev.rd PCI_WIN_BASE_HI_BASE 0 c.val = 0
      ∧ Tbl.find t.dev.winPending c.val = none ∧ t.dev.vfEnable = s.dev.vfEnable ∧ t.dev.numVFs = s.dev.numVFs

/-- R640, R666, R709, R711, R619: entering Off and leaving it: by the loss of presence or of the input, which leaves cause 2, and by
PERST#, the input's return and the always-on supply. -/
def Obligations.OffIsEnteredAndLeft : Prop :=
  (∀ (s : State) (n : Fin 4), s.dev.life ≠ .off → s.dev.ordered → ∃ t, exec (.inputFault n) s = .next t ∧ t.fuses = s.fuses
    ∧ t.dev.life = .off ∧ t.dev.railsOn = 0 ∧ t.dev.rd RST_OFF_CAUSE_CAUSE 0 = 2 ∧ t.dev.mem = [] ∧ t.dev.tripN = true ∧ t.dev.offAt = s.dev.time
    ∧ t.dev.runs = [] ∧ t.dev.log = [])
  ∧ (∀ (s : State), s.dev.life ≠ .off → s.dev.ordered → exec .presenceLost s = exec (.inputFault 1) s
      ∧ ∃ t, exec .presenceLost s = .next t ∧ t.dev.life = .off ∧ t.dev.rd RST_OFF_CAUSE_CAUSE 0 = 2)
  ∧ (∀ (s : State), s.dev.life = .off → s.dev.rd RST_OFF_CAUSE_CAUSE 0 = 2 → exec .inputRestored s = .next (s.withDev
      ({ s.dev with life := .starting, startedAt := s.dev.time, coldStart := s.dev.time, perstOff := false }.startCause 2 0x31)))
  ∧ (∀ (s : State), s.dev.life = .off →
      exec .perstAssert s = .next (s.withDev { s.dev with perst := true, perstOff := true, startDue := false }))
  ∧ (∀ (s : State), s.dev.life = .off → s.dev.perstOff = true → s.dev.rd RST_OFF_CAUSE_CAUSE 0 ≠ 2 → s.dev.offWaitOver = true →
      exec .perstDeassert s = .next (s.withDev (
        { s.dev with perst := false, life := .starting, startedAt := s.dev.time, coldStart := s.dev.time, perstOff := false, startDue := false
          }.startCause 2 0x32)))
  ∧ (∀ (s : State), s.dev.life ≠ .off → exec .perstDeassert s = .next (s.withDev { s.dev with perst := false }))
  ∧ (∀ (s : State), s.dev.ordered → ∃ t, exec .powerOn s = .next t ∧ t.fuses = s.fuses ∧ t.dev.life = .starting ∧ t.dev.startDone = false
      ∧ t.dev.time = 0 ∧ t.dev.rd RST_CAUSE_KIND 0 = 0 ∧ t.dev.rd RST_CAUSE_SOURCE 0 = 1 ∧ t.dev.mem = [] ∧ t.dev.perst = s.dev.perst)

/-- R646, R649, R655, R683: a start with good trims, bond tests passed and an ACTIVE image that verifies comes up to wait for RUN
acknowledgement on that image; the fourth start without one, or one without an image that verifies, ends in minimal recovery mode. -/
def Obligations.StartsComeUp : Prop :=
  (∀ (s : State) (rep : StartReport), s.dev.life = .starting → s.dev.startDone = false → s.dev.perst = false → s.dev.ordered →
    s.dev.rd RST_START_START_CNT 0 < 3 → (∀ set < 5, s.fuses.badCopyA.contains set = false ∨ s.fuses.badCopyB.contains set = false) →
    (∀ i, nth rep.bondFailed i = 0) → s.dev.active.verify s.fuses = .ok →
    ∃ t, exec (.start rep) s = .next t ∧ t.fuses = s.fuses ∧ t.dev.life = .starting ∧ t.dev.startDone = true
      ∧ t.dev.runningImage = s.dev.active ∧ t.dev.runningSlot = 0)
  ∧ (∀ (s : State) (rep : StartReport), s.dev.life = .starting → s.dev.startDone = false → s.dev.perst = false →
    (3 ≤ s.dev.rd RST_START_START_CNT 0 ∨ (s.dev.active.verify s.fuses ≠ .ok ∧ s.dev.other.verify s.fuses ≠ .ok)) →
    ∃ t, exec (.start rep) s = .next t ∧ t.fuses = s.fuses ∧ t.dev.life = .recovery)
  ∧ (∀ (s : State) (rate : Fin 7) (width : Fin 17) (flit : Bool),
    let d := ((s.dev.wr PCI_LINK_STATUS_RATE 0 0 0 rate.val).wr PCI_LINK_STATUS_WIDTH 0 0 0 width.val).wr PCI_LINK_STATUS_FLIT 0 0 0 (b2n flit)
    exec (.linkDegraded rate width flit) s = .next (s.withDev (
      if rate.val = 6 ∧ width.val = 16 then d else d.hostEvent (srcUnit 0x00) 0x0400 .ok none [])))

/-- R503 to R506, R518, R528, R538: a restart of the management processor begins (by the watchdog 200 ms after a kick) and ends, its load
is measured, and what it does at set
times is done. -/
def Obligations.ManagementEventsTakeEffect : Prop :=
  (∀ (s : State) (b : Bool), s.dev.life = .run → s.dev.mpDown = false →
    (s.dev.mpCauses.filter (fun t => decide (s.dev.time ≤ t + 60000000000))).length < 2 →
    exec (.mpRestart b) s = .next (s.withDev { (s.dev.countRestart (if b then 3 else 2)).2 with mpDown := true })
    ∧ (s.dev.mpKicked + 200000000 ≤ s.dev.time →
      exec .mpWatchdogExpiry s = .next (s.withDev { (s.dev.countRestart 1).2 with mpDown := true })))
  ∧ (∀ (s : State), s.dev.mpDown = true → s.dev.active.verify s.fuses = .ok →
    ∃ t, exec .mpRestartComplete s = .next t ∧ t.fuses = s.fuses ∧ t.dev.mpDown = false ∧ t.dev.restore = none
      ∧ t.dev.runningImage = s.dev.active ∧ t.dev.runningSlot = 0)
  ∧ (∀ (s : State) (busy : Fin 101) (held : Bool), s.dev.life = .run → s.dev.mpDown = false →
    let k := s.dev.nextStage busy.val held
    let d := s.dev.wr MBX_MP_STATUS_BUSY 0 0 0 busy.val
    exec (.shedStage busy held) s = .next (s.withDev (
      if k = s.dev.rd MBX_MP_STATUS_SHED 0 then d
      else (d.setStage k).logEntry (srcUnit 0x01) (.fixed 0x0011) .ok false 0 [k, busy.val])))
  ∧ (∀ (s : State), s.dev.life = .run → s.dev.mpDown = false → s.dev.telemetry.time + s.dev.samplePeriod ≤ s.dev.time →
    exec .telemetrySample s = .next (s.withDev { s.dev with
      telemetry := ⟨(s.dev.telemetry.number + 1) % 2 ^ 32, s.dev.time, s.dev.sampleWords⟩ }))
  ∧ (∀ (s : State), s.dev.life ≠ .off → s.dev.rd LOG_EPOCH_EPOCH 0 ≠ (s.dev.micros / 2 ^ 32) % 2 ^ 32 →
    exec .logEpoch s = .next (s.withDev s.dev.writeEpoch))

/-! ### Runs, attempts and tasks (chapters 3 to 10) -/

/-- Runs and attempts start, tasks complete or end by fault, idle Grains steal, waits time out -/
def Obligations.RunsAndTasksProceed : Prop :=
  -- R334, R337, R390: a queued run starts; an attempt of it starts at the step its barrier gives, with its tasks fresh, its counters and
  -- tables initialised and its tensors' exchange open, or the run ends with BAD_ARG.
  (
    (∀ (s : State), s.dev.runs ≠ [] → s.dev.runStarted = false → s.dev.attempt = none →
      exec .runStart s = .next (s.withDev { s.dev with runStarted := true, lastOutcome := none, outcomeDue := none, ingestDone := [] }))
    ∧ (∀ (s : State) (answer : Option (BitVec 32 × BitVec 8)) (r : Run) (p : Program),
      let stopped := s.dev.stopTasks
      let d0 := stopped.clearDone p.base
      let es := stopped.initTable p.base
      let loaded := stopped.loadStep (answer.map (fun (v, n) => (v.toNat, n.toNat)))
      s.dev.run = some r → s.dev.runProgram = some p → s.dev.runStarted = true →
      (s.dev.attempt = none ∨ ∃ a, s.dev.attempt = some a ∧ (a.phase = .refused ∨ a.phase = .committed) ∧ a.rescale = false) →
      (s.dev.lastOutcome = none → s.dev.barrierUnreachable = false) →
      exec (.attemptStart answer) s = .next (s.withDev (match loaded with
        | none => stopped.endRun .badArg 0 none
        | some (step, number) =>
          if es.all (d0.initOk r.ctx (bits (d0.header p.base 6) 11 0)) = false then d0.endRun .badArg 0 none
          else
            let shown := match d0.attempt with
              | some a => if a.step = step then min (a.shown + 1) 255 else number
              | none => number
            let d1 := d0.clearStats p.base
            let d2 := { d1 with attempt := some { step := step, number := number, shown := shown
                                                  gen1 := d1.programGen1 p.base, tasks := d1.freshTasks p.base } }
            let d3 := (List.range 128).foldl (fun (d : Dev) q =>
              (d.clearCounters q).wr TSK_SCHED_STATUS_ATTEMPT q 0 0 shown) (d2.clearNorms.showRun 1)
            let d4 := ((d3.applyInit r.ctx es).exchangeStart).startSamples
            let d5 := d4.watchTriggers r.ctx
            (List.range (d5.taskCount p.base)).foldl (fun (d : Dev) i => d.makeEligible r.ctx i) d5))))
  -- R348, R350: a running task whose work is done completes, a FWD task after it has written its outputs; one in a gated Bushel does so
  -- with NOT_PERMITTED when it would start (R627), and a Chain task after a stream fault once nothing is outstanding (R365).
  ∧ (
    (∀ (s : State) (i : Fin 65536) (t : TaskRun) (a : Attempt) (st : Status), s.dev.task i = some t → s.dev.attempt = some a →
      t.phase = .running → s.dev.taskOutcome a.gen1 t = some st →
      exec (.taskComplete i) s = .next (s.withDev (
        (if t.kind = 0 ∧ t.ending = none then s.dev.fwdWrite a.gen1 { t with nanInput := t.nanInput || (a.gen1 && s.dev.fwdHasNan t) }
         else s.dev).finishTask i st)))
    ∧ (∀ (s : State) (i : Fin 65536) (t : TaskRun) (r : Run) (a : Attempt), s.dev.task i = some t → s.dev.run = some r →
      s.dev.attempt = some a → t.phase = .ready → a.starts = true → s.dev.gated (bushelOfPeck (peckOfGrain t.home)) = true →
      exec (.taskStart i) s = .next (s.withDev (s.dev.finishTask i .notPermitted)))
    ∧ (∀ (s : State) (i : Fin 65536) (t : TaskRun), s.dev.task i = some t → t.phase = .running → t.kind = 3 → t.faultCause ≠ none →
      t.outstanding = [] → t.ending = none →
      exec (.taskAbortedStreamFault i) s = .next (s.withDev (s.dev.finishTask i .streamFault))))
  -- R68, R354 to R356: an idle Grain takes the first ready stealable task of the Grain of its Peck with the most, or, its Peck having none,
  -- after STEAL_DELAY idle clocks that of the next Peck of its Bushel that lets it and has no idle Grain of its own, and counts it where it
  -- runs.
  ∧ (
    (∀ (s : State) (g : Fin 1024) (vector : Bool) (i : Nat) (t : TaskRun),
      let kind := if vector then 2 else 1
      let p := peckOfGrain g
      let best := (List.range 8).foldl (fun (b : Nat × Nat) n =>
        if 8 * p + n ≠ g ∧ b.2 < (s.dev.stealable kind (8 * p + n)).length then (8 * p + n, (s.dev.stealable kind (8 * p + n)).length) else b) (g.val, 0)
      let d := s.dev.startTask i g true
      s.dev.idleFor kind g = true → s.dev.on TSK_SCHED_CFG_STEAL_EN p = true → best.2 ≠ 0 → (s.dev.stealable kind best.1).head? = some (i, t) →
      exec (.workSteal g vector) s = .next (s.withDev (
        if (d.task i).map TaskRun.phase = some .running then d.count TSK_STEAL_IN_CNT_COUNT g 0 else d)))
    ∧ (∀ (s : State) (g : Fin 1024) (vector : Bool) (q i : Nat) (a : Attempt),
      let kind := if vector then 2 else 1
      let p := peckOfGrain g
      let lets := fun q => s.dev.on TSK_SCHED_CFG_STEAL_EN q && s.dev.on TSK_SCHED_CFG_BUSHEL_STEAL_EN q
      let gives := fun q => lets q && !s.dev.idleIn kind q
      let first := fun q => (a.tasks.find? (fun e => decide (e.2.phase = .ready) && e.2.kind == kind && peckOfGrain e.2.home == q
        && bit (nth e.2.desc 0) 59 && !e.2.local_)).map (·.1)
      let d := s.dev.startTask i g true
      s.dev.attempt = some a → s.dev.idleFor kind g = true → lets p = true →
      (∀ n < 8, s.dev.stealable kind (8 * p + n) = []) →
      s.dev.clocksPast p (Tbl.get 0 s.dev.idleAt (g * 4 + kind)) (s.dev.rd TSK_SCHED_CFG_STEAL_DELAY p) = true →
      ((List.range 7).map (fun k => bushelOfPeck p * 8 + (p % 8 + 1 + k) % 8)).find? (fun q => gives q && (first q).isSome) = some q →
      first q = some i →
      exec (.bushelSteal g vector) s = .next (s.withDev (
        if (d.task i).map TaskRun.phase = some .running then
          ((d.count TSK_STEAL_IN_CNT_COUNT g 0).count TSK_STEAL_OUT_CNT_COUNT q 0).count TSK_BUSHEL_STEAL_CNT_COUNT p 0
        else d))))
  -- R383: a SYNC_WAIT whose time has passed answers TIMEOUT, once a wait with a timeout of zero has been tested at its home (log entry
  -- 118).
  ∧ (
    ∀ (s : State) (c : Fin 16) (k : Fin 8) (t : Nat), Tbl.find (s.dev.ctx c).deadline k = some t → t ≤ s.dev.time →
      s.dev.untested c k = false → s.dev.slotState c k = slotRunning → s.dev.slotWait c k = .sync →
      exec (.mailboxWaitTimeout c k) s = .next (s.withDev (((s.dev.withdrawMailbox c k).modCtx c
        (fun x => { x with deadline := Tbl.del x.deadline k })).finishWaiting c k .sync .timeout)))

/-- R347 to R349: a ready task that its engine, its order and a slot let start runs at home (a FWD task on the Grain of the arrays that its
block names, R63), with its argument block read and its start checks made. It is held while a clock, a wrapper or a supply is missing, and a
FWD task while a residual decision of its arrays is due or running (R267). -/
def Obligations.ReadyTasksStart : Prop :=
  ∀ (s : State) (i : Fin 65536) (t : TaskRun) (r : Run) (a : Attempt) (shared : Bool),
    let p := peckOfGrain t.home
    let arg := s.dev.argWords t
    let g := t.unitOf t.home arg
    let e := t.engineOn a.gen1 g
    let check := s.dev.startCheck a.gen1 t arg
    s.dev.task i = some t → s.dev.run = some r → s.dev.attempt = some a → t.phase = .ready → a.phase = .running → a.cut = false →
    t.kind < 4 → ¬ (t.kind = 3 ∧ chIngest arg = true ∧ s.dev.ingestDone.contains i.val = true) → s.dev.mirrorDue = false →
    s.dev.gated (bushelOfPeck p) = false → s.dev.gated (bushelOfPeck (peckOfGrain g)) = false →
    s.dev.clockGood p = true → s.dev.clockGood (peckOfGrain g) = true → s.dev.wrapperClosed p = false →
    s.dev.wrapperClosed (peckOfGrain g) = false → s.dev.behind a.gen1 i t = false → s.dev.decisionHolds t arg = false →
    s.dev.onEngine a.gen1 e < engineCapacity e.1 → s.dev.slotFor p = some shared →
    ∃ u, exec (.taskStart i) s = .next u ∧ u.fuses = s.fuses ∧ u.dev.mem = s.dev.mem
      ∧ u.dev.task i = some { t with phase := .running, grain := g, stolen := false, hasSlot := true, sharedSlot := shared
                                     order := a.starts_ + 1, arg := arg, ending := check.1, vecIndex := check.2
                                     arrays := if t.kind = 0 ∧ check.1 = none then s.dev.fwdLatch arg else [] }

/-- Row groups choose their path, engines do the next piece of work, array counters lead to their events -/
def Obligations.EnginesWork : Prop :=
  -- R144 to R146, R150, R154, R302: a row group of a FWD task takes its path when it would start: no input to multiply (all slots zero or
  -- a NaN block) adds nothing; an array in SERVING converts it in the task's turn, with the drivers armed (R147), while its Grain's limit
  -- allows and no monitor cycle waits (R203); any other leaves it to the fallback path.
  (
    ∀ (s : State) (i token : Fin 65536) (entry : Fin 16) (row : Fin 1024) (t : TaskRun) (a : Attempt) (l : LatchedArray),
      let key := groupKey token entry row
      let g := grainOf l.array
      let c : StartedCycle := { task := i, token := token, entry := entry, row := row }
      let d := s.dev.modTask i (fun t => { t with started := t.started ++ [key] })
      let busy := (List.range 16).filter (fun n => decide (g * 16 + n ≠ l.array) && !(s.dev.arr (g * 16 + n)).cycles.isEmpty)
      s.dev.task i = some t → s.dev.attempt = some a → t.arrays[entry.val]? = some l → t.kind = 0 → t.phase = .running → t.ending = none →
      a.gen1 = false → token.val < fwdTokens t.arg → l.groups.contains row.val = true → t.started.contains key = false →
      exec (.rowGroupStart i token entry row) s = .next (s.withDev (
        match s.dev.groupSlots t.home t.arg (s.dev.fwdInFmt s.dev.runBase t.arg) token l row with
        | none => (d.modTask i (fun t => { t with nanInput := true })).putTerms i key []
        | some (cx, slots) =>
          if slots.all (fun x => x == 0) then d.putTerms i key []
          else if s.dev.arrState l.array = SERVING then
            (if s.dev.cycleTurn l.array t.order = false then s.dev
             else if s.dev.grainLimit g ≤ busy.length ∨ s.dev.monWaits.contains g = true then s.dev.count ARR_GRAIN_STALL_CNT_COUNT g 0
             else (d.modArr l.array (fun r => { r with
               cycles := r.cycles ++ [{ c with cmax := cx, slots := slots }], turn := t.order })).showGrain g)
          else ({ d with fbQueue := Tbl.set [] s.dev.fbQueue g (Tbl.get [] s.dev.fbQueue g ++ [c]) }.modTask i
            (fun t => { t with fallback := true })).showGrain g)))
  -- R140, R162, R165: the checksum window of an array ends, PERSIST clears after 1,048,576 cycles served without a flag, and reference ratios are
  -- published after 1,024 cycles.
  ∧ (
    (∀ (s : State) (a : Fin 16384), 0 < s.dev.windowLen a → s.dev.windowLen a ≤ (s.dev.arr a).windowCycles →
      exec (.checksumWindowEnd a) s = .next (s.withDev (s.dev.modArr a (fun r => { r with windowCycles := 0, windowMismatch := 0 }))))
    ∧ (∀ (s : State) (a : Fin 16384), 1048576 ≤ (s.dev.arr a).served → s.dev.rd ARR_CHK_STATUS_PERSIST (grainOf a) (slotOf a) ≠ 0 →
      exec (.persistClear a) s = .next (s.withDev (s.dev.setMeta ARR_CHK_STATUS_PERSIST a 0)))
    ∧ (∀ (s : State) (a : Fin 16384), 1024 ≤ (s.dev.arr a).refCycles → s.dev.ordered →
      ∃ u, exec (.refRatioPublish a) s = .next u ∧ (u.dev.arr a).refCycles = 0 ∧ (u.dev.arr a).refSlots = 0
        ∧ (u.dev.arr a).refMeasured = [0, 0, 0, 0] ∧ (u.dev.arr a).refIdeal = [0, 0, 0, 0] ∧ u.dev.mem = s.dev.mem))
  -- R282, R295, R301, R305, R319, R328, R360, R361: the engines of a Grain do the next piece of their task's work: a tile pass once no
  -- fallback row group and no wide recomputation waits, a vector descriptor, a unit of a
  -- Chain task that needs neither a segment wait nor host memory.
  ∧ (
    (∀ (s : State) (g : Fin 1024) (i : Nat) (t : TaskRun) (a : Attempt) (p : Product),
      s.dev.class3 g = some (i, t) → s.dev.attempt = some a → t.ending = none → Tbl.get [] s.dev.fbQueue g = [] →
      s.dev.class2Waits g = false → t.kind = 1 → t.productsDone = false → (productsOf t.arg)[t.nextSide]? = some p →
      let d := ((s.dev.productPass i t a.gen1 p t.nextSide (if t.nextSide = 0 then t.tile else t.tile2)).countWrap DMX_PASS_CNT_COUNT g 0).wr
        DMX_STATUS_PAIR_SIDE g 0 0 t.nextSide
      exec (.tilePass g) s = .next (s.withDev (if p.unaligned then d.count DMX_UNALIGNED_CNT_COUNT g 0 else d)))
    ∧ (∀ (s : State) (g : Fin 1024) (i : Nat) (t : TaskRun) (a : Attempt),
      s.dev.class3 g = some (i, t) → s.dev.attempt = some a → t.ending = none → Tbl.get [] s.dev.fbQueue g = [] →
      s.dev.class2Waits g = false → t.kind = 0 → t.tile < s.dev.fwdPasses t →
      exec (.tilePass g) s = .next (s.withDev ((s.dev.modTask i (fun t => { t with tile := t.tile + 1 })).countWrap DMX_PASS_CNT_COUNT g 0)))
    ∧ (∀ (s : State) (g : Fin 1024) (i : Nat) (t : TaskRun) (a : Attempt), s.dev.attempt = some a →
      a.tasks.find? (fun e => decide (e.2.phase = .running) && decide (e.2.grain = g.val) && e.2.kind == 2) = some (i, t) →
      t.ending = none → t.vecIndex < vecCount t.arg →
      let v := vecDesc t.arg t.vecIndex
      let next := vecDesc t.arg (t.vecIndex + 1)
      let d := if vOp v < 8 then s.dev.vNative s.dev.runBase t v
        else if vCount0 v = 0 then s.dev else s.dev.vUpdate s.dev.runBase a.gen1 t.home v
      let e := (d.countWrap VEC_DESC_CNT_COUNT g 0).modTask i (fun t => { t with vecIndex := t.vecIndex + 1 })
      exec (.vectorDescriptor g) s = .next (s.withDev (
        if t.vecIndex + 1 < vecCount t.arg then
          ((e.wr VEC_STATUS_INDEX g 0 0 (t.vecIndex + 1)).wr VEC_STATUS_OP g 0 0 (vOp next)).wr VEC_STATUS_LANES g 0 0 (b2n (vBf16 next))
        else e)))
    ∧ (∀ (s : State) (g : Fin 1024) (peck : Bool) (i : Nat) (t : TaskRun) (r : Run), s.dev.chainOn g peck = some (i, t) → s.dev.run = some r →
      t.ending = none → t.faultCause = none → t.closing = false → t.unit < chUnits t.arg → t.outstanding.length < 32 →
      s.dev.wrapperClosed (peckOfGrain t.home) = false → (chOpens t.arg t.unit && decide (chNbuf t.arg + 1 ≤ t.seg) && !t.segHeld) = false →
      chSrcSpace t.arg ≠ 3 → chDstSpace t.arg ≠ 3 →
      exec (.chainUnit g peck) s = .next (s.withDev
        (((((s.dev.chnWr t CHN_STATUS_SEG_WAITING PCHN_STATUS_SEG_WAITING 0 0).moveUnit i t.unit r.ctx t).chnCount t (chSrcAt t.arg t.unit)
          (chDstAt t.arg t.unit t.seg)).modTask i (fun x => { x with
            unit := x.unit + 1, closing := chCloses t.arg t.unit
            planeUnit := ((chPlaneUnits t.arg (chSrcAt t.arg t.unit) (chDstAt t.arg t.unit t.seg)).getLast?).orElse
              (fun _ => x.planeUnit) })).chainSettle i r.ctx))))

/-- A read cycle gives its task the corrected FP32 results; the fallback path gives the exact sums -/
def Obligations.ReadCyclesConvert : Prop :=
  -- R147, R157, R259: a read cycle gives its task, for each output, the converted code, corrected in gain and offset, with the residual
  -- contribution, as FP32; the codes beyond ±255 are clipped. Unless it flags the array, it writes no byte outside the capture area of the
  -- array's Peck (R444).
  (
    ∀ (s : State) (a : Fin 16384) (codes : List Int) (c : StartedCycle) (rest : List StartedCycle) (t : TaskRun) (l : LatchedArray), s.dev.ordered →
      (s.dev.arr a).cycles = c :: rest → s.dev.task c.task = some t → t.phase = .running → t.arrays[c.entry]? = some l →
      let slots := c.slots
      let four := decide ((s.dev.fwdInFmt s.dev.runBase t.arg).slotsPerCycle = 16)
      let code := fun o => max (-255) (min 255 (codes.getD o 0))
      let n : Fp := .fin false ((slots.foldl (fun x y => x + y.natAbs) 0 : Nat) : Rat)
      let p := fun o => Fp.mul (fp32Decode l.gain)
        (Fp.sub (Fp.ofRat ((code o * (gainLsb (l.gainCode four o) : Int) : Int) : Rat)) (Fp.mul (fp32Decode l.offset) n))
      let y := fun j => fp32Round (Fp.addExact (p j) (Fp.ofRat (residualSum (s.dev.arr a).residuals c.row slots j : Rat)))
      let ys := (List.range 256).map (fun j => (y j, Tbl.get 0 (s.dev.arr a).baseCodes (j * 8 + c.row / 128)))
      ∃ u t', exec (.readCycle a codes) s = .next u ∧ (u.dev.arr a).cycles = rest ∧ u.dev.task c.task = some t'
        ∧ t'.terms = Tbl.put t.terms (groupKey c.token c.entry c.row) (s.dev.groupTerms s.dev.runBase t.arg c.cmax ys)
        ∧ (u.dev.arrState a = s.dev.arrState a →
            ∀ x, x < captureCell (peckOf a) ∨ captureCell (peckOf a) + 524288 ≤ x → u.dev.byte x = s.dev.byte x)
        ∧ u.fuses = s.fuses)
  -- R302: the fallback path gives its task the exact sum of slots times working-copy levels.
  ∧ (
    ∀ (s : State) (g : Fin 1024) (c : StartedCycle) (rest : List StartedCycle) (t : TaskRun) (l : LatchedArray) (cx : Nat) (slots : List Int),
      Tbl.get [] s.dev.fbQueue g = c :: rest → s.dev.task c.task = some t → t.arrays[c.entry]? = some l →
      s.dev.groupSlots t.home t.arg (s.dev.fwdInFmt s.dev.runBase t.arg) c.token l c.row = some (cx, slots) →
      let b : Binding := ⟨fwdTensor t.arg, l.rowTile, fwdColTile t.arg⟩
      let sum := fun j => (slots.zipIdx).foldl (fun (x : Int) (y, i) => match s.dev.wcElem b (c.row + i) j with
        | some (f, q, _) => x + y * weightLevel f q
        | none => x) 0
      let code := fun j => match s.dev.wcElem b c.row j with | some (_, _, k) => k | none => 0
      let ys := (List.range 256).map (fun j => (fp32Round (Fp.ofRat (sum j : Rat)), code j))
      ∃ u t', exec (.fallbackRowGroup g) s = .next u ∧ u.dev.task c.task = some t' ∧ u.dev.mem = s.dev.mem
        ∧ t'.terms = Tbl.put t.terms (groupKey c.token c.entry c.row) (s.dev.groupTerms s.dev.runBase t.arg cx ys))

/-- R444 to R446, R458, R460: the wide recomputation of a Peck's sample answers VOID without terms, FAIL where the mean square of the relative
error exceeds the tolerance or a value is not finite, else PASS; it runs once no fallback row group waits on the Grain (R301). -/
def Obligations.WideRecomputationJudges : Prop :=
  ∀ (s : State) (p : Fin 128) (a : Attempt) (x : WatchSample) (t : TaskRun), s.dev.ordered → s.dev.attempt = some a →
    Tbl.find a.samples p = some x → s.dev.task x.task = some t → x.resolved = false → t.sampleReady x = true →
    Tbl.get [] s.dev.fbQueue (grainOf (p * 128 + x.index)) = [] →
    let terms := x.cols.flatMap (fun e => match t.arrays[keyEntry e.1]? with
      | none => []
      | some l => s.dev.sampleTerms t l (s.dev.boundOutputs (fwdTensor t.arg) (fwdColTile t.arg)) (keyToken e.1) (keyRow e.1) e.2
          (Tbl.get [] x.lsbs e.1) (s.dev.on WCH_CFG_REF_GEN1 p))
    let mean : Rat := (terms.foldl (fun (m : Rat) (y, z, k) => m + (y.val - z.val) / (k : Rat) * ((y.val - z.val) / (k : Rat))) 0) / (terms.length : Rat)
    let tol := mkRat (s.dev.rd WCH_CFG_TOL p) 1000
    let bad := terms.any (fun (y, z, _) => !y.isFinite || !z.isFinite) || decide (tol * tol < mean)
    ∃ u, exec (.wideRecomputation p) s = .next u ∧ u.dev.rd WCH_SAMPLE_RESULT p = (if terms.isEmpty then 3 else if bad then 2 else 1)
      ∧ (terms.isEmpty = false ∧ bad = true → ∀ b, u.dev.attempt = some b → b.sampleFail = true)

/-! ### The exchange, the commit, the update, the mirror (chapters 11 to 14) -/

/-- Compression, outcomes, the update's chunks, scale recomputation, mirror, snapshot and reconstruction -/
def Obligations.ExchangeAndUpdateProceed : Prop :=
  -- R407, R411, R412: the exchange unit compresses a triggered tensor once per attempt: each chunk's residual is written, and the payload
  -- goes to the chunk's owner, or into the owner's own ingest where that is this node.
  (
    ∀ (s : State) (i : Fin 65536) (a : Attempt) (r : Run) (x : XchTable) (t : XchTensor), s.dev.attempt = some a → s.dev.run = some r →
      s.dev.runTable = some x → x.tensors[i.val]? = some t → a.triggered.contains i.val = true → a.compressed.contains i.val = false →
      a.phase = .running → s.dev.on FLT_ISO_X_XCH 0 = false →
      let topk := t.comp == 1
      let chunk := fun (d : Dev) (c : Nat) =>
        let n := t.chunkLen c
        let bs := (List.range ((n + 255) / 256)).map (fun b =>
          compressBlock (if topk then some t.topk else none) (d.signInputs t (4096 * c + 256 * b)))
        let e := ((bs.flatMap (·.residual)).zipIdx).foldl (fun (d : Dev) (w, k) => d.setLe (devCell (t.efPend + 2 * (4096 * c + k))) 2 w) d
        let pay := signPayload topk bs
        let body := exchHeader (if topk then 2 else 1) a.number d.nodeId r.ctx a.step t.tensorId c n (if topk then t.topk else 0) 0 pay.length ++ pay
        match x.ownerOf t c with
        | none => e
        | some o =>
          if o = e.nodeId then e.contributionArrives body
          else
            let sent := e.originate (exchPacket o r.ctx body) (.exchange i c)
            let f := sent.2.countWrap XCH_SENT_CNT_COUNT 0 0
            if sent.1 = .ok then f else f.markIsolated
      exec (.compression i) s = .next (s.withDev
        ((List.range t.chunks).foldl chunk (s.dev.modAttempt (fun a => { a with compressed := a.compressed ++ [i.val] }))).showXch))
  -- R42, R43, R389: the participant acts on an outcome. COMMITTED after its signal commits the step and counts it, ending the run at its
  -- last one; any other outcome refuses the attempt; an outcome it has acted on is discarded.
  ∧ (
    (∀ (s : State) (o : Outcome) (r : Run) (p : Program) (a : Attempt), s.dev.outcomeDue = some o → s.dev.run = some r →
      s.dev.runProgram = some p → s.dev.attempt = some a → s.dev.runStarted = true → s.dev.lastOutcome ≠ some o → a.phase = .signalled →
      Status.ofCode o.status = .ok → o.committed = (a.step + 1) % 2 ^ 32 →
      let d := { s.dev with outcomeDue := none, lastOutcome := some o }.commitStep r p a o.committed
      let e := { d with runs := { r with committed := r.committed + 1 } :: d.runs.drop 1 }.modAttempt (fun x => { x with phase := .committed })
      exec (.barrierOutcome none) s = .next (s.withDev (if r.steps ≤ r.committed + 1 then e.stopTasks.endRun .ok 0 none else e)))
    ∧ (∀ (s : State) (o : Outcome) (r : Run) (p : Program) (a : Attempt), s.dev.outcomeDue = some o → s.dev.run = some r →
      s.dev.runProgram = some p → s.dev.attempt = some a → s.dev.runStarted = true → s.dev.lastOutcome ≠ some o → a.phase ≠ .halted →
      a.phase ≠ .committed → a.phase ≠ .refused → Status.ofCode o.status ≠ .ok →
      exec (.barrierOutcome none) s = .next (s.withDev
        (({ s.dev with outcomeDue := none, lastOutcome := some o }.refuseStep r p a (Status.ofCode o.status)).releaseHeld)))
    ∧ (∀ (s : State) (o : Outcome) (r : Run) (p : Program) (a : Attempt), s.dev.outcomeDue = some o → s.dev.run = some r →
      s.dev.runProgram = some p → s.dev.attempt = some a → s.dev.lastOutcome = some o →
      exec (.barrierOutcome none) s = .next (s.withDev { s.dev with outcomeDue := none }))
    ∧ (∀ (s : State) (k : Fin 16384) (o : SyncObj) (b : Barrier), s.dev.obj k = some o → o.kind = .barrier b → b.decided.isSome = true →
      exec (.barrierMirrorAck k) s = .next (s.withDev (s.dev.sendOutcome k))))
  -- R423, R427, R454, R455, R462: firmware recomputes the scales of an attempt that was refused on its own account, where R124 takes the new
  -- entry; the update sequencer runs the next owned chunk: the rule on its masters, the transfers counted, the working copy published, the
  -- norms of the chunk kept, the ratio of a finished tensor written, and at the last chunk the step and its copies.
  ∧ (
    (∀ (s : State) (p : Program) (a : Attempt), s.dev.life = .run → s.dev.mpDown = false → s.dev.runProgram = some p → s.dev.attempt = some a →
      a.rescale = true →
      exec .scaleRecomputation s = .next (s.withDev (((s.dev.affected p.base p a).foldl (fun (d : Dev) (i, m) =>
        match d.scaleEntry p.base i, m with
        | some e, some q => (match Fmt.ofCode e.format with
          | some f => if e.shared || decide (q = 0) || !({ e with scale := recomputedScale f q }).valid then d else d.setLe e.addr 4 (recomputedScale f q)
          | none => d)
        | _, _ => d) s.dev).modAttempt (fun x => { x with rescale := false }))))
    ∧ (∀ (s : State) (g : Fin 1024) (u : UpdateRun) (rest : List UpdateRun) (i c : Nat) (todo : List (Nat × Nat)),
      s.dev.updates = u :: rest → u.todo = (i, c) :: todo → u.resend = [] → s.dev.wrapperClosed (peckOfGrain g) = false →
      s.dev.gated (bushelOfPeck (peckOfGrain g)) = false → s.dev.clockGood (peckOfGrain g) = true → s.dev.on FLT_ISO_X_XCH 0 = false → s.dev.snapshots = [] → s.dev.rebuild = [] →
      let t := u.table.tensors.getD i ⟨[]⟩
      let k := 4096 * (c - (u.table.owned t s.dev.nodeId).1)
      let votes := (List.range (t.chunkLen c)).map (fun j => (s.dev.voteSum t (k + j), s.dev.frozenAt t (k + j)))
      let upd := s.dev.applyUpdate (u.rule t (u.table.membersOf t).length) t.master t.mom t.momPlane (4096 * c) k votes
      let d2 := ((upd.2.count UPD_MOM_SAT_CNT_COUNT 0 0 upd.1.momSats).count UPD_NONFINITE_CNT_COUNT 0 0 upd.1.nonfinite).count
        UPD_FROZEN_CNT_COUNT 0 0 upd.1.frozen
      let u1 := { u with todo := todo, sums := Tbl.set (0, 0) u.sums (chunkKey i c) (fp32Encode upd.1.u2, fp32Encode upd.1.w2) }
      let runs := t.chunkRuns k (4096 * c) (t.chunkLen c) (s.dev.wcFormat u.base t).bits
      let d3 := (((d2.countTransfer g runs.1).countTransfer g runs.2).countWrap VEC_DESC_CNT_COUNT g 0).publishChunk u.ctx u.base u.step u.table t c upd.1.masters
      let d4 := if u1.tensorDone i then d3.writeRatio u1 i else d3
      exec (.updateChunk g) s = .next (s.withDev (
        if todo = [] then ({ d4 with updates := rest, snapshots := u.copies }.setWord UPD_LAST_STEP 0 0 0 u.step).showUpdate
        else { d4 with updates := u1 :: rest }.showUpdate))))
  -- R478, R479, R484, R488: after a commit the mirror record goes into the home slot that is not the newest; the buddy's acknowledgement
  -- shows its stamp; a snapshot's next copy goes out, stamped; and a chunk is reconstructed from the newer slot and the journal.
  ∧ (
    (∀ (s : State), s.dev.mirrorDue = true → s.dev.life = .run → s.dev.mpDown = false → s.dev.mirroredPending = false →
      let m := s.dev.mirrorRecord
      let slot := 1 - s.dev.homeNewest
      let d := { s.dev with homeSlots := setAt s.dev.homeSlots slot (some ⟨m, true⟩), homeNewest := slot, mirrorDue := false }.wr
        FLT_MIRROR_STATUS_HOME_OK 0 0 0 1
      exec .mirrorRecordWrite s = .next (s.withDev (if d.on FLT_MIRROR_STATUS_EN 0 then d.sendRecord m slot else d)))
    ∧ (∀ (s : State) (stamp k : Nat), s.dev.mirrorSent = some (stamp, k) →
      exec .mirrorAck s = .next (s.withDev
        ((({ s.dev with mirrorSent := none }.wr FLT_MIRROR_STATUS_BUDDY_OK 0 0 0 1).setWord FLT_MIRROR_STEP 0 0 0 stamp).resendCopies)))
    ∧ (∀ (s : State) (key i c : Nat) (efr : Bool) (rest : List (Nat × Nat × Nat × Bool)) (p : Program) (x : XchTable) (pol : RecPolicy)
        (t : XchTensor) (e : List Nat), s.dev.snapshots = (key, i, c, efr) :: rest → Tbl.find s.dev.programs key = some p → p.xch = some x →
      p.policy = some pol → x.tensors[i]? = some t → pol.entries.find? (fun e => bits (nth e 0) 63 32 == t.tensorId) = some e →
      let stamp := s.dev.stampNow
      let st := s.dev.slotStamp t.tensorId c efr
      let slot := st.older stamp
      let base := bits (nth e 1) 47 0 + slotOffset x s.dev.nodeId t e c slot efr
      let d := (s.dev.slotParts x t c stamp efr).foldl (fun (d : Dev) (o, bs) =>
        (d.sendOut (key / 4) (bits (nth e 1) 63 61) (bits (nth e 2) 11 0) (base + o) bs .snapshot).2.2) { s.dev with snapshots := rest }
      let new := if slot = 0 then { st with first := some stamp } else { st with second := some stamp }
      exec .snapshotCopy s = .next (s.withDev { d with
        slotStamps := d.slotStamps.filter (fun y => !(y.tensor == t.tensorId && y.chunk == c && y.efr == efr)) ++ [new] }))
    ∧ (∀ (s : State) (tensor : BitVec 32) (chunk : Nat) (slots : List SnapSlot) (entries : List (List Byte)) (key : Nat) (p : Program)
        (x : XchTable) (t : XchTensor) (e : List Nat) (slot : SnapSlot) (sums : List (Nat × Nat × Nat)) (d : Dev), s.dev.life = .run → s.dev.mpDown = false →
      s.dev.rebuild.contains (tensor.toNat, chunk, false) = true → s.dev.tensorPlace tensor.toNat = some (key, p, x, t) →
      p.policyOf tensor.toNat = some e → recoverable e false = true → methodOf e = 2 → newerSlot s.dev.stampNow slots = some slot →
      s.dev.rollChunk key x t chunk false s.dev.stampNow slot (entries.map (fun e => e.map BitVec.toNat)) = some (sums, d) →
      exec (.reconstruction tensor chunk false slots entries) s = .next (s.withDev
        ((({ d with rebuild := d.rebuild.filter (fun y => y ≠ (tensor.toNat, chunk, false)) }.republish key p x t chunk).chunkRecovered
          tensor.toNat chunk sums).showUpdate))))

/-! ### Arrays and converters (chapters 4 to 7) -/

/-- Residual decisions, selection and drain, program-and-verify rows, verification, restart of a halted attempt -/
def Obligations.ArraysAreProgrammed : Prop :=
  -- R67, R261 to R269, R224: a decision of an array starts once nothing runs on it, through a good clock, and completes with the residuals it
  -- decided (READY where VALID is 1, R281), or overflows into DRAINING with a program due; the ready objects of a refresh that it ends are
  -- set (R41, R386).
  (
    (∀ (s : State) (a : Fin 16384) (why : DecisionWhy), s.dev.life = .run → s.dev.mpDown = false → (s.dev.arr a).decisionDue = some why →
      s.dev.mayDecide a why = true → s.dev.fwdRunsOn a = false → s.dev.grainDecides (grainOf a) = false →
      s.dev.wcPresent (s.dev.binding a).tensor = true → 
      ((why ≠ .rebuild ∧ (s.dev.arr a).lostList = false) ∨ s.dev.on RSD_STATUS_VALID (grainOf a) (slotOf a) = true) →
      s.dev.wrapperClosed (peckOf a) = false → s.dev.clockGood (peckOf a) = true →
      exec (.residualDecisionStart a) s = .next (s.withDev (s.dev.modArr a (fun x => { x with
        decisionDue := none, decisionRuns := some why, nuUsed := s.dev.rd RSD_NU_NU (grainOf a) (slotOf a) }))))
    ∧ (∀ (s : State) (a : Fin 16384) (why : DecisionWhy), (s.dev.arr a).decisionRuns = some why → s.dev.mayDecide a why = true →
      let g := grainOf a
      let n := slotOf a
      let l := s.dev.decideEntries a
      exec (.residualDecisionComplete a) s = .next (s.withDev (
        if 8192 < l.length ∨ l.any (fun e => decide (63 < e.delta.natAbs)) = true then s.dev.decisionOverflow a
        else
          let d := ((s.dev.modArr a (fun r => { r with residuals := l, listed := true, lostList := false, decisionRuns := none })).stir
            (peckOf a)).wr RSD_STATUS_COUNT g n 0 l.length
          let e := ((d.wr RSD_L1_L1 g n 0 (min (l1Of l) (2 ^ 20 - 1))).wr RSD_STATUS_READY g n 0 (d.rd RSD_STATUS_VALID g n)).wr
            RSD_STATUS_PENDING g n 0 (b2n (s.dev.arr a).decisionDue.isSome)
          let f := if why = .program then e.enterServing a else e
          (if s.dev.rd RSD_THRESH_CNT_COUNT g < l.length ∨ s.dev.rd RSD_THRESH_L1_L1 g < l1Of l then f.enqueue a 4 false false
           else f).updateReady))))
  -- R226, R237, R240: the first queued program whose conditions hold is selected, its array leaving SERVING to drain; an array that has
  -- drained retires where a retirement waits, else starts its program, MIN_INTERVAL having passed or not applying (R238), with the targets of
  -- the working copy.
  ∧ (
    (∀ (s : State) (e : QueueEntry), s.dev.life = .run → s.dev.mpDown = false → s.dev.due = [] → (s.dev.arrays.filter (fun x => x.2.selected)) = [] →
      s.dev.queue.find? (fun e => s.dev.budgetOk e.array && s.dev.mayStart e.array) = some e → s.dev.arrState e.array = SERVING →
      exec .programSelect s = .next (s.withDev
        ((({ s.dev with queue := s.dev.queue.filter (fun x => x.array != e.array) }).startDrain e.array).modArr e.array
          (fun r => { r with selected := true, checksumCaused := e.checksum }))))
    ∧ (∀ (s : State) (a : Fin 16384) (c : Nat), s.dev.arrState a = DRAINING → (s.dev.arr a).cycles = [] → (s.dev.arr a).pendingRetire = some c →
      exec (.drainComplete a) s = .next (s.withDev (s.dev.retireNow a c)))
    ∧ (∀ (s : State) (a : Fin 16384), s.dev.life = .run → s.dev.mpDown = false → s.dev.arrState a = DRAINING → (s.dev.arr a).cycles = [] →
      (s.dev.arr a).pendingRetire = none → ((s.dev.arr a).selected = true ∨ s.dev.due.contains a.val = true) → s.dev.mayStart a = true →
      (s.dev.due.contains a.val = true ∨ s.dev.budgetOk a = true) →
      exec (.drainComplete a) s = .next (s.withDev (s.dev.startProgram a none))))
  -- R212 to R214, R218 to R224: one row of an attempt is pulsed and verified from the codes of its readings while its branch is on, and the
  -- attempt fails or goes on to the next row; a verification over its 4,096 cycles fails where a checksum group or a reference output is off,
  -- and else gives the array its binding, its generation and its tracker; a halted attempt restarts. (Log entry 109: levels below 0.)
  ∧ (
    (∀ (s : State) (a : Fin 16384) (reads : List (List (List Int))), s.dev.arrState a = PROGRAMMING → (s.dev.arr a).halted = none →
      (s.dev.arr a).targetHeld = true → (s.dev.arr a).row < 1023 → reads ≠ [] → s.dev.engineArray (grainOf a) = some a.val →
      (s.dev.arr a).pendingRetire = none → s.dev.on PRG_BRANCH_STATUS_ON (bushelOf a) = true →
      let r := s.dev.arr a
      let g := grainOf a
      let tol := s.dev.rd PRG_VERIFY_CFG_TOL g
      let mx := s.dev.rd PRG_PULSE_CFG_MAX_PULSES g
      let tgt := fun c => Tbl.get 0 r.target (r.row * 528 + c)
      -- R214: the reading of a cell in 1/16 level: the mean of its 8 codes under default-4, times the LSB
      let levs := reads.map (fun cells c => verifyLevel verifyLsb (cells.getD c []))
      let done := pulseLoop tol mx (s.dev.rd PRG_PULSE_CFG_START_V g) (s.dev.rd PRG_PULSE_CFG_STEP_V g) tgt levs 0 (List.replicate 528 {}) 0
        (528 * mx + 1)
      let lev := levs.getD (min done.1 (levs.length - 1)) (fun _ => 0)
      let stuck := r.stuck + ((List.range 528).filter (fun c => decide ((tol : Rat) < ratAbs (lev c - (16 * tgt c : Nat))))).length
      let d := (s.dev.count PRG_PULSE_CNT_COUNT g 0 done.2.1).modArr a (fun x => { x with
        verified := (List.range 528).foldl (fun m c => Tbl.set 0 m (r.row * 528 + c) (verifiedLevel (lev c))) r.verified
        stuck := stuck, drive := done.2.2 })
      exec (.programRow a reads) s = .next (s.withDev (
        if s.dev.rd PRG_VERIFY_CFG_STUCK_LIMIT g < stuck then d.failAttempt a
        else (d.modArr a (fun x => { x with row := r.row + 1 })).showEngine a r.attempt 2 (r.row + 1))))
    ∧ (∀ (s : State) (a : Fin 16384) (cycles : List (List Rat)) (m : List (BitVec 32)), s.dev.arrState a = VERIFYING →
      (s.dev.arr a).passed = false → (s.dev.arr a).targetHeld = true → s.dev.on ARR_CHK_STATUS_CHK_READY (grainOf a) (slotOf a) = true →
      s.dev.engineArray (grainOf a) = some a.val → cycles.length = 4096 →
      let w := m.map BitVec.toNat
      let tol : Rat := mkRat (s.dev.rd PRG_VERIFY_CFG_REF_TOL (grainOf a)) 1000
      let thresh : Rat := ((s.dev.rd ARR_CHK_CFG_THRESH (grainOf a) (slotOf a) * verifyLsb : Nat) : Rat)
      ((∃ ms ∈ cycles, ∃ k < 4, thresh < ratAbs (ms.getD k 0)) ∨ fpWithin (nth w 0) 1 tol = false ∨ fpWithin (nth w 1) 1 tol = false
        ∨ fpWithin (nth w 2) 1 tol = false ∨ fpWithin (nth w 3) 0 (mkRat 1 4) = false) →
      exec (.verificationComplete a cycles m) s = .next (s.withDev (s.dev.failAttempt a)))
    ∧ (∀ (s : State) (a : Fin 16384) (cycles : List (List Rat)) (m : List (BitVec 32)), s.dev.ordered → s.dev.arrState a = VERIFYING →
      (s.dev.arr a).passed = false → (s.dev.arr a).targetHeld = true → s.dev.on ARR_CHK_STATUS_CHK_READY (grainOf a) (slotOf a) = true →
      s.dev.engineArray (grainOf a) = some a.val → cycles.length = 4096 →
      let w := m.map BitVec.toNat
      let tol : Rat := mkRat (s.dev.rd PRG_VERIFY_CFG_REF_TOL (grainOf a)) 1000
      let thresh : Rat := ((s.dev.rd ARR_CHK_CFG_THRESH (grainOf a) (slotOf a) * verifyLsb : Nat) : Rat)
      (∀ ms ∈ cycles, ∀ k < 4, ratAbs (ms.getD k 0) ≤ thresh) →
      fpWithin (nth w 0) 1 tol = true → fpWithin (nth w 1) 1 tol = true → fpWithin (nth w 2) 1 tol = true → fpWithin (nth w 3) 0 (mkRat 1 4) = true →
      ∃ u, exec (.verificationComplete a cycles m) s = .next u ∧ (u.dev.arr a).passed = true ∧ (u.dev.arr a).decisionDue = some .program
        ∧ (u.dev.arr a).pendingBind = none ∧ (u.dev.arr a).baseCodes = (s.dev.arr a).targetCodes
        ∧ u.dev.rd ARR_PROG_GEN_GEN (grainOf a) (slotOf a) = (s.dev.rd ARR_PROG_GEN_GEN (grainOf a) (slotOf a) + 1) % 2 ^ 24
        ∧ u.dev.arrState a = VERIFYING)
    ∧ (∀ (s : State) (a : Fin 16384), s.dev.life = .run → s.dev.mpDown = false → s.dev.arrState a = PROGRAMMING → (s.dev.arr a).halted ≠ none →
      (s.dev.arr a).targetHeld = true → s.dev.on PRG_BRANCH_STATUS_ON (bushelOf a) = true → s.dev.wrapperClosed (peckOf a) = false →
      s.dev.gated (bushelOf a) = false → s.dev.inhibited.contains (bushelOf a) = false → s.dev.rd RST_PWR_STATE_STATE 0 = 0 →
      (s.dev.engineArray (grainOf a) = none ∨ s.dev.engineArray (grainOf a) = some a.val) → (s.dev.arr a).pendingRetire = none →
      s.dev.clockGood (peckOf a) = true →
      exec (.attemptRestart a) s = .next (s.withDev
        (((s.dev.beginRow0 a (s.dev.arr a).attempt).showActive (bushelOf a)).diag (srcArray a) .attemptRestarted .ok [a, (s.dev.arr a).attempt]))))

/-- Tables are rebuilt, branches latch off, metadata are flushed, converters calibrated, references and monitors followed -/
def Obligations.ArraysAreKept : Prop :=
  -- R138, R216, R243: firmware rebuilds a lost correction table and logs that it did; a branch whose current or voltage meets a condition of
  -- R216 for its time latches off with that cause, and counts; the metadata go to flash every 10 minutes or at 60 steps of life.
  (
    (∀ (s : State) (a : Fin 16384) (t : Tbl Int), s.dev.life = .run → s.dev.mpDown = false → s.dev.unbound a = false →
      s.dev.arrState a ≠ PROGRAMMING → s.dev.clockGood (peckOf a) = true → s.dev.ordered →
      s.dev.on ARR_CHK_STATUS_CHK_READY (grainOf a) (slotOf a) = false →
      correctionTable (s.dev.arr a).verified (s.dev.rd ARR_CHK_CFG_DIV_LOG2 (grainOf a) (slotOf a)) = some t →
      let d := (s.dev.modArr a (fun x => { x with chkTable := t })).wr ARR_CHK_STATUS_CHK_READY (grainOf a) (slotOf a) 0 1
      let e := d.diag (srcArray a) .chkTableRebuilt .ok [a]
      exec (.checksumTableRebuild a) s = .next (s.withDev
        (if s.dev.arrState a = VERIFYING then e.showEngine a (s.dev.arr a).attempt 3 1023 else e)))
    ∧ (∀ (s : State) (b : Fin 16) (mA mV : Nat) (pulsing : Bool) (us : Nat), s.dev.ordered →
      -- the table of R216: OVC above 400 mA for 1 µs, UV below 4.6 V for 2 µs while on, OV above 5.4 V for 1 µs, LEAK above 3 mA for 10 µs
      -- with no pulse applied
      let ovc := decide (400 < mA) && decide (1 ≤ us)
      let uv := s.dev.on PRG_BRANCH_STATUS_ON b && decide (mV < 4600) && decide (2 ≤ us)
      let ov := decide (5400 < mV) && decide (1 ≤ us)
      let leak := decide (3 < mA) && !pulsing && decide (10 ≤ us)
      ((ovc || uv || ov || leak) = false → exec (.branchFault b ⟨mA, mV, pulsing, us⟩) s = .next s)
      ∧ ((ovc || uv || ov || leak) = true → ∃ u, exec (.branchFault b ⟨mA, mV, pulsing, us⟩) s = .next u
        ∧ u.dev.rd PRG_BRANCH_STATUS_LATCHED b = 1 ∧ u.dev.rd PRG_BRANCH_STATUS_ON b = 0
        ∧ u.dev.rd PRG_BRANCH_STATUS_OVC b = max (s.dev.rd PRG_BRANCH_STATUS_OVC b) (b2n ovc)
        ∧ u.dev.rd PRG_BRANCH_STATUS_UV b = max (s.dev.rd PRG_BRANCH_STATUS_UV b) (b2n uv)
        ∧ u.dev.rd PRG_BRANCH_STATUS_OV b = max (s.dev.rd PRG_BRANCH_STATUS_OV b) (b2n ov)
        ∧ u.dev.rd PRG_BRANCH_STATUS_LEAK b = max (s.dev.rd PRG_BRANCH_STATUS_LEAK b) (b2n leak)
        ∧ u.dev.rd PRG_BRANCH_FAULT_CNT_COUNT b = satAdd 32 (s.dev.rd PRG_BRANCH_FAULT_CNT_COUNT b) 1))
    ∧ (∀ (s : State), s.dev.life = .run → s.dev.mpDown = false →
      (s.dev.lastFlush + 600000000000 ≤ s.dev.time ∨ s.dev.arrays.any (fun e => decide (60 ≤ e.2.lifeGrowth)) = true) →
      exec .metadataFlush s = .next (s.withDev s.dev.flushMeta)
        ∧ s.dev.flushMeta.clean = true ∧ s.dev.flushMeta.lastFlush = s.dev.time ∧ s.dev.flushMeta.flash = s.dev.metaWords))
  -- R188 to R195, R200 to R206: a dwell sets the slice's trims, clamped to their ranges, and its check, unless paused (R189), moves on or
  -- substitutes; a switched reference settles; an external reference outside its window falls back; the monitor takes the next reading set of
  -- its pass, and ends the pass once every entry has been run.
  ∧ (
    (∀ (s : State) (a : Fin 16384) (gains offsets : List Int), s.dev.mayDwell a = true →
      s.dev.on CNV_CAL_STATUS_ROTATING (grainOf a) (slotOf a) = false →
      let p := s.dev.rd CNV_CAL_STATUS_POS (grainOf a) (slotOf a)
      let t := (List.range 4).foldl (fun t k => Tbl.put (Tbl.put t (p * 8 + k * 2) (max (-32) (min 31 (gains.getD k 0)))) (p * 8 + k * 2 + 1)
        (max (-64) (min 63 (offsets.getD k 0)))) (s.dev.arr a).trims
      exec (.calibrationDwell a gains offsets) s = .next (s.withDev
        ((s.dev.modArr a (fun r => { r with trims := t })).wr CNV_CAL_STATUS_ROTATING (grainOf a) (slotOf a) 0 1)))
    ∧ (∀ (s : State) (a : Fin 16384), s.dev.on CNV_CAL_STATUS_ROTATING (grainOf a) (slotOf a) = true → s.dev.calPaused a = false →
      let g := grainOf a
      let n := slotOf a
      let p := s.dev.rd CNV_CAL_STATUS_POS g n
      let r := s.dev.arr a
      let d := s.dev.wr CNV_CAL_STATUS_ROTATING g n 0 0
      let eor := if s.dev.trimAtEnd a p then r.endOfRange ++ [p] else r.endOfRange.filter (fun x => x != p)
      let e := d.modArr a (fun x => { x with endOfRange := eor, calNow := r.calNow - 1 })
      let f := if r.calNow = 1 then e.wr CNV_CAL_STATUS_RESULT g n 0 Status.ok.code else e
      exec (.calibrationCheck a) s = .next (s.withDev (
        if s.dev.trimAtEnd a p && r.endOfRange.contains p then
          ((((((d.setMeta CNV_CAL_STATUS_SUBST a 1).setMeta CNV_CAL_STATUS_SUBST_POS a p).flashField CNV_CAL_STATUS_SUBST g n).flashField
            CNV_CAL_STATUS_SUBST_POS g n).modArr a (fun x => { x with calNow := 0 })).diag (srcArray a) .substitution .ok [a, p])
        else f.wr CNV_CAL_STATUS_POS g n 0 (if !s.dev.on CNV_CAL_CFG_EN g n && decide (r.calNow ≤ 1) then 66 else (p + 1) % 67))))
    ∧ (∀ (s : State) (b : Fin 16), s.dev.gated b = false → s.dev.powerState ≤ 1 → s.dev.held = false → bit s.dev.railsOn b = true →
      exec (.referenceSettled b) s = .next (s.withDev (s.dev.wr CNV_REF_STATUS_SETTLED b 0 0 1)))
    ∧ (∀ (s : State) (b : Fin 16) (mv : Nat), (mv < 1225 ∨ 1275 < mv) → s.dev.rd CNV_REF_STATUS_ACTIVE b = 1 →
      exec (.extRefFault b mv) s = .next (s.withDev
        (({ s.dev with extRefBad := if s.dev.extRefBad.contains b.val then s.dev.extRefBad else s.dev.extRefBad ++ [b.val] }.useReference b 0).wr
          CNV_REF_STATUS_EXT_FAULT b 0 0 1)))
    ∧ (∀ (s : State) (b : Fin 16) (i : Fin 512) (n : Fin 16) (codes : List Int) (readings : List (BitVec 32)) (wait : Nat),
      let e := s.dev.scanEntry CNV_MON_ACTIVE_ENTRY b i
      let x := bits e 29 24 * 16 + n
      let a := b * 1024 + x
      let k := Tbl.get 0 s.dev.monAt b
      let d := { s.dev with monWaits := s.dev.monWaits.filter (fun y => y != grainOf a) }
      s.dev.monRuns b = true → (s.dev.scanPlan b).1[k]? = some (i.val, n.val, wait) → s.dev.monWaited b wait = true → bits e 63 61 = 0 →
      (s.dev.monSkips a = true ∨ s.dev.slotFree a = true) →
      exec (.monitorReading b i n ⟨codes, readings⟩) s = .next (s.withDev
        (((d.monStep b (k + 1)).wr CNV_MON_STATUS_ENTRY b 0 0 i).monRefReading b x (bits e 23 16) (codes.map monConversion))))
    ∧ (∀ (s : State) (b : Fin 16) (deviation : Int), s.dev.on CNV_MON_CTRL_RUN b = true → s.dev.monPowered b = true →
      (s.dev.scanPlan b).1.length ≤ Tbl.get 0 s.dev.monAt b → s.dev.monWaited b (s.dev.scanPlan b).2 = true →
      let d := (s.dev.monStep b 0).countWrap CNV_MON_PASS_PASS b 0
      let e := if 4 < deviation.natAbs then
          (if s.dev.on CNV_MON_STATUS_UNIT b then d.wr CNV_MON_STATUS_MON_FAIL b 0 0 1
           else (d.wr CNV_MON_STATUS_UNIT b 0 0 1).diag (srcBushel b) .monitorSwitched .ok [b])
        else d
      let f := if s.dev.monArmed.contains b.val then e.loadScan b (Tbl.get [] s.dev.monLast b) else e
      exec (.monitorPassEnd b deviation) s = .next (s.withDev ((List.range 1024).foldl (fun (d : Dev) x =>
        if (d.arr (b * 1024 + x)).awaitsMonitor then d.loadTracker (b * 1024 + x) else d) f))))

/-! ### Faults, supplies, clocks and temperature (chapters 14, 18, 19) -/

/-- R468 to R471, R477: a detected fault is recorded with its source, unit and code and acts by its class: a correctable error is counted
and logged, a block-contained one counted and its unit reset, a device-lost one resets the device; an uncorrectable HBM read ends its
reader's transfer and is repaired, recorded once with the stack of the address. -/
def Obligations.FaultsActByTheirClass : Prop :=
  (∀ (s : State) (source unit : Fin 256) (code : BitVec 16), s.dev.life = .run → 1 ≤ source.val → source.val ≤ 3 →
    exec (.faultDetected source unit code) s = exec (.correctableError source unit code) s)
  ∧ (∀ (s : State) (source unit : Fin 256) (code : BitVec 16), s.dev.ordered → ∃ t, exec (.correctableError source unit code) s = .next t
    ∧ t.fuses = s.fuses ∧ t.dev.rd FLT_LAST_CLASS 0 = 0 ∧ t.dev.rd FLT_LAST_SOURCE 0 = source.val % 64 ∧ t.dev.rd FLT_LAST_UNIT 0 = unit.val
    ∧ t.dev.rd FLT_LAST_CODE 0 = code.toNat ∧ t.dev.rd FLT_CE_CNT_COUNT 0 = satAdd 32 (s.dev.rd FLT_CE_CNT_COUNT 0) 1
    ∧ t.dev.mem = s.dev.mem ∧ t.dev.arrays = s.dev.arrays ∧ t.dev.runs = s.dev.runs ∧ t.dev.attempt = s.dev.attempt)
  ∧ (∀ (s : State) (source unit : Fin 256) (code : BitVec 16), s.dev.life = .run →
    (5 ≤ source.val ∧ source.val ≤ 7 ∧ unit.val < 128) ∨ (source.val = 9 ∧ 0x80 ≤ unit.val ∧ unit.val < 0x88) →
    exec (.faultDetected source unit code) s = .next (s.withDev
      (((s.dev.recordFault 1 source unit code.toNat).count FLT_BLOCK_CNT_COUNT 0 0).blockReset unit 0x21)))
  ∧ (∀ (s : State) (source unit : Fin 256) (code : BitVec 16), s.dev.life = .run →
    (source.val = 0x08 → unit.val < 128 → exec (.faultDetected source unit code) s = .next (s.withDev
      ((List.range 8).foldl (fun (d : Dev) i => let u := 8 * bushelOfPeck unit + i
        ((d.recordFault 1 0x08 u code.toNat).count FLT_BLOCK_CNT_COUNT 0 0).blockReset u 0x21) s.dev)))
    ∧ (source.val = 0x0A ∨ source.val = 0x10 → exec (.faultDetected source unit code) s = .next (s.withDev
      (((s.dev.recordFault 1 source 0x88 code.toNat).count FLT_BLOCK_CNT_COUNT 0 0).blockReset 0x88 0x21)))
    ∧ (source.val = 0x0B → exec (.faultDetected source unit code) s = .next (s.withDev
      ((((s.dev.recordFault 1 0x0B 0xFF code.toNat).count FLT_BLOCK_CNT_COUNT 0 0).diag (srcUnit 0x03) .faultRecord .isolated
        [code.toNat]).markIsolated.restoreObject code.toNat)))
    ∧ (source.val = 0x0C ∨ source.val = 0x0D ∨ source.val = 0x0F → exec (.faultDetected source unit code) s = .next (s.withDev
      ((s.dev.raiseLost source 0xFF code.toNat).deviceReset 0x07))))
  ∧ (∀ (s : State) (source : Fin 256), s.dev.life = .run → source.val = 0x0C ∨ source.val = 0x0D ∨ source.val = 0x0F →
    exec (.deviceLost source) s = .next (s.withDev ((s.dev.raiseLost source 0xFF 0).deviceReset 0x07)))
  ∧ (∀ (s : State) (stack : Fin 6) (at_ : Nat) (reader : HbmReader), s.dev.life = .run →
    -- R56: the address at its place in the stack
    let a := hbmAddress stack at_
    let unit := 0x90 + stack
    let d : Dev := match reader with
      | .chain i u => s.dev.chainStatus i u .internal
      | .exchange => s.dev.blockReset 0x88 0x21
      | .command c k => s.dev.commandMeets c k
      | .mirror k => { s.dev with homeSlots := setAt s.dev.homeSlots k ((s.dev.homeSlots.getD k none).map (fun h => { h with ok := false })) }
      | .other => s.dev
    let r := d.repairRegion a
    exec (.hbmUncorrectable stack at_ reader) s = .next (s.withDev (match reader with
      | .mirror _ => d.correctable 0x04 unit 0
      | _ =>
        if r.1 = true ∨ reader = .exchange then ((r.2.recordFault 1 0x04 unit 0).count FLT_BLOCK_CNT_COUNT 0 0).markIsolated
        else r.2.correctable 0x04 unit 0)))

/-- R471, R473, R474: a Block reset closes its unit's wrapper, notes that the unit recovers, and leaves a Peck's SRAM reading zero; its
release opens the wrapper of a port or the exchange unit at once, and of a Peck that has its rail once its control state is restored. -/
def Obligations.BlockResetsAndReleases : Prop :=
  (∀ (s : State) (u : Fin 137), s.dev.life = .run → s.dev.ordered → ∃ t, exec (.blockReset u) s = .next t ∧ t.fuses = s.fuses
    ∧ t.dev.life = .run ∧ t.dev.unitClosed u = true
    ∧ Tbl.find t.dev.recovering u.val = some (((Tbl.find s.dev.recovering u.val).map (·.1)).getD s.dev.time, 0x21)
    ∧ (∀ cell, sramOf u.val cell = true → u.val < 128 → t.dev.byte cell = 0))
  ∧ (∀ (s : State) (u : Fin 137) (since source : Nat), Tbl.find s.dev.recovering u.val = some (since, source) →
    exec (.blockResetRelease u) s = .next (s.withDev (
      (if u.val < 128 then
        (if s.dev.powered u = false then s.dev
         else match s.dev.controlRestore u with
          | none => s.dev.deviceLost 0x0F 0xFF 0
          | some d => ((d.openUnit u since source).setVcore (bushelOfPeck u)).peckReturns u)
       else if u.val < 0x88 then
        (s.dev.openUnit u since source).modPort (u - 0x80) (fun r => { r with retryNow := true, blockReleased := true })
       else s.dev.openUnit u since source).powerWaiters)))

/-- Rails fault and restart, sense and phases, thermal trip, Idle, the stop of POWER_DOWN -/
def Obligations.SuppliesFaultAndRestart : Prop :=
  -- R613 to R617: a rail that faults is shut and counted; a core rail's fault resets the Pecks of its Bushel, its second within a second and
  -- any other rail's but VPRG's loses the device into Off; VPRG latches every branch off. The rails restart as stated, and a voltage outside
  -- its window inhibits programming.
  (
    (∀ (s : State) (c : Fin 32) (cause : Fin 4), bit s.dev.railsOn c = true → c.val ≤ 0x1C →
      let d := (((s.dev.wr PWR_RAIL_FAULT_RAIL 0 0 0 c).wr PWR_RAIL_FAULT_CAUSE 0 0 0 cause).count PWR_FAULT_CNT_COUNT 0 0).setRail c false
      let tell := fun (d : Dev) (action : Nat) => d.hostEvent srcPower 0x0600 .ok none [c.val, cause.val, action]
      let again := ((Tbl.find s.dev.vcoreFaults c).map (fun t => decide (s.dev.time < t + 1000000000))).getD false
      exec (.railFault c cause) s = .next (s.withDev (
        if c.val < 16 then
          (if again then (tell d 3).supplyLost 4 c
           else { tell d 1 with vcoreFaults := Tbl.put s.dev.vcoreFaults c s.dev.time }.faultDetected 0x08 (8 * c) c)
        else if c.val = 0x1C then
          (List.range 16).foldl (fun (d : Dev) b => d.latchBranch b 4)
            { tell d (if s.dev.vprgFaults = 0 then 1 else 2) with vprgFaults := s.dev.vprgFaults + 1 }
        else (tell d 3).supplyLost 4 c)))
    ∧ (∀ (s : State) (b : Fin 16) (t : Nat), Tbl.find s.dev.vcoreFaults b = some t → t + 1000000 ≤ s.dev.time → bit s.dev.railsOn b = false →
      s.dev.gated b = false → (s.dev.life = .run ∨ s.dev.life = .starting) → s.dev.powerState ≠ 2 →
      exec (.vcoreRestart b) s = .next (s.withDev ((s.dev.setRail b true).wr PWR_VCORE_SET b 0 0 800)))
    ∧ (∀ (s : State), s.dev.vprgFaults = 1 → bit s.dev.railsOn 0x1C = false → (s.dev.life = .run ∨ s.dev.life = .starting) →
      s.dev.powerState ≠ 2 → exec .vprgRestart s = .next (s.withDev (s.dev.setRail 0x1C true)))
    ∧ (∀ (s : State) (unit : Fin 20),
      let bs := if unit.val < 16 then [unit.val] else (List.range 4).map (fun i => 4 * (unit.val - 16) + i)
      let d := bs.foldl (fun (d : Dev) b => (d.programmingIn b).foldl (fun (d : Dev) a => d.haltAttempt a .branch) d) s.dev
      exec (.programmingInhibit unit true) s = .next (s.withDev
        { d with inhibited := d.inhibited ++ bs.filter (fun b => !d.inhibited.contains b) })
      ∧ exec (.programmingInhibit unit false) s = .next (s.withDev
        { s.dev with inhibited := s.dev.inhibited.filter (fun b => !bs.contains b) })))
  -- R12, R611, R612, R634, R661, R665, R668: an open sense pair is noted and raises a core rail by 25 mV, an open phase is shed, a reading at the trip
  -- point loses the device into Off with cause 3, a Peck with nothing to do enters Idle and leaves it, and POWER_DOWN's rails stop.
  ∧ (
    (∀ (s : State) (c : Fin 32), bit s.dev.railsOn c = true → c.val ≤ 0x1C → bit (s.dev.word PWR_SENSE_STATUS 0) c = false →
      let d := s.dev.setWord PWR_SENSE_STATUS 0 0 0 (s.dev.word PWR_SENSE_STATUS 0 + 2 ^ c.val)
      exec (.senseLost c) s = .next (s.withDev
        ((if c.val < 16 then d.wr PWR_VCORE_SET c 0 0 (d.rd PWR_VCORE_SET c + 25) else d).hostEvent srcPower 0x0601 .ok none [c.val])))
    ∧ (∀ (s : State) (c : Fin 32) (phase : Fin 16), bit s.dev.railsOn c = true → c.val ≤ 0x1C →
      let w := s.dev.word PWR_PHASE_SHED 0
      exec (.phaseShed c phase) s = .next (s.withDev
        ((s.dev.setWord PWR_PHASE_SHED 0 0 0 (if bit w c then w else w + 2 ^ c.val)).hostEvent srcPower 0x0602 .ok none [c.val, phase.val])))
    ∧ (∀ (s : State) (u : Fin 32) (t : Int), s.dev.life ≠ .off → s.dev.ordered → (u.val < 16 ∧ 1150 ≤ t ∨ 16 ≤ u.val ∧ 1050 ≤ t) →
      ∃ v, exec (.thermalTrip u t) s = .next v ∧ v.dev.life = .off ∧ v.dev.rd RST_OFF_CAUSE_CAUSE 0 = 3 ∧ v.dev.railsOn = 0 ∧ v.dev.mem = []
        ∧ v.dev.tripN = true ∧ v.dev.runs = [])
    ∧ (∀ (s : State) (p : Fin 128), s.dev.ordered → s.dev.mayIdle p = true → ∃ v, exec (.peckIdleEntry p) s = .next v
      ∧ v.dev.on RST_PECK_STATUS_IDLE p = true ∧ v.dev.mem = s.dev.mem ∧ v.dev.arrays = s.dev.arrays
      -- R12, R668: a counter of the Peck keeps its value, a count that no event keeps is lost
      ∧ (∀ n : Fin 48, v.dev.rd SYN_LC_VALUE p n = s.dev.rd SYN_LC_VALUE p n)
      ∧ (∀ g : Fin 1024, peckOfGrain g = p.val → v.dev.rd ARR_GRAIN_STALL_CNT_COUNT g = 0))
    ∧ (∀ (s : State) (p : Fin 128), s.dev.on RST_PECK_STATUS_IDLE p = true →
      exec (.peckIdleExit p) s = .next (s.withDev (s.dev.wr RST_PECK_STATUS_IDLE p 0 0 0)))
    ∧ (∀ (s : State) (t : Nat), s.dev.powerDown = some t → t ≤ s.dev.time → s.dev.life ≠ .off → s.dev.ordered →
      ∃ v, exec .powerDownRailStop s = .next v ∧ v.dev.life = .off ∧ v.dev.rd RST_OFF_CAUSE_CAUSE 0 = 1 ∧ v.dev.railsOn = 0 ∧ v.dev.tripN = false
        ∧ v.dev.offAt = s.dev.time))

/-- R624: peak power raises the power level by 4 at once, and the wait starts again. -/
def Obligations.PeakPowerRaisesTheLevel : Prop :=
  ∀ (s : State), s.dev.life ≠ .off → s.dev.ordered → ∃ t, exec .peakPower s = .next t ∧ t.fuses = s.fuses
    ∧ t.dev.rd PWR_LEVEL_POWER 0 = min 11 (s.dev.rd PWR_LEVEL_POWER 0 + 4) ∧ t.dev.levelAt = s.dev.time
    ∧ t.dev.mem = s.dev.mem ∧ t.dev.arrays = s.dev.arrays ∧ t.dev.runs = s.dev.runs ∧ t.dev.programs = s.dev.programs

/-- R622, R626, R628, R632, R633: an evaluation of power, a step of a core voltage, a measurement of the reference clock, and readings of temperature
act on the levels, the voltages and the clock. -/
def Obligations.PowerAndThermalLevelsFollow : Prop :=
  (∀ (s : State) (mean volt curr : BitVec 16), s.dev.life ≠ .off →
    let d := ((s.dev.wr PWR_INPUT_P_POWER 0 0 0 mean.toNat).wr PWR_INPUT_VOLT 0 0 0 volt.toNat).wr PWR_INPUT_CURR 0 0 0 curr.toNat
    let l := s.dev.rd PWR_LEVEL_POWER 0
    let limit := s.dev.rd PWR_LIMIT_LIMIT 0
    exec (.powerEvaluation mean volt curr) s = .next (s.withDev (
      if s.dev.time < s.dev.levelAt + 1000000 then d
      else if 10 * limit < mean.toNat then d.setPowerLevel (min 11 (l + 1))
      else if mean.toNat < 9 * limit then d.setPowerLevel (l - 1)
      else d)))
  ∧ (∀ (s : State) (b : Fin 16) (up : Bool) (m : BitVec 16), bit s.dev.railsOn b = true →
    let v := s.dev.rd PWR_VCORE_SET b
    exec (.avsStep b up m) s = .next (s.withDev
      ((s.dev.wr PWR_VCORE_SET b 0 0 (if up then min 850 (v + 5) else max 650 (v - 5))).wr PWR_VCORE_MEAS b 0 0 m.toNat)))
  ∧ (∀ (s : State) (ppm : Int), s.dev.life ≠ .off →
    let good := decide (ppm.natAbs ≤ 500)
    let d := (s.dev.wr CLK_REF_STATUS_PPM 0 0 0 (unsigned 16 ppm)).wr CLK_REF_STATUS_EXT_OK 0 0 0 (b2n good)
    exec (.refclkLost ppm) s = .next (s.withDev (
      if good || s.dev.on CLK_REF_STATUS_INTERNAL 0 then d
      else ((d.wr CLK_REF_STATUS_INTERNAL 0 0 0 1).wr CLK_REF_STATUS_LOST 0 0 0 1).hostEvent (srcUnit 0x11) 0x0603 .ok none [1])))
  ∧ (∀ (s : State) (b : Fin 16) (t : Int) (held : Bool), s.dev.life ≠ .off →
    let d := s.dev.wr PWR_TEMP_NOW b 0 0 (unsigned 16 t)
    let e := if signed 16 (s.dev.rd PWR_TEMP_PEAK b) < t then d.wr PWR_TEMP_PEAK b 0 0 (unsigned 16 t) else d
    let l := s.dev.rd PWR_THERM_LEVEL_LEVEL b
    let l1 := if held then (if 1050 ≤ t then min 11 (l + 1) else if t < 1020 then l - 1 else l) else l
    exec (.thermalThrottle b t held) s = .next (s.withDev (
      if l1 = l then e
      else ((e.wr PWR_THERM_LEVEL_LEVEL b 0 0 l1).setVcore b).hostEvent srcPower 0x0604 .ok none ([b.val, l1] ++ leBytes 2 (unsigned 16 t)))))
  ∧ (∀ (s : State) (t : Int) (held : Bool), s.dev.life ≠ .off →
    let l := s.dev.rd PWR_LEVEL_HBM 0
    let l1 := if held then (if 950 ≤ t then min 11 (l + 1) else if t < 920 then l - 1 else l) else l
    exec (.hbmLevelChange t held) s = .next (s.withDev (
      if l1 = l then s.dev
      else ((s.dev.wr PWR_LEVEL_HBM 0 0 0 l1).allVcore).hostEvent srcPower 0x0604 .ok none ([0x10, l1] ++ leBytes 2 (unsigned 16 t)))))

/-! ### The Furlong ports and the fabric (chapter 17) -/

/-- A port leaves each state for the next, or for DOWN with the cause stated -/
def Obligations.PortsComeUpInOrder : Prop :=
  -- R571, R597 to R599: a port leaves DOWN, DETECT, TRAIN, IDENTIFY and ATTEST as stated: on to the next state, or into DOWN with the
  -- cause.
  (
    (∀ (s : State) (p : Fin 8), s.dev.portFree p = true → s.dev.portState p = pDown → s.dev.on FUR_PORT_STATUS_EN p = true →
      ((s.dev.port p).retryNow = true ∨ (s.dev.port p).since + s.dev.rd FUR_RETRY_CFG_RETRY p * 1000000 ≤ s.dev.time) →
      exec (.portRetry p) s = .next (s.withDev (s.dev.setPort p pDetect)))
    ∧ (∀ (s : State) (p : Fin 8) (opens shorts : Fin 16), s.dev.portFree p = true → s.dev.portState p = pDetect →
      let d := (List.range 4).foldl (fun (d : Dev) l => d.setLane p l (128 * b2n (bit opens l) + 64 * b2n (bit shorts l))) s.dev
      exec (.detectComplete p opens shorts) s = .next (s.withDev (
        if opens.val ≠ 0 then d.portDown p 0x02 else if shorts.val ≠ 0 then d.portDown p 0x03 else d.setPort p pTrain)))
    ∧ (∀ (s : State) (p : Fin 8) (polarity : Fin 16) (logical : List (Fin 4)), s.dev.portFree p = true → s.dev.portState p = pTrain →
      let d := (List.range 4).foldl (fun (d : Dev) l =>
        d.setLane p l (32 + 16 * b2n (bit polarity l) + nth (logical.map Fin.val) l % 4)) s.dev
      exec (.trainComplete p polarity logical) s = .next (s.withDev
        ((((d.wr FUR_PORT_STATUS_LANES_OK p 0 0 15).setPort p pIdentify).modPort p (fun r => { r with blockReleased := false })).sendTraining p 1)))
    ∧ (∀ (s : State) (p theirs : Fin 8) (node : Fin 4096) (valid : Bool) (version : BitVec 32) (hash : BitVec 256),
      s.dev.portFree p = true → s.dev.portState p = pIdentify →
      let d := (((s.dev.wr FUR_PARTNER_VALID p 0 0 (b2n valid)).wr FUR_PARTNER_PORT p 0 0 theirs).wr FUR_PARTNER_NODE p 0 0 node).modPort p
        (fun r => { r with partnerHash := hash.toNat, attest := [] })
      exec (.identifyFlitReceived p theirs node valid version hash) s = .next (s.withDev (
        if hash.toNat = Config.identityHash.toNat then d.portDown p 0x06
        else if version.toNat / 2 ^ 24 ≠ s.dev.firmwareVersion / 2 ^ 24 then d.portDown p 0x07
        else (d.setPort p pAttest).sendTraining p 2)))
    ∧ (∀ (s : State) (p : Fin 8), s.dev.portFree p = true →
      (s.dev.portState p = pTrain → (s.dev.port p).since + 500000000 ≤ s.dev.time →
        exec (.trainTmo p) s = .next (s.withDev (s.dev.portDown p 0x04)))
      ∧ (s.dev.portState p = pIdentify → (s.dev.port p).since + 10000000 ≤ s.dev.time →
        exec (.idTmo p) s = .next (s.withDev (s.dev.portDown p 0x05)))
      ∧ (s.dev.portState p = pAttest → (s.dev.port p).since + 50000000 ≤ s.dev.time →
        exec (.attestTmo p) s = .next (s.withDev (s.dev.portDown p 0x09))))
    ∧ (∀ (s : State) (p : Fin 8) (lanes : Fin 16), s.dev.portState p = pUp → lanes.val ≠ 0 →
      exec (.laneLockLost p lanes) s = .next (s.withDev ((List.range 4).foldl (fun (d : Dev) l => if bit lanes l then
        d.setLane p l (setBits (bits (d.word FUR_LANE_STATUS p) (8 * l + 7) (8 * l)) 5 5 0) else d) (s.dev.portDown p 0x0A)))))
  -- R599, R600: the last of the three ATTEST messages brings the port UP with the partner verified, else DOWN with cause 0x08, counted and
  -- reported.
  ∧ (
    ∀ (s : State) (p : Fin 8) (msg : BitVec 8) (index count : BitVec 16) (len : BitVec 32) (zeros : BitVec 16) (bytes : List Byte) (a b e : List Nat),
      let d := s.dev.modPort p (fun r => { r with
        attest := Tbl.put (Tbl.put r.attest (msg.toNat * 65536 + index.toNat) (bytes.map BitVec.toNat)) (2 ^ 24 + msg.toNat) [count.toNat, len.toNat] })
      s.dev.portFree p = true → s.dev.portState p = pAttest → 2 ≤ msg.toNat → msg.toNat ≤ 4 → index.toNat < count.toNat →
      (d.port p).whole 2 = some a → (d.port p).whole 3 = some b → (d.port p).whole 4 = some e →
      exec (.attestMessageReceived p msg index count len zeros bytes) s = .next (s.withDev (
        if partnerAccepted (d.port p).partnerHash e (Config.transcript [a, b] p) then d.portUp p [a, b, e]
        else ((d.count SEC_AUTH_FAIL_CNT_COUNT 0 0).hostEvent srcSecurity 0x0804 .authFailed none (4 :: leBytes 2 (s.dev.rd FUR_PARTNER_NODE p))).portDown
          p 0x08)))

/-- LINK flits, HEAD packets, key epochs, timeouts, DELIVERY pairs, SPDM, IDE and host reads -/
def Obligations.LinksAndAnswersTakeEffect : Prop :=
  -- R575, R578 to R581, R583: on a port in UP, a LINK flit acknowledges, replays and returns credits; a HEAD packet with the SEQ expected is
  -- accepted and goes on, any failing codeword is answered with a NACK, a failing tag takes the port DOWN; LINK flits and key epochs leave.
  (
    (∀ (s : State) (p : Fin 8) (ack : BitVec 24) (flags : BitVec 8) (seq : BitVec 24) (credits : List (BitVec 12)), s.dev.portsRun = true →
      s.dev.portState p = pUp →
      let d1 := if bit flags.toNat 0 then s.dev.modPort p (fun r => { r with held := ackHeld r.held ack.toNat }) else s.dev
      let d2 := ((credits.map BitVec.toNat).take 12).zipIdx.foldl (fun (d : Dev) (v, i) =>
        d.setCredits p (i / 2) (i % 2) (d.credits p (i / 2) (i % 2) + v % 4096)) d1
      let d3 := if bit flags.toNat 3 then d2.modPort p (fun r => { r with rxNextEpoch := some seq.toNat }) else d2
      exec (.linkFlitReceived p ack flags seq credits true) s = .next (s.withDev (
        if bit flags.toNat 2 then d3.portDown p 0x0D else (if bit flags.toNat 1 then d3.replay p else d3).pump p))
      ∧ exec (.linkFlitReceived p ack flags seq credits false) s = .next (s.withDev
        (((s.dev.count FUR_AUTH_FAIL_CNT_COUNT p 0).diag (srcUnit (8 + p)) .other .authFailed [p.val]).portDown p 0x0C)))
    ∧ (∀ (s : State) (p : Fin 8), s.dev.portState p = pUp → exec (.linkFlitSend p) s = .next (s.withDev (s.dev.sendLink p false)))
    ∧ (∀ (s : State) (p : Fin 8), s.dev.portState p = pUp →
      (2 ^ 31 ≤ (s.dev.port p).packetNo ∨ (s.dev.port p).epochStart + 3600000000000 ≤ s.dev.time) →
      let d := (s.dev.countWrap FUR_KEY_EPOCH_EPOCH p 0).modPort p (fun r =>
        { r with packetNo := 0, epochStart := s.dev.time, nextEpoch := some (s.dev.rd FUR_TX_SEQ_SEQ p) })
      exec (.keyEpochChange p) s = .next (s.withDev ((d.sendLink p false).modPort p (fun r => { r with nextEpoch := none }))))
    ∧ (∀ (s : State) (p : Fin 8) (seq : BitVec 24) (bad fixed : Nat) (tag : Bool) (pk : Packet) (m : MgmtContent), s.dev.portsRun = true →
      s.dev.portState p = pUp →
      let d := (s.dev.count FUR_FEC_CORR_CNT_COUNT p 0 fixed).count FUR_FEC_UNCORR_CNT_COUNT p 0 bad
      let e := d.rd FUR_RX_SEQ_SEQ p
      pk.lawful pk.dflits = true → pk.dflits < 256 → seq.toNat = e →
      exec (.headPacketReceived p seq bad fixed tag (BitVec.ofNat 8 pk.dflits) pk m) s = .next (s.withDev (
        if bad = 0 ∧ tag = false then d.tagFails p
        else if bad ≠ 0 then d.sendNack p
        else (d.acceptSeq p e).receive p pk m))))
  -- R588, R589: a packet unanswered for 20 ms is counted and completes with LINK_DOWN; DELIVERY pairs leave, at most 48 in a packet, once the
  -- first is due.
  ∧ (
    (∀ (s : State) (t : Fin 16384) (o : Outstanding), Tbl.find s.dev.outstanding t = some o → o.sent + 20000000 ≤ s.dev.time →
      exec (.e2eTimeout t) s = .next (s.withDev ((s.dev.count FUR_E2E_TIMEOUT_CNT_COUNT 0 0).completeTag t .linkDown [])))
    ∧ (∀ (s : State) (e : DuePair), s.dev.duePairs.find? (fun e => decide (e.due ≤ s.dev.time)) = some e →
      let mine := s.dev.duePairs.filter (fun x => x.node == e.node)
      let body := (mine.take 48).flatMap (fun x => leBytes 2 x.ttag ++ [x.status, 0])
      exec .deliveryPairsDue s = .next (s.withDev
        ({ s.dev with duePairs := s.dev.duePairs.filter (fun (x : DuePair) => x.node != e.node) ++ mine.drop 48 }.originate
          { typ := tyDelivery, dst := e.node, src := 0, length := body.length, body := body } .forgotten false).2)))
  -- R693, R694, R555, R365: the SPDM responder answers and counts its sessions, a failed integrity check makes a stream Insecure, and reads of host
  -- memory complete or fail.
  ∧ (
    (∀ (s : State), s.dev.life = .run → s.dev.mpDown = false →
      (s.dev.spdmSessions < 4 → exec (.spdmRequest .keyExchange) s = .next (s.withDev
        { s.dev with spdmSessions := s.dev.spdmSessions + 1 }.answerOpen))
      ∧ (4 ≤ s.dev.spdmSessions → exec (.spdmRequest .keyExchange) s = .next (s.withDev (s.dev.answerSpdm .busy)))
      ∧ (0 < s.dev.spdmSessions → exec (.spdmRequest .endSession) s = .next (s.withDev
        { s.dev with spdmSessions := s.dev.spdmSessions - 1 }.answerOpen))
      ∧ (∀ i, 1 ≤ i → i ≤ 5 → exec (.spdmRequest (.getMeasurements i)) s = .next (s.withDev
        (s.dev.answerSpdm (.measurement i (s.dev.measure (i - 1)).1))))
      ∧ (∀ r ∈ [SpdmRequest.getVersion, .getCapabilities, .negotiateAlgorithms, .getDigests, .challenge],
        exec (.spdmRequest r) s = .next (s.withDev s.dev.answerOpen))
      ∧ exec (.spdmRequest (.getCertificate 0)) s = .next (s.withDev (s.dev.answerSpdm (.certificates Config.deviceChain)))
      ∧ (∀ r ∈ [SpdmRequest.heartbeat, .keyUpdate, .finish true], 0 < s.dev.spdmSessions → exec (.spdmRequest r) s = .next (s.withDev s.dev.answerOpen))
      ∧ (∀ n, 0 < s.dev.spdmSessions → exec (.spdmRequest (.ideKm n)) s = .next (s.withDev
        { s.dev with ideInsecure := s.dev.ideInsecure.filter (· != n) }.answerOpen))
      ∧ (∀ r ∈ [SpdmRequest.heartbeat, .keyUpdate, .finish true, .finish false, .endSession, .ideKm 0], s.dev.spdmSessions = 0 →
        exec (.spdmRequest r) s = .next (s.withDev (s.dev.answerSpdm .error)))
      ∧ exec (.spdmRequest .unsupported) s = .next (s.withDev (s.dev.answerSpdm .error))
      ∧ (0 < s.dev.spdmSessions → exec (.spdmRequest (.finish false)) s = .next (s.withDev
        (({ s.dev with spdmSessions := s.dev.spdmSessions - 1 }.authFail 5 0).answerSpdm .error))))
    ∧ (∀ (s : State) (k : Fin 4), s.dev.life ≠ .off → exec (.ideFail k) s = .next (s.withDev
        ({ s.dev with ideInsecure := if s.dev.ideInsecure.contains k.val then s.dev.ideInsecure else s.dev.ideInsecure ++ [k.val] }.hostEvent
          srcSecurity 0x0805 .ok none [k.val])))
    ∧ (∀ (s : State) (tag : Fin 65536) (i u : Nat), Tbl.find s.dev.hostReads tag = some (i, u) →
      let d := { s.dev with hostReads := Tbl.del s.dev.hostReads tag }
      let fails := fun (why : Status) => (d.chainAnswered i u).modTask i (fun t =>
        if t.faultCause.isSome || t.ending.isSome then t else { t with faultCause := some why })
      exec (.pcieCompletionTimeout tag) s = .next (s.withDev (fails .timeout))
      ∧ exec (.pcieCompletionReceived tag none) s = .next (s.withDev (fails .notPermitted))
      ∧ ∀ data, exec (.pcieCompletionReceived tag (some data)) s = .next (s.withDev (d.chainData i u 0 (data.map BitVec.toNat)))))

/-- Accepted packets are forwarded, or delivered by their type to the unit they are for -/
def Obligations.PacketsAreDelivered : Prop :=
  -- R585, R587, R594, R601: an accepted packet of any type that is for another node goes on, with one hop less, on its route; without hops or
  -- without a route its originator is answered; and on a suspended port only firmware messages for this module are taken.
  (
    ∀ (s : State) (i : Instr) (port : Fin 8) (p : Packet) (m : MgmtContent) (n : Nat),
      (m = .other ∧ (i = .memWrReceived port p ∧ p.typ = tyMemWr ∨ i = .memRdReceived port p ∧ p.typ = tyMemRd
          ∨ i = .memCplReceived port p ∧ p.typ = tyMemCpl ∨ i = .deliveryReceived port p ∧ p.typ = tyDelivery
          ∨ i = .resetReqReceived port p ∧ p.typ = tyReset ∨ i = .syncOpSignal port p ∧ p.typ = tySync ∧ p.op = 1
          ∨ i = .syncOpWait port p ∧ p.typ = tySync ∧ p.op = 2 ∨ i = .syncOpRelease port p ∧ p.typ = tySync ∧ p.op = 3
          ∨ i = .syncOpWithdraw port p ∧ p.typ = tySync ∧ p.op = 4 ∨ i = .barrierSignal port p ∧ p.typ = tySync ∧ p.op = 5
          ∨ i = .barrierOutcome (some (port, p)) ∧ p.typ = tySync ∧ p.op = 6 ∨ i = .mapProbe port p ∧ p.typ = tySync ∧ p.op = 7
          ∨ i = .probeReply port p ∧ p.typ = tySync ∧ p.op = 8
          ∨ i = .exchContributionReceived port p ∧ p.typ = tyExch ∧ nth p.body 0 ≠ 3
          ∨ i = .workingCopyReceived port p ∧ p.typ = tyExch ∧ nth p.body 0 = 3)
        ∨ i = .mgmtMsgReceived port p m ∧ p.typ = tyMgmt) →
      s.dev.portsRun = true → s.dev.portState port = pUp → p.lawful p.dflits = true → s.dev.node = some n →
      let d := s.dev.freeBuffer port p
      exec i s = .next (s.withDev (
        if s.dev.suspended port = true ∧ ¬ (p.cls = 5 ∧ p.dst = n) then (d.count FUR_SUSP_DROP_CNT_COUNT port 0).answerTo p .routeSuspended
        else if p.dst = n then s.dev.deliver port p m
        else if p.hops = 0 then (d.count FUR_HOP_DROP_CNT_COUNT 0 0).answerTo p .linkDown
        else match d.route p.dst false with
          | .inr st => d.answerTo p st
          | .inl q => d.enqueuePacket q
            { p with hops := p.hops - 1, sub := if bit (Tbl.get 0 s.dev.routes p.dst) 28 || p.sub == 1 then 1 else 0 })))
  -- R586, R588, R589, R593, R643, R698: packets of memory, delivery, reset and firmware messages for this module.
  ∧ (
    ∀ (s : State) (port : Fin 8) (p : Packet), s.dev.lands port p →
      (p.typ = tyMemWr → exec (.memWrReceived port p) s = .next (s.withDev (s.dev.taken port p (
        if s.dev.windowAllows p.src p.addr p.length true then (s.dev.setBytes (devCell p.addr) (p.body.take p.length)).addPair p.src p.ttag .ok
        else s.dev.addPair p.src p.ttag .notPermitted))))
      ∧ (p.typ = tyMemRd → s.dev.windowAllows p.src p.addr p.length false = true →
        exec (.memRdReceived port p) s = .next (s.withDev (s.dev.taken port p
          (s.dev.originate { typ := tyMemCpl, dst := p.src, src := 0, ttag := p.ttag, length := p.length, addr := p.addr, status := 0
                             body := s.dev.bytes (devCell p.addr) p.length } .forgotten false).2)))
      ∧ (p.typ = tyMemCpl → exec (.memCplReceived port p) s = .next (s.withDev (s.dev.taken port p
        (s.dev.completeTag p.ttag (Status.ofCode p.status) (p.body.take p.length)))))
      ∧ (p.typ = tyDelivery → exec (.deliveryReceived port p) s = .next (s.withDev (s.dev.taken port p
        ((List.range (p.length / 4)).foldl (fun (d : Dev) i =>
          d.completeTag (leAt p.body (4 * i) 2 % 16384) (Status.ofCode (nth p.body (4 * i + 2))) []) s.dev))))
      ∧ (p.typ = tyReset → s.dev.credentialOk (p.body.drop 192) (nth p.body 0) (nth p.body 1) = true →
        let d := ((s.dev.takeCounter (p.body.drop 192)).addPair p.src p.ttag .ok).sendPairs p.src
        exec (.resetReqReceived port p) s = .next (s.withDev (s.dev.taken port p (
          if nth p.body 0 = 1 then d.deviceReset 0x08
          else if nth p.body 0 = 2 ∧ nth p.body 1 < 16 then d.contextReset (nth p.body 1) 0x13 else d))))
      ∧ (p.typ = tyReset → s.dev.credentialOk (p.body.drop 192) (nth p.body 0) (nth p.body 1) = false →
        exec (.resetReqReceived port p) s = .next (s.withDev (s.dev.taken port p
          (((s.dev.addPair p.src p.ttag .authFailed).authFail 3 p.src).hostEvent srcReset 0x0706 .authFailed none
            (leBytes 2 p.src ++ [Status.authFailed.code])))))
      ∧ (∀ m, p.typ = tyMgmt → exec (.mgmtMsgReceived port p m) s = .next (s.withDev (s.dev.taken port p
        ((s.dev.addPair p.src p.ttag .ok).mgmtContent p m)))))
  -- R392, R395, R397, R414, R431, R592: sync operations and exchange messages for this module act at its hub and its exchange unit, and are
  -- answered.
  ∧ (
    ∀ (s : State) (port : Fin 8) (p : Packet), s.dev.lands port p →
      (p.typ = tySync →
        (p.op = 1 → exec (.syncOpSignal port p) s = .next (s.withDev (s.dev.taken port p
          ((s.dev.remoteSignal p.src port p.ctx p.octx p.vid p.gen (signed 16 p.value) p.waiter).addPair p.src p.ttag .ok))))
        ∧ (p.op = 2 → exec (.syncOpWait port p) s = .next (s.withDev (s.dev.taken port p
          ((s.dev.remoteWait p.src p.octx p.vid p.gen (bit (nth p.body 1) 0) p.value p.waiter).addPair p.src p.ttag .ok))))
        ∧ (p.op = 3 → exec (.syncOpRelease port p) s = .next (s.withDev (s.dev.taken port p
          ((s.dev.remoteAnswer p.src p.waiter p.value p.opStatus p.step).addPair p.src p.ttag .ok))))
        ∧ (p.op = 4 → exec (.syncOpWithdraw port p) s = .next (s.withDev (s.dev.taken port p
          ((s.dev.remoteWithdraw p.src p.waiter).addPair p.src p.ttag .ok))))
        ∧ (p.op = 5 → exec (.barrierSignal port p) s = .next (s.withDev (s.dev.taken port p
          ((s.dev.barrierMessage p.src p.octx p.vid p.gen p.step p.attempt (bit (nth p.body 1) 1) (bits (nth p.body 1) 3 2)).addPair
            p.src p.ttag .ok))))
        ∧ (p.op = 6 → s.dev.barrierRef = .remote p.src p.octx p.vid p.gen →
          exec (.barrierOutcome (some (port, p))) s = .next (s.withDev (s.dev.taken port p
            ((s.dev.barrierOutcome (some ⟨nth p.body 12, p.step, p.attempt⟩)).addPair p.src p.ttag .ok))))
        ∧ (p.op = 7 → exec (.mapProbe port p) s = .next (s.withDev (s.dev.taken port p
          ((s.dev.mapProbe p.src p.octx p.vid p.gen p.waiter).addPair p.src p.ttag .ok))))
        ∧ (p.op = 8 → waiterKind p.waiter = 2 → exec (.probeReply port p) s = .next (s.withDev (s.dev.taken port p
          ((s.dev.probeReply (bits p.waiter 19 16) (bits p.waiter 2 0) p.opStatus).addPair p.src p.ttag .ok)))))
      ∧ (p.typ = tyExch → s.dev.on FLT_ISO_X_XCH 0 = false →
        (nth p.body 0 ≠ 3 → exec (.exchContributionReceived port p) s = .next (s.withDev (s.dev.taken port p
          ((s.dev.contributionArrives p.body).addPair p.src p.ttag .ok))))
        ∧ (nth p.body 0 = 3 → exec (.workingCopyReceived port p) s = .next (s.withDev (s.dev.taken port p
          ((s.dev.copyArrives (2 * port + p.sub) p.body).addPair p.src p.ttag .ok))))))

/-! ### Completion: what the queries, resets, tasks, arrays, supplies, ports and packets reach under conditions on state and operands alone -/

/-- Queries, host functions, resets, starts and the management processor complete as their rules say -/
def Obligations.HostAndModuleRowsComplete : Prop :=
  -- R251, R509, R510, R532, R533, R536, R538, R607: a query that is the next to be served, passes its checks and has no reserved argument bit
  -- set completes: its slot is DONE, and its response carries status OK and the words of its rule, one of which is named here.
  (
    ∀ (s : State) (c : Fin 16) (k : Fin 8), s.dev.ordered →
      let b := s.dev.begun c k
      let header := b.responseHeader c k .ok % 2 ^ 32
      (Ready s c k 0x00 → b.argsClean c k [] = true → ∃ t, exec (.identify c k) s = .next t ∧ t.dev.slotState c k = slotDone
        ∧ t.dev.rd MBX_RSP_WORD c k 0 = header ∧ t.dev.rd MBX_RSP_WORD c k 1 = 0x10241003)
      ∧ (Ready s c k 0x01 → b.argsClean c k [] = true → ∃ t, exec (.capabilities c k) s = .next t ∧ t.dev.slotState c k = slotDone
        ∧ t.dev.rd MBX_RSP_WORD c k 0 = header ∧ t.dev.rd MBX_RSP_WORD c k 1 = 480000000000 % 2 ^ 32)
      ∧ (Ready s c k 0x12 → b.argsClean c k [] = true → ∃ t, exec (.ctxInfo c k) s = .next t ∧ t.dev.slotState c k = slotDone
        ∧ t.dev.rd MBX_RSP_WORD c k 0 = header ∧ t.dev.rd MBX_RSP_WORD c k 3 = (b.ctx c).map.length % 2 ^ 32)
      ∧ (Ready s c k 0x33 → b.argsClean c k [0x3FFF] = true → ∃ t, exec (.arrayInfo c k) s = .next t ∧ t.dev.slotState c k = slotDone
        ∧ t.dev.rd MBX_RSP_WORD c k 0 = header ∧ t.dev.rd MBX_RSP_WORD c k 3 = b.lifeCount (b.cmd c k 1 % 16384) % 2 ^ 32)
      ∧ (Ready s c k 0x53 → b.argsClean c k [7] = true → ∃ t, exec (.portInfo c k) s = .next t ∧ t.dev.slotState c k = slotDone
        ∧ t.dev.rd MBX_RSP_WORD c k 0 = header ∧ t.dev.rd MBX_RSP_WORD c k 1 = b.word FUR_PORT_STATUS (bits (b.cmd c k 1) 2 0) % 2 ^ 32)
      ∧ (Ready s c k 0x71 → b.argsClean c k [] = true → ∃ t, exec (.telemRead c k) s = .next t ∧ t.dev.slotState c k = slotDone
        ∧ t.dev.rd MBX_RSP_WORD c k 0 = header ∧ t.dev.rd MBX_RSP_WORD c k 1 = b.telemetry.number % 2 ^ 32))
  -- R549, R550, R560, R561: BAR2 requests store and read bytes, or are refused; functions are reset and enabled.
  ∧ (
    (∀ (s : State) (c : Fin 16) (o : Nat) (b : Byte), s.dev.answers c = true → s.dev.life ≠ .recovery → s.dev.ordered →
      o + 1 ≤ 2 ^ (30 + if c = 0 then s.dev.bar2Pf else s.dev.bar2Vf) →
      ((s.dev.windowBase c + o + 1 ≤ deviceMemory ∧ (c ≠ 0 → s.dev.mapCovers c (s.dev.windowBase c + o) 1 = true)) →
        (∃ t, exec (.bar2Request c o 1 (some [b]) false none) s = .next t ∧ t.dev.byte (devCell (s.dev.windowBase c + o)) = b.toNat)
        ∧ exec (.bar2Request c o 1 none false none) s = .next (s.withDev
            { s.dev with out := s.dev.out ++ [.readData c (some [s.dev.byte (devCell (s.dev.windowBase c + o))])] })
        ∧ exec (.bar2Request c o 1 (some [b]) true none) s = .next s)
      -- beyond device memory, or outside the memory map of a VF's context: an Unsupported Request
      ∧ ((deviceMemory < s.dev.windowBase c + o + 1 ∨ (c ≠ 0 ∧ s.dev.mapCovers c (s.dev.windowBase c + o) 1 = false)) →
        (∃ t, exec (.bar2Request c o 1 none false none) s = .next t ∧ t.dev.out = s.dev.out ++ [.readData c none] ∧ t.dev.mem = s.dev.mem
          ∧ t.dev.rd PCI_UR_CNT_COUNT 0 = satAdd 32 (s.dev.rd PCI_UR_CNT_COUNT 0) 1)
        ∧ (∃ t, exec (.bar2Request c o 1 (some [b]) false none) s = .next t ∧ t.dev.mem = s.dev.mem
          ∧ t.dev.rd PCI_UR_CNT_COUNT 0 = satAdd 32 (s.dev.rd PCI_UR_CNT_COUNT 0) 1)))
    ∧ (∀ (s : State) (c : Fin 16), s.dev.answers c = true → s.dev.ordered →
      ∃ t, exec (.flr c) s = .next t ∧ (t.dev.ctx c).busMaster = false ∧ (t.dev.ctx c).msixTable = [] ∧ (t.dev.ctx c).functionMask = false)
    ∧ (∀ (s : State) (n : Fin 16), s.dev.answers 0 = true →
      ∃ t, exec (.vfEnableSet n) s = .next t ∧ t.dev.vfEnable = true ∧ t.dev.numVFs = n)
    ∧ (∀ (s : State), s.dev.answers 0 = true → s.dev.vfEnable = true → ∃ t, exec .vfEnableClear s = .next t ∧ t.dev.vfEnable = false))
  -- R503, R506, R518, R522, R528, R538, R547, R619, R640, R645 to R647, R666, R709, R711: resets, starts, Off and the management processor.
  ∧ (
    (∀ (s : State), s.dev.life ≠ .off → s.dev.ordered →
      (∃ t, exec .perstAssert s = .next t ∧ t.dev.life = .starting ∧ t.dev.perst = true ∧ t.dev.rd RST_CAUSE_SOURCE 0 = 0x03)
      ∧ (∃ t, exec .perstDeassert s = .next t ∧ t.dev.perst = false ∧ t.dev.life = s.dev.life)
      ∧ (∃ t, exec .hotReset s = .next t ∧ t.dev.life = .starting ∧ t.dev.rd RST_CAUSE_SOURCE 0 = 0x04)
      ∧ (∀ n : Fin 256, 0x06 ≤ n.val → n.val ≤ 0x08 →
        ∃ t, exec (.deviceReset n) s = .next t ∧ t.dev.life = .starting ∧ t.dev.rd RST_CAUSE_SOURCE 0 = n)
      ∧ (∃ t, exec .presenceLost s = .next t ∧ t.dev.life = .off ∧ t.dev.rd RST_OFF_CAUSE_CAUSE 0 = 2)
      ∧ (∀ n : Fin 4, ∃ t, exec (.inputFault n) s = .next t ∧ t.dev.life = .off ∧ t.dev.rd RST_OFF_CAUSE_CAUSE 0 = 2))
    ∧ (∀ (s : State), s.dev.life = .off → s.dev.rd RST_OFF_CAUSE_CAUSE 0 = 2 →
      ∃ t, exec .inputRestored s = .next t ∧ t.dev.life = .starting ∧ t.dev.startedAt = s.dev.time)
    ∧ (∀ (s : State), s.dev.ordered → ∃ t, exec .powerOn s = .next t ∧ t.dev.life = .starting ∧ t.dev.time = 0
        ∧ t.dev.rd RST_CAUSE_SOURCE 0 = 0x01)
    ∧ (∀ (s : State) (flit : Bool), s.dev.ordered → ∃ t, exec (.linkDegraded 6 16 flit) s = .next t
        ∧ t.dev.rd PCI_LINK_STATUS_RATE 0 = 6 ∧ t.dev.rd PCI_LINK_STATUS_WIDTH 0 = 16 ∧ t.dev.rd PCI_LINK_STATUS_FLIT 0 = b2n flit)
    ∧ (∀ (s : State) (c : Fin 16) (source : Fin 256), s.dev.life = .run → s.dev.ordered →
      ∃ t, exec (.contextReset c source) s = .next t ∧ (∀ h : Fin 4, Tbl.find t.dev.programs (progKey c.val h.val) = none)
        ∧ t.dev.rd PCI_WIN_BASE_LO_BASE 0 c.val = 0 ∧ t.dev.rd PCI_WIN_BASE_HI_BASE 0 c.val = 0)
    ∧ (∀ (s : State) (rep : StartReport), s.dev.life = .starting → s.dev.startDone = false → s.dev.perst = false → s.dev.ordered →
      s.dev.rd RST_START_START_CNT 0 < 3 → (∀ set < 5, s.fuses.badCopyA.contains set = false ∨ s.fuses.badCopyB.contains set = false) →
      (∀ i, nth rep.bondFailed i = 0) → s.dev.active.verify s.fuses = .ok →
      ∃ t, exec (.start rep) s = .next t ∧ t.dev.life = .starting ∧ t.dev.startDone = true ∧ t.dev.runningSlot = 0)
    ∧ (∀ s : State, s.dev.mayAck = true → s.dev.ordered →
      ∃ t, exec .runAck s = .next t ∧ t.dev.life = .run ∧ t.dev.rd RST_START_RUN_ACK 0 = 1)
    ∧ (∀ (s : State) (b : Bool), s.dev.life = .run → s.dev.mpDown = false →
      (s.dev.mpCauses.filter (fun t => decide (s.dev.time ≤ t + 60000000000))).length < 2 →
      (∃ t, exec (.mpRestart b) s = .next t ∧ t.dev.mpDown = true)
      ∧ (s.dev.mpKicked + 200000000 ≤ s.dev.time → ∃ t, exec .mpWatchdogExpiry s = .next t ∧ t.dev.mpDown = true))
    ∧ (∀ (s : State), s.dev.mpDown = true → s.dev.active.verify s.fuses = .ok →
      ∃ t, exec .mpRestartComplete s = .next t ∧ t.dev.mpDown = false ∧ t.dev.restore = none ∧ t.dev.mpKicked = s.dev.time)
    ∧ (∀ (s : State) (busy : Fin 101) (held : Bool), s.dev.life = .run → s.dev.mpDown = false → s.dev.ordered →
      s.dev.nextStage busy.val held = s.dev.rd MBX_MP_STATUS_SHED 0 →
      ∃ t, exec (.shedStage busy held) s = .next t ∧ t.dev.rd MBX_MP_STATUS_BUSY 0 = busy
        ∧ t.dev.rd MBX_MP_STATUS_SHED 0 = s.dev.rd MBX_MP_STATUS_SHED 0)
    ∧ (∀ (s : State) (c : Fin 16), s.dev.ordered → s.dev.windowOpen c = true → (s.dev.ctx c).windowAccess + 10000000000 ≤ s.dev.time →
      ∃ t, exec (.dataWindowTimeout c) s = .next t ∧ t.dev.slotState c (s.dev.rd MBX_DATA_STATUS_SLOT c) = slotDone)
    ∧ (∀ (s : State), s.dev.life = .run → s.dev.mpDown = false → s.dev.telemetry.time + s.dev.samplePeriod ≤ s.dev.time →
      ∃ t, exec .telemetrySample s = .next t ∧ t.dev.telemetry.number = (s.dev.telemetry.number + 1) % 2 ^ 32
        ∧ t.dev.telemetry.time = s.dev.time)
    ∧ (∀ (s : State), s.dev.life ≠ .off → s.dev.ordered → s.dev.rd LOG_EPOCH_EPOCH 0 ≠ (s.dev.micros / 2 ^ 32) % 2 ^ 32 →
      ∃ t, exec .logEpoch s = .next t ∧ t.dev.rd LOG_EPOCH_EPOCH 0 = (s.dev.micros / 2 ^ 32) % 2 ^ 32))

/-- Runs, tasks, engines, the exchange and the update complete their next piece of work -/
def Obligations.TaskAndExchangeRowsComplete : Prop :=
  -- R334, R337, R347, R350, R355, R356, R365, R383: runs, attempts and tasks begin and end, and idle Grains steal.
  (
    (∀ (s : State), s.dev.runs ≠ [] → s.dev.runStarted = false → s.dev.attempt = none →
      ∃ t, exec .runStart s = .next t ∧ t.dev.runStarted = true ∧ t.dev.lastOutcome = none ∧ t.dev.runs = s.dev.runs)
    ∧ (∀ (s : State) (answer : Option (BitVec 32 × BitVec 8)) (r : Run) (p : Program) (step number : Nat),
      let d0 := s.dev.clearDone p.base
      let es := s.dev.initTable p.base
      s.dev.run = some r → s.dev.runProgram = some p → s.dev.runStarted = true → s.dev.attempt = none →
      (s.dev.lastOutcome = none → s.dev.barrierUnreachable = false) →
      s.dev.loadStep (answer.map (fun (v, n) => (v.toNat, n.toNat))) = some (step, number) →
      es.all (d0.initOk r.ctx (bits (d0.header p.base 6) 11 0)) = true →
      let d1 := d0.clearStats p.base
      let a : Attempt := { step := step, number := number, shown := number, gen1 := d1.programGen1 p.base, tasks := d1.freshTasks p.base }
      let d3 := (List.range 128).foldl (fun (d : Dev) q =>
        (d.clearCounters q).wr TSK_SCHED_STATUS_ATTEMPT q 0 0 number) (({ d1 with attempt := some a }.clearNorms).showRun 1)
      let d5 := (((d3.applyInit r.ctx es).exchangeStart).startSamples).watchTriggers r.ctx
      exec (.attemptStart answer) s = .next (s.withDev ((List.range (d5.taskCount p.base)).foldl (fun (d : Dev) i => d.makeEligible r.ctx i) d5)))
    ∧ (∀ (s : State) (i : Fin 65536) (t : TaskRun) (r : Run) (a : Attempt) (shared : Bool),
      let p := peckOfGrain t.home
      let arg := s.dev.argWords t
      let g := t.unitOf t.home arg
      let e := t.engineOn a.gen1 g
      s.dev.task i = some t → s.dev.run = some r → s.dev.attempt = some a → t.phase = .ready → a.phase = .running → a.cut = false →
      t.kind < 4 → ¬ (t.kind = 3 ∧ chIngest arg = true ∧ s.dev.ingestDone.contains i.val = true) → s.dev.mirrorDue = false →
      s.dev.gated (bushelOfPeck p) = false → s.dev.gated (bushelOfPeck (peckOfGrain g)) = false →
      s.dev.clockGood p = true → s.dev.clockGood (peckOfGrain g) = true → s.dev.wrapperClosed p = false →
      s.dev.wrapperClosed (peckOfGrain g) = false → s.dev.behind a.gen1 i t = false → s.dev.decisionHolds t arg = false →
      s.dev.onEngine a.gen1 e < engineCapacity e.1 → s.dev.slotFor p = some shared →
      ∃ u x, exec (.taskStart i) s = .next u ∧ u.dev.task i = some x ∧ x.phase = .running ∧ x.grain = g ∧ x.arg = arg ∧ x.hasSlot = true)
    ∧ (∀ (s : State) (i : Fin 65536) (t : TaskRun) (r : Run) (a : Attempt) (st : Status), s.dev.task i = some t → s.dev.run = some r →
      s.dev.attempt = some a → t.phase = .running → s.dev.taskOutcome a.gen1 t = some st →
      let e := if t.kind = 0 ∧ t.ending = none then s.dev.fwdWrite a.gen1 { t with nanInput := t.nanInput || (a.gen1 && s.dev.fwdHasNan t) } else s.dev
      exec (.taskComplete i) s = .next (s.withDev (e.finishTask i st))
      -- a task that signals nothing is done at once
      ∧ (st.signals = true → t.kind ≠ 0 → t.kind ≠ 4 → t.segPosted = false → entryOn (t.entry 2) = false → entryOn (t.entry 3) = false →
        a.phase = .running → ∃ u x, exec (.taskComplete i) s = .next u ∧ u.dev.task i = some x ∧ x.phase = .done ∧ x.hasSlot = false))
    ∧ (∀ (s : State) (i : Fin 65536) (t : TaskRun), s.dev.task i = some t → t.phase = .running → t.kind = 3 → t.faultCause ≠ none →
      t.outstanding = [] → t.ending = none →
      exec (.taskAbortedStreamFault i) s = .next (s.withDev (s.dev.finishTask i .streamFault)))
    ∧ (∀ (s : State) (g : Fin 1024) (vector : Bool) (i : Nat) (t x : TaskRun),
      let kind := if vector then 2 else 1
      let p := peckOfGrain g
      let best := (List.range 8).foldl (fun (b : Nat × Nat) n =>
        if 8 * p + n ≠ g ∧ b.2 < (s.dev.stealable kind (8 * p + n)).length then (8 * p + n, (s.dev.stealable kind (8 * p + n)).length) else b) (g.val, 0)
      let d := s.dev.startTask i g true
      s.dev.idleFor kind g = true → s.dev.on TSK_SCHED_CFG_STEAL_EN p = true → best.2 ≠ 0 → (s.dev.stealable kind best.1).head? = some (i, t) →
      d.task i = some x → x.phase = .running →
      exec (.workSteal g vector) s = .next (s.withDev (d.count TSK_STEAL_IN_CNT_COUNT g 0)))
    ∧ (∀ (s : State) (g : Fin 1024) (vector : Bool) (q i : Nat) (a : Attempt) (x : TaskRun),
      let kind := if vector then 2 else 1
      let p := peckOfGrain g
      let lets := fun q => s.dev.on TSK_SCHED_CFG_STEAL_EN q && s.dev.on TSK_SCHED_CFG_BUSHEL_STEAL_EN q
      let gives := fun q => lets q && !s.dev.idleIn kind q
      let first := fun q => (a.tasks.find? (fun e => decide (e.2.phase = .ready) && e.2.kind == kind && peckOfGrain e.2.home == q
        && bit (nth e.2.desc 0) 59 && !e.2.local_)).map (·.1)
      let d := s.dev.startTask i g true
      s.dev.attempt = some a → s.dev.idleFor kind g = true → lets p = true →
      (∀ n < 8, s.dev.stealable kind (8 * p + n) = []) →
      s.dev.clocksPast p (Tbl.get 0 s.dev.idleAt (g * 4 + kind)) (s.dev.rd TSK_SCHED_CFG_STEAL_DELAY p) = true →
      ((List.range 7).map (fun k => bushelOfPeck p * 8 + (p % 8 + 1 + k) % 8)).find? (fun q => gives q && (first q).isSome) = some q →
      first q = some i → d.task i = some x → x.phase = .running →
      exec (.bushelSteal g vector) s = .next (s.withDev
        (((d.count TSK_STEAL_IN_CNT_COUNT g 0).count TSK_STEAL_OUT_CNT_COUNT q 0).count TSK_BUSHEL_STEAL_CNT_COUNT p 0)))
    ∧ (∀ (s : State) (c : Fin 16) (k : Fin 8) (t : Nat), Tbl.find (s.dev.ctx c).deadline k = some t → t ≤ s.dev.time →
      s.dev.untested c k = false → s.dev.slotState c k = slotRunning → s.dev.slotWait c k = .sync →
      exec (.mailboxWaitTimeout c k) s = .next (s.withDev (((s.dev.withdrawMailbox c k).modCtx c
        (fun x => { x with deadline := Tbl.del x.deadline k })).finishWaiting c k .sync .timeout))))
  -- R140, R147, R154, R162, R165, R282, R302, R322, R360, R444: the arrays and the engines of a Grain do the next piece of their work.
  ∧ (
    (∀ (s : State) (i token : Fin 65536) (entry : Fin 16) (row : Fin 1024) (t : TaskRun) (a : Attempt) (l : LatchedArray) (cx : Nat)
        (slots : List Int),
      let g := grainOf l.array
      s.dev.ordered → s.dev.task i = some t → s.dev.attempt = some a → t.arrays[entry.val]? = some l → t.kind = 0 → t.phase = .running → t.ending = none →
      a.gen1 = false → token.val < fwdTokens t.arg → l.groups.contains row.val = true → t.started.contains (groupKey token entry row) = false →
      s.dev.groupSlots t.home t.arg (s.dev.fwdInFmt s.dev.runBase t.arg) token l row = some (cx, slots) →
      slots.all (fun x => x == 0) = false → s.dev.arrState l.array = SERVING → s.dev.cycleTurn l.array t.order = true →
      ((List.range 16).filter (fun n => decide (g * 16 + n ≠ l.array) && !(s.dev.arr (g * 16 + n)).cycles.isEmpty)).length < s.dev.grainLimit g →
      s.dev.monWaits.contains g = false →
      ∃ u, exec (.rowGroupStart i token entry row) s = .next u ∧ (u.dev.arr l.array).cycles = (s.dev.arr l.array).cycles ++
        [{ task := i, token := token, entry := entry, row := row, cmax := cx, slots := slots }])
    ∧ (∀ (s : State) (a : Fin 16384) (codes : List Int) (c : StartedCycle) (rest : List StartedCycle) (t : TaskRun) (l : LatchedArray), s.dev.ordered →
      (s.dev.arr a).cycles = c :: rest → s.dev.task c.task = some t → t.phase = .running → t.arrays[c.entry]? = some l →
      ∃ u, exec (.readCycle a codes) s = .next u ∧ (u.dev.arr a).cycles = rest)
    ∧ (∀ (s : State) (a : Fin 16384), s.dev.ordered → 0 < s.dev.windowLen a → s.dev.windowLen a ≤ (s.dev.arr a).windowCycles →
      ∃ u, exec (.checksumWindowEnd a) s = .next u ∧ (u.dev.arr a).windowCycles = 0 ∧ (u.dev.arr a).windowMismatch = 0)
    ∧ (∀ (s : State) (a : Fin 16384), s.dev.ordered → 1048576 ≤ (s.dev.arr a).served → s.dev.rd ARR_CHK_STATUS_PERSIST (grainOf a) (slotOf a) ≠ 0 →
      ∃ u, exec (.persistClear a) s = .next u ∧ u.dev.rd ARR_CHK_STATUS_PERSIST (grainOf a) (slotOf a) = 0)
    ∧ (∀ (s : State) (a : Fin 16384), 1024 ≤ (s.dev.arr a).refCycles → s.dev.ordered →
      ∃ u, exec (.refRatioPublish a) s = .next u ∧ (u.dev.arr a).refCycles = 0 ∧ (u.dev.arr a).refSlots = 0)
    ∧ (∀ (s : State) (g : Fin 1024) (c : StartedCycle) (rest : List StartedCycle) (t : TaskRun) (l : LatchedArray) (cx : Nat) (slots : List Int),
      Tbl.get [] s.dev.fbQueue g = c :: rest → s.dev.task c.task = some t → t.arrays[c.entry]? = some l →
      s.dev.groupSlots t.home t.arg (s.dev.fwdInFmt s.dev.runBase t.arg) c.token l c.row = some (cx, slots) →
      ∃ u x, exec (.fallbackRowGroup g) s = .next u ∧ u.dev.task c.task = some x ∧ x.started = t.started
        ∧ u.dev.fbQueue = Tbl.set [] s.dev.fbQueue g rest ∧ u.dev.mem = s.dev.mem)
    ∧ (∀ (s : State) (g : Fin 1024) (i : Nat) (t : TaskRun) (a : Attempt), s.dev.ordered →
      s.dev.class3 g = some (i, t) → s.dev.attempt = some a → t.ending = none → Tbl.get [] s.dev.fbQueue g = [] →
      s.dev.class2Waits g = false →
      -- the next pass of a product, or of a FWD task in Gen-1 exact mode
      (∀ p : Product, t.kind = 1 → t.productsDone = false → (productsOf t.arg)[t.nextSide]? = some p →
        let d := ((s.dev.productPass i t a.gen1 p t.nextSide (if t.nextSide = 0 then t.tile else t.tile2)).countWrap DMX_PASS_CNT_COUNT g 0).wr
          DMX_STATUS_PAIR_SIDE g 0 0 t.nextSide
        exec (.tilePass g) s = .next (s.withDev (if p.unaligned then d.count DMX_UNALIGNED_CNT_COUNT g 0 else d)))
      ∧ (t.kind = 0 → t.tile < s.dev.fwdPasses t →
        ∃ u, exec (.tilePass g) s = .next u ∧ u.dev.rd DMX_PASS_CNT_COUNT g = (s.dev.rd DMX_PASS_CNT_COUNT g + 1) % 2 ^ 32))
    ∧ (∀ (s : State) (p : Fin 128) (a : Attempt) (x : WatchSample) (t : TaskRun), s.dev.ordered → s.dev.attempt = some a →
      Tbl.find a.samples p = some x → s.dev.task x.task = some t → x.resolved = false → t.sampleReady x = true →
      Tbl.get [] s.dev.fbQueue (grainOf (p * 128 + x.index)) = [] →
      ∃ u, exec (.wideRecomputation p) s = .next u ∧ u.dev.rd WCH_SAMPLE_RESULT p ≠ 0)
    ∧ (∀ (s : State) (g : Fin 1024) (i : Nat) (t : TaskRun) (a : Attempt), s.dev.attempt = some a →
      a.tasks.find? (fun e => decide (e.2.phase = .running) && decide (e.2.grain = g.val) && e.2.kind == 2) = some (i, t) →
      t.ending = none → t.vecIndex < vecCount t.arg →
      let v := vecDesc t.arg t.vecIndex
      let next := vecDesc t.arg (t.vecIndex + 1)
      let d := if vOp v < 8 then s.dev.vNative s.dev.runBase t v
        else if vCount0 v = 0 then s.dev else s.dev.vUpdate s.dev.runBase a.gen1 t.home v
      let e := (d.countWrap VEC_DESC_CNT_COUNT g 0).modTask i (fun t => { t with vecIndex := t.vecIndex + 1 })
      (vecCount t.arg ≤ t.vecIndex + 1 → exec (.vectorDescriptor g) s = .next (s.withDev e))
      ∧ (t.vecIndex + 1 < vecCount t.arg → exec (.vectorDescriptor g) s = .next (s.withDev
        (((e.wr VEC_STATUS_INDEX g 0 0 (t.vecIndex + 1)).wr VEC_STATUS_OP g 0 0 (vOp next)).wr VEC_STATUS_LANES g 0 0 (b2n (vBf16 next))))))
    ∧ (∀ (s : State) (g : Fin 1024) (peck : Bool) (i : Nat) (t : TaskRun) (r : Run), s.dev.chainOn g peck = some (i, t) → s.dev.run = some r →
      t.ending = none → t.faultCause = none → t.closing = false → t.unit < chUnits t.arg → t.outstanding.length < 32 →
      s.dev.wrapperClosed (peckOfGrain t.home) = false → (chOpens t.arg t.unit && decide (chNbuf t.arg + 1 ≤ t.seg) && !t.segHeld) = false →
      chSrcSpace t.arg ≠ 3 → chDstSpace t.arg ≠ 3 →
      let src := chSrcAt t.arg t.unit
      let dst := chDstAt t.arg t.unit t.seg
      let d := (((s.dev.chnWr t CHN_STATUS_SEG_WAITING PCHN_STATUS_SEG_WAITING 0 0).moveUnit i t.unit r.ctx t).chnCount t src dst).modTask i
        (fun x => { x with unit := x.unit + 1, closing := chCloses t.arg t.unit
                           planeUnit := ((chPlaneUnits t.arg src dst).getLast?).orElse (fun _ => x.planeUnit) })
      exec (.chainUnit g peck) s = .next (s.withDev (d.chainSettle i r.ctx))))
  -- R41, R42, R389, R407, R411, R423, R455, R479, R480, R484, R488: the exchange, the commit, the update and the records of recovery go on.
  ∧ (
    (∀ (s : State) (i : Fin 65536) (a : Attempt) (r : Run) (x : XchTable) (t : XchTensor), s.dev.attempt = some a → s.dev.run = some r →
      s.dev.runTable = some x → x.tensors[i.val]? = some t → a.triggered.contains i.val = true → a.compressed.contains i.val = false →
      (a.phase = .running ∨ a.phase = .signalled) → s.dev.on FLT_ISO_X_XCH 0 = false →
      ∃ u, exec (.compression i) s = .next u ∧ (∀ b, u.dev.attempt = some b → b.compressed.contains i.val = true))
    ∧ (∀ (s : State) (o : Outcome) (r : Run) (p : Program), s.dev.outcomeDue = some o → s.dev.run = some r → s.dev.runProgram = some p →
      s.dev.runStarted = true → s.dev.lastOutcome ≠ some o →
      -- between attempts the outcome is kept for the next one; after the participant's own signal COMMITTED commits the step
      (s.dev.attempt = none → ∃ u, exec (.barrierOutcome none) s = .next u ∧ u.dev.lastOutcome = some o ∧ u.dev.outcomeDue = none)
      ∧ (∀ a, s.dev.attempt = some a → a.phase = .signalled → Status.ofCode o.status = .ok → o.committed = (a.step + 1) % 2 ^ 32 →
        r.committed + 1 < r.steps →
        ∃ u, exec (.barrierOutcome none) s = .next u ∧ u.dev.run = some { r with committed := r.committed + 1 }
          ∧ (∀ b, u.dev.attempt = some b → b.phase = .committed)))
    ∧ (∀ (s : State) (k : Fin 16384) (o : SyncObj) (b : Barrier), s.dev.obj k = some o → o.kind = .barrier b → b.decided.isSome = true →
      exec (.barrierMirrorAck k) s = .next (s.withDev (s.dev.sendOutcome k)))
    ∧ (∀ (s : State) (p : Program) (a : Attempt), s.dev.life = .run → s.dev.mpDown = false → s.dev.runProgram = some p → s.dev.attempt = some a →
      a.rescale = true → ∃ u b, exec .scaleRecomputation s = .next u ∧ u.dev.attempt = some b ∧ b.rescale = false ∧ b.step = a.step)
    ∧ (∀ (s : State) (g : Fin 1024) (u : UpdateRun) (rest : List UpdateRun) (i c : Nat) (todo : List (Nat × Nat)),
      s.dev.updates = u :: rest → u.todo = (i, c) :: todo → u.resend = [] → s.dev.wrapperClosed (peckOfGrain g) = false →
      s.dev.gated (bushelOfPeck (peckOfGrain g)) = false → s.dev.clockGood (peckOfGrain g) = true → s.dev.on FLT_ISO_X_XCH 0 = false →
      s.dev.snapshots = [] → s.dev.rebuild = [] →
      (todo ≠ [] → ∃ t v, exec (.updateChunk g) s = .next t ∧ t.dev.updates = v :: rest ∧ v.todo = todo ∧ v.step = u.step)
      ∧ (todo = [] → ∃ t, exec (.updateChunk g) s = .next t ∧ t.dev.updates = rest ∧ t.dev.snapshots = u.copies))
    ∧ (∀ (s : State), s.dev.mirrorDue = true → s.dev.life = .run → s.dev.mpDown = false → s.dev.mirroredPending = false →
      s.dev.on FLT_MIRROR_STATUS_EN 0 = false → s.dev.ordered →
      ∃ t, exec .mirrorRecordWrite s = .next t ∧ t.dev.mirrorDue = false ∧ t.dev.homeNewest = 1 - s.dev.homeNewest
        ∧ t.dev.rd FLT_MIRROR_STATUS_HOME_OK 0 = 1)
    ∧ (∀ (s : State) (stamp k : Nat), s.dev.mirrorSent = some (stamp, k) →
      exec .mirrorAck s = .next (s.withDev
        ((({ s.dev with mirrorSent := none }.wr FLT_MIRROR_STATUS_BUDDY_OK 0 0 0 1).setWord FLT_MIRROR_STEP 0 0 0 stamp).resendCopies)))
    ∧ (∀ (s : State) (key i c : Nat) (efr : Bool) (rest : List (Nat × Nat × Nat × Bool)), s.dev.snapshots = (key, i, c, efr) :: rest →
      ∃ t, exec .snapshotCopy s = .next t ∧ t.dev.snapshots = rest)
    ∧ (∀ (s : State) (tensor : BitVec 32) (chunk : Nat) (slots : List SnapSlot) (entries : List (List Byte)) (key : Nat) (p : Program)
        (x : XchTable) (t : XchTensor) (e : List Nat) (slot : SnapSlot) (sums : List (Nat × Nat × Nat)) (d : Dev), s.dev.life = .run → s.dev.mpDown = false →
      s.dev.rebuild.contains (tensor.toNat, chunk, false) = true → s.dev.tensorPlace tensor.toNat = some (key, p, x, t) →
      p.policyOf tensor.toNat = some e → recoverable e false = true → methodOf e = 2 → newerSlot s.dev.stampNow slots = some slot →
      s.dev.rollChunk key x t chunk false s.dev.stampNow slot (entries.map (fun e => e.map BitVec.toNat)) = some (sums, d) →
      ∃ u, exec (.reconstruction tensor chunk false slots entries) s = .next u ∧ u.dev.rebuild.contains (tensor.toNat, chunk, false) = false))

/-- Arrays, faults, resets of units, supplies, clocks and temperatures act as their rules say -/
def Obligations.ArrayAndFaultRowsComplete : Prop :=
  -- R138, R188, R190, R194, R195, R203, R205, R216, R219, R222, R224, R226, R240, R243, R263, R267: arrays are decided, drained, programmed,
  -- verified, restarted, calibrated and monitored.
  (
    (∀ (s : State) (a : Fin 16384) (why : DecisionWhy), s.dev.ordered → s.dev.life = .run → s.dev.mpDown = false →
      (s.dev.arr a).decisionDue = some why →
      s.dev.mayDecide a why = true → s.dev.fwdRunsOn a = false → s.dev.grainDecides (grainOf a) = false →
      s.dev.wcPresent (s.dev.binding a).tensor = true →
      ((why ≠ .rebuild ∧ (s.dev.arr a).lostList = false) ∨ s.dev.on RSD_STATUS_VALID (grainOf a) (slotOf a) = true) →
      s.dev.wrapperClosed (peckOf a) = false → s.dev.clockGood (peckOf a) = true →
      ∃ u, exec (.residualDecisionStart a) s = .next u ∧ (u.dev.arr a).decisionDue = none ∧ (u.dev.arr a).decisionRuns = some why)
    ∧ (∀ (s : State) (a : Fin 16384) (why : DecisionWhy), s.dev.ordered → (s.dev.arr a).decisionRuns = some why → s.dev.mayDecide a why = true →
      ∃ u, exec (.residualDecisionComplete a) s = .next u ∧ (u.dev.arr a).decisionRuns = none)
    ∧ (∀ (s : State) (e : QueueEntry), s.dev.ordered → s.dev.life = .run → s.dev.mpDown = false → s.dev.due = [] →
      (s.dev.arrays.filter (fun x => x.2.selected)) = [] →
      s.dev.queue.find? (fun e => s.dev.budgetOk e.array && s.dev.mayStart e.array) = some e → s.dev.arrState e.array = SERVING →
      ∃ u, exec .programSelect s = .next u ∧ (u.dev.arr e.array).selected = true ∧ u.dev.arrState e.array = DRAINING)
    ∧ (∀ (s : State) (a : Fin 16384), s.dev.ordered → s.dev.arrState a = DRAINING → (s.dev.arr a).cycles = [] →
      (∀ c, (s.dev.arr a).pendingRetire = some c → ∃ u, exec (.drainComplete a) s = .next u ∧ u.dev.arrState a = RETIRED)
      ∧ (s.dev.life = .run → s.dev.mpDown = false → (s.dev.arr a).pendingRetire = none →
        ((s.dev.arr a).selected = true ∨ s.dev.due.contains a.val = true) → s.dev.mayStart a = true →
        (s.dev.due.contains a.val = true ∨ s.dev.budgetOk a = true) → s.dev.lifeCount a < s.dev.lifeLimit →
        ∃ u, exec (.drainComplete a) s = .next u ∧ u.dev.arrState a = PROGRAMMING))
    ∧ (∀ (s : State) (a : Fin 16384) (cells : List (List Int)), s.dev.ordered → s.dev.arrState a = PROGRAMMING → (s.dev.arr a).halted = none →
      (s.dev.arr a).targetHeld = true → (s.dev.arr a).row < 1023 → s.dev.engineArray (grainOf a) = some a.val →
      (s.dev.arr a).pendingRetire = none → s.dev.on PRG_BRANCH_STATUS_ON (bushelOf a) = true →
      (s.dev.arr a).stuck ≤ s.dev.rd PRG_VERIFY_CFG_STUCK_LIMIT (grainOf a) →
      -- the first verify finds every cell of the row within TOL of its target
      (∀ c < 528, ratAbs (verifyLevel verifyLsb (cells.getD c []) - (16 * Tbl.get 0 (s.dev.arr a).target ((s.dev.arr a).row * 528 + c) : Nat))
        ≤ (s.dev.rd PRG_VERIFY_CFG_TOL (grainOf a) : Rat)) →
      ∃ u, exec (.programRow a [cells]) s = .next u ∧ (u.dev.arr a).row = (s.dev.arr a).row + 1 ∧ (u.dev.arr a).stuck = (s.dev.arr a).stuck)
    ∧ (∀ (s : State) (a : Fin 16384) (cycles : List (List Rat)) (m : List (BitVec 32)), s.dev.ordered → s.dev.arrState a = VERIFYING →
      (s.dev.arr a).passed = false → (s.dev.arr a).targetHeld = true → s.dev.on ARR_CHK_STATUS_CHK_READY (grainOf a) (slotOf a) = true →
      s.dev.engineArray (grainOf a) = some a.val → cycles.length = 4096 →
      let w := m.map BitVec.toNat
      let tol : Rat := mkRat (s.dev.rd PRG_VERIFY_CFG_REF_TOL (grainOf a)) 1000
      let thresh : Rat := ((s.dev.rd ARR_CHK_CFG_THRESH (grainOf a) (slotOf a) * verifyLsb : Nat) : Rat)
      (∀ ms ∈ cycles, ∀ k < 4, ratAbs (ms.getD k 0) ≤ thresh) →
      fpWithin (nth w 0) 1 tol = true → fpWithin (nth w 1) 1 tol = true → fpWithin (nth w 2) 1 tol = true → fpWithin (nth w 3) 0 (mkRat 1 4) = true →
      ∃ u, exec (.verificationComplete a cycles m) s = .next u ∧ (u.dev.arr a).passed = true ∧ (u.dev.arr a).decisionDue = some .program)
    ∧ (∀ (s : State) (a : Fin 16384), s.dev.ordered → s.dev.life = .run → s.dev.mpDown = false → s.dev.arrState a = PROGRAMMING → (s.dev.arr a).halted ≠ none →
      (s.dev.arr a).targetHeld = true → s.dev.on PRG_BRANCH_STATUS_ON (bushelOf a) = true → s.dev.wrapperClosed (peckOf a) = false →
      s.dev.gated (bushelOf a) = false → s.dev.inhibited.contains (bushelOf a) = false → s.dev.rd RST_PWR_STATE_STATE 0 = 0 →
      (s.dev.engineArray (grainOf a) = none ∨ s.dev.engineArray (grainOf a) = some a.val) → (s.dev.arr a).pendingRetire = none →
      s.dev.clockGood (peckOf a) = true →
      ∃ u, exec (.attemptRestart a) s = .next u ∧ (u.dev.arr a).halted = none ∧ (u.dev.arr a).row = 0 ∧ (u.dev.arr a).attempt = (s.dev.arr a).attempt)
    ∧ (∀ (s : State) (a : Fin 16384) (t : Tbl Int), s.dev.life = .run → s.dev.mpDown = false → s.dev.unbound a = false →
      s.dev.arrState a ≠ PROGRAMMING → s.dev.clockGood (peckOf a) = true → s.dev.ordered →
      s.dev.on ARR_CHK_STATUS_CHK_READY (grainOf a) (slotOf a) = false →
      correctionTable (s.dev.arr a).verified (s.dev.rd ARR_CHK_CFG_DIV_LOG2 (grainOf a) (slotOf a)) = some t →
      ∃ u, exec (.checksumTableRebuild a) s = .next u ∧ u.dev.on ARR_CHK_STATUS_CHK_READY (grainOf a) (slotOf a) = true)
    ∧ (∀ (s : State) (b : Fin 16) (mA mV : Nat) (pulsing : Bool) (us : Nat), s.dev.ordered → 400 < mA → 1 ≤ us →
      ∃ u, exec (.branchFault b ⟨mA, mV, pulsing, us⟩) s = .next u ∧ u.dev.rd PRG_BRANCH_STATUS_LATCHED b = 1 ∧ u.dev.rd PRG_BRANCH_STATUS_ON b = 0
        ∧ u.dev.rd PRG_BRANCH_STATUS_OVC b = 1)
    ∧ (∀ (s : State), s.dev.life = .run → s.dev.mpDown = false →
      (s.dev.lastFlush + 600000000000 ≤ s.dev.time ∨ s.dev.arrays.any (fun e => decide (60 ≤ e.2.lifeGrowth)) = true) →
      ∃ u, exec .metadataFlush s = .next u ∧ u.dev.clean = true ∧ u.dev.lastFlush = s.dev.time ∧ u.dev.flash = s.dev.metaWords)
    ∧ (∀ (s : State) (a : Fin 16384) (gains offsets : List Int), s.dev.ordered → s.dev.mayDwell a = true →
      s.dev.on CNV_CAL_STATUS_ROTATING (grainOf a) (slotOf a) = false →
      ∃ u, exec (.calibrationDwell a gains offsets) s = .next u ∧ u.dev.on CNV_CAL_STATUS_ROTATING (grainOf a) (slotOf a) = true)
    ∧ (∀ (s : State) (a : Fin 16384), s.dev.ordered → s.dev.on CNV_CAL_STATUS_ROTATING (grainOf a) (slotOf a) = true → s.dev.calPaused a = false →
      s.dev.trimAtEnd a (s.dev.rd CNV_CAL_STATUS_POS (grainOf a) (slotOf a)) = false → s.dev.on CNV_CAL_CFG_EN (grainOf a) (slotOf a) = true →
      ∃ u, exec (.calibrationCheck a) s = .next u ∧ u.dev.on CNV_CAL_STATUS_ROTATING (grainOf a) (slotOf a) = false
        ∧ u.dev.rd CNV_CAL_STATUS_POS (grainOf a) (slotOf a) = (s.dev.rd CNV_CAL_STATUS_POS (grainOf a) (slotOf a) + 1) % 67)
    ∧ (∀ (s : State) (b : Fin 16), s.dev.ordered → s.dev.gated b = false → s.dev.powerState ≤ 1 → s.dev.held = false → bit s.dev.railsOn b = true →
      ∃ u, exec (.referenceSettled b) s = .next u ∧ u.dev.on CNV_REF_STATUS_SETTLED b = true)
    ∧ (∀ (s : State) (b : Fin 16) (mv : Nat), s.dev.ordered → (mv < 1225 ∨ 1275 < mv) → s.dev.rd CNV_REF_STATUS_ACTIVE b = 1 →
      ∃ u, exec (.extRefFault b mv) s = .next u ∧ u.dev.on CNV_REF_STATUS_EXT_FAULT b = true)
    ∧ (∀ (s : State) (b : Fin 16) (i : Fin 512) (n : Fin 16) (codes : List Int) (readings : List (BitVec 32)) (wait : Nat),
      let e := s.dev.scanEntry CNV_MON_ACTIVE_ENTRY b i
      let x := bits e 29 24 * 16 + n
      s.dev.ordered → s.dev.monRuns b = true → (s.dev.scanPlan b).1[Tbl.get 0 s.dev.monAt b]? = some (i.val, n.val, wait) →
      s.dev.monWaited b wait = true → bits e 63 61 = 0 → x < 1024 → s.dev.monSkips (b * 1024 + x) = true →
      ∃ u, exec (.monitorReading b i n ⟨codes, readings⟩) s = .next u ∧ u.dev.rd CNV_MON_STATUS_ENTRY b = i
        ∧ u.dev.rd CNV_MON_RES_FLAG_SKIPPED b x = 1)
    ∧ (∀ (s : State) (b : Fin 16) (i : Fin 512) (n : Fin 16) (codes : List Int) (readings : List (BitVec 32)) (wait : Nat),
      let e := s.dev.scanEntry CNV_MON_ACTIVE_ENTRY b i
      let x := bits e 29 24 * 16 + n
      s.dev.ordered → s.dev.monRuns b = true → (s.dev.scanPlan b).1[Tbl.get 0 s.dev.monAt b]? = some (i.val, n.val, wait) →
      s.dev.monWaited b wait = true → bits e 63 61 = 0 → x < 1024 → s.dev.monSkips (b * 1024 + x) = false → s.dev.slotFree (b * 1024 + x) = true →
      s.dev.on CNV_REF_STATUS_SETTLED b = false →
      ∃ u, exec (.monitorReading b i n ⟨codes, readings⟩) s = .next u ∧ u.dev.rd CNV_MON_STATUS_ENTRY b = i
        ∧ (u.dev.arr (b * 1024 + x)).monGroup = ((s.dev.arr (b * 1024 + x)).monGroup + 1) % 8 ∧ (u.dev.arr (b * 1024 + x)).monSeen = true)
    ∧ (∀ (s : State) (b : Fin 16) (deviation : Int), s.dev.ordered → s.dev.on CNV_MON_CTRL_RUN b = true → s.dev.monPowered b = true →
      (s.dev.scanPlan b).1.length ≤ Tbl.get 0 s.dev.monAt b → s.dev.monWaited b (s.dev.scanPlan b).2 = true → deviation.natAbs ≤ 4 →
      s.dev.monArmed.contains b.val = false → (∀ x < 1024, (s.dev.arr (b * 1024 + x)).awaitsMonitor = false) →
      ∃ u, exec (.monitorPassEnd b deviation) s = .next u ∧ u.dev.rd CNV_MON_PASS_PASS b = (s.dev.rd CNV_MON_PASS_PASS b + 1) % 2 ^ 32
        ∧ Tbl.get 0 u.dev.monAt b = 0))
  -- R468, R469, R470, R471, R474, R477: faults are recorded and act by their class; units are reset and released.
  ∧ (
    (∀ (s : State) (source unit : Fin 256) (code : BitVec 16), s.dev.life = .run → s.dev.ordered →
      -- a correctable class, a block-contained one, a device-lost one
      (1 ≤ source.val → source.val ≤ 3 → ∃ t, exec (.faultDetected source unit code) s = .next t ∧ t.dev.rd FLT_LAST_CLASS 0 = 0
        ∧ t.dev.rd FLT_LAST_SOURCE 0 = source ∧ t.dev.rd FLT_CE_CNT_COUNT 0 = satAdd 32 (s.dev.rd FLT_CE_CNT_COUNT 0) 1)
      ∧ (5 ≤ source.val → source.val ≤ 7 → unit.val < 128 → ∃ t, exec (.faultDetected source unit code) s = .next t
        ∧ t.dev.unitClosed unit = true ∧ (Tbl.find t.dev.recovering unit.val).isSome = true)
      ∧ (source.val = 0x0C ∨ source.val = 0x0D → ∃ t, exec (.faultDetected source unit code) s = .next t ∧ t.dev.life = .starting)
      ∧ (source.val = 0x0C ∨ source.val = 0x0D ∨ source.val = 0x0F → ∃ t, exec (.deviceLost source) s = .next t ∧ t.dev.life = .starting
        ∧ t.dev.rd RST_CAUSE_SOURCE 0 = 0x07))
    ∧ (∀ (s : State) (source unit : Fin 256) (code : BitVec 16), s.dev.ordered → ∃ t, exec (.correctableError source unit code) s = .next t
      ∧ t.dev.rd FLT_LAST_UNIT 0 = unit ∧ t.dev.rd FLT_CE_CNT_COUNT 0 = satAdd 32 (s.dev.rd FLT_CE_CNT_COUNT 0) 1)
    ∧ (∀ (s : State) (stack : Fin 6) (at_ : Nat), let a := hbmAddress stack at_
      s.dev.life = .run → at_ < 80000000000 → (s.dev.repairRegion a).1 = false →
      exec (.hbmUncorrectable stack at_ .other) s = .next (s.withDev ((s.dev.repairRegion a).2.correctable 0x04 (0x90 + stack) 0)))
    ∧ (∀ (s : State) (stack : Fin 6) (at_ : Nat), let a := hbmAddress stack at_
      s.dev.life = .run → at_ < 80000000000 → (s.dev.repairRegion a).1 = true →
      exec (.hbmUncorrectable stack at_ .other) s = .next (s.withDev
        ((((s.dev.repairRegion a).2.recordFault 1 0x04 (0x90 + stack) 0).count FLT_BLOCK_CNT_COUNT 0 0).markIsolated)))
    ∧ (∀ (s : State) (u : Fin 137), s.dev.life = .run → s.dev.ordered → ∃ t, exec (.blockReset u) s = .next t
      ∧ t.dev.unitClosed u = true ∧ (Tbl.find t.dev.recovering u.val).isSome = true)
    ∧ (∀ (s : State) (u : Fin 137) (since source : Nat), Tbl.find s.dev.recovering u.val = some (since, source) →
      (u.val = 0x88 → exec (.blockResetRelease u) s = .next (s.withDev ((s.dev.openUnit u since source).powerWaiters)))
      ∧ (0x80 ≤ u.val → u.val < 0x88 → exec (.blockResetRelease u) s = .next (s.withDev
        (((s.dev.openUnit u since source).modPort (u - 0x80) (fun r => { r with retryNow := true, blockReleased := true })).powerWaiters)))
      ∧ (∀ d, u.val < 128 → s.dev.powered u = true → s.dev.controlRestore u = some d → exec (.blockResetRelease u) s = .next (s.withDev
        ((((d.openUnit u since source).setVcore (bushelOfPeck u)).peckReturns u).powerWaiters)))))
  -- R611 to R617, R622, R624, R626, R628, R632 to R634, R661, R665: rails, clocks, power and temperature; a Peck idles; the rails stop.
  ∧ (
    (∀ (s : State) (c : Fin 32) (cause : Fin 4), bit s.dev.railsOn c = true → c.val = 0x1C → s.dev.ordered →
      ∃ t, exec (.railFault c cause) s = .next t ∧ bit t.dev.railsOn 0x1C = false ∧ t.dev.vprgFaults = s.dev.vprgFaults + 1)
    ∧ (∀ (s : State) (c : Fin 32) (cause : Fin 4), bit s.dev.railsOn c = true → 16 ≤ c.val → c.val < 0x1C → s.dev.ordered →
      ∃ t, exec (.railFault c cause) s = .next t ∧ t.dev.life = .off ∧ t.dev.rd RST_OFF_CAUSE_CAUSE 0 = 4)
    ∧ (∀ (s : State) (b : Fin 16) (t : Nat), Tbl.find s.dev.vcoreFaults b = some t → t + 1000000 ≤ s.dev.time → bit s.dev.railsOn b = false →
      s.dev.gated b = false → (s.dev.life = .run ∨ s.dev.life = .starting) → s.dev.powerState ≠ 2 → s.dev.ordered →
      ∃ u, exec (.vcoreRestart b) s = .next u ∧ bit u.dev.railsOn b = true ∧ u.dev.rd PWR_VCORE_SET b = 800)
    ∧ (∀ (s : State), s.dev.vprgFaults = 1 → bit s.dev.railsOn 0x1C = false → (s.dev.life = .run ∨ s.dev.life = .starting) →
      s.dev.powerState ≠ 2 → ∃ t, exec .vprgRestart s = .next t ∧ bit t.dev.railsOn 0x1C = true)
    ∧ (∀ (s : State) (b : Fin 20), b.val < 16 →
      (∃ t, exec (.programmingInhibit b true) s = .next t ∧ t.dev.inhibited.contains b.val = true)
      ∧ (∃ t, exec (.programmingInhibit b false) s = .next t ∧ t.dev.inhibited.contains b.val = false))
    ∧ (∀ (s : State) (c : Fin 32), s.dev.ordered → bit s.dev.railsOn c = true → c.val ≤ 0x1C → bit (s.dev.word PWR_SENSE_STATUS 0) c = false →
      s.dev.word PWR_SENSE_STATUS 0 < 2 ^ 32 →
      ∃ t, exec (.senseLost c) s = .next t ∧ bit (t.dev.word PWR_SENSE_STATUS 0) c = true)
    ∧ (∀ (s : State) (c : Fin 32) (phase : Fin 16), s.dev.ordered → bit s.dev.railsOn c = true → c.val ≤ 0x1C →
      bit (s.dev.word PWR_PHASE_SHED 0) c = false → s.dev.word PWR_PHASE_SHED 0 < 2 ^ 32 →
      ∃ t, exec (.phaseShed c phase) s = .next t ∧ bit (t.dev.word PWR_PHASE_SHED 0) c = true)
    ∧ (∀ (s : State), s.dev.life ≠ .off → s.dev.ordered → ∃ t, exec .peakPower s = .next t
      ∧ t.dev.rd PWR_LEVEL_POWER 0 = min 11 (s.dev.rd PWR_LEVEL_POWER 0 + 4))
    ∧ (∀ (s : State) (mean volt curr : BitVec 16), s.dev.life ≠ .off → s.dev.ordered → s.dev.levelAt + 1000000 ≤ s.dev.time →
      9 * s.dev.rd PWR_LIMIT_LIMIT 0 ≤ mean.toNat → mean.toNat ≤ 10 * s.dev.rd PWR_LIMIT_LIMIT 0 →
      ∃ t, exec (.powerEvaluation mean volt curr) s = .next t ∧ t.dev.rd PWR_INPUT_P_POWER 0 = mean.toNat
        ∧ t.dev.rd PWR_INPUT_VOLT 0 = volt.toNat ∧ t.dev.rd PWR_INPUT_CURR 0 = curr.toNat ∧ t.dev.rd PWR_LEVEL_POWER 0 = s.dev.rd PWR_LEVEL_POWER 0)
    ∧ (∀ (s : State) (mean volt curr : BitVec 16), s.dev.life ≠ .off → s.dev.ordered → s.dev.levelAt + 1000000 ≤ s.dev.time →
      10 * s.dev.rd PWR_LIMIT_LIMIT 0 < mean.toNat → s.dev.rd PWR_LEVEL_POWER 0 < 11 →
      ∃ t, exec (.powerEvaluation mean volt curr) s = .next t ∧ t.dev.rd PWR_LEVEL_POWER 0 = s.dev.rd PWR_LEVEL_POWER 0 + 1
        ∧ t.dev.levelAt = s.dev.time)
    ∧ (∀ (s : State) (b : Fin 16) (up : Bool) (m : BitVec 16), bit s.dev.railsOn b = true → s.dev.ordered →
      ∃ t, exec (.avsStep b up m) s = .next t ∧ t.dev.rd PWR_VCORE_MEAS b = m.toNat % 2 ^ (PWR_VCORE_MEAS.hi + 1 - PWR_VCORE_MEAS.lo)
        ∧ t.dev.rd PWR_VCORE_SET b = (if up then min 850 (s.dev.rd PWR_VCORE_SET b + 5) else max 650 (s.dev.rd PWR_VCORE_SET b - 5))
            % 2 ^ (PWR_VCORE_SET.hi + 1 - PWR_VCORE_SET.lo))
    ∧ (∀ (s : State) (ppm : Int), s.dev.life ≠ .off → s.dev.ordered → 500 < ppm.natAbs → s.dev.on CLK_REF_STATUS_INTERNAL 0 = false →
      ∃ t, exec (.refclkLost ppm) s = .next t ∧ t.dev.on CLK_REF_STATUS_INTERNAL 0 = true ∧ t.dev.on CLK_REF_STATUS_LOST 0 = true
        ∧ t.dev.on CLK_REF_STATUS_EXT_OK 0 = false)
    ∧ (∀ (s : State) (b : Fin 16) (t : Int), s.dev.life ≠ .off → s.dev.ordered → 1050 ≤ t → s.dev.rd PWR_THERM_LEVEL_LEVEL b < 11 →
      ∃ u, exec (.thermalThrottle b t true) s = .next u ∧ u.dev.rd PWR_THERM_LEVEL_LEVEL b = s.dev.rd PWR_THERM_LEVEL_LEVEL b + 1
        ∧ u.dev.rd PWR_TEMP_NOW b = unsigned 16 t)
    ∧ (∀ (s : State) (t : Int), s.dev.life ≠ .off → s.dev.ordered → 950 ≤ t → s.dev.rd PWR_LEVEL_HBM 0 < 11 →
      ∃ u, exec (.hbmLevelChange t true) s = .next u ∧ u.dev.rd PWR_LEVEL_HBM 0 = s.dev.rd PWR_LEVEL_HBM 0 + 1)
    ∧ (∀ (s : State) (u : Fin 32) (t : Int), s.dev.life ≠ .off → s.dev.ordered → (u.val < 16 ∧ 1150 ≤ t ∨ 16 ≤ u.val ∧ 1050 ≤ t) →
      ∃ v, exec (.thermalTrip u t) s = .next v ∧ v.dev.life = .off ∧ v.dev.rd RST_OFF_CAUSE_CAUSE 0 = 3)
    ∧ (∀ (s : State) (p : Fin 128), s.dev.ordered → s.dev.mayIdle p = true → ∃ v, exec (.peckIdleEntry p) s = .next v
      ∧ v.dev.on RST_PECK_STATUS_IDLE p = true)
    ∧ (∀ (s : State) (p : Fin 128), s.dev.ordered → s.dev.on RST_PECK_STATUS_IDLE p = true → ∃ v, exec (.peckIdleExit p) s = .next v
      ∧ v.dev.on RST_PECK_STATUS_IDLE p = false)
    ∧ (∀ (s : State) (t : Nat), s.dev.powerDown = some t → t ≤ s.dev.time → s.dev.life ≠ .off → s.dev.ordered →
      ∃ v, exec .powerDownRailStop s = .next v ∧ v.dev.life = .off ∧ v.dev.rd RST_OFF_CAUSE_CAUSE 0 = 1))

/-- Ports, flits, packets and host link events complete as their rules say -/
def Obligations.PortAndPacketRowsComplete : Prop :=
  -- R571, R575, R578 to R581, R588, R589, R597 to R599, R693, R694, R555: the ports come up and go down, flits are taken and sent, answers
  -- fall due, and the host's link and the SPDM responder answer.
  (
    (∀ (s : State) (p : Fin 8), s.dev.ordered → s.dev.portFree p = true →
      (s.dev.portState p = pDown → s.dev.on FUR_PORT_STATUS_EN p = true →
        ((s.dev.port p).retryNow = true ∨ (s.dev.port p).since + s.dev.rd FUR_RETRY_CFG_RETRY p * 1000000 ≤ s.dev.time) →
        ∃ t, exec (.portRetry p) s = .next t ∧ t.dev.portState p = pDetect)
      ∧ (s.dev.portState p = pDetect → ∀ opens shorts : Fin 16,
        (opens = 0 → shorts = 0 → ∃ t, exec (.detectComplete p opens shorts) s = .next t ∧ t.dev.portState p = pTrain)
        ∧ (opens ≠ 0 → ∃ t, exec (.detectComplete p opens shorts) s = .next t ∧ t.dev.portState p = pDown ∧ t.dev.rd FUR_PORT_STATUS_DOWN_CAUSE p = 0x02)
        ∧ (opens = 0 → shorts ≠ 0 → ∃ t, exec (.detectComplete p opens shorts) s = .next t ∧ t.dev.portState p = pDown
          ∧ t.dev.rd FUR_PORT_STATUS_DOWN_CAUSE p = 0x03))
      ∧ (s.dev.portState p = pTrain → ∀ (polarity : Fin 16) (logical : List (Fin 4)),
        ∃ t, exec (.trainComplete p polarity logical) s = .next t ∧ t.dev.portState p = pIdentify ∧ t.dev.rd FUR_PORT_STATUS_LANES_OK p = 15)
      ∧ (s.dev.portState p = pTrain → (s.dev.port p).since + 500000000 ≤ s.dev.time →
        ∃ t, exec (.trainTmo p) s = .next t ∧ t.dev.portState p = pDown ∧ t.dev.rd FUR_PORT_STATUS_DOWN_CAUSE p = 0x04)
      ∧ (s.dev.portState p = pIdentify → ∀ (theirs : Fin 8) (node : Fin 4096) (valid : Bool) (version : BitVec 32) (hash : BitVec 256),
        hash.toNat ≠ Config.identityHash.toNat → version.toNat / 2 ^ 24 = s.dev.firmwareVersion / 2 ^ 24 →
        ∃ t, exec (.identifyFlitReceived p theirs node valid version hash) s = .next t ∧ t.dev.portState p = pAttest
          ∧ t.dev.rd FUR_PARTNER_PORT p = theirs ∧ t.dev.rd FUR_PARTNER_NODE p = node)
      ∧ (s.dev.portState p = pIdentify → (s.dev.port p).since + 10000000 ≤ s.dev.time →
        ∃ t, exec (.idTmo p) s = .next t ∧ t.dev.portState p = pDown ∧ t.dev.rd FUR_PORT_STATUS_DOWN_CAUSE p = 0x05)
      ∧ (s.dev.portState p = pAttest → (s.dev.port p).since + 50000000 ≤ s.dev.time →
        ∃ t, exec (.attestTmo p) s = .next t ∧ t.dev.portState p = pDown ∧ t.dev.rd FUR_PORT_STATUS_DOWN_CAUSE p = 0x09))
    ∧ (∀ (s : State) (p : Fin 8) (msg : BitVec 8) (index count : BitVec 16) (len : BitVec 32) (zeros : BitVec 16) (bytes : List Byte) (a b e : List Nat),
      let d := s.dev.modPort p (fun r => { r with
        attest := Tbl.put (Tbl.put r.attest (msg.toNat * 65536 + index.toNat) (bytes.map BitVec.toNat)) (2 ^ 24 + msg.toNat) [count.toNat, len.toNat] })
      s.dev.portFree p = true → s.dev.portState p = pAttest → 2 ≤ msg.toNat → msg.toNat ≤ 4 → index.toNat < count.toNat →
      (d.port p).whole 2 = some a → (d.port p).whole 3 = some b → (d.port p).whole 4 = some e →
      partnerAccepted (d.port p).partnerHash e (Config.transcript [a, b] p) = true →
      exec (.attestMessageReceived p msg index count len zeros bytes) s = .next (s.withDev (d.portUp p [a, b, e])))
    ∧ (∀ (s : State) (p : Fin 8), s.dev.ordered → s.dev.portsRun = true → s.dev.portState p = pUp →
      (∀ lanes : Fin 16, lanes ≠ 0 → ∃ t, exec (.laneLockLost p lanes) s = .next t ∧ t.dev.portState p = pDown
        ∧ t.dev.rd FUR_PORT_STATUS_DOWN_CAUSE p = 0x0A)
      ∧ (∀ (ack : BitVec 24) (flags : BitVec 8) (seq : BitVec 24) (credits : List (BitVec 12)), bit flags.toNat 2 = true →
        ∃ t, exec (.linkFlitReceived p ack flags seq credits true) s = .next t ∧ t.dev.portState p = pDown
          ∧ t.dev.rd FUR_PORT_STATUS_DOWN_CAUSE p = 0x0D)
      ∧ (∀ (ack seq : BitVec 24), exec (.linkFlitReceived p ack 0 seq [] true) s = .next (s.withDev (s.dev.pump p)))
      ∧ (∃ t, exec (.linkFlitSend p) s = .next t ∧ t.dev.out.length = s.dev.out.length + 1
        ∧ (t.dev.port p).lcount = (s.dev.port p).lcount + 1 ∧ (t.dev.port p).nackDue = false)
      ∧ ((2 ^ 31 ≤ (s.dev.port p).packetNo ∨ (s.dev.port p).epochStart + 3600000000000 ≤ s.dev.time) →
        ∃ t, exec (.keyEpochChange p) s = .next t ∧ t.dev.rd FUR_KEY_EPOCH_EPOCH p = (s.dev.rd FUR_KEY_EPOCH_EPOCH p + 1) % 2 ^ 32
          ∧ (t.dev.port p).packetNo = 0 ∧ (t.dev.port p).epochStart = s.dev.time)
      ∧ (∀ (seq : BitVec 24) (fixed : Nat) (pk : Packet) (m : MgmtContent), pk.lawful pk.dflits = true → pk.dflits < 256 →
        seq.toNat = s.dev.rd FUR_RX_SEQ_SEQ p →
        let d := (s.dev.count FUR_FEC_CORR_CNT_COUNT p 0 fixed).count FUR_FEC_UNCORR_CNT_COUNT p 0 0
        exec (.headPacketReceived p seq 0 fixed true (BitVec.ofNat 8 pk.dflits) pk m) s = .next (s.withDev ((d.acceptSeq p seq.toNat).receive p pk m))))
    ∧ (∀ (s : State) (t : Fin 16384) (o : Outstanding), Tbl.find s.dev.outstanding t = some o → o.sent + 20000000 ≤ s.dev.time →
      exec (.e2eTimeout t) s = .next (s.withDev ((s.dev.count FUR_E2E_TIMEOUT_CNT_COUNT 0 0).completeTag t .linkDown [])))
    ∧ (∀ (s : State) (e : DuePair), s.dev.duePairs = [e] → e.due ≤ s.dev.time →
      ∃ t, exec .deliveryPairsDue s = .next t ∧ t.dev.duePairs = [])
    ∧ (∀ (s : State), s.dev.life = .run → s.dev.mpDown = false →
      (s.dev.spdmSessions < 4 → ∃ t, exec (.spdmRequest .keyExchange) s = .next t ∧ t.dev.spdmSessions = s.dev.spdmSessions + 1
        ∧ t.dev.out = s.dev.out ++ [.spdm (.answer (Config.spdmAnswer s.dev.freeCount))])
      ∧ (∃ t, exec (.spdmRequest .getVersion) s = .next t ∧ t.dev.out = s.dev.out ++ [.spdm (.answer (Config.spdmAnswer s.dev.freeCount))]))
    ∧ (∀ (s : State) (k : Fin 4), s.dev.life ≠ .off → ∃ t, exec (.ideFail k) s = .next t ∧ t.dev.ideInsecure.contains k.val = true)
    ∧ (∀ (s : State) (tag : Fin 65536) (i u : Nat), Tbl.find s.dev.hostReads tag = some (i, u) →
      let d := { s.dev with hostReads := Tbl.del s.dev.hostReads tag }
      exec (.pcieCompletionTimeout tag) s = .next (s.withDev ((d.chainAnswered i u).modTask i (fun t =>
        if t.faultCause.isSome || t.ending.isSome then t else { t with faultCause := some .timeout })))
      ∧ ∀ data, exec (.pcieCompletionReceived tag (some data)) s = .next (s.withDev (d.chainData i u 0 (data.map BitVec.toNat)))))
  -- R384, R388, R389, R392, R395, R397, R414, R416, R431, R586, R589, R592, R643, R721: an accepted packet for this module is taken by its
  -- type: its effect, the pair that answers it, and its buffer free again.
  ∧ (
    ∀ (s : State) (port : Fin 8) (p : Packet), s.dev.lands port p →
      let took := fun (d : Dev) => s.withDev (s.dev.taken port p (d.addPair p.src p.ttag .ok))
      (p.typ = tyMemWr → s.dev.windowAllows p.src p.addr p.length true = true →
        exec (.memWrReceived port p) s = .next (took (s.dev.setBytes (devCell p.addr) (p.body.take p.length))))
      ∧ (p.typ = tyMemRd → s.dev.windowAllows p.src p.addr p.length false = true →
        exec (.memRdReceived port p) s = .next (s.withDev (s.dev.taken port p
          (s.dev.originate { typ := tyMemCpl, dst := p.src, src := 0, ttag := p.ttag, length := p.length, addr := p.addr, status := 0
                             body := s.dev.bytes (devCell p.addr) p.length } .forgotten false).2)))
      ∧ (p.typ = tyMemCpl → exec (.memCplReceived port p) s = .next (s.withDev (s.dev.taken port p
        (s.dev.completeTag p.ttag (Status.ofCode p.status) (p.body.take p.length)))))
      ∧ (p.typ = tyDelivery → p.length = 4 → exec (.deliveryReceived port p) s = .next (s.withDev (s.dev.taken port p
        (s.dev.completeTag (leAt p.body 0 2 % 16384) (Status.ofCode (nth p.body 2)) []))))
      ∧ (p.typ = tyReset → s.dev.credentialOk (p.body.drop 192) (nth p.body 0) (nth p.body 1) = true → nth p.body 0 = 2 → nth p.body 1 < 16 →
        exec (.resetReqReceived port p) s = .next (s.withDev (s.dev.taken port p
          ((((s.dev.takeCounter (p.body.drop 192)).addPair p.src p.ttag .ok).sendPairs p.src).contextReset (nth p.body 1) 0x13))))
      ∧ (∀ m, p.typ = tyMgmt → exec (.mgmtMsgReceived port p m) s = .next (s.withDev (s.dev.taken port p
        ((s.dev.addPair p.src p.ttag .ok).mgmtContent p m))))
      ∧ (p.typ = tySync → p.op = 1 → exec (.syncOpSignal port p) s = .next (took
          (s.dev.remoteSignal p.src port p.ctx p.octx p.vid p.gen (signed 16 p.value) p.waiter)))
      ∧ (p.typ = tySync → p.op = 2 → exec (.syncOpWait port p) s = .next (took
          (s.dev.remoteWait p.src p.octx p.vid p.gen (bit (nth p.body 1) 0) p.value p.waiter)))
      ∧ (p.typ = tySync → p.op = 3 → exec (.syncOpRelease port p) s = .next (took (s.dev.remoteAnswer p.src p.waiter p.value p.opStatus p.step)))
      ∧ (p.typ = tySync → p.op = 4 → exec (.syncOpWithdraw port p) s = .next (took (s.dev.remoteWithdraw p.src p.waiter)))
      ∧ (p.typ = tySync → p.op = 5 → exec (.barrierSignal port p) s = .next (took
          (s.dev.barrierMessage p.src p.octx p.vid p.gen p.step p.attempt (bit (nth p.body 1) 1) (bits (nth p.body 1) 3 2))))
      ∧ (p.typ = tySync → p.op = 6 → s.dev.barrierRef = .remote p.src p.octx p.vid p.gen →
          exec (.barrierOutcome (some (port, p))) s = .next (took (s.dev.barrierOutcome (some ⟨nth p.body 12, p.step, p.attempt⟩))))
      ∧ (p.typ = tySync → p.op = 7 → exec (.mapProbe port p) s = .next (took (s.dev.mapProbe p.src p.octx p.vid p.gen p.waiter)))
      ∧ (p.typ = tySync → p.op = 8 → waiterKind p.waiter = 2 →
          exec (.probeReply port p) s = .next (took (s.dev.probeReply (bits p.waiter 19 16) (bits p.waiter 2 0) p.opStatus)))
      ∧ (p.typ = tyExch → s.dev.on FLT_ISO_X_XCH 0 = false → nth p.body 0 ≠ 3 →
          exec (.exchContributionReceived port p) s = .next (took (s.dev.contributionArrives p.body)))
      ∧ (p.typ = tyExch → s.dev.on FLT_ISO_X_XCH 0 = false → nth p.body 0 = 3 →
          exec (.workingCopyReceived port p) s = .next (took (s.dev.copyArrives (2 * port + p.sub) p.body))))
end

