-- ==== Sys2Proof/Laws/State.lean ====
section
/-! SUPPORT. One lemma per field of the state per basic update, each true by definition: no proof unfolds a record update. -/
namespace Sys2Proof.Machine

variable (s : State) (d : Dev)

@[simp] theorem State.tick_pending : s.tick.pending = s.pending := rfl
@[simp] theorem State.tick_fuses : s.tick.fuses = s.fuses := rfl
@[simp] theorem State.reset_pending : State.reset.pending = [] := rfl
@[simp] theorem State.reset_dev : State.reset.dev = {} := rfl
@[simp] theorem State.reset_fuses : State.reset.fuses = {} := rfl

section
variable (r : Reg) (u n k v : Nat)

@[simp] theorem Dev.setWord_mem : (d.setWord r u n k v).mem = d.mem := rfl
@[simp] theorem Dev.setWord_freeCount : (d.setWord r u n k v).freeCount = d.freeCount := rfl
@[simp] theorem Dev.setWord_time : (d.setWord r u n k v).time = d.time := rfl
@[simp] theorem Dev.setWord_arrays : (d.setWord r u n k v).arrays = d.arrays := rfl
@[simp] theorem Dev.setWord_queue : (d.setWord r u n k v).queue = d.queue := rfl
@[simp] theorem Dev.setWord_due : (d.setWord r u n k v).due = d.due := rfl
@[simp] theorem Dev.setWord_programs : (d.setWord r u n k v).programs = d.programs := rfl
@[simp] theorem Dev.setWord_runs : (d.setWord r u n k v).runs = d.runs := rfl
@[simp] theorem Dev.setWord_runStarted : (d.setWord r u n k v).runStarted = d.runStarted := rfl
@[simp] theorem Dev.setWord_attempt : (d.setWord r u n k v).attempt = d.attempt := rfl
@[simp] theorem Dev.setWord_ctxs : (d.setWord r u n k v).ctxs = d.ctxs := rfl
@[simp] theorem Dev.setWord_flash : (d.setWord r u n k v).flash = d.flash := rfl
@[simp] theorem Dev.setWord_flashCodes : (d.setWord r u n k v).flashCodes = d.flashCodes := rfl
@[simp] theorem Dev.setWord_clean : (d.setWord r u n k v).clean = d.clean := rfl
@[simp] theorem Dev.setWord_lastFlush : (d.setWord r u n k v).lastFlush = d.lastFlush := rfl
@[simp] theorem Dev.setWord_coldStart : (d.setWord r u n k v).coldStart = d.coldStart := rfl
@[simp] theorem Dev.setWord_minInterval : (d.setWord r u n k v).minInterval = d.minInterval := rfl
@[simp] theorem Dev.setWord_lifeLimit : (d.setWord r u n k v).lifeLimit = d.lifeLimit := rfl
@[simp] theorem Dev.setWord_wcMissing : (d.setWord r u n k v).wcMissing = d.wcMissing := rfl
@[simp] theorem Dev.setWord_quietAt : (d.setWord r u n k v).quietAt = d.quietAt := rfl
@[simp] theorem Dev.setWord_idleAt : (d.setWord r u n k v).idleAt = d.idleAt := rfl
@[simp] theorem Dev.setWord_monWaits : (d.setWord r u n k v).monWaits = d.monWaits := rfl
@[simp] theorem Dev.setWord_monAt : (d.setWord r u n k v).monAt = d.monAt := rfl
@[simp] theorem Dev.setWord_monSince : (d.setWord r u n k v).monSince = d.monSince := rfl
@[simp] theorem Dev.setWord_extRefBad : (d.setWord r u n k v).extRefBad = d.extRefBad := rfl
@[simp] theorem Dev.setWord_monArmed : (d.setWord r u n k v).monArmed = d.monArmed := rfl
@[simp] theorem Dev.setWord_monLen : (d.setWord r u n k v).monLen = d.monLen := rfl
@[simp] theorem Dev.setWord_monLast : (d.setWord r u n k v).monLast = d.monLast := rfl
@[simp] theorem Dev.setWord_lcWaiters : (d.setWord r u n k v).lcWaiters = d.lcWaiters := rfl
@[simp] theorem Dev.setWord_lcLast : (d.setWord r u n k v).lcLast = d.lcLast := rfl
@[simp] theorem Dev.setWord_objects : (d.setWord r u n k v).objects = d.objects := rfl
@[simp] theorem Dev.setWord_gens : (d.setWord r u n k v).gens = d.gens := rfl
@[simp] theorem Dev.setWord_vmap : (d.setWord r u n k v).vmap = d.vmap := rfl
@[simp] theorem Dev.setWord_formerly : (d.setWord r u n k v).formerly = d.formerly := rfl
@[simp] theorem Dev.setWord_remoteWaits : (d.setWord r u n k v).remoteWaits = d.remoteWaits := rfl
@[simp] theorem Dev.setWord_fbQueue : (d.setWord r u n k v).fbQueue = d.fbQueue := rfl
@[simp] theorem Dev.setWord_ingestDone : (d.setWord r u n k v).ingestDone = d.ingestDone := rfl
@[simp] theorem Dev.setWord_outcomeDue : (d.setWord r u n k v).outcomeDue = d.outcomeDue := rfl
@[simp] theorem Dev.setWord_lastOutcome : (d.setWord r u n k v).lastOutcome = d.lastOutcome := rfl
@[simp] theorem Dev.setWord_lastCommit : (d.setWord r u n k v).lastCommit = d.lastCommit := rfl
@[simp] theorem Dev.setWord_lastKey : (d.setWord r u n k v).lastKey = d.lastKey := rfl
@[simp] theorem Dev.setWord_heldWc : (d.setWord r u n k v).heldWc = d.heldWc := rfl
@[simp] theorem Dev.setWord_updates : (d.setWord r u n k v).updates = d.updates := rfl
@[simp] theorem Dev.setWord_mirrorDue : (d.setWord r u n k v).mirrorDue = d.mirrorDue := rfl
@[simp] theorem Dev.setWord_watchRecs : (d.setWord r u n k v).watchRecs = d.watchRecs := rfl
@[simp] theorem Dev.setWord_rng : (d.setWord r u n k v).rng = d.rng := rfl
@[simp] theorem Dev.setWord_hostReads : (d.setWord r u n k v).hostReads = d.hostReads := rfl
@[simp] theorem Dev.setWord_ports : (d.setWord r u n k v).ports = d.ports := rfl
@[simp] theorem Dev.setWord_outstanding : (d.setWord r u n k v).outstanding = d.outstanding := rfl
@[simp] theorem Dev.setWord_unsent : (d.setWord r u n k v).unsent = d.unsent := rfl
@[simp] theorem Dev.setWord_duePairs : (d.setWord r u n k v).duePairs = d.duePairs := rfl
@[simp] theorem Dev.setWord_own : (d.setWord r u n k v).own = d.own := rfl
@[simp] theorem Dev.setWord_windows : (d.setWord r u n k v).windows = d.windows := rfl
@[simp] theorem Dev.setWord_routes : (d.setWord r u n k v).routes = d.routes := rfl
@[simp] theorem Dev.setWord_maxHops : (d.setWord r u n k v).maxHops = d.maxHops := rfl
@[simp] theorem Dev.setWord_log : (d.setWord r u n k v).log = d.log := rfl
@[simp] theorem Dev.setWord_heldEvents : (d.setWord r u n k v).heldEvents = d.heldEvents := rfl
@[simp] theorem Dev.setWord_life : (d.setWord r u n k v).life = d.life := rfl
@[simp] theorem Dev.setWord_startedAt : (d.setWord r u n k v).startedAt = d.startedAt := rfl
@[simp] theorem Dev.setWord_startDone : (d.setWord r u n k v).startDone = d.startDone := rfl
@[simp] theorem Dev.setWord_pendingReset : (d.setWord r u n k v).pendingReset = d.pendingReset := rfl
@[simp] theorem Dev.setWord_perst : (d.setWord r u n k v).perst = d.perst := rfl
@[simp] theorem Dev.setWord_perstOff : (d.setWord r u n k v).perstOff = d.perstOff := rfl
@[simp] theorem Dev.setWord_startDue : (d.setWord r u n k v).startDue = d.startDue := rfl
@[simp] theorem Dev.setWord_offAt : (d.setWord r u n k v).offAt = d.offAt := rfl
@[simp] theorem Dev.setWord_powerDown : (d.setWord r u n k v).powerDown = d.powerDown := rfl
@[simp] theorem Dev.setWord_mpDown : (d.setWord r u n k v).mpDown = d.mpDown := rfl
@[simp] theorem Dev.setWord_mpKicked : (d.setWord r u n k v).mpKicked = d.mpKicked := rfl
@[simp] theorem Dev.setWord_mpCauses : (d.setWord r u n k v).mpCauses = d.mpCauses := rfl
@[simp] theorem Dev.setWord_vfEnable : (d.setWord r u n k v).vfEnable = d.vfEnable := rfl
@[simp] theorem Dev.setWord_numVFs : (d.setWord r u n k v).numVFs = d.numVFs := rfl
@[simp] theorem Dev.setWord_bar2Pf : (d.setWord r u n k v).bar2Pf = d.bar2Pf := rfl
@[simp] theorem Dev.setWord_bar2Vf : (d.setWord r u n k v).bar2Vf = d.bar2Vf := rfl
@[simp] theorem Dev.setWord_winPending : (d.setWord r u n k v).winPending = d.winPending := rfl
@[simp] theorem Dev.setWord_telemetry : (d.setWord r u n k v).telemetry = d.telemetry := rfl
@[simp] theorem Dev.setWord_telemetryPeriod : (d.setWord r u n k v).telemetryPeriod = d.telemetryPeriod := rfl
@[simp] theorem Dev.setWord_ceSince : (d.setWord r u n k v).ceSince = d.ceSince := rfl
@[simp] theorem Dev.setWord_ceCounts : (d.setWord r u n k v).ceCounts = d.ceCounts := rfl
@[simp] theorem Dev.setWord_ceRaised : (d.setWord r u n k v).ceRaised = d.ceRaised := rfl
@[simp] theorem Dev.setWord_recovering : (d.setWord r u n k v).recovering = d.recovering := rfl
@[simp] theorem Dev.setWord_homeSlots : (d.setWord r u n k v).homeSlots = d.homeSlots := rfl
@[simp] theorem Dev.setWord_homeNewest : (d.setWord r u n k v).homeNewest = d.homeNewest := rfl
@[simp] theorem Dev.setWord_buddyPlace : (d.setWord r u n k v).buddyPlace = d.buddyPlace := rfl
@[simp] theorem Dev.setWord_mirrorSent : (d.setWord r u n k v).mirrorSent = d.mirrorSent := rfl
@[simp] theorem Dev.setWord_buddyRegions : (d.setWord r u n k v).buddyRegions = d.buddyRegions := rfl
@[simp] theorem Dev.setWord_slotStamps : (d.setWord r u n k v).slotStamps = d.slotStamps := rfl
@[simp] theorem Dev.setWord_snapshots : (d.setWord r u n k v).snapshots = d.snapshots := rfl
@[simp] theorem Dev.setWord_rebuild : (d.setWord r u n k v).rebuild = d.rebuild := rfl
@[simp] theorem Dev.setWord_restore : (d.setWord r u n k v).restore = d.restore := rfl
@[simp] theorem Dev.setWord_vcoreFaults : (d.setWord r u n k v).vcoreFaults = d.vcoreFaults := rfl
@[simp] theorem Dev.setWord_vprgFaults : (d.setWord r u n k v).vprgFaults = d.vprgFaults := rfl
@[simp] theorem Dev.setWord_railsOn : (d.setWord r u n k v).railsOn = d.railsOn := rfl
@[simp] theorem Dev.setWord_levelAt : (d.setWord r u n k v).levelAt = d.levelAt := rfl
@[simp] theorem Dev.setWord_inhibited : (d.setWord r u n k v).inhibited = d.inhibited := rfl
@[simp] theorem Dev.setWord_tripN : (d.setWord r u n k v).tripN = d.tripN := rfl
@[simp] theorem Dev.setWord_active : (d.setWord r u n k v).active = d.active := rfl
@[simp] theorem Dev.setWord_other : (d.setWord r u n k v).other = d.other := rfl
@[simp] theorem Dev.setWord_otherValid : (d.setWord r u n k v).otherValid = d.otherValid := rfl
@[simp] theorem Dev.setWord_runningSlot : (d.setWord r u n k v).runningSlot = d.runningSlot := rfl
@[simp] theorem Dev.setWord_runningImage : (d.setWord r u n k v).runningImage = d.runningImage := rfl
@[simp] theorem Dev.setWord_measures : (d.setWord r u n k v).measures = d.measures := rfl
@[simp] theorem Dev.setWord_challenge : (d.setWord r u n k v).challenge = d.challenge := rfl
@[simp] theorem Dev.setWord_spdmSessions : (d.setWord r u n k v).spdmSessions = d.spdmSessions := rfl
@[simp] theorem Dev.setWord_ideInsecure : (d.setWord r u n k v).ideInsecure = d.ideInsecure := rfl
@[simp] theorem Dev.setWord_out : (d.setWord r u n k v).out = d.out := rfl

end

section
variable (f : Fld) (u n k v : Nat)

@[simp] theorem Dev.wr_mem : (d.wr f u n k v).mem = d.mem := rfl
@[simp] theorem Dev.wr_freeCount : (d.wr f u n k v).freeCount = d.freeCount := rfl
@[simp] theorem Dev.wr_time : (d.wr f u n k v).time = d.time := rfl
@[simp] theorem Dev.wr_arrays : (d.wr f u n k v).arrays = d.arrays := rfl
@[simp] theorem Dev.wr_queue : (d.wr f u n k v).queue = d.queue := rfl
@[simp] theorem Dev.wr_due : (d.wr f u n k v).due = d.due := rfl
@[simp] theorem Dev.wr_programs : (d.wr f u n k v).programs = d.programs := rfl
@[simp] theorem Dev.wr_runs : (d.wr f u n k v).runs = d.runs := rfl
@[simp] theorem Dev.wr_runStarted : (d.wr f u n k v).runStarted = d.runStarted := rfl
@[simp] theorem Dev.wr_attempt : (d.wr f u n k v).attempt = d.attempt := rfl
@[simp] theorem Dev.wr_ctxs : (d.wr f u n k v).ctxs = d.ctxs := rfl
@[simp] theorem Dev.wr_flash : (d.wr f u n k v).flash = d.flash := rfl
@[simp] theorem Dev.wr_flashCodes : (d.wr f u n k v).flashCodes = d.flashCodes := rfl
@[simp] theorem Dev.wr_clean : (d.wr f u n k v).clean = d.clean := rfl
@[simp] theorem Dev.wr_lastFlush : (d.wr f u n k v).lastFlush = d.lastFlush := rfl
@[simp] theorem Dev.wr_coldStart : (d.wr f u n k v).coldStart = d.coldStart := rfl
@[simp] theorem Dev.wr_minInterval : (d.wr f u n k v).minInterval = d.minInterval := rfl
@[simp] theorem Dev.wr_lifeLimit : (d.wr f u n k v).lifeLimit = d.lifeLimit := rfl
@[simp] theorem Dev.wr_wcMissing : (d.wr f u n k v).wcMissing = d.wcMissing := rfl
@[simp] theorem Dev.wr_quietAt : (d.wr f u n k v).quietAt = d.quietAt := rfl
@[simp] theorem Dev.wr_idleAt : (d.wr f u n k v).idleAt = d.idleAt := rfl
@[simp] theorem Dev.wr_monWaits : (d.wr f u n k v).monWaits = d.monWaits := rfl
@[simp] theorem Dev.wr_monAt : (d.wr f u n k v).monAt = d.monAt := rfl
@[simp] theorem Dev.wr_monSince : (d.wr f u n k v).monSince = d.monSince := rfl
@[simp] theorem Dev.wr_extRefBad : (d.wr f u n k v).extRefBad = d.extRefBad := rfl
@[simp] theorem Dev.wr_monArmed : (d.wr f u n k v).monArmed = d.monArmed := rfl
@[simp] theorem Dev.wr_monLen : (d.wr f u n k v).monLen = d.monLen := rfl
@[simp] theorem Dev.wr_monLast : (d.wr f u n k v).monLast = d.monLast := rfl
@[simp] theorem Dev.wr_lcWaiters : (d.wr f u n k v).lcWaiters = d.lcWaiters := rfl
@[simp] theorem Dev.wr_lcLast : (d.wr f u n k v).lcLast = d.lcLast := rfl
@[simp] theorem Dev.wr_objects : (d.wr f u n k v).objects = d.objects := rfl
@[simp] theorem Dev.wr_gens : (d.wr f u n k v).gens = d.gens := rfl
@[simp] theorem Dev.wr_vmap : (d.wr f u n k v).vmap = d.vmap := rfl
@[simp] theorem Dev.wr_formerly : (d.wr f u n k v).formerly = d.formerly := rfl
@[simp] theorem Dev.wr_remoteWaits : (d.wr f u n k v).remoteWaits = d.remoteWaits := rfl
@[simp] theorem Dev.wr_fbQueue : (d.wr f u n k v).fbQueue = d.fbQueue := rfl
@[simp] theorem Dev.wr_ingestDone : (d.wr f u n k v).ingestDone = d.ingestDone := rfl
@[simp] theorem Dev.wr_outcomeDue : (d.wr f u n k v).outcomeDue = d.outcomeDue := rfl
@[simp] theorem Dev.wr_lastOutcome : (d.wr f u n k v).lastOutcome = d.lastOutcome := rfl
@[simp] theorem Dev.wr_lastCommit : (d.wr f u n k v).lastCommit = d.lastCommit := rfl
@[simp] theorem Dev.wr_lastKey : (d.wr f u n k v).lastKey = d.lastKey := rfl
@[simp] theorem Dev.wr_heldWc : (d.wr f u n k v).heldWc = d.heldWc := rfl
@[simp] theorem Dev.wr_updates : (d.wr f u n k v).updates = d.updates := rfl
@[simp] theorem Dev.wr_mirrorDue : (d.wr f u n k v).mirrorDue = d.mirrorDue := rfl
@[simp] theorem Dev.wr_watchRecs : (d.wr f u n k v).watchRecs = d.watchRecs := rfl
@[simp] theorem Dev.wr_rng : (d.wr f u n k v).rng = d.rng := rfl
@[simp] theorem Dev.wr_hostReads : (d.wr f u n k v).hostReads = d.hostReads := rfl
@[simp] theorem Dev.wr_ports : (d.wr f u n k v).ports = d.ports := rfl
@[simp] theorem Dev.wr_outstanding : (d.wr f u n k v).outstanding = d.outstanding := rfl
@[simp] theorem Dev.wr_unsent : (d.wr f u n k v).unsent = d.unsent := rfl
@[simp] theorem Dev.wr_duePairs : (d.wr f u n k v).duePairs = d.duePairs := rfl
@[simp] theorem Dev.wr_own : (d.wr f u n k v).own = d.own := rfl
@[simp] theorem Dev.wr_windows : (d.wr f u n k v).windows = d.windows := rfl
@[simp] theorem Dev.wr_routes : (d.wr f u n k v).routes = d.routes := rfl
@[simp] theorem Dev.wr_maxHops : (d.wr f u n k v).maxHops = d.maxHops := rfl
@[simp] theorem Dev.wr_log : (d.wr f u n k v).log = d.log := rfl
@[simp] theorem Dev.wr_heldEvents : (d.wr f u n k v).heldEvents = d.heldEvents := rfl
@[simp] theorem Dev.wr_life : (d.wr f u n k v).life = d.life := rfl
@[simp] theorem Dev.wr_startedAt : (d.wr f u n k v).startedAt = d.startedAt := rfl
@[simp] theorem Dev.wr_startDone : (d.wr f u n k v).startDone = d.startDone := rfl
@[simp] theorem Dev.wr_pendingReset : (d.wr f u n k v).pendingReset = d.pendingReset := rfl
@[simp] theorem Dev.wr_perst : (d.wr f u n k v).perst = d.perst := rfl
@[simp] theorem Dev.wr_perstOff : (d.wr f u n k v).perstOff = d.perstOff := rfl
@[simp] theorem Dev.wr_startDue : (d.wr f u n k v).startDue = d.startDue := rfl
@[simp] theorem Dev.wr_offAt : (d.wr f u n k v).offAt = d.offAt := rfl
@[simp] theorem Dev.wr_powerDown : (d.wr f u n k v).powerDown = d.powerDown := rfl
@[simp] theorem Dev.wr_mpDown : (d.wr f u n k v).mpDown = d.mpDown := rfl
@[simp] theorem Dev.wr_mpKicked : (d.wr f u n k v).mpKicked = d.mpKicked := rfl
@[simp] theorem Dev.wr_mpCauses : (d.wr f u n k v).mpCauses = d.mpCauses := rfl
@[simp] theorem Dev.wr_vfEnable : (d.wr f u n k v).vfEnable = d.vfEnable := rfl
@[simp] theorem Dev.wr_numVFs : (d.wr f u n k v).numVFs = d.numVFs := rfl
@[simp] theorem Dev.wr_bar2Pf : (d.wr f u n k v).bar2Pf = d.bar2Pf := rfl
@[simp] theorem Dev.wr_bar2Vf : (d.wr f u n k v).bar2Vf = d.bar2Vf := rfl
@[simp] theorem Dev.wr_winPending : (d.wr f u n k v).winPending = d.winPending := rfl
@[simp] theorem Dev.wr_telemetry : (d.wr f u n k v).telemetry = d.telemetry := rfl
@[simp] theorem Dev.wr_telemetryPeriod : (d.wr f u n k v).telemetryPeriod = d.telemetryPeriod := rfl
@[simp] theorem Dev.wr_ceSince : (d.wr f u n k v).ceSince = d.ceSince := rfl
@[simp] theorem Dev.wr_ceCounts : (d.wr f u n k v).ceCounts = d.ceCounts := rfl
@[simp] theorem Dev.wr_ceRaised : (d.wr f u n k v).ceRaised = d.ceRaised := rfl
@[simp] theorem Dev.wr_recovering : (d.wr f u n k v).recovering = d.recovering := rfl
@[simp] theorem Dev.wr_homeSlots : (d.wr f u n k v).homeSlots = d.homeSlots := rfl
@[simp] theorem Dev.wr_homeNewest : (d.wr f u n k v).homeNewest = d.homeNewest := rfl
@[simp] theorem Dev.wr_buddyPlace : (d.wr f u n k v).buddyPlace = d.buddyPlace := rfl
@[simp] theorem Dev.wr_mirrorSent : (d.wr f u n k v).mirrorSent = d.mirrorSent := rfl
@[simp] theorem Dev.wr_buddyRegions : (d.wr f u n k v).buddyRegions = d.buddyRegions := rfl
@[simp] theorem Dev.wr_slotStamps : (d.wr f u n k v).slotStamps = d.slotStamps := rfl
@[simp] theorem Dev.wr_snapshots : (d.wr f u n k v).snapshots = d.snapshots := rfl
@[simp] theorem Dev.wr_rebuild : (d.wr f u n k v).rebuild = d.rebuild := rfl
@[simp] theorem Dev.wr_restore : (d.wr f u n k v).restore = d.restore := rfl
@[simp] theorem Dev.wr_vcoreFaults : (d.wr f u n k v).vcoreFaults = d.vcoreFaults := rfl
@[simp] theorem Dev.wr_vprgFaults : (d.wr f u n k v).vprgFaults = d.vprgFaults := rfl
@[simp] theorem Dev.wr_railsOn : (d.wr f u n k v).railsOn = d.railsOn := rfl
@[simp] theorem Dev.wr_levelAt : (d.wr f u n k v).levelAt = d.levelAt := rfl
@[simp] theorem Dev.wr_inhibited : (d.wr f u n k v).inhibited = d.inhibited := rfl
@[simp] theorem Dev.wr_tripN : (d.wr f u n k v).tripN = d.tripN := rfl
@[simp] theorem Dev.wr_active : (d.wr f u n k v).active = d.active := rfl
@[simp] theorem Dev.wr_other : (d.wr f u n k v).other = d.other := rfl
@[simp] theorem Dev.wr_otherValid : (d.wr f u n k v).otherValid = d.otherValid := rfl
@[simp] theorem Dev.wr_runningSlot : (d.wr f u n k v).runningSlot = d.runningSlot := rfl
@[simp] theorem Dev.wr_runningImage : (d.wr f u n k v).runningImage = d.runningImage := rfl
@[simp] theorem Dev.wr_measures : (d.wr f u n k v).measures = d.measures := rfl
@[simp] theorem Dev.wr_challenge : (d.wr f u n k v).challenge = d.challenge := rfl
@[simp] theorem Dev.wr_spdmSessions : (d.wr f u n k v).spdmSessions = d.spdmSessions := rfl
@[simp] theorem Dev.wr_ideInsecure : (d.wr f u n k v).ideInsecure = d.ideInsecure := rfl
@[simp] theorem Dev.wr_out : (d.wr f u n k v).out = d.out := rfl

end

section
variable (f : Fld) (u n m : Nat)

@[simp] theorem Dev.count_mem : (d.count f u n m).mem = d.mem := rfl
@[simp] theorem Dev.count_freeCount : (d.count f u n m).freeCount = d.freeCount := rfl
@[simp] theorem Dev.count_time : (d.count f u n m).time = d.time := rfl
@[simp] theorem Dev.count_arrays : (d.count f u n m).arrays = d.arrays := rfl
@[simp] theorem Dev.count_queue : (d.count f u n m).queue = d.queue := rfl
@[simp] theorem Dev.count_due : (d.count f u n m).due = d.due := rfl
@[simp] theorem Dev.count_programs : (d.count f u n m).programs = d.programs := rfl
@[simp] theorem Dev.count_runs : (d.count f u n m).runs = d.runs := rfl
@[simp] theorem Dev.count_runStarted : (d.count f u n m).runStarted = d.runStarted := rfl
@[simp] theorem Dev.count_attempt : (d.count f u n m).attempt = d.attempt := rfl
@[simp] theorem Dev.count_ctxs : (d.count f u n m).ctxs = d.ctxs := rfl
@[simp] theorem Dev.count_flash : (d.count f u n m).flash = d.flash := rfl
@[simp] theorem Dev.count_flashCodes : (d.count f u n m).flashCodes = d.flashCodes := rfl
@[simp] theorem Dev.count_clean : (d.count f u n m).clean = d.clean := rfl
@[simp] theorem Dev.count_lastFlush : (d.count f u n m).lastFlush = d.lastFlush := rfl
@[simp] theorem Dev.count_coldStart : (d.count f u n m).coldStart = d.coldStart := rfl
@[simp] theorem Dev.count_minInterval : (d.count f u n m).minInterval = d.minInterval := rfl
@[simp] theorem Dev.count_lifeLimit : (d.count f u n m).lifeLimit = d.lifeLimit := rfl
@[simp] theorem Dev.count_wcMissing : (d.count f u n m).wcMissing = d.wcMissing := rfl
@[simp] theorem Dev.count_quietAt : (d.count f u n m).quietAt = d.quietAt := rfl
@[simp] theorem Dev.count_idleAt : (d.count f u n m).idleAt = d.idleAt := rfl
@[simp] theorem Dev.count_monWaits : (d.count f u n m).monWaits = d.monWaits := rfl
@[simp] theorem Dev.count_monAt : (d.count f u n m).monAt = d.monAt := rfl
@[simp] theorem Dev.count_monSince : (d.count f u n m).monSince = d.monSince := rfl
@[simp] theorem Dev.count_extRefBad : (d.count f u n m).extRefBad = d.extRefBad := rfl
@[simp] theorem Dev.count_monArmed : (d.count f u n m).monArmed = d.monArmed := rfl
@[simp] theorem Dev.count_monLen : (d.count f u n m).monLen = d.monLen := rfl
@[simp] theorem Dev.count_monLast : (d.count f u n m).monLast = d.monLast := rfl
@[simp] theorem Dev.count_lcWaiters : (d.count f u n m).lcWaiters = d.lcWaiters := rfl
@[simp] theorem Dev.count_lcLast : (d.count f u n m).lcLast = d.lcLast := rfl
@[simp] theorem Dev.count_objects : (d.count f u n m).objects = d.objects := rfl
@[simp] theorem Dev.count_gens : (d.count f u n m).gens = d.gens := rfl
@[simp] theorem Dev.count_vmap : (d.count f u n m).vmap = d.vmap := rfl
@[simp] theorem Dev.count_formerly : (d.count f u n m).formerly = d.formerly := rfl
@[simp] theorem Dev.count_remoteWaits : (d.count f u n m).remoteWaits = d.remoteWaits := rfl
@[simp] theorem Dev.count_fbQueue : (d.count f u n m).fbQueue = d.fbQueue := rfl
@[simp] theorem Dev.count_ingestDone : (d.count f u n m).ingestDone = d.ingestDone := rfl
@[simp] theorem Dev.count_outcomeDue : (d.count f u n m).outcomeDue = d.outcomeDue := rfl
@[simp] theorem Dev.count_lastOutcome : (d.count f u n m).lastOutcome = d.lastOutcome := rfl
@[simp] theorem Dev.count_lastCommit : (d.count f u n m).lastCommit = d.lastCommit := rfl
@[simp] theorem Dev.count_lastKey : (d.count f u n m).lastKey = d.lastKey := rfl
@[simp] theorem Dev.count_heldWc : (d.count f u n m).heldWc = d.heldWc := rfl
@[simp] theorem Dev.count_updates : (d.count f u n m).updates = d.updates := rfl
@[simp] theorem Dev.count_mirrorDue : (d.count f u n m).mirrorDue = d.mirrorDue := rfl
@[simp] theorem Dev.count_watchRecs : (d.count f u n m).watchRecs = d.watchRecs := rfl
@[simp] theorem Dev.count_rng : (d.count f u n m).rng = d.rng := rfl
@[simp] theorem Dev.count_hostReads : (d.count f u n m).hostReads = d.hostReads := rfl
@[simp] theorem Dev.count_ports : (d.count f u n m).ports = d.ports := rfl
@[simp] theorem Dev.count_outstanding : (d.count f u n m).outstanding = d.outstanding := rfl
@[simp] theorem Dev.count_unsent : (d.count f u n m).unsent = d.unsent := rfl
@[simp] theorem Dev.count_duePairs : (d.count f u n m).duePairs = d.duePairs := rfl
@[simp] theorem Dev.count_own : (d.count f u n m).own = d.own := rfl
@[simp] theorem Dev.count_windows : (d.count f u n m).windows = d.windows := rfl
@[simp] theorem Dev.count_routes : (d.count f u n m).routes = d.routes := rfl
@[simp] theorem Dev.count_maxHops : (d.count f u n m).maxHops = d.maxHops := rfl
@[simp] theorem Dev.count_log : (d.count f u n m).log = d.log := rfl
@[simp] theorem Dev.count_heldEvents : (d.count f u n m).heldEvents = d.heldEvents := rfl
@[simp] theorem Dev.count_life : (d.count f u n m).life = d.life := rfl
@[simp] theorem Dev.count_startedAt : (d.count f u n m).startedAt = d.startedAt := rfl
@[simp] theorem Dev.count_startDone : (d.count f u n m).startDone = d.startDone := rfl
@[simp] theorem Dev.count_pendingReset : (d.count f u n m).pendingReset = d.pendingReset := rfl
@[simp] theorem Dev.count_perst : (d.count f u n m).perst = d.perst := rfl
@[simp] theorem Dev.count_perstOff : (d.count f u n m).perstOff = d.perstOff := rfl
@[simp] theorem Dev.count_startDue : (d.count f u n m).startDue = d.startDue := rfl
@[simp] theorem Dev.count_offAt : (d.count f u n m).offAt = d.offAt := rfl
@[simp] theorem Dev.count_powerDown : (d.count f u n m).powerDown = d.powerDown := rfl
@[simp] theorem Dev.count_mpDown : (d.count f u n m).mpDown = d.mpDown := rfl
@[simp] theorem Dev.count_mpKicked : (d.count f u n m).mpKicked = d.mpKicked := rfl
@[simp] theorem Dev.count_mpCauses : (d.count f u n m).mpCauses = d.mpCauses := rfl
@[simp] theorem Dev.count_vfEnable : (d.count f u n m).vfEnable = d.vfEnable := rfl
@[simp] theorem Dev.count_numVFs : (d.count f u n m).numVFs = d.numVFs := rfl
@[simp] theorem Dev.count_bar2Pf : (d.count f u n m).bar2Pf = d.bar2Pf := rfl
@[simp] theorem Dev.count_bar2Vf : (d.count f u n m).bar2Vf = d.bar2Vf := rfl
@[simp] theorem Dev.count_winPending : (d.count f u n m).winPending = d.winPending := rfl
@[simp] theorem Dev.count_telemetry : (d.count f u n m).telemetry = d.telemetry := rfl
@[simp] theorem Dev.count_telemetryPeriod : (d.count f u n m).telemetryPeriod = d.telemetryPeriod := rfl
@[simp] theorem Dev.count_ceSince : (d.count f u n m).ceSince = d.ceSince := rfl
@[simp] theorem Dev.count_ceCounts : (d.count f u n m).ceCounts = d.ceCounts := rfl
@[simp] theorem Dev.count_ceRaised : (d.count f u n m).ceRaised = d.ceRaised := rfl
@[simp] theorem Dev.count_recovering : (d.count f u n m).recovering = d.recovering := rfl
@[simp] theorem Dev.count_homeSlots : (d.count f u n m).homeSlots = d.homeSlots := rfl
@[simp] theorem Dev.count_homeNewest : (d.count f u n m).homeNewest = d.homeNewest := rfl
@[simp] theorem Dev.count_buddyPlace : (d.count f u n m).buddyPlace = d.buddyPlace := rfl
@[simp] theorem Dev.count_mirrorSent : (d.count f u n m).mirrorSent = d.mirrorSent := rfl
@[simp] theorem Dev.count_buddyRegions : (d.count f u n m).buddyRegions = d.buddyRegions := rfl
@[simp] theorem Dev.count_slotStamps : (d.count f u n m).slotStamps = d.slotStamps := rfl
@[simp] theorem Dev.count_snapshots : (d.count f u n m).snapshots = d.snapshots := rfl
@[simp] theorem Dev.count_rebuild : (d.count f u n m).rebuild = d.rebuild := rfl
@[simp] theorem Dev.count_restore : (d.count f u n m).restore = d.restore := rfl
@[simp] theorem Dev.count_vcoreFaults : (d.count f u n m).vcoreFaults = d.vcoreFaults := rfl
@[simp] theorem Dev.count_vprgFaults : (d.count f u n m).vprgFaults = d.vprgFaults := rfl
@[simp] theorem Dev.count_railsOn : (d.count f u n m).railsOn = d.railsOn := rfl
@[simp] theorem Dev.count_levelAt : (d.count f u n m).levelAt = d.levelAt := rfl
@[simp] theorem Dev.count_inhibited : (d.count f u n m).inhibited = d.inhibited := rfl
@[simp] theorem Dev.count_tripN : (d.count f u n m).tripN = d.tripN := rfl
@[simp] theorem Dev.count_active : (d.count f u n m).active = d.active := rfl
@[simp] theorem Dev.count_other : (d.count f u n m).other = d.other := rfl
@[simp] theorem Dev.count_otherValid : (d.count f u n m).otherValid = d.otherValid := rfl
@[simp] theorem Dev.count_runningSlot : (d.count f u n m).runningSlot = d.runningSlot := rfl
@[simp] theorem Dev.count_runningImage : (d.count f u n m).runningImage = d.runningImage := rfl
@[simp] theorem Dev.count_measures : (d.count f u n m).measures = d.measures := rfl
@[simp] theorem Dev.count_challenge : (d.count f u n m).challenge = d.challenge := rfl
@[simp] theorem Dev.count_spdmSessions : (d.count f u n m).spdmSessions = d.spdmSessions := rfl
@[simp] theorem Dev.count_ideInsecure : (d.count f u n m).ideInsecure = d.ideInsecure := rfl
@[simp] theorem Dev.count_out : (d.count f u n m).out = d.out := rfl

end

section
variable (f : Fld) (u n m : Nat)

@[simp] theorem Dev.countWrap_mem : (d.countWrap f u n m).mem = d.mem := rfl
@[simp] theorem Dev.countWrap_freeCount : (d.countWrap f u n m).freeCount = d.freeCount := rfl
@[simp] theorem Dev.countWrap_time : (d.countWrap f u n m).time = d.time := rfl
@[simp] theorem Dev.countWrap_arrays : (d.countWrap f u n m).arrays = d.arrays := rfl
@[simp] theorem Dev.countWrap_queue : (d.countWrap f u n m).queue = d.queue := rfl
@[simp] theorem Dev.countWrap_due : (d.countWrap f u n m).due = d.due := rfl
@[simp] theorem Dev.countWrap_programs : (d.countWrap f u n m).programs = d.programs := rfl
@[simp] theorem Dev.countWrap_runs : (d.countWrap f u n m).runs = d.runs := rfl
@[simp] theorem Dev.countWrap_runStarted : (d.countWrap f u n m).runStarted = d.runStarted := rfl
@[simp] theorem Dev.countWrap_attempt : (d.countWrap f u n m).attempt = d.attempt := rfl
@[simp] theorem Dev.countWrap_ctxs : (d.countWrap f u n m).ctxs = d.ctxs := rfl
@[simp] theorem Dev.countWrap_flash : (d.countWrap f u n m).flash = d.flash := rfl
@[simp] theorem Dev.countWrap_flashCodes : (d.countWrap f u n m).flashCodes = d.flashCodes := rfl
@[simp] theorem Dev.countWrap_clean : (d.countWrap f u n m).clean = d.clean := rfl
@[simp] theorem Dev.countWrap_lastFlush : (d.countWrap f u n m).lastFlush = d.lastFlush := rfl
@[simp] theorem Dev.countWrap_coldStart : (d.countWrap f u n m).coldStart = d.coldStart := rfl
@[simp] theorem Dev.countWrap_minInterval : (d.countWrap f u n m).minInterval = d.minInterval := rfl
@[simp] theorem Dev.countWrap_lifeLimit : (d.countWrap f u n m).lifeLimit = d.lifeLimit := rfl
@[simp] theorem Dev.countWrap_wcMissing : (d.countWrap f u n m).wcMissing = d.wcMissing := rfl
@[simp] theorem Dev.countWrap_quietAt : (d.countWrap f u n m).quietAt = d.quietAt := rfl
@[simp] theorem Dev.countWrap_idleAt : (d.countWrap f u n m).idleAt = d.idleAt := rfl
@[simp] theorem Dev.countWrap_monWaits : (d.countWrap f u n m).monWaits = d.monWaits := rfl
@[simp] theorem Dev.countWrap_monAt : (d.countWrap f u n m).monAt = d.monAt := rfl
@[simp] theorem Dev.countWrap_monSince : (d.countWrap f u n m).monSince = d.monSince := rfl
@[simp] theorem Dev.countWrap_extRefBad : (d.countWrap f u n m).extRefBad = d.extRefBad := rfl
@[simp] theorem Dev.countWrap_monArmed : (d.countWrap f u n m).monArmed = d.monArmed := rfl
@[simp] theorem Dev.countWrap_monLen : (d.countWrap f u n m).monLen = d.monLen := rfl
@[simp] theorem Dev.countWrap_monLast : (d.countWrap f u n m).monLast = d.monLast := rfl
@[simp] theorem Dev.countWrap_lcWaiters : (d.countWrap f u n m).lcWaiters = d.lcWaiters := rfl
@[simp] theorem Dev.countWrap_lcLast : (d.countWrap f u n m).lcLast = d.lcLast := rfl
@[simp] theorem Dev.countWrap_objects : (d.countWrap f u n m).objects = d.objects := rfl
@[simp] theorem Dev.countWrap_gens : (d.countWrap f u n m).gens = d.gens := rfl
@[simp] theorem Dev.countWrap_vmap : (d.countWrap f u n m).vmap = d.vmap := rfl
@[simp] theorem Dev.countWrap_formerly : (d.countWrap f u n m).formerly = d.formerly := rfl
@[simp] theorem Dev.countWrap_remoteWaits : (d.countWrap f u n m).remoteWaits = d.remoteWaits := rfl
@[simp] theorem Dev.countWrap_fbQueue : (d.countWrap f u n m).fbQueue = d.fbQueue := rfl
@[simp] theorem Dev.countWrap_ingestDone : (d.countWrap f u n m).ingestDone = d.ingestDone := rfl
@[simp] theorem Dev.countWrap_outcomeDue : (d.countWrap f u n m).outcomeDue = d.outcomeDue := rfl
@[simp] theorem Dev.countWrap_lastOutcome : (d.countWrap f u n m).lastOutcome = d.lastOutcome := rfl
@[simp] theorem Dev.countWrap_lastCommit : (d.countWrap f u n m).lastCommit = d.lastCommit := rfl
@[simp] theorem Dev.countWrap_lastKey : (d.countWrap f u n m).lastKey = d.lastKey := rfl
@[simp] theorem Dev.countWrap_heldWc : (d.countWrap f u n m).heldWc = d.heldWc := rfl
@[simp] theorem Dev.countWrap_updates : (d.countWrap f u n m).updates = d.updates := rfl
@[simp] theorem Dev.countWrap_mirrorDue : (d.countWrap f u n m).mirrorDue = d.mirrorDue := rfl
@[simp] theorem Dev.countWrap_watchRecs : (d.countWrap f u n m).watchRecs = d.watchRecs := rfl
@[simp] theorem Dev.countWrap_rng : (d.countWrap f u n m).rng = d.rng := rfl
@[simp] theorem Dev.countWrap_hostReads : (d.countWrap f u n m).hostReads = d.hostReads := rfl
@[simp] theorem Dev.countWrap_ports : (d.countWrap f u n m).ports = d.ports := rfl
@[simp] theorem Dev.countWrap_outstanding : (d.countWrap f u n m).outstanding = d.outstanding := rfl
@[simp] theorem Dev.countWrap_unsent : (d.countWrap f u n m).unsent = d.unsent := rfl
@[simp] theorem Dev.countWrap_duePairs : (d.countWrap f u n m).duePairs = d.duePairs := rfl
@[simp] theorem Dev.countWrap_own : (d.countWrap f u n m).own = d.own := rfl
@[simp] theorem Dev.countWrap_windows : (d.countWrap f u n m).windows = d.windows := rfl
@[simp] theorem Dev.countWrap_routes : (d.countWrap f u n m).routes = d.routes := rfl
@[simp] theorem Dev.countWrap_maxHops : (d.countWrap f u n m).maxHops = d.maxHops := rfl
@[simp] theorem Dev.countWrap_log : (d.countWrap f u n m).log = d.log := rfl
@[simp] theorem Dev.countWrap_heldEvents : (d.countWrap f u n m).heldEvents = d.heldEvents := rfl
@[simp] theorem Dev.countWrap_life : (d.countWrap f u n m).life = d.life := rfl
@[simp] theorem Dev.countWrap_startedAt : (d.countWrap f u n m).startedAt = d.startedAt := rfl
@[simp] theorem Dev.countWrap_startDone : (d.countWrap f u n m).startDone = d.startDone := rfl
@[simp] theorem Dev.countWrap_pendingReset : (d.countWrap f u n m).pendingReset = d.pendingReset := rfl
@[simp] theorem Dev.countWrap_perst : (d.countWrap f u n m).perst = d.perst := rfl
@[simp] theorem Dev.countWrap_perstOff : (d.countWrap f u n m).perstOff = d.perstOff := rfl
@[simp] theorem Dev.countWrap_startDue : (d.countWrap f u n m).startDue = d.startDue := rfl
@[simp] theorem Dev.countWrap_offAt : (d.countWrap f u n m).offAt = d.offAt := rfl
@[simp] theorem Dev.countWrap_powerDown : (d.countWrap f u n m).powerDown = d.powerDown := rfl
@[simp] theorem Dev.countWrap_mpDown : (d.countWrap f u n m).mpDown = d.mpDown := rfl
@[simp] theorem Dev.countWrap_mpKicked : (d.countWrap f u n m).mpKicked = d.mpKicked := rfl
@[simp] theorem Dev.countWrap_mpCauses : (d.countWrap f u n m).mpCauses = d.mpCauses := rfl
@[simp] theorem Dev.countWrap_vfEnable : (d.countWrap f u n m).vfEnable = d.vfEnable := rfl
@[simp] theorem Dev.countWrap_numVFs : (d.countWrap f u n m).numVFs = d.numVFs := rfl
@[simp] theorem Dev.countWrap_bar2Pf : (d.countWrap f u n m).bar2Pf = d.bar2Pf := rfl
@[simp] theorem Dev.countWrap_bar2Vf : (d.countWrap f u n m).bar2Vf = d.bar2Vf := rfl
@[simp] theorem Dev.countWrap_winPending : (d.countWrap f u n m).winPending = d.winPending := rfl
@[simp] theorem Dev.countWrap_telemetry : (d.countWrap f u n m).telemetry = d.telemetry := rfl
@[simp] theorem Dev.countWrap_telemetryPeriod : (d.countWrap f u n m).telemetryPeriod = d.telemetryPeriod := rfl
@[simp] theorem Dev.countWrap_ceSince : (d.countWrap f u n m).ceSince = d.ceSince := rfl
@[simp] theorem Dev.countWrap_ceCounts : (d.countWrap f u n m).ceCounts = d.ceCounts := rfl
@[simp] theorem Dev.countWrap_ceRaised : (d.countWrap f u n m).ceRaised = d.ceRaised := rfl
@[simp] theorem Dev.countWrap_recovering : (d.countWrap f u n m).recovering = d.recovering := rfl
@[simp] theorem Dev.countWrap_homeSlots : (d.countWrap f u n m).homeSlots = d.homeSlots := rfl
@[simp] theorem Dev.countWrap_homeNewest : (d.countWrap f u n m).homeNewest = d.homeNewest := rfl
@[simp] theorem Dev.countWrap_buddyPlace : (d.countWrap f u n m).buddyPlace = d.buddyPlace := rfl
@[simp] theorem Dev.countWrap_mirrorSent : (d.countWrap f u n m).mirrorSent = d.mirrorSent := rfl
@[simp] theorem Dev.countWrap_buddyRegions : (d.countWrap f u n m).buddyRegions = d.buddyRegions := rfl
@[simp] theorem Dev.countWrap_slotStamps : (d.countWrap f u n m).slotStamps = d.slotStamps := rfl
@[simp] theorem Dev.countWrap_snapshots : (d.countWrap f u n m).snapshots = d.snapshots := rfl
@[simp] theorem Dev.countWrap_rebuild : (d.countWrap f u n m).rebuild = d.rebuild := rfl
@[simp] theorem Dev.countWrap_restore : (d.countWrap f u n m).restore = d.restore := rfl
@[simp] theorem Dev.countWrap_vcoreFaults : (d.countWrap f u n m).vcoreFaults = d.vcoreFaults := rfl
@[simp] theorem Dev.countWrap_vprgFaults : (d.countWrap f u n m).vprgFaults = d.vprgFaults := rfl
@[simp] theorem Dev.countWrap_railsOn : (d.countWrap f u n m).railsOn = d.railsOn := rfl
@[simp] theorem Dev.countWrap_levelAt : (d.countWrap f u n m).levelAt = d.levelAt := rfl
@[simp] theorem Dev.countWrap_inhibited : (d.countWrap f u n m).inhibited = d.inhibited := rfl
@[simp] theorem Dev.countWrap_tripN : (d.countWrap f u n m).tripN = d.tripN := rfl
@[simp] theorem Dev.countWrap_active : (d.countWrap f u n m).active = d.active := rfl
@[simp] theorem Dev.countWrap_other : (d.countWrap f u n m).other = d.other := rfl
@[simp] theorem Dev.countWrap_otherValid : (d.countWrap f u n m).otherValid = d.otherValid := rfl
@[simp] theorem Dev.countWrap_runningSlot : (d.countWrap f u n m).runningSlot = d.runningSlot := rfl
@[simp] theorem Dev.countWrap_runningImage : (d.countWrap f u n m).runningImage = d.runningImage := rfl
@[simp] theorem Dev.countWrap_measures : (d.countWrap f u n m).measures = d.measures := rfl
@[simp] theorem Dev.countWrap_challenge : (d.countWrap f u n m).challenge = d.challenge := rfl
@[simp] theorem Dev.countWrap_spdmSessions : (d.countWrap f u n m).spdmSessions = d.spdmSessions := rfl
@[simp] theorem Dev.countWrap_ideInsecure : (d.countWrap f u n m).ideInsecure = d.ideInsecure := rfl
@[simp] theorem Dev.countWrap_out : (d.countWrap f u n m).out = d.out := rfl

end

section
variable (c k st : Nat)

@[simp] theorem Dev.setSlot_mem : (d.setSlot c k st).mem = d.mem := rfl
@[simp] theorem Dev.setSlot_freeCount : (d.setSlot c k st).freeCount = d.freeCount := rfl
@[simp] theorem Dev.setSlot_time : (d.setSlot c k st).time = d.time := rfl
@[simp] theorem Dev.setSlot_arrays : (d.setSlot c k st).arrays = d.arrays := rfl
@[simp] theorem Dev.setSlot_queue : (d.setSlot c k st).queue = d.queue := rfl
@[simp] theorem Dev.setSlot_due : (d.setSlot c k st).due = d.due := rfl
@[simp] theorem Dev.setSlot_programs : (d.setSlot c k st).programs = d.programs := rfl
@[simp] theorem Dev.setSlot_runs : (d.setSlot c k st).runs = d.runs := rfl
@[simp] theorem Dev.setSlot_runStarted : (d.setSlot c k st).runStarted = d.runStarted := rfl
@[simp] theorem Dev.setSlot_attempt : (d.setSlot c k st).attempt = d.attempt := rfl
@[simp] theorem Dev.setSlot_ctxs : (d.setSlot c k st).ctxs = d.ctxs := rfl
@[simp] theorem Dev.setSlot_flash : (d.setSlot c k st).flash = d.flash := rfl
@[simp] theorem Dev.setSlot_flashCodes : (d.setSlot c k st).flashCodes = d.flashCodes := rfl
@[simp] theorem Dev.setSlot_clean : (d.setSlot c k st).clean = d.clean := rfl
@[simp] theorem Dev.setSlot_lastFlush : (d.setSlot c k st).lastFlush = d.lastFlush := rfl
@[simp] theorem Dev.setSlot_coldStart : (d.setSlot c k st).coldStart = d.coldStart := rfl
@[simp] theorem Dev.setSlot_minInterval : (d.setSlot c k st).minInterval = d.minInterval := rfl
@[simp] theorem Dev.setSlot_lifeLimit : (d.setSlot c k st).lifeLimit = d.lifeLimit := rfl
@[simp] theorem Dev.setSlot_wcMissing : (d.setSlot c k st).wcMissing = d.wcMissing := rfl
@[simp] theorem Dev.setSlot_quietAt : (d.setSlot c k st).quietAt = d.quietAt := rfl
@[simp] theorem Dev.setSlot_idleAt : (d.setSlot c k st).idleAt = d.idleAt := rfl
@[simp] theorem Dev.setSlot_monWaits : (d.setSlot c k st).monWaits = d.monWaits := rfl
@[simp] theorem Dev.setSlot_monAt : (d.setSlot c k st).monAt = d.monAt := rfl
@[simp] theorem Dev.setSlot_monSince : (d.setSlot c k st).monSince = d.monSince := rfl
@[simp] theorem Dev.setSlot_extRefBad : (d.setSlot c k st).extRefBad = d.extRefBad := rfl
@[simp] theorem Dev.setSlot_monArmed : (d.setSlot c k st).monArmed = d.monArmed := rfl
@[simp] theorem Dev.setSlot_monLen : (d.setSlot c k st).monLen = d.monLen := rfl
@[simp] theorem Dev.setSlot_monLast : (d.setSlot c k st).monLast = d.monLast := rfl
@[simp] theorem Dev.setSlot_lcWaiters : (d.setSlot c k st).lcWaiters = d.lcWaiters := rfl
@[simp] theorem Dev.setSlot_lcLast : (d.setSlot c k st).lcLast = d.lcLast := rfl
@[simp] theorem Dev.setSlot_objects : (d.setSlot c k st).objects = d.objects := rfl
@[simp] theorem Dev.setSlot_gens : (d.setSlot c k st).gens = d.gens := rfl
@[simp] theorem Dev.setSlot_vmap : (d.setSlot c k st).vmap = d.vmap := rfl
@[simp] theorem Dev.setSlot_formerly : (d.setSlot c k st).formerly = d.formerly := rfl
@[simp] theorem Dev.setSlot_remoteWaits : (d.setSlot c k st).remoteWaits = d.remoteWaits := rfl
@[simp] theorem Dev.setSlot_fbQueue : (d.setSlot c k st).fbQueue = d.fbQueue := rfl
@[simp] theorem Dev.setSlot_ingestDone : (d.setSlot c k st).ingestDone = d.ingestDone := rfl
@[simp] theorem Dev.setSlot_outcomeDue : (d.setSlot c k st).outcomeDue = d.outcomeDue := rfl
@[simp] theorem Dev.setSlot_lastOutcome : (d.setSlot c k st).lastOutcome = d.lastOutcome := rfl
@[simp] theorem Dev.setSlot_lastCommit : (d.setSlot c k st).lastCommit = d.lastCommit := rfl
@[simp] theorem Dev.setSlot_lastKey : (d.setSlot c k st).lastKey = d.lastKey := rfl
@[simp] theorem Dev.setSlot_heldWc : (d.setSlot c k st).heldWc = d.heldWc := rfl
@[simp] theorem Dev.setSlot_updates : (d.setSlot c k st).updates = d.updates := rfl
@[simp] theorem Dev.setSlot_mirrorDue : (d.setSlot c k st).mirrorDue = d.mirrorDue := rfl
@[simp] theorem Dev.setSlot_watchRecs : (d.setSlot c k st).watchRecs = d.watchRecs := rfl
@[simp] theorem Dev.setSlot_rng : (d.setSlot c k st).rng = d.rng := rfl
@[simp] theorem Dev.setSlot_hostReads : (d.setSlot c k st).hostReads = d.hostReads := rfl
@[simp] theorem Dev.setSlot_ports : (d.setSlot c k st).ports = d.ports := rfl
@[simp] theorem Dev.setSlot_outstanding : (d.setSlot c k st).outstanding = d.outstanding := rfl
@[simp] theorem Dev.setSlot_unsent : (d.setSlot c k st).unsent = d.unsent := rfl
@[simp] theorem Dev.setSlot_duePairs : (d.setSlot c k st).duePairs = d.duePairs := rfl
@[simp] theorem Dev.setSlot_own : (d.setSlot c k st).own = d.own := rfl
@[simp] theorem Dev.setSlot_windows : (d.setSlot c k st).windows = d.windows := rfl
@[simp] theorem Dev.setSlot_routes : (d.setSlot c k st).routes = d.routes := rfl
@[simp] theorem Dev.setSlot_maxHops : (d.setSlot c k st).maxHops = d.maxHops := rfl
@[simp] theorem Dev.setSlot_log : (d.setSlot c k st).log = d.log := rfl
@[simp] theorem Dev.setSlot_heldEvents : (d.setSlot c k st).heldEvents = d.heldEvents := rfl
@[simp] theorem Dev.setSlot_life : (d.setSlot c k st).life = d.life := rfl
@[simp] theorem Dev.setSlot_startedAt : (d.setSlot c k st).startedAt = d.startedAt := rfl
@[simp] theorem Dev.setSlot_startDone : (d.setSlot c k st).startDone = d.startDone := rfl
@[simp] theorem Dev.setSlot_pendingReset : (d.setSlot c k st).pendingReset = d.pendingReset := rfl
@[simp] theorem Dev.setSlot_perst : (d.setSlot c k st).perst = d.perst := rfl
@[simp] theorem Dev.setSlot_perstOff : (d.setSlot c k st).perstOff = d.perstOff := rfl
@[simp] theorem Dev.setSlot_startDue : (d.setSlot c k st).startDue = d.startDue := rfl
@[simp] theorem Dev.setSlot_offAt : (d.setSlot c k st).offAt = d.offAt := rfl
@[simp] theorem Dev.setSlot_powerDown : (d.setSlot c k st).powerDown = d.powerDown := rfl
@[simp] theorem Dev.setSlot_mpDown : (d.setSlot c k st).mpDown = d.mpDown := rfl
@[simp] theorem Dev.setSlot_mpKicked : (d.setSlot c k st).mpKicked = d.mpKicked := rfl
@[simp] theorem Dev.setSlot_mpCauses : (d.setSlot c k st).mpCauses = d.mpCauses := rfl
@[simp] theorem Dev.setSlot_vfEnable : (d.setSlot c k st).vfEnable = d.vfEnable := rfl
@[simp] theorem Dev.setSlot_numVFs : (d.setSlot c k st).numVFs = d.numVFs := rfl
@[simp] theorem Dev.setSlot_bar2Pf : (d.setSlot c k st).bar2Pf = d.bar2Pf := rfl
@[simp] theorem Dev.setSlot_bar2Vf : (d.setSlot c k st).bar2Vf = d.bar2Vf := rfl
@[simp] theorem Dev.setSlot_winPending : (d.setSlot c k st).winPending = d.winPending := rfl
@[simp] theorem Dev.setSlot_telemetry : (d.setSlot c k st).telemetry = d.telemetry := rfl
@[simp] theorem Dev.setSlot_telemetryPeriod : (d.setSlot c k st).telemetryPeriod = d.telemetryPeriod := rfl
@[simp] theorem Dev.setSlot_ceSince : (d.setSlot c k st).ceSince = d.ceSince := rfl
@[simp] theorem Dev.setSlot_ceCounts : (d.setSlot c k st).ceCounts = d.ceCounts := rfl
@[simp] theorem Dev.setSlot_ceRaised : (d.setSlot c k st).ceRaised = d.ceRaised := rfl
@[simp] theorem Dev.setSlot_recovering : (d.setSlot c k st).recovering = d.recovering := rfl
@[simp] theorem Dev.setSlot_homeSlots : (d.setSlot c k st).homeSlots = d.homeSlots := rfl
@[simp] theorem Dev.setSlot_homeNewest : (d.setSlot c k st).homeNewest = d.homeNewest := rfl
@[simp] theorem Dev.setSlot_buddyPlace : (d.setSlot c k st).buddyPlace = d.buddyPlace := rfl
@[simp] theorem Dev.setSlot_mirrorSent : (d.setSlot c k st).mirrorSent = d.mirrorSent := rfl
@[simp] theorem Dev.setSlot_buddyRegions : (d.setSlot c k st).buddyRegions = d.buddyRegions := rfl
@[simp] theorem Dev.setSlot_slotStamps : (d.setSlot c k st).slotStamps = d.slotStamps := rfl
@[simp] theorem Dev.setSlot_snapshots : (d.setSlot c k st).snapshots = d.snapshots := rfl
@[simp] theorem Dev.setSlot_rebuild : (d.setSlot c k st).rebuild = d.rebuild := rfl
@[simp] theorem Dev.setSlot_restore : (d.setSlot c k st).restore = d.restore := rfl
@[simp] theorem Dev.setSlot_vcoreFaults : (d.setSlot c k st).vcoreFaults = d.vcoreFaults := rfl
@[simp] theorem Dev.setSlot_vprgFaults : (d.setSlot c k st).vprgFaults = d.vprgFaults := rfl
@[simp] theorem Dev.setSlot_railsOn : (d.setSlot c k st).railsOn = d.railsOn := rfl
@[simp] theorem Dev.setSlot_levelAt : (d.setSlot c k st).levelAt = d.levelAt := rfl
@[simp] theorem Dev.setSlot_inhibited : (d.setSlot c k st).inhibited = d.inhibited := rfl
@[simp] theorem Dev.setSlot_tripN : (d.setSlot c k st).tripN = d.tripN := rfl
@[simp] theorem Dev.setSlot_active : (d.setSlot c k st).active = d.active := rfl
@[simp] theorem Dev.setSlot_other : (d.setSlot c k st).other = d.other := rfl
@[simp] theorem Dev.setSlot_otherValid : (d.setSlot c k st).otherValid = d.otherValid := rfl
@[simp] theorem Dev.setSlot_runningSlot : (d.setSlot c k st).runningSlot = d.runningSlot := rfl
@[simp] theorem Dev.setSlot_runningImage : (d.setSlot c k st).runningImage = d.runningImage := rfl
@[simp] theorem Dev.setSlot_measures : (d.setSlot c k st).measures = d.measures := rfl
@[simp] theorem Dev.setSlot_challenge : (d.setSlot c k st).challenge = d.challenge := rfl
@[simp] theorem Dev.setSlot_spdmSessions : (d.setSlot c k st).spdmSessions = d.spdmSessions := rfl
@[simp] theorem Dev.setSlot_ideInsecure : (d.setSlot c k st).ideInsecure = d.ideInsecure := rfl
@[simp] theorem Dev.setSlot_out : (d.setSlot c k st).out = d.out := rfl

end

section
variable (c : Nat) (f : CtxRec → CtxRec)

@[simp] theorem Dev.modCtx_regs : (d.modCtx c f).regs = d.regs := rfl
@[simp] theorem Dev.modCtx_mem : (d.modCtx c f).mem = d.mem := rfl
@[simp] theorem Dev.modCtx_freeCount : (d.modCtx c f).freeCount = d.freeCount := rfl
@[simp] theorem Dev.modCtx_time : (d.modCtx c f).time = d.time := rfl
@[simp] theorem Dev.modCtx_arrays : (d.modCtx c f).arrays = d.arrays := rfl
@[simp] theorem Dev.modCtx_queue : (d.modCtx c f).queue = d.queue := rfl
@[simp] theorem Dev.modCtx_due : (d.modCtx c f).due = d.due := rfl
@[simp] theorem Dev.modCtx_programs : (d.modCtx c f).programs = d.programs := rfl
@[simp] theorem Dev.modCtx_runs : (d.modCtx c f).runs = d.runs := rfl
@[simp] theorem Dev.modCtx_runStarted : (d.modCtx c f).runStarted = d.runStarted := rfl
@[simp] theorem Dev.modCtx_attempt : (d.modCtx c f).attempt = d.attempt := rfl
@[simp] theorem Dev.modCtx_flash : (d.modCtx c f).flash = d.flash := rfl
@[simp] theorem Dev.modCtx_flashCodes : (d.modCtx c f).flashCodes = d.flashCodes := rfl
@[simp] theorem Dev.modCtx_clean : (d.modCtx c f).clean = d.clean := rfl
@[simp] theorem Dev.modCtx_lastFlush : (d.modCtx c f).lastFlush = d.lastFlush := rfl
@[simp] theorem Dev.modCtx_coldStart : (d.modCtx c f).coldStart = d.coldStart := rfl
@[simp] theorem Dev.modCtx_minInterval : (d.modCtx c f).minInterval = d.minInterval := rfl
@[simp] theorem Dev.modCtx_lifeLimit : (d.modCtx c f).lifeLimit = d.lifeLimit := rfl
@[simp] theorem Dev.modCtx_wcMissing : (d.modCtx c f).wcMissing = d.wcMissing := rfl
@[simp] theorem Dev.modCtx_quietAt : (d.modCtx c f).quietAt = d.quietAt := rfl
@[simp] theorem Dev.modCtx_idleAt : (d.modCtx c f).idleAt = d.idleAt := rfl
@[simp] theorem Dev.modCtx_monWaits : (d.modCtx c f).monWaits = d.monWaits := rfl
@[simp] theorem Dev.modCtx_monAt : (d.modCtx c f).monAt = d.monAt := rfl
@[simp] theorem Dev.modCtx_monSince : (d.modCtx c f).monSince = d.monSince := rfl
@[simp] theorem Dev.modCtx_extRefBad : (d.modCtx c f).extRefBad = d.extRefBad := rfl
@[simp] theorem Dev.modCtx_monArmed : (d.modCtx c f).monArmed = d.monArmed := rfl
@[simp] theorem Dev.modCtx_monLen : (d.modCtx c f).monLen = d.monLen := rfl
@[simp] theorem Dev.modCtx_monLast : (d.modCtx c f).monLast = d.monLast := rfl
@[simp] theorem Dev.modCtx_lcWaiters : (d.modCtx c f).lcWaiters = d.lcWaiters := rfl
@[simp] theorem Dev.modCtx_lcLast : (d.modCtx c f).lcLast = d.lcLast := rfl
@[simp] theorem Dev.modCtx_objects : (d.modCtx c f).objects = d.objects := rfl
@[simp] theorem Dev.modCtx_gens : (d.modCtx c f).gens = d.gens := rfl
@[simp] theorem Dev.modCtx_vmap : (d.modCtx c f).vmap = d.vmap := rfl
@[simp] theorem Dev.modCtx_formerly : (d.modCtx c f).formerly = d.formerly := rfl
@[simp] theorem Dev.modCtx_remoteWaits : (d.modCtx c f).remoteWaits = d.remoteWaits := rfl
@[simp] theorem Dev.modCtx_fbQueue : (d.modCtx c f).fbQueue = d.fbQueue := rfl
@[simp] theorem Dev.modCtx_ingestDone : (d.modCtx c f).ingestDone = d.ingestDone := rfl
@[simp] theorem Dev.modCtx_outcomeDue : (d.modCtx c f).outcomeDue = d.outcomeDue := rfl
@[simp] theorem Dev.modCtx_lastOutcome : (d.modCtx c f).lastOutcome = d.lastOutcome := rfl
@[simp] theorem Dev.modCtx_lastCommit : (d.modCtx c f).lastCommit = d.lastCommit := rfl
@[simp] theorem Dev.modCtx_lastKey : (d.modCtx c f).lastKey = d.lastKey := rfl
@[simp] theorem Dev.modCtx_heldWc : (d.modCtx c f).heldWc = d.heldWc := rfl
@[simp] theorem Dev.modCtx_updates : (d.modCtx c f).updates = d.updates := rfl
@[simp] theorem Dev.modCtx_mirrorDue : (d.modCtx c f).mirrorDue = d.mirrorDue := rfl
@[simp] theorem Dev.modCtx_watchRecs : (d.modCtx c f).watchRecs = d.watchRecs := rfl
@[simp] theorem Dev.modCtx_rng : (d.modCtx c f).rng = d.rng := rfl
@[simp] theorem Dev.modCtx_hostReads : (d.modCtx c f).hostReads = d.hostReads := rfl
@[simp] theorem Dev.modCtx_ports : (d.modCtx c f).ports = d.ports := rfl
@[simp] theorem Dev.modCtx_outstanding : (d.modCtx c f).outstanding = d.outstanding := rfl
@[simp] theorem Dev.modCtx_unsent : (d.modCtx c f).unsent = d.unsent := rfl
@[simp] theorem Dev.modCtx_duePairs : (d.modCtx c f).duePairs = d.duePairs := rfl
@[simp] theorem Dev.modCtx_own : (d.modCtx c f).own = d.own := rfl
@[simp] theorem Dev.modCtx_windows : (d.modCtx c f).windows = d.windows := rfl
@[simp] theorem Dev.modCtx_routes : (d.modCtx c f).routes = d.routes := rfl
@[simp] theorem Dev.modCtx_maxHops : (d.modCtx c f).maxHops = d.maxHops := rfl
@[simp] theorem Dev.modCtx_log : (d.modCtx c f).log = d.log := rfl
@[simp] theorem Dev.modCtx_heldEvents : (d.modCtx c f).heldEvents = d.heldEvents := rfl
@[simp] theorem Dev.modCtx_life : (d.modCtx c f).life = d.life := rfl
@[simp] theorem Dev.modCtx_startedAt : (d.modCtx c f).startedAt = d.startedAt := rfl
@[simp] theorem Dev.modCtx_startDone : (d.modCtx c f).startDone = d.startDone := rfl
@[simp] theorem Dev.modCtx_pendingReset : (d.modCtx c f).pendingReset = d.pendingReset := rfl
@[simp] theorem Dev.modCtx_perst : (d.modCtx c f).perst = d.perst := rfl
@[simp] theorem Dev.modCtx_perstOff : (d.modCtx c f).perstOff = d.perstOff := rfl
@[simp] theorem Dev.modCtx_startDue : (d.modCtx c f).startDue = d.startDue := rfl
@[simp] theorem Dev.modCtx_offAt : (d.modCtx c f).offAt = d.offAt := rfl
@[simp] theorem Dev.modCtx_powerDown : (d.modCtx c f).powerDown = d.powerDown := rfl
@[simp] theorem Dev.modCtx_mpDown : (d.modCtx c f).mpDown = d.mpDown := rfl
@[simp] theorem Dev.modCtx_mpKicked : (d.modCtx c f).mpKicked = d.mpKicked := rfl
@[simp] theorem Dev.modCtx_mpCauses : (d.modCtx c f).mpCauses = d.mpCauses := rfl
@[simp] theorem Dev.modCtx_vfEnable : (d.modCtx c f).vfEnable = d.vfEnable := rfl
@[simp] theorem Dev.modCtx_numVFs : (d.modCtx c f).numVFs = d.numVFs := rfl
@[simp] theorem Dev.modCtx_bar2Pf : (d.modCtx c f).bar2Pf = d.bar2Pf := rfl
@[simp] theorem Dev.modCtx_bar2Vf : (d.modCtx c f).bar2Vf = d.bar2Vf := rfl
@[simp] theorem Dev.modCtx_winPending : (d.modCtx c f).winPending = d.winPending := rfl
@[simp] theorem Dev.modCtx_telemetry : (d.modCtx c f).telemetry = d.telemetry := rfl
@[simp] theorem Dev.modCtx_telemetryPeriod : (d.modCtx c f).telemetryPeriod = d.telemetryPeriod := rfl
@[simp] theorem Dev.modCtx_ceSince : (d.modCtx c f).ceSince = d.ceSince := rfl
@[simp] theorem Dev.modCtx_ceCounts : (d.modCtx c f).ceCounts = d.ceCounts := rfl
@[simp] theorem Dev.modCtx_ceRaised : (d.modCtx c f).ceRaised = d.ceRaised := rfl
@[simp] theorem Dev.modCtx_recovering : (d.modCtx c f).recovering = d.recovering := rfl
@[simp] theorem Dev.modCtx_homeSlots : (d.modCtx c f).homeSlots = d.homeSlots := rfl
@[simp] theorem Dev.modCtx_homeNewest : (d.modCtx c f).homeNewest = d.homeNewest := rfl
@[simp] theorem Dev.modCtx_buddyPlace : (d.modCtx c f).buddyPlace = d.buddyPlace := rfl
@[simp] theorem Dev.modCtx_mirrorSent : (d.modCtx c f).mirrorSent = d.mirrorSent := rfl
@[simp] theorem Dev.modCtx_buddyRegions : (d.modCtx c f).buddyRegions = d.buddyRegions := rfl
@[simp] theorem Dev.modCtx_slotStamps : (d.modCtx c f).slotStamps = d.slotStamps := rfl
@[simp] theorem Dev.modCtx_snapshots : (d.modCtx c f).snapshots = d.snapshots := rfl
@[simp] theorem Dev.modCtx_rebuild : (d.modCtx c f).rebuild = d.rebuild := rfl
@[simp] theorem Dev.modCtx_restore : (d.modCtx c f).restore = d.restore := rfl
@[simp] theorem Dev.modCtx_vcoreFaults : (d.modCtx c f).vcoreFaults = d.vcoreFaults := rfl
@[simp] theorem Dev.modCtx_vprgFaults : (d.modCtx c f).vprgFaults = d.vprgFaults := rfl
@[simp] theorem Dev.modCtx_railsOn : (d.modCtx c f).railsOn = d.railsOn := rfl
@[simp] theorem Dev.modCtx_levelAt : (d.modCtx c f).levelAt = d.levelAt := rfl
@[simp] theorem Dev.modCtx_inhibited : (d.modCtx c f).inhibited = d.inhibited := rfl
@[simp] theorem Dev.modCtx_tripN : (d.modCtx c f).tripN = d.tripN := rfl
@[simp] theorem Dev.modCtx_active : (d.modCtx c f).active = d.active := rfl
@[simp] theorem Dev.modCtx_other : (d.modCtx c f).other = d.other := rfl
@[simp] theorem Dev.modCtx_otherValid : (d.modCtx c f).otherValid = d.otherValid := rfl
@[simp] theorem Dev.modCtx_runningSlot : (d.modCtx c f).runningSlot = d.runningSlot := rfl
@[simp] theorem Dev.modCtx_runningImage : (d.modCtx c f).runningImage = d.runningImage := rfl
@[simp] theorem Dev.modCtx_measures : (d.modCtx c f).measures = d.measures := rfl
@[simp] theorem Dev.modCtx_challenge : (d.modCtx c f).challenge = d.challenge := rfl
@[simp] theorem Dev.modCtx_spdmSessions : (d.modCtx c f).spdmSessions = d.spdmSessions := rfl
@[simp] theorem Dev.modCtx_ideInsecure : (d.modCtx c f).ideInsecure = d.ideInsecure := rfl
@[simp] theorem Dev.modCtx_out : (d.modCtx c f).out = d.out := rfl

end

section
variable (a : Nat) (f : ArrayRec → ArrayRec)

@[simp] theorem Dev.modArr_regs : (d.modArr a f).regs = d.regs := rfl
@[simp] theorem Dev.modArr_mem : (d.modArr a f).mem = d.mem := rfl
@[simp] theorem Dev.modArr_freeCount : (d.modArr a f).freeCount = d.freeCount := rfl
@[simp] theorem Dev.modArr_time : (d.modArr a f).time = d.time := rfl
@[simp] theorem Dev.modArr_queue : (d.modArr a f).queue = d.queue := rfl
@[simp] theorem Dev.modArr_due : (d.modArr a f).due = d.due := rfl
@[simp] theorem Dev.modArr_programs : (d.modArr a f).programs = d.programs := rfl
@[simp] theorem Dev.modArr_runs : (d.modArr a f).runs = d.runs := rfl
@[simp] theorem Dev.modArr_runStarted : (d.modArr a f).runStarted = d.runStarted := rfl
@[simp] theorem Dev.modArr_attempt : (d.modArr a f).attempt = d.attempt := rfl
@[simp] theorem Dev.modArr_ctxs : (d.modArr a f).ctxs = d.ctxs := rfl
@[simp] theorem Dev.modArr_flash : (d.modArr a f).flash = d.flash := rfl
@[simp] theorem Dev.modArr_flashCodes : (d.modArr a f).flashCodes = d.flashCodes := rfl
@[simp] theorem Dev.modArr_clean : (d.modArr a f).clean = d.clean := rfl
@[simp] theorem Dev.modArr_lastFlush : (d.modArr a f).lastFlush = d.lastFlush := rfl
@[simp] theorem Dev.modArr_coldStart : (d.modArr a f).coldStart = d.coldStart := rfl
@[simp] theorem Dev.modArr_minInterval : (d.modArr a f).minInterval = d.minInterval := rfl
@[simp] theorem Dev.modArr_lifeLimit : (d.modArr a f).lifeLimit = d.lifeLimit := rfl
@[simp] theorem Dev.modArr_wcMissing : (d.modArr a f).wcMissing = d.wcMissing := rfl
@[simp] theorem Dev.modArr_quietAt : (d.modArr a f).quietAt = d.quietAt := rfl
@[simp] theorem Dev.modArr_idleAt : (d.modArr a f).idleAt = d.idleAt := rfl
@[simp] theorem Dev.modArr_monWaits : (d.modArr a f).monWaits = d.monWaits := rfl
@[simp] theorem Dev.modArr_monAt : (d.modArr a f).monAt = d.monAt := rfl
@[simp] theorem Dev.modArr_monSince : (d.modArr a f).monSince = d.monSince := rfl
@[simp] theorem Dev.modArr_extRefBad : (d.modArr a f).extRefBad = d.extRefBad := rfl
@[simp] theorem Dev.modArr_monArmed : (d.modArr a f).monArmed = d.monArmed := rfl
@[simp] theorem Dev.modArr_monLen : (d.modArr a f).monLen = d.monLen := rfl
@[simp] theorem Dev.modArr_monLast : (d.modArr a f).monLast = d.monLast := rfl
@[simp] theorem Dev.modArr_lcWaiters : (d.modArr a f).lcWaiters = d.lcWaiters := rfl
@[simp] theorem Dev.modArr_lcLast : (d.modArr a f).lcLast = d.lcLast := rfl
@[simp] theorem Dev.modArr_objects : (d.modArr a f).objects = d.objects := rfl
@[simp] theorem Dev.modArr_gens : (d.modArr a f).gens = d.gens := rfl
@[simp] theorem Dev.modArr_vmap : (d.modArr a f).vmap = d.vmap := rfl
@[simp] theorem Dev.modArr_formerly : (d.modArr a f).formerly = d.formerly := rfl
@[simp] theorem Dev.modArr_remoteWaits : (d.modArr a f).remoteWaits = d.remoteWaits := rfl
@[simp] theorem Dev.modArr_fbQueue : (d.modArr a f).fbQueue = d.fbQueue := rfl
@[simp] theorem Dev.modArr_ingestDone : (d.modArr a f).ingestDone = d.ingestDone := rfl
@[simp] theorem Dev.modArr_outcomeDue : (d.modArr a f).outcomeDue = d.outcomeDue := rfl
@[simp] theorem Dev.modArr_lastOutcome : (d.modArr a f).lastOutcome = d.lastOutcome := rfl
@[simp] theorem Dev.modArr_lastCommit : (d.modArr a f).lastCommit = d.lastCommit := rfl
@[simp] theorem Dev.modArr_lastKey : (d.modArr a f).lastKey = d.lastKey := rfl
@[simp] theorem Dev.modArr_heldWc : (d.modArr a f).heldWc = d.heldWc := rfl
@[simp] theorem Dev.modArr_updates : (d.modArr a f).updates = d.updates := rfl
@[simp] theorem Dev.modArr_mirrorDue : (d.modArr a f).mirrorDue = d.mirrorDue := rfl
@[simp] theorem Dev.modArr_watchRecs : (d.modArr a f).watchRecs = d.watchRecs := rfl
@[simp] theorem Dev.modArr_rng : (d.modArr a f).rng = d.rng := rfl
@[simp] theorem Dev.modArr_hostReads : (d.modArr a f).hostReads = d.hostReads := rfl
@[simp] theorem Dev.modArr_ports : (d.modArr a f).ports = d.ports := rfl
@[simp] theorem Dev.modArr_outstanding : (d.modArr a f).outstanding = d.outstanding := rfl
@[simp] theorem Dev.modArr_unsent : (d.modArr a f).unsent = d.unsent := rfl
@[simp] theorem Dev.modArr_duePairs : (d.modArr a f).duePairs = d.duePairs := rfl
@[simp] theorem Dev.modArr_own : (d.modArr a f).own = d.own := rfl
@[simp] theorem Dev.modArr_windows : (d.modArr a f).windows = d.windows := rfl
@[simp] theorem Dev.modArr_routes : (d.modArr a f).routes = d.routes := rfl
@[simp] theorem Dev.modArr_maxHops : (d.modArr a f).maxHops = d.maxHops := rfl
@[simp] theorem Dev.modArr_log : (d.modArr a f).log = d.log := rfl
@[simp] theorem Dev.modArr_heldEvents : (d.modArr a f).heldEvents = d.heldEvents := rfl
@[simp] theorem Dev.modArr_life : (d.modArr a f).life = d.life := rfl
@[simp] theorem Dev.modArr_startedAt : (d.modArr a f).startedAt = d.startedAt := rfl
@[simp] theorem Dev.modArr_startDone : (d.modArr a f).startDone = d.startDone := rfl
@[simp] theorem Dev.modArr_pendingReset : (d.modArr a f).pendingReset = d.pendingReset := rfl
@[simp] theorem Dev.modArr_perst : (d.modArr a f).perst = d.perst := rfl
@[simp] theorem Dev.modArr_perstOff : (d.modArr a f).perstOff = d.perstOff := rfl
@[simp] theorem Dev.modArr_startDue : (d.modArr a f).startDue = d.startDue := rfl
@[simp] theorem Dev.modArr_offAt : (d.modArr a f).offAt = d.offAt := rfl
@[simp] theorem Dev.modArr_powerDown : (d.modArr a f).powerDown = d.powerDown := rfl
@[simp] theorem Dev.modArr_mpDown : (d.modArr a f).mpDown = d.mpDown := rfl
@[simp] theorem Dev.modArr_mpKicked : (d.modArr a f).mpKicked = d.mpKicked := rfl
@[simp] theorem Dev.modArr_mpCauses : (d.modArr a f).mpCauses = d.mpCauses := rfl
@[simp] theorem Dev.modArr_vfEnable : (d.modArr a f).vfEnable = d.vfEnable := rfl
@[simp] theorem Dev.modArr_numVFs : (d.modArr a f).numVFs = d.numVFs := rfl
@[simp] theorem Dev.modArr_bar2Pf : (d.modArr a f).bar2Pf = d.bar2Pf := rfl
@[simp] theorem Dev.modArr_bar2Vf : (d.modArr a f).bar2Vf = d.bar2Vf := rfl
@[simp] theorem Dev.modArr_winPending : (d.modArr a f).winPending = d.winPending := rfl
@[simp] theorem Dev.modArr_telemetry : (d.modArr a f).telemetry = d.telemetry := rfl
@[simp] theorem Dev.modArr_telemetryPeriod : (d.modArr a f).telemetryPeriod = d.telemetryPeriod := rfl
@[simp] theorem Dev.modArr_ceSince : (d.modArr a f).ceSince = d.ceSince := rfl
@[simp] theorem Dev.modArr_ceCounts : (d.modArr a f).ceCounts = d.ceCounts := rfl
@[simp] theorem Dev.modArr_ceRaised : (d.modArr a f).ceRaised = d.ceRaised := rfl
@[simp] theorem Dev.modArr_recovering : (d.modArr a f).recovering = d.recovering := rfl
@[simp] theorem Dev.modArr_homeSlots : (d.modArr a f).homeSlots = d.homeSlots := rfl
@[simp] theorem Dev.modArr_homeNewest : (d.modArr a f).homeNewest = d.homeNewest := rfl
@[simp] theorem Dev.modArr_buddyPlace : (d.modArr a f).buddyPlace = d.buddyPlace := rfl
@[simp] theorem Dev.modArr_mirrorSent : (d.modArr a f).mirrorSent = d.mirrorSent := rfl
@[simp] theorem Dev.modArr_buddyRegions : (d.modArr a f).buddyRegions = d.buddyRegions := rfl
@[simp] theorem Dev.modArr_slotStamps : (d.modArr a f).slotStamps = d.slotStamps := rfl
@[simp] theorem Dev.modArr_snapshots : (d.modArr a f).snapshots = d.snapshots := rfl
@[simp] theorem Dev.modArr_rebuild : (d.modArr a f).rebuild = d.rebuild := rfl
@[simp] theorem Dev.modArr_restore : (d.modArr a f).restore = d.restore := rfl
@[simp] theorem Dev.modArr_vcoreFaults : (d.modArr a f).vcoreFaults = d.vcoreFaults := rfl
@[simp] theorem Dev.modArr_vprgFaults : (d.modArr a f).vprgFaults = d.vprgFaults := rfl
@[simp] theorem Dev.modArr_railsOn : (d.modArr a f).railsOn = d.railsOn := rfl
@[simp] theorem Dev.modArr_levelAt : (d.modArr a f).levelAt = d.levelAt := rfl
@[simp] theorem Dev.modArr_inhibited : (d.modArr a f).inhibited = d.inhibited := rfl
@[simp] theorem Dev.modArr_tripN : (d.modArr a f).tripN = d.tripN := rfl
@[simp] theorem Dev.modArr_active : (d.modArr a f).active = d.active := rfl
@[simp] theorem Dev.modArr_other : (d.modArr a f).other = d.other := rfl
@[simp] theorem Dev.modArr_otherValid : (d.modArr a f).otherValid = d.otherValid := rfl
@[simp] theorem Dev.modArr_runningSlot : (d.modArr a f).runningSlot = d.runningSlot := rfl
@[simp] theorem Dev.modArr_runningImage : (d.modArr a f).runningImage = d.runningImage := rfl
@[simp] theorem Dev.modArr_measures : (d.modArr a f).measures = d.measures := rfl
@[simp] theorem Dev.modArr_challenge : (d.modArr a f).challenge = d.challenge := rfl
@[simp] theorem Dev.modArr_spdmSessions : (d.modArr a f).spdmSessions = d.spdmSessions := rfl
@[simp] theorem Dev.modArr_ideInsecure : (d.modArr a f).ideInsecure = d.ideInsecure := rfl
@[simp] theorem Dev.modArr_out : (d.modArr a f).out = d.out := rfl

end

section
variable (p : Nat) (f : PortRec → PortRec)

@[simp] theorem Dev.modPort_regs : (d.modPort p f).regs = d.regs := rfl
@[simp] theorem Dev.modPort_mem : (d.modPort p f).mem = d.mem := rfl
@[simp] theorem Dev.modPort_freeCount : (d.modPort p f).freeCount = d.freeCount := rfl
@[simp] theorem Dev.modPort_time : (d.modPort p f).time = d.time := rfl
@[simp] theorem Dev.modPort_arrays : (d.modPort p f).arrays = d.arrays := rfl
@[simp] theorem Dev.modPort_queue : (d.modPort p f).queue = d.queue := rfl
@[simp] theorem Dev.modPort_due : (d.modPort p f).due = d.due := rfl
@[simp] theorem Dev.modPort_programs : (d.modPort p f).programs = d.programs := rfl
@[simp] theorem Dev.modPort_runs : (d.modPort p f).runs = d.runs := rfl
@[simp] theorem Dev.modPort_runStarted : (d.modPort p f).runStarted = d.runStarted := rfl
@[simp] theorem Dev.modPort_attempt : (d.modPort p f).attempt = d.attempt := rfl
@[simp] theorem Dev.modPort_ctxs : (d.modPort p f).ctxs = d.ctxs := rfl
@[simp] theorem Dev.modPort_flash : (d.modPort p f).flash = d.flash := rfl
@[simp] theorem Dev.modPort_flashCodes : (d.modPort p f).flashCodes = d.flashCodes := rfl
@[simp] theorem Dev.modPort_clean : (d.modPort p f).clean = d.clean := rfl
@[simp] theorem Dev.modPort_lastFlush : (d.modPort p f).lastFlush = d.lastFlush := rfl
@[simp] theorem Dev.modPort_coldStart : (d.modPort p f).coldStart = d.coldStart := rfl
@[simp] theorem Dev.modPort_minInterval : (d.modPort p f).minInterval = d.minInterval := rfl
@[simp] theorem Dev.modPort_lifeLimit : (d.modPort p f).lifeLimit = d.lifeLimit := rfl
@[simp] theorem Dev.modPort_wcMissing : (d.modPort p f).wcMissing = d.wcMissing := rfl
@[simp] theorem Dev.modPort_quietAt : (d.modPort p f).quietAt = d.quietAt := rfl
@[simp] theorem Dev.modPort_idleAt : (d.modPort p f).idleAt = d.idleAt := rfl
@[simp] theorem Dev.modPort_monWaits : (d.modPort p f).monWaits = d.monWaits := rfl
@[simp] theorem Dev.modPort_monAt : (d.modPort p f).monAt = d.monAt := rfl
@[simp] theorem Dev.modPort_monSince : (d.modPort p f).monSince = d.monSince := rfl
@[simp] theorem Dev.modPort_extRefBad : (d.modPort p f).extRefBad = d.extRefBad := rfl
@[simp] theorem Dev.modPort_monArmed : (d.modPort p f).monArmed = d.monArmed := rfl
@[simp] theorem Dev.modPort_monLen : (d.modPort p f).monLen = d.monLen := rfl
@[simp] theorem Dev.modPort_monLast : (d.modPort p f).monLast = d.monLast := rfl
@[simp] theorem Dev.modPort_lcWaiters : (d.modPort p f).lcWaiters = d.lcWaiters := rfl
@[simp] theorem Dev.modPort_lcLast : (d.modPort p f).lcLast = d.lcLast := rfl
@[simp] theorem Dev.modPort_objects : (d.modPort p f).objects = d.objects := rfl
@[simp] theorem Dev.modPort_gens : (d.modPort p f).gens = d.gens := rfl
@[simp] theorem Dev.modPort_vmap : (d.modPort p f).vmap = d.vmap := rfl
@[simp] theorem Dev.modPort_formerly : (d.modPort p f).formerly = d.formerly := rfl
@[simp] theorem Dev.modPort_remoteWaits : (d.modPort p f).remoteWaits = d.remoteWaits := rfl
@[simp] theorem Dev.modPort_fbQueue : (d.modPort p f).fbQueue = d.fbQueue := rfl
@[simp] theorem Dev.modPort_ingestDone : (d.modPort p f).ingestDone = d.ingestDone := rfl
@[simp] theorem Dev.modPort_outcomeDue : (d.modPort p f).outcomeDue = d.outcomeDue := rfl
@[simp] theorem Dev.modPort_lastOutcome : (d.modPort p f).lastOutcome = d.lastOutcome := rfl
@[simp] theorem Dev.modPort_lastCommit : (d.modPort p f).lastCommit = d.lastCommit := rfl
@[simp] theorem Dev.modPort_lastKey : (d.modPort p f).lastKey = d.lastKey := rfl
@[simp] theorem Dev.modPort_heldWc : (d.modPort p f).heldWc = d.heldWc := rfl
@[simp] theorem Dev.modPort_updates : (d.modPort p f).updates = d.updates := rfl
@[simp] theorem Dev.modPort_mirrorDue : (d.modPort p f).mirrorDue = d.mirrorDue := rfl
@[simp] theorem Dev.modPort_watchRecs : (d.modPort p f).watchRecs = d.watchRecs := rfl
@[simp] theorem Dev.modPort_rng : (d.modPort p f).rng = d.rng := rfl
@[simp] theorem Dev.modPort_hostReads : (d.modPort p f).hostReads = d.hostReads := rfl
@[simp] theorem Dev.modPort_outstanding : (d.modPort p f).outstanding = d.outstanding := rfl
@[simp] theorem Dev.modPort_unsent : (d.modPort p f).unsent = d.unsent := rfl
@[simp] theorem Dev.modPort_duePairs : (d.modPort p f).duePairs = d.duePairs := rfl
@[simp] theorem Dev.modPort_own : (d.modPort p f).own = d.own := rfl
@[simp] theorem Dev.modPort_windows : (d.modPort p f).windows = d.windows := rfl
@[simp] theorem Dev.modPort_routes : (d.modPort p f).routes = d.routes := rfl
@[simp] theorem Dev.modPort_maxHops : (d.modPort p f).maxHops = d.maxHops := rfl
@[simp] theorem Dev.modPort_log : (d.modPort p f).log = d.log := rfl
@[simp] theorem Dev.modPort_heldEvents : (d.modPort p f).heldEvents = d.heldEvents := rfl
@[simp] theorem Dev.modPort_life : (d.modPort p f).life = d.life := rfl
@[simp] theorem Dev.modPort_startedAt : (d.modPort p f).startedAt = d.startedAt := rfl
@[simp] theorem Dev.modPort_startDone : (d.modPort p f).startDone = d.startDone := rfl
@[simp] theorem Dev.modPort_pendingReset : (d.modPort p f).pendingReset = d.pendingReset := rfl
@[simp] theorem Dev.modPort_perst : (d.modPort p f).perst = d.perst := rfl
@[simp] theorem Dev.modPort_perstOff : (d.modPort p f).perstOff = d.perstOff := rfl
@[simp] theorem Dev.modPort_startDue : (d.modPort p f).startDue = d.startDue := rfl
@[simp] theorem Dev.modPort_offAt : (d.modPort p f).offAt = d.offAt := rfl
@[simp] theorem Dev.modPort_powerDown : (d.modPort p f).powerDown = d.powerDown := rfl
@[simp] theorem Dev.modPort_mpDown : (d.modPort p f).mpDown = d.mpDown := rfl
@[simp] theorem Dev.modPort_mpKicked : (d.modPort p f).mpKicked = d.mpKicked := rfl
@[simp] theorem Dev.modPort_mpCauses : (d.modPort p f).mpCauses = d.mpCauses := rfl
@[simp] theorem Dev.modPort_vfEnable : (d.modPort p f).vfEnable = d.vfEnable := rfl
@[simp] theorem Dev.modPort_numVFs : (d.modPort p f).numVFs = d.numVFs := rfl
@[simp] theorem Dev.modPort_bar2Pf : (d.modPort p f).bar2Pf = d.bar2Pf := rfl
@[simp] theorem Dev.modPort_bar2Vf : (d.modPort p f).bar2Vf = d.bar2Vf := rfl
@[simp] theorem Dev.modPort_winPending : (d.modPort p f).winPending = d.winPending := rfl
@[simp] theorem Dev.modPort_telemetry : (d.modPort p f).telemetry = d.telemetry := rfl
@[simp] theorem Dev.modPort_telemetryPeriod : (d.modPort p f).telemetryPeriod = d.telemetryPeriod := rfl
@[simp] theorem Dev.modPort_ceSince : (d.modPort p f).ceSince = d.ceSince := rfl
@[simp] theorem Dev.modPort_ceCounts : (d.modPort p f).ceCounts = d.ceCounts := rfl
@[simp] theorem Dev.modPort_ceRaised : (d.modPort p f).ceRaised = d.ceRaised := rfl
@[simp] theorem Dev.modPort_recovering : (d.modPort p f).recovering = d.recovering := rfl
@[simp] theorem Dev.modPort_homeSlots : (d.modPort p f).homeSlots = d.homeSlots := rfl
@[simp] theorem Dev.modPort_homeNewest : (d.modPort p f).homeNewest = d.homeNewest := rfl
@[simp] theorem Dev.modPort_buddyPlace : (d.modPort p f).buddyPlace = d.buddyPlace := rfl
@[simp] theorem Dev.modPort_mirrorSent : (d.modPort p f).mirrorSent = d.mirrorSent := rfl
@[simp] theorem Dev.modPort_buddyRegions : (d.modPort p f).buddyRegions = d.buddyRegions := rfl
@[simp] theorem Dev.modPort_slotStamps : (d.modPort p f).slotStamps = d.slotStamps := rfl
@[simp] theorem Dev.modPort_snapshots : (d.modPort p f).snapshots = d.snapshots := rfl
@[simp] theorem Dev.modPort_rebuild : (d.modPort p f).rebuild = d.rebuild := rfl
@[simp] theorem Dev.modPort_restore : (d.modPort p f).restore = d.restore := rfl
@[simp] theorem Dev.modPort_vcoreFaults : (d.modPort p f).vcoreFaults = d.vcoreFaults := rfl
@[simp] theorem Dev.modPort_vprgFaults : (d.modPort p f).vprgFaults = d.vprgFaults := rfl
@[simp] theorem Dev.modPort_railsOn : (d.modPort p f).railsOn = d.railsOn := rfl
@[simp] theorem Dev.modPort_levelAt : (d.modPort p f).levelAt = d.levelAt := rfl
@[simp] theorem Dev.modPort_inhibited : (d.modPort p f).inhibited = d.inhibited := rfl
@[simp] theorem Dev.modPort_tripN : (d.modPort p f).tripN = d.tripN := rfl
@[simp] theorem Dev.modPort_active : (d.modPort p f).active = d.active := rfl
@[simp] theorem Dev.modPort_other : (d.modPort p f).other = d.other := rfl
@[simp] theorem Dev.modPort_otherValid : (d.modPort p f).otherValid = d.otherValid := rfl
@[simp] theorem Dev.modPort_runningSlot : (d.modPort p f).runningSlot = d.runningSlot := rfl
@[simp] theorem Dev.modPort_runningImage : (d.modPort p f).runningImage = d.runningImage := rfl
@[simp] theorem Dev.modPort_measures : (d.modPort p f).measures = d.measures := rfl
@[simp] theorem Dev.modPort_challenge : (d.modPort p f).challenge = d.challenge := rfl
@[simp] theorem Dev.modPort_spdmSessions : (d.modPort p f).spdmSessions = d.spdmSessions := rfl
@[simp] theorem Dev.modPort_ideInsecure : (d.modPort p f).ideInsecure = d.ideInsecure := rfl
@[simp] theorem Dev.modPort_out : (d.modPort p f).out = d.out := rfl

end

section
variable (a v : Nat)

@[simp] theorem Dev.setByte_regs : (d.setByte a v).regs = d.regs := rfl
@[simp] theorem Dev.setByte_freeCount : (d.setByte a v).freeCount = d.freeCount := rfl
@[simp] theorem Dev.setByte_time : (d.setByte a v).time = d.time := rfl
@[simp] theorem Dev.setByte_arrays : (d.setByte a v).arrays = d.arrays := rfl
@[simp] theorem Dev.setByte_queue : (d.setByte a v).queue = d.queue := rfl
@[simp] theorem Dev.setByte_due : (d.setByte a v).due = d.due := rfl
@[simp] theorem Dev.setByte_programs : (d.setByte a v).programs = d.programs := rfl
@[simp] theorem Dev.setByte_runs : (d.setByte a v).runs = d.runs := rfl
@[simp] theorem Dev.setByte_runStarted : (d.setByte a v).runStarted = d.runStarted := rfl
@[simp] theorem Dev.setByte_attempt : (d.setByte a v).attempt = d.attempt := rfl
@[simp] theorem Dev.setByte_ctxs : (d.setByte a v).ctxs = d.ctxs := rfl
@[simp] theorem Dev.setByte_flash : (d.setByte a v).flash = d.flash := rfl
@[simp] theorem Dev.setByte_flashCodes : (d.setByte a v).flashCodes = d.flashCodes := rfl
@[simp] theorem Dev.setByte_clean : (d.setByte a v).clean = d.clean := rfl
@[simp] theorem Dev.setByte_lastFlush : (d.setByte a v).lastFlush = d.lastFlush := rfl
@[simp] theorem Dev.setByte_coldStart : (d.setByte a v).coldStart = d.coldStart := rfl
@[simp] theorem Dev.setByte_minInterval : (d.setByte a v).minInterval = d.minInterval := rfl
@[simp] theorem Dev.setByte_lifeLimit : (d.setByte a v).lifeLimit = d.lifeLimit := rfl
@[simp] theorem Dev.setByte_wcMissing : (d.setByte a v).wcMissing = d.wcMissing := rfl
@[simp] theorem Dev.setByte_quietAt : (d.setByte a v).quietAt = d.quietAt := rfl
@[simp] theorem Dev.setByte_idleAt : (d.setByte a v).idleAt = d.idleAt := rfl
@[simp] theorem Dev.setByte_monWaits : (d.setByte a v).monWaits = d.monWaits := rfl
@[simp] theorem Dev.setByte_monAt : (d.setByte a v).monAt = d.monAt := rfl
@[simp] theorem Dev.setByte_monSince : (d.setByte a v).monSince = d.monSince := rfl
@[simp] theorem Dev.setByte_extRefBad : (d.setByte a v).extRefBad = d.extRefBad := rfl
@[simp] theorem Dev.setByte_monArmed : (d.setByte a v).monArmed = d.monArmed := rfl
@[simp] theorem Dev.setByte_monLen : (d.setByte a v).monLen = d.monLen := rfl
@[simp] theorem Dev.setByte_monLast : (d.setByte a v).monLast = d.monLast := rfl
@[simp] theorem Dev.setByte_lcWaiters : (d.setByte a v).lcWaiters = d.lcWaiters := rfl
@[simp] theorem Dev.setByte_lcLast : (d.setByte a v).lcLast = d.lcLast := rfl
@[simp] theorem Dev.setByte_objects : (d.setByte a v).objects = d.objects := rfl
@[simp] theorem Dev.setByte_gens : (d.setByte a v).gens = d.gens := rfl
@[simp] theorem Dev.setByte_vmap : (d.setByte a v).vmap = d.vmap := rfl
@[simp] theorem Dev.setByte_formerly : (d.setByte a v).formerly = d.formerly := rfl
@[simp] theorem Dev.setByte_remoteWaits : (d.setByte a v).remoteWaits = d.remoteWaits := rfl
@[simp] theorem Dev.setByte_fbQueue : (d.setByte a v).fbQueue = d.fbQueue := rfl
@[simp] theorem Dev.setByte_ingestDone : (d.setByte a v).ingestDone = d.ingestDone := rfl
@[simp] theorem Dev.setByte_outcomeDue : (d.setByte a v).outcomeDue = d.outcomeDue := rfl
@[simp] theorem Dev.setByte_lastOutcome : (d.setByte a v).lastOutcome = d.lastOutcome := rfl
@[simp] theorem Dev.setByte_lastCommit : (d.setByte a v).lastCommit = d.lastCommit := rfl
@[simp] theorem Dev.setByte_lastKey : (d.setByte a v).lastKey = d.lastKey := rfl
@[simp] theorem Dev.setByte_heldWc : (d.setByte a v).heldWc = d.heldWc := rfl
@[simp] theorem Dev.setByte_updates : (d.setByte a v).updates = d.updates := rfl
@[simp] theorem Dev.setByte_mirrorDue : (d.setByte a v).mirrorDue = d.mirrorDue := rfl
@[simp] theorem Dev.setByte_watchRecs : (d.setByte a v).watchRecs = d.watchRecs := rfl
@[simp] theorem Dev.setByte_rng : (d.setByte a v).rng = d.rng := rfl
@[simp] theorem Dev.setByte_hostReads : (d.setByte a v).hostReads = d.hostReads := rfl
@[simp] theorem Dev.setByte_ports : (d.setByte a v).ports = d.ports := rfl
@[simp] theorem Dev.setByte_outstanding : (d.setByte a v).outstanding = d.outstanding := rfl
@[simp] theorem Dev.setByte_unsent : (d.setByte a v).unsent = d.unsent := rfl
@[simp] theorem Dev.setByte_duePairs : (d.setByte a v).duePairs = d.duePairs := rfl
@[simp] theorem Dev.setByte_own : (d.setByte a v).own = d.own := rfl
@[simp] theorem Dev.setByte_windows : (d.setByte a v).windows = d.windows := rfl
@[simp] theorem Dev.setByte_routes : (d.setByte a v).routes = d.routes := rfl
@[simp] theorem Dev.setByte_maxHops : (d.setByte a v).maxHops = d.maxHops := rfl
@[simp] theorem Dev.setByte_log : (d.setByte a v).log = d.log := rfl
@[simp] theorem Dev.setByte_heldEvents : (d.setByte a v).heldEvents = d.heldEvents := rfl
@[simp] theorem Dev.setByte_life : (d.setByte a v).life = d.life := rfl
@[simp] theorem Dev.setByte_startedAt : (d.setByte a v).startedAt = d.startedAt := rfl
@[simp] theorem Dev.setByte_startDone : (d.setByte a v).startDone = d.startDone := rfl
@[simp] theorem Dev.setByte_pendingReset : (d.setByte a v).pendingReset = d.pendingReset := rfl
@[simp] theorem Dev.setByte_perst : (d.setByte a v).perst = d.perst := rfl
@[simp] theorem Dev.setByte_perstOff : (d.setByte a v).perstOff = d.perstOff := rfl
@[simp] theorem Dev.setByte_startDue : (d.setByte a v).startDue = d.startDue := rfl
@[simp] theorem Dev.setByte_offAt : (d.setByte a v).offAt = d.offAt := rfl
@[simp] theorem Dev.setByte_powerDown : (d.setByte a v).powerDown = d.powerDown := rfl
@[simp] theorem Dev.setByte_mpDown : (d.setByte a v).mpDown = d.mpDown := rfl
@[simp] theorem Dev.setByte_mpKicked : (d.setByte a v).mpKicked = d.mpKicked := rfl
@[simp] theorem Dev.setByte_mpCauses : (d.setByte a v).mpCauses = d.mpCauses := rfl
@[simp] theorem Dev.setByte_vfEnable : (d.setByte a v).vfEnable = d.vfEnable := rfl
@[simp] theorem Dev.setByte_numVFs : (d.setByte a v).numVFs = d.numVFs := rfl
@[simp] theorem Dev.setByte_bar2Pf : (d.setByte a v).bar2Pf = d.bar2Pf := rfl
@[simp] theorem Dev.setByte_bar2Vf : (d.setByte a v).bar2Vf = d.bar2Vf := rfl
@[simp] theorem Dev.setByte_winPending : (d.setByte a v).winPending = d.winPending := rfl
@[simp] theorem Dev.setByte_telemetry : (d.setByte a v).telemetry = d.telemetry := rfl
@[simp] theorem Dev.setByte_telemetryPeriod : (d.setByte a v).telemetryPeriod = d.telemetryPeriod := rfl
@[simp] theorem Dev.setByte_ceSince : (d.setByte a v).ceSince = d.ceSince := rfl
@[simp] theorem Dev.setByte_ceCounts : (d.setByte a v).ceCounts = d.ceCounts := rfl
@[simp] theorem Dev.setByte_ceRaised : (d.setByte a v).ceRaised = d.ceRaised := rfl
@[simp] theorem Dev.setByte_recovering : (d.setByte a v).recovering = d.recovering := rfl
@[simp] theorem Dev.setByte_homeSlots : (d.setByte a v).homeSlots = d.homeSlots := rfl
@[simp] theorem Dev.setByte_homeNewest : (d.setByte a v).homeNewest = d.homeNewest := rfl
@[simp] theorem Dev.setByte_buddyPlace : (d.setByte a v).buddyPlace = d.buddyPlace := rfl
@[simp] theorem Dev.setByte_mirrorSent : (d.setByte a v).mirrorSent = d.mirrorSent := rfl
@[simp] theorem Dev.setByte_buddyRegions : (d.setByte a v).buddyRegions = d.buddyRegions := rfl
@[simp] theorem Dev.setByte_slotStamps : (d.setByte a v).slotStamps = d.slotStamps := rfl
@[simp] theorem Dev.setByte_snapshots : (d.setByte a v).snapshots = d.snapshots := rfl
@[simp] theorem Dev.setByte_rebuild : (d.setByte a v).rebuild = d.rebuild := rfl
@[simp] theorem Dev.setByte_restore : (d.setByte a v).restore = d.restore := rfl
@[simp] theorem Dev.setByte_vcoreFaults : (d.setByte a v).vcoreFaults = d.vcoreFaults := rfl
@[simp] theorem Dev.setByte_vprgFaults : (d.setByte a v).vprgFaults = d.vprgFaults := rfl
@[simp] theorem Dev.setByte_railsOn : (d.setByte a v).railsOn = d.railsOn := rfl
@[simp] theorem Dev.setByte_levelAt : (d.setByte a v).levelAt = d.levelAt := rfl
@[simp] theorem Dev.setByte_inhibited : (d.setByte a v).inhibited = d.inhibited := rfl
@[simp] theorem Dev.setByte_tripN : (d.setByte a v).tripN = d.tripN := rfl
@[simp] theorem Dev.setByte_active : (d.setByte a v).active = d.active := rfl
@[simp] theorem Dev.setByte_other : (d.setByte a v).other = d.other := rfl
@[simp] theorem Dev.setByte_otherValid : (d.setByte a v).otherValid = d.otherValid := rfl
@[simp] theorem Dev.setByte_runningSlot : (d.setByte a v).runningSlot = d.runningSlot := rfl
@[simp] theorem Dev.setByte_runningImage : (d.setByte a v).runningImage = d.runningImage := rfl
@[simp] theorem Dev.setByte_measures : (d.setByte a v).measures = d.measures := rfl
@[simp] theorem Dev.setByte_challenge : (d.setByte a v).challenge = d.challenge := rfl
@[simp] theorem Dev.setByte_spdmSessions : (d.setByte a v).spdmSessions = d.spdmSessions := rfl
@[simp] theorem Dev.setByte_ideInsecure : (d.setByte a v).ideInsecure = d.ideInsecure := rfl
@[simp] theorem Dev.setByte_out : (d.setByte a v).out = d.out := rfl

end

end Sys2Proof.Machine
end

