-- ==== Sys2Proof/Laws/Tables.lean ====
section
/-! SUPPORT. Laws of the sparse tables: what a read finds after a write, and that every write keeps the canonical form. -/
namespace Sys2Proof.Machine

variable {α : Type}

theorem Tbl.risingFrom_mono {m : Tbl α} {lo hi : Nat} (h : Tbl.risingFrom hi m = true) (le : lo ≤ hi) :
    Tbl.risingFrom lo m = true := by
  cases m with
  | nil => rfl
  | cons e rest =>
    simp only [Tbl.risingFrom, Bool.and_eq_true, decide_eq_true_eq] at h ⊢
    exact ⟨Nat.le_trans le h.1, h.2⟩

theorem Tbl.find_of_risingFrom {m : Tbl α} {lo k : Nat} (h : Tbl.risingFrom lo m = true) (lt : k < lo) : Tbl.find m k = none := by
  cases m with
  | nil => rfl
  | cons e rest =>
    simp only [Tbl.risingFrom, Bool.and_eq_true, decide_eq_true_eq] at h
    have : k < e.1 := by omega
    simp [Tbl.find, Nat.ne_of_lt this, this]

/-- A read at the key just written. -/
@[simp] theorem Tbl.find_put_self (m : Tbl α) (k : Nat) (v : α) : Tbl.find (Tbl.put m k v) k = some v := by
  induction m with
  | nil => simp [Tbl.put, Tbl.find]
  | cons e rest ih =>
    simp only [Tbl.put]
    split
    · simp [Tbl.find]
    · split
      · simp [Tbl.find]
      · simp [Tbl.find, *]

/-- A read at another key. -/
theorem Tbl.find_put_other (m : Tbl α) {k j : Nat} (v : α) (ne : j ≠ k) : Tbl.find (Tbl.put m k v) j = Tbl.find m j := by
  induction m with
  | nil => simp [Tbl.put, Tbl.find, ne]
  | cons e rest ih =>
    simp only [Tbl.put]
    split
    next h => subst h; simp [Tbl.find, ne]
    next h =>
      split
      next lt =>
        simp only [Tbl.find]
        by_cases hj : j < k
        · have h1 : j ≠ e.1 := by omega
          have h2 : j < e.1 := by omega
          simp [ne, hj, h1, h2]
        · simp [ne, hj]
      next => simp [Tbl.find, ih]

theorem Tbl.find_del_self {m : Tbl α} (h : Tbl.rising m = true) (k : Nat) : Tbl.find (Tbl.del m k) k = none := by
  unfold Tbl.rising at h
  generalize 0 = lo at h
  induction m generalizing lo with
  | nil => rfl
  | cons e rest ih =>
    simp only [Tbl.risingFrom, Bool.and_eq_true, decide_eq_true_eq] at h
    simp only [Tbl.del]
    split
    next hk => exact Tbl.find_of_risingFrom h.2 (by omega)
    next hk =>
      split
      next lt => simp [Tbl.find, hk, lt]
      next lt => simp [Tbl.find, hk, lt, ih _ h.2]

theorem Tbl.find_del_other {m : Tbl α} (h : Tbl.rising m = true) {k j : Nat} (ne : j ≠ k) : Tbl.find (Tbl.del m k) j = Tbl.find m j := by
  unfold Tbl.rising at h
  generalize 0 = lo at h
  induction m generalizing lo with
  | nil => rfl
  | cons e rest ih =>
    simp only [Tbl.risingFrom, Bool.and_eq_true, decide_eq_true_eq] at h
    simp only [Tbl.del]
    split
    next hk =>
      subst hk
      simp only [Tbl.find, ne, if_false]
      split
      next lt => exact Tbl.find_of_risingFrom h.2 (by omega)
      next => rfl
    next hk =>
      split
      next lt => rfl
      next lt => simp [Tbl.find, ih _ h.2]

theorem Tbl.risingFrom_put {m : Tbl α} {lo k : Nat} (v : α) (h : Tbl.risingFrom lo m = true) (le : lo ≤ k) :
    Tbl.risingFrom lo (Tbl.put m k v) = true := by
  induction m generalizing lo with
  | nil => simp [Tbl.put, Tbl.risingFrom, le]
  | cons e rest ih =>
    simp only [Tbl.risingFrom, Bool.and_eq_true, decide_eq_true_eq] at h
    simp only [Tbl.put]
    split
    next hk => subst hk; simp [Tbl.risingFrom, le, h.2]
    next hk =>
      split
      next lt => simp [Tbl.risingFrom, le, h.2]; omega
      next lt => simp [Tbl.risingFrom, h.1, ih h.2 (by omega : e.1 + 1 ≤ k)]

theorem Tbl.risingFrom_del {m : Tbl α} {lo : Nat} (k : Nat) (h : Tbl.risingFrom lo m = true) : Tbl.risingFrom lo (Tbl.del m k) = true := by
  induction m generalizing lo with
  | nil => rfl
  | cons e rest ih =>
    have h' := h
    simp only [Tbl.risingFrom, Bool.and_eq_true, decide_eq_true_eq] at h
    simp only [Tbl.del]
    split
    next => exact Tbl.risingFrom_mono h.2 (by omega)
    next =>
      split
      next => exact h'
      next => simp [Tbl.risingFrom, h.1, ih h.2]

theorem Tbl.risingFrom_filter {m : Tbl α} {lo : Nat} (p : Nat × α → Bool) (h : Tbl.risingFrom lo m = true) :
    Tbl.risingFrom lo (m.filter p) = true := by
  induction m generalizing lo with
  | nil => rfl
  | cons e rest ih =>
    simp only [Tbl.risingFrom, Bool.and_eq_true, decide_eq_true_eq] at h
    simp only [List.filter_cons]
    split
    next => simp [Tbl.risingFrom, h.1, ih h.2]
    next => exact Tbl.risingFrom_mono (ih h.2) (by omega)

theorem Tbl.mem_put {m : Tbl α} {k : Nat} {v : α} {e : Nat × α} (h : e ∈ Tbl.put m k v) : e = (k, v) ∨ e ∈ m := by
  induction m with
  | nil => simpa [Tbl.put] using h
  | cons e' rest ih =>
    simp only [Tbl.put] at h
    split at h
    · rcases List.mem_cons.1 h with h | h
      · exact .inl h
      · exact .inr (List.mem_cons_of_mem _ h)
    · split at h
      · rcases List.mem_cons.1 h with h | h
        · exact .inl h
        · exact .inr h
      · rcases List.mem_cons.1 h with h | h
        · exact .inr (h ▸ List.mem_cons_self)
        · exact (ih h).imp_right (List.mem_cons_of_mem _)

theorem Tbl.mem_of_mem_del {m : Tbl α} {k : Nat} {e : Nat × α} (h : e ∈ Tbl.del m k) : e ∈ m := by
  induction m with
  | nil => simp [Tbl.del] at h
  | cons e' rest ih =>
    simp only [Tbl.del] at h
    split at h
    · exact List.mem_cons_of_mem _ h
    · split at h
      · exact h
      · rcases List.mem_cons.1 h with h | h
        · exact h ▸ List.mem_cons_self
        · exact List.mem_cons_of_mem _ (ih h)

section Default
variable [DecidableEq α]

/-- The canonical form says: the keys rise, and no entry equals the default. -/
theorem Tbl.wf_iff {dflt : α} {m : Tbl α} : Tbl.wf dflt m = true ↔ Tbl.rising m = true ∧ ∀ e ∈ m, e.2 ≠ dflt := by
  simp only [Tbl.wf, Bool.and_eq_true, List.all_eq_true, decide_eq_true_eq]

theorem Tbl.wf_nil (dflt : α) : Tbl.wf dflt ([] : Tbl α) = true := rfl

/-- A read at the key just written, of a table in canonical form. -/
theorem Tbl.get_set_self {dflt : α} {m : Tbl α} (h : Tbl.rising m = true) (k : Nat) (v : α) : Tbl.get dflt (Tbl.set dflt m k v) k = v := by
  unfold Tbl.get Tbl.set
  split
  next hv => simp [Tbl.find_del_self h, hv]
  next => simp

/-- A read at another key. -/
theorem Tbl.get_set_other {dflt : α} {m : Tbl α} (h : Tbl.rising m = true) {k j : Nat} (v : α) (ne : j ≠ k) :
    Tbl.get dflt (Tbl.set dflt m k v) j = Tbl.get dflt m j := by
  unfold Tbl.get Tbl.set
  split
  next => rw [Tbl.find_del_other h ne]
  next => rw [Tbl.find_put_other m v ne]

/-- A write keeps the canonical form. -/
theorem Tbl.wf_set {dflt : α} {m : Tbl α} (h : Tbl.wf dflt m = true) (k : Nat) (v : α) : Tbl.wf dflt (Tbl.set dflt m k v) = true := by
  rw [Tbl.wf_iff] at h ⊢
  unfold Tbl.set
  split
  next => exact ⟨Tbl.risingFrom_del k h.1, fun e he => h.2 e (Tbl.mem_of_mem_del he)⟩
  next hv =>
    refine ⟨Tbl.risingFrom_put v h.1 (Nat.zero_le k), fun e he => ?_⟩
    rcases Tbl.mem_put he with rfl | he
    · exact hv
    · exact h.2 e he

/-- A write keeps the keys rising. -/
theorem Tbl.rising_set {dflt : α} {m : Tbl α} (h : Tbl.rising m = true) (k : Nat) (v : α) : Tbl.rising (Tbl.set dflt m k v) = true := by
  unfold Tbl.set
  split
  · exact Tbl.risingFrom_del k h
  · exact Tbl.risingFrom_put v h (Nat.zero_le k)

/-- Leaving entries out keeps the canonical form. -/
theorem Tbl.wf_filter {dflt : α} {m : Tbl α} (p : Nat × α → Bool) (h : Tbl.wf dflt m = true) : Tbl.wf dflt (m.filter p) = true := by
  rw [Tbl.wf_iff] at h ⊢
  exact ⟨Tbl.risingFrom_filter p h.1, fun e he => h.2 e (List.mem_filter.1 he).1⟩

end Default

end Sys2Proof.Machine
end

