-- ==== Sys2Proof/Laws/Memory.lean ====
section
/-! SUPPORT. Laws of the memory: what a read finds after a write, and that every operation keeps the canonical form. -/
namespace Sys2Proof.Machine

/-- The memory of a state is in canonical form. -/
abbrev Dev.memOk (d : Dev) : Prop := Memory.wf d.mem = true

theorem Memory.rising_of_wf {m : List Host.Cell} (h : Memory.wf m = true) : Tbl.rising m = true := (Tbl.wf_iff.1 h).1

theorem Dev.memOk_reset : State.reset.dev.memOk := rfl

theorem Dev.memOk_setByte {d : Dev} (h : d.memOk) (a v : Nat) : (d.setByte a v).memOk := by
  unfold Dev.setByte Dev.memOk
  split
  · exact Tbl.wf_set h _ _
  · exact h

/-- A write of a byte that no memory has changes nothing. -/
theorem Dev.setByte_absent (d : Dev) {a : Nat} (v : Nat) (no : cellExists a = false) : d.setByte a v = d := by
  simp [Dev.setByte, no]

/-- The byte just written. -/
theorem Dev.byte_setByte_self {d : Dev} (h : d.memOk) (a v : Nat) (there : cellExists a = true) : (d.setByte a v).byte a = v % 256 := by
  simp only [Dev.setByte, Dev.byte, there, if_true]
  rw [Tbl.get_set_self (Memory.rising_of_wf h)]
  rfl

/-- Every other byte. -/
theorem Dev.byte_setByte_other {d : Dev} (h : d.memOk) {a b : Nat} (v : Nat) (ne : b ≠ a) : (d.setByte a v).byte b = d.byte b := by
  cases there : cellExists a with
  | false => rw [Dev.setByte_absent d v there]
  | true =>
    simp only [Dev.setByte, Dev.byte, there, if_true]
    rw [Tbl.get_set_other (Memory.rising_of_wf h) _ ne]

theorem Dev.memOk_setBytes {d : Dev} (h : d.memOk) (a : Nat) (bs : List Nat) : (d.setBytes a bs).memOk := by
  induction bs generalizing d a with
  | nil => exact h
  | cons b bs ih => exact ih (Dev.memOk_setByte h a b) (a + 1)

/-- A byte outside the bytes written. -/
theorem Dev.byte_setBytes_other {d : Dev} (h : d.memOk) (a : Nat) (bs : List Nat) {b : Nat} (out : b < a ∨ a + bs.length ≤ b) :
    (d.setBytes a bs).byte b = d.byte b := by
  induction bs generalizing d a with
  | nil => rfl
  | cons v bs ih =>
    simp only [List.length_cons] at out
    rw [Dev.setBytes, ih (Dev.memOk_setByte h a v) _ (by omega), Dev.byte_setByte_other h _ (by omega)]

/-- A byte that was written. -/
theorem Dev.byte_setBytes_self {d : Dev} (h : d.memOk) (a : Nat) (bs : List Nat) {i : Nat} (lt : i < bs.length)
    (there : ∀ j < bs.length, cellExists (a + j) = true) : (d.setBytes a bs).byte (a + i) = bs.getD i 0 % 256 := by
  induction bs generalizing d a i with
  | nil => simp at lt
  | cons v bs ih =>
    rw [Dev.setBytes]
    cases i with
    | zero => rw [Dev.byte_setBytes_other (Dev.memOk_setByte h a v) _ _ (by omega)]; exact Dev.byte_setByte_self h a v (there 0 (by simp))
    | succ i =>
      have := ih (Dev.memOk_setByte h a v) (a + 1) (i := i) (by simpa using lt)
        (fun j hj => by rw [show a + 1 + j = a + (j + 1) by omega]; exact there _ (by simpa using hj))
      rw [show a + (i + 1) = a + 1 + i by omega, this]
      rfl

theorem Dev.memOk_setLe {d : Dev} (h : d.memOk) (a n v : Nat) : (d.setLe a n v).memOk := by
  induction n generalizing d a v with
  | zero => exact h
  | succ n ih => exact ih (Dev.memOk_setByte h a _) _ _

/-- A byte outside the word written. -/
theorem Dev.byte_setLe_other {d : Dev} (h : d.memOk) (a n v : Nat) {b : Nat} (out : b < a ∨ a + n ≤ b) :
    (d.setLe a n v).byte b = d.byte b := by
  induction n generalizing d a v with
  | zero => rfl
  | succ n ih => rw [Dev.setLe, ih (Dev.memOk_setByte h a _) _ _ (by omega), Dev.byte_setByte_other h _ (by omega)]

/-- Device memory has its bytes. -/
theorem cellExists_dev {a : Nat} (h : a < deviceMemory) : cellExists (devCell a) = true := by
  have big : deviceMemory < 2 ^ 64 := by decide
  have hd : devCell a / 2 ^ 64 = 0 := Nat.div_eq_of_lt (Nat.lt_trans h big)
  have hm : devCell a % 2 ^ 64 = a := Nat.mod_eq_of_lt (Nat.lt_trans h big)
  simp only [cellExists, hd, hm]
  rw [if_pos trivial]
  exact decide_eq_true h

/-- So has a Peck's SRAM. -/
theorem cellExists_peck {p a : Nat} (hp : p < 128) (h : a < 2 ^ 23) : cellExists (peckCell p a) = true := by
  have hd : peckCell p a / 2 ^ 64 = 1 + p := by unfold peckCell; omega
  have hm : peckCell p a % 2 ^ 64 = a := by unfold peckCell; omega
  simp only [cellExists, hd, hm]
  rw [if_neg (by omega), if_pos (by omega)]
  exact decide_eq_true h

/-- So has a Grain's. -/
theorem cellExists_grain {g a : Nat} (hg : g < 1024) (h : a < 2 ^ 21) : cellExists (grainCell g a) = true := by
  have hd : grainCell g a / 2 ^ 64 = 129 + g := by unfold grainCell; omega
  have hm : grainCell g a % 2 ^ 64 = a := by unfold grainCell; omega
  simp only [cellExists, hd, hm]
  rw [if_neg (by omega), if_neg (by omega), if_pos (by omega)]
  exact decide_eq_true h

theorem Dev.memOk_clearBytes {d : Dev} (h : d.memOk) (a n : Nat) : (d.clearBytes a n).memOk := Tbl.wf_filter _ h

end Sys2Proof.Machine
end

