-- ==== Sys2Proof/Laws/Registers.lean ====
section
/-! SUPPORT. Laws of bit fields and of the register table: what a field reads after a write of it, of another field of its
register, and of another register. -/
namespace Sys2Proof.Machine

/-- Bit `i` of a field. -/
theorem testBit_bits (x hi lo i : Nat) : (bits x hi lo).testBit i = (decide (i < hi + 1 - lo) && x.testBit (lo + i)) := by
  simp [bits, Nat.testBit_mod_two_pow, Nat.testBit_shiftRight]

/-- A word with a field replaced, from its parts below, in and above the field. -/
theorem setBits_parts (x v : Nat) {hi lo : Nat} (le : lo ≤ hi + 1) :
    setBits x hi lo v = 2 ^ lo * (2 ^ (hi + 1 - lo) * (x / 2 ^ (hi + 1)) + v % 2 ^ (hi + 1 - lo)) + x % 2 ^ lo := by
  have hx := Nat.div_add_mod x (2 ^ lo)
  have hy := Nat.div_add_mod (x / 2 ^ lo) (2 ^ (hi + 1 - lo))
  have hd : x / 2 ^ lo / 2 ^ (hi + 1 - lo) = x / 2 ^ (hi + 1) := by
    rw [Nat.div_div_eq_div_mul, ← Nat.pow_add]; congr 2; omega
  rw [hd] at hy
  have e : 2 ^ lo * (x / 2 ^ lo) = 2 ^ lo * (2 ^ (hi + 1 - lo) * (x / 2 ^ (hi + 1))) + 2 ^ lo * (x / 2 ^ lo % 2 ^ (hi + 1 - lo)) := by
    rw [← Nat.mul_add, hy]
  unfold setBits bits
  rw [Nat.shiftRight_eq_div_pow, Nat.mul_comm (x / 2 ^ lo % _), Nat.mul_comm (v % _), Nat.mul_add]
  omega

/-- Bit `i` of a word with a field replaced. -/
theorem testBit_setBits (x v i : Nat) {hi lo : Nat} (le : lo ≤ hi + 1) :
    (setBits x hi lo v).testBit i = if lo ≤ i ∧ i ≤ hi then v.testBit (i - lo) else x.testBit i := by
  rw [setBits_parts x v le, Nat.testBit_two_pow_mul_add _ (Nat.mod_lt _ (Nat.two_pow_pos _)),
    Nat.testBit_two_pow_mul_add _ (Nat.mod_lt _ (Nat.two_pow_pos _))]
  simp only [Nat.testBit_mod_two_pow, Nat.testBit_div_two_pow]
  by_cases h1 : i < lo
  · have : ¬ (lo ≤ i ∧ i ≤ hi) := by omega
    simp [h1, this]
  · by_cases h2 : i ≤ hi
    · have : i - lo < hi + 1 - lo := by omega
      have : lo ≤ i ∧ i ≤ hi := by omega
      simp [*]
    · have h3 : ¬ i - lo < hi + 1 - lo := by omega
      have h4 : i - lo - (hi + 1 - lo) + (hi + 1) = i := by omega
      simp [h1, h2, h3, h4]

/-- A field of a 32-bit register reads what was written to it. -/
theorem bits_setBits_self (x v : Nat) {hi lo : Nat} (le : lo ≤ hi + 1) (lt : hi < 32) :
    bits (setBits x hi lo v % 2 ^ 32) hi lo = v % 2 ^ (hi + 1 - lo) := by
  apply Nat.eq_of_testBit_eq
  intro i
  rw [testBit_bits, Nat.testBit_mod_two_pow, Nat.testBit_mod_two_pow, testBit_setBits x v _ le]
  by_cases h : i < hi + 1 - lo
  · have h1 : lo + i < 32 := by omega
    have h2 : lo ≤ lo + i ∧ lo + i ≤ hi := by omega
    have h3 : lo + i - lo = i := by omega
    simp [h, h1, h2, h3]
  · simp [h]

/-- Another field of the same register keeps what it held. -/
theorem bits_setBits_other (x v : Nat) {hi lo hi' lo' : Nat} (le : lo ≤ hi + 1) (lt' : hi' < 32) (apart : hi < lo' ∨ hi' < lo) :
    bits (setBits x hi lo v % 2 ^ 32) hi' lo' = bits x hi' lo' := by
  apply Nat.eq_of_testBit_eq
  intro i
  rw [testBit_bits, testBit_bits, Nat.testBit_mod_two_pow, testBit_setBits x v _ le]
  by_cases h : i < hi' + 1 - lo'
  · have h1 : lo' + i < 32 := by omega
    have h2 : ¬ (lo ≤ lo' + i ∧ lo' + i ≤ hi) := by omega
    simp [h, h1, h2]
  · simp [h]

/-- The registers' table of a state is in order. -/
abbrev Dev.regsOk (d : Dev) : Prop := Tbl.rising d.regs = true

theorem Dev.regsOk_setWord {d : Dev} (h : d.regsOk) (r : Reg) (u n k v : Nat) : (d.setWord r u n k v).regsOk :=
  Tbl.rising_set h _ _

theorem Dev.regsOk_wr {d : Dev} (h : d.regsOk) (f : Fld) (u n k v : Nat) : (d.wr f u n k v).regsOk := Tbl.rising_set h _ _

/-- A register reads the word written to it. -/
theorem Dev.word_setWord_self {d : Dev} (h : d.regsOk) (r : Reg) (u n k v : Nat) : (d.setWord r u n k v).word r u n k = v % 2 ^ 32 :=
  Tbl.get_set_self h _ _

/-- A register at another place keeps its word. -/
theorem Dev.word_setWord_other {d : Dev} (h : d.regsOk) (r r' : Reg) (u n k v u' n' k' : Nat)
    (ne : r'.key u' n' k' ≠ r.key u n k) : (d.setWord r u n k v).word r' u' n' k' = d.word r' u' n' k' := by
  unfold Dev.setWord Dev.word Tbl.get Tbl.set
  split
  · rw [Tbl.find_del_other h ne]
  · rw [Tbl.find_put_other _ _ ne]

/-- A field reads what was written to it. -/
theorem Dev.rd_wr_self {d : Dev} (h : d.regsOk) (f : Fld) (u n k v : Nat) (le : f.lo ≤ f.hi + 1) (lt : f.hi < 32) :
    (d.wr f u n k v).rd f u n k = v % 2 ^ (f.hi + 1 - f.lo) := by
  unfold Dev.wr Dev.rd
  rw [Dev.word_setWord_self h, bits_setBits_self _ _ le lt]

/-- Another field of the register just written keeps its value. -/
theorem Dev.rd_wr_field {d : Dev} (h : d.regsOk) (f f' : Fld) (u n k v : Nat) (same : f'.reg = f.reg) (le : f.lo ≤ f.hi + 1)
    (lt' : f'.hi < 32) (apart : f.hi < f'.lo ∨ f'.hi < f.lo) : (d.wr f u n k v).rd f' u n k = d.rd f' u n k := by
  unfold Dev.wr Dev.rd
  rw [same, Dev.word_setWord_self h, bits_setBits_other _ _ le lt' apart]

/-- A field of a register at another place keeps its value. -/
theorem Dev.rd_wr_other {d : Dev} (h : d.regsOk) (f f' : Fld) (u n k v u' n' k' : Nat)
    (ne : f'.reg.key u' n' k' ≠ f.reg.key u n k) : (d.wr f u n k v).rd f' u' n' k' = d.rd f' u' n' k' := by
  unfold Dev.wr Dev.rd
  rw [Dev.word_setWord_other h _ _ _ _ _ _ _ _ _ ne]

end Sys2Proof.Machine
end

