-- ==== Sys2Proof/Laws/Serve.lean ====
section
/-! SUPPORT. What serving a command does, said once: the checks leave the state, a ready command runs its own part on the begun state,
and completing a slot touches its page only. -/
namespace Sys2Proof.Machine

/-- Checks that pass change nothing. -/
theorem Dev.refuse_none {d : Dev} {c k : Nat} (h : (d.refuse c k).1 = none) : d.refuse c k = (none, d) := by
  unfold Dev.refuse at h ⊢
  simp only at h ⊢
  generalize opcodeRow (bits (d.cmd c k 0) 7 0) = row at h ⊢
  obtain _ | ⟨op, pf0⟩ := row
  · simp at h
  · simp only at h ⊢
    split at h
    · simp at h
    · rename_i h1
      rw [if_neg h1]
      split at h
      · simp at h
      · rename_i h2
        rw [if_neg h2]
        split at h
        · simp at h
        · rename_i h3
          rw [if_neg h3]

/-- A ready command runs its own part on the begun state, and its reply settles the slot. -/
theorem Dev.serve_ready {s : State} {c k op : Nat} {mine : Nat → Bool} (h : Ready s c k op) (own : mine op = true)
    (body : Dev → Reply × Dev) :
    s.dev.serve c k mine body = (body (s.dev.begun c k)).2.settle c k (body (s.dev.begun c k)).1 := by
  obtain ⟨h1, h2, h3⟩ := h
  unfold Dev.serve
  rw [if_pos ⟨h1, h2 ▸ own⟩]
  simp only [Dev.refuse_none h3]
  rfl

theorem Dev.serveOp_ready {s : State} {c k op : Nat} (h : Ready s c k op) (body : Dev → Reply × Dev) :
    s.dev.serveOp c k op body = (body (s.dev.begun c k)).2.settle c k (body (s.dev.begun c k)).1 :=
  Dev.serve_ready h (by simp) body

/-- A command that may not be served, or of another opcode, leaves the slot alone. -/
theorem Dev.serve_idle {d : Dev} {c k : Nat} {mine : Nat → Bool} (h : ¬ (d.servable c k = true ∧ mine (d.opcode c k) = true))
    (body : Dev → Reply × Dev) : d.serve c k mine body = d := by
  unfold Dev.serve
  rw [if_neg h]

/-- A refused command completes with the status of the check; its SEQ is not consumed. -/
theorem Dev.serve_refused {d : Dev} {c k : Nat} {mine : Nat → Bool} {st : Status} (h1 : d.servable c k = true)
    (h2 : mine (d.opcode c k) = true) (h3 : ((d.setSlot c k slotRunning).refuse c k).1 = some st) (body : Dev → Reply × Dev) :
    d.serve c k mine body = ((d.setSlot c k slotRunning).refuse c k).2.finishSlot c k st := by
  unfold Dev.serve
  rw [if_pos ⟨h1, h2⟩]
  simp only
  generalize hr : (d.setSlot c k slotRunning).refuse c k = r at h3 ⊢
  obtain ⟨a, b⟩ := r
  simp only at h3
  subst h3
  rfl

theorem Dev.settle_done (d : Dev) (c k : Nat) (st : Status) (ws : List Nat) : d.settle c k (.done st ws) = d.finishSlot c k st ws := rfl

theorem Dev.settle_wait (d : Dev) (c k : Nat) (w : SlotWait) :
    d.settle c k (.wait w) = d.modCtx c (fun x => { x with waits := Tbl.put x.waits k w }) := rfl

/-- Response words stand in registers. -/
theorem Dev.putWords_sameButRegs (d : Dev) (c k i : Nat) (ws : List Nat) : d.sameButRegs (d.putWords c k i ws) := by
  induction ws generalizing d i with
  | nil => rfl
  | cons w ws ih =>
    have := ih (d.wr MBX_RSP_WORD c k i w) (i + 1)
    unfold Dev.sameButRegs at this ⊢
    rw [Dev.putWords, this]
    rfl

/-- Sending an MSI-X message, or holding it back. -/
theorem Dev.msix_sameButPages (d : Dev) (c v : Nat) : d.sameButPages (d.msix c v) := by
  unfold Dev.msix
  split <;> rfl

/-- Frames compose. -/
theorem Dev.sameButPages_trans {d e f : Dev} (h1 : d.sameButPages e) (h2 : e.sameButPages f) : d.sameButPages f := by
  unfold Dev.sameButPages at *
  rw [h2, h1]

theorem Dev.sameButRegs.pages {d e : Dev} (h : d.sameButRegs e) : d.sameButPages e := by
  unfold Dev.sameButPages Dev.sameButRegs at *
  rw [h]

theorem Dev.wr_sameButPages (d : Dev) (r : Fld) (u n k v : Nat) : d.sameButPages (d.wr r u n k v) := rfl

theorem Dev.setSlot_sameButPages (d : Dev) (c k v : Nat) : d.sameButPages (d.setSlot c k v) := rfl

theorem Dev.modCtx_sameButPages (d : Dev) (c : Nat) (f : CtxRec → CtxRec) : d.sameButPages (d.modCtx c f) := rfl

theorem Dev.sameButPages_ite {d e f : Dev} {p : Prop} [Decidable p] (h1 : d.sameButPages e) (h2 : d.sameButPages f) :
    d.sameButPages (if p then e else f) := by
  split
  · exact h1
  · exact h2

/-- Completing a slot touches registers, its context and the messages to the host only. -/
theorem Dev.finishSlot_sameButPages (d : Dev) (c k : Nat) (st : Status) (ws : List Nat) : d.sameButPages (d.finishSlot c k st ws) := by
  unfold Dev.finishSlot
  simp only
  generalize hd : (d.responseHeader c k st :: ws.take 15) = words
  clear hd
  have h : d.sameButPages ((d.putWords c k 0 words).setSlot c k slotDone) :=
    Dev.sameButPages_trans (Dev.putWords_sameButRegs d c k 0 words).pages (Dev.setSlot_sameButPages _ _ _ _)
  generalize (d.putWords c k 0 words).setSlot c k slotDone = e at h ⊢
  refine Dev.sameButPages_trans h (Dev.sameButPages_trans (Dev.modCtx_sameButPages e c _) (Dev.sameButPages_trans
    (Dev.wr_sameButPages _ MBX_DONE_DONE c 0 0 _) (Dev.sameButPages_ite (Dev.msix_sameButPages _ _ _) rfl)))

/-- Memory is not touched by completing a slot. -/
@[simp] theorem Dev.finishSlot_mem (d : Dev) (c k : Nat) (st : Status) (ws : List Nat) : (d.finishSlot c k st ws).mem = d.mem := by
  have h := Dev.finishSlot_sameButPages d c k st ws
  unfold Dev.sameButPages at h
  rw [h]

/-- Starting a command touches registers and its context only. -/
theorem Dev.begun_sameButPages (d : Dev) (c k : Nat) : d.sameButPages (d.begun c k) := by
  unfold Dev.begun Dev.consumeSeq
  simp only
  split <;> rfl

@[simp] theorem Dev.begun_mem (d : Dev) (c k : Nat) : (d.begun c k).mem = d.mem := by
  have h := Dev.begun_sameButPages d c k
  unfold Dev.sameButPages at h
  rw [h]

end Sys2Proof.Machine
end

