-- ==== Sys2Proof/Tests/Slice0.lean ====
section
/-! SUPPORT. Tests of the model, each of one step or less: an ill-formed operand for each check of WellFormed; the spec's worked
examples; and for each statement's hypotheses a concrete state that meets them together, clause by clause. -/
set_option Elab.async false
namespace Sys2Proof.Tests
open Sys2Proof Sys2Proof.Machine

/-! ### Small states -/

/-- The module in Run with every rail on. -/
def up : State := { State.reset with dev := { State.reset.dev with life := .run, startDone := true, railsOn := 2 ^ 32 - 1 } }

/-- The same with `f` done to it. -/
def upWith (f : Dev → Dev) : State := up.withDev (f up.dev)

/-- Slot 0 of context 0 holds the command `op`, SEQ 1, with words 1 on, ACCEPTED. -/
def Dev.holding (d : Dev) (op : Nat) (ws : List Nat) : Dev :=
  ((ws.zipIdx.foldl (fun (d : Dev) (w, i) => d.wr MBX_CMD_WORD 0 0 (i + 1) w) (d.wr MBX_CMD_WORD 0 0 0 (op + 256)))).setSlot 0 0 slotAccepted

/-- The module in Run with such a command. -/
def asks (op : Nat) (ws : List Nat) (f : Dev → Dev := id) : State := up.withDev (Dev.holding (f up.dev) op ws)

/-! ### Operands that no command can carry are refused -/

/-- A packet that meets its widths, and one whose destination does not. -/
def pk : Packet := { typ := tyMemWr, dst := 1, src := 2 }
def badPk : Packet := { typ := tyMemWr, dst := 4096, src := 2 }

theorem test_wellformed_packet : (Instr.memWrReceived 0 pk).wellFormed = true := by decide

theorem test_illformed_packets :
    [Instr.memWrReceived 0 badPk, .memRdReceived 0 badPk, .memCplReceived 0 badPk, .deliveryReceived 0 badPk, .resetReqReceived 0 badPk,
      .mgmtMsgReceived 0 badPk .other, .syncOpSignal 0 badPk, .syncOpWait 0 badPk, .syncOpRelease 0 badPk, .syncOpWithdraw 0 badPk,
      .mapProbe 0 badPk, .probeReply 0 badPk, .exchContributionReceived 0 badPk, .workingCopyReceived 0 badPk, .barrierSignal 0 badPk,
      .barrierOutcome (some (0, badPk)), .headPacketReceived 0 0 0 0 true 0 badPk .other].all (fun i => i.wellFormed == false) = true := by decide

theorem test_illformed_packet_fields :
    [{ pk with typ := 16 }, { pk with src := 4096 }, { pk with ctx := 16 }, { pk with hops := 64 }, { pk with ttag := 16384 },
      { pk with sub := 2 }, { pk with addr := 2 ^ 48 }, { pk with status := 256 }, { pk with body := [256] }].all
      (fun p => p.wellFormed == false) = true := by decide

/-- A start that finds nothing wrong. -/
def goodStart : StartReport := ⟨[0, 0, 0, 0], List.replicate 16 0, false, [], [], 6, 16, true⟩

theorem test_wellformed_start : goodStart.wellFormed = true := by decide

theorem test_illformed_starts :
    [{ goodStart with bondFailed := [0] }, { goodStart with selfTests := [] }, { goodStart with selfTests := List.replicate 16 8 },
      { goodStart with failing := [16384] }, { goodStart with rate := 0 }, { goodStart with width := 17 }].all
      (fun r => (Instr.start r).wellFormed == false) = true := by decide

theorem test_illformed_operands :
    [Instr.powerState 0 0 [], .rcFieldRead (.bar0 0 (2 ^ 24)) false, .registerWrite (.csr 3 (2 ^ 32)) false 0 false,
      .bar2Request 0 0 0 none false none, .bar2Request 0 0 2 (some [0]) false none, .linkDegraded 0 16 true, .linkDegraded 6 0 true,
      .readCycle 0 [], .programRow 0 [], .programRow 0 [[[0]]], .programRow 0 [List.replicate 528 [0]], .verificationComplete 0 [] [0, 0, 0, 0],
      .calibrationDwell 0 [0] [0, 0, 0, 0], .calibrationDwell 0 [0, 0, 0, 0] [0], .hbmUncorrectable 0 80000000000 .other, .railFault 0 0,
      .inputFault 0, .trainComplete 0 0 [0, 1, 2], .trainComplete 0 0 [0, 0, 1, 2], .attestMessageReceived 0 5 0 1 0 0 [],
      .linkFlitReceived 0 0 0 0 [] true].all (fun i => i.wellFormed == false) = true := by decide +kernel

theorem test_wellformed_operands :
    [Instr.powerState 0 0 (List.replicate 16 0), .rcFieldRead (.config 0 .vendorId) false, .registerWrite (.csr 3 4) false 0 false,
      .bar2Request 0 0 1 (some [0]) false none, .linkDegraded 1 1 false, .verificationComplete 0 (List.replicate 4096 [0, 0, 0, 0]) [0, 0, 0, 0],
      .programRow 0 [List.replicate 528 (List.replicate 8 0)], .hbmUncorrectable 5 79999999999 .other,
      .calibrationDwell 0 [0, 0, 0, 0] [0, 0, 0, 0], .railFault 0 1, .inputFault 1, .trainComplete 0 0 [3, 1, 2, 0],
      .linkFlitReceived 0 0 0 0 (List.replicate 12 0) true].all (fun i => i.wellFormed) = true := by decide +kernel

/-! ### Codes that are not in the opcode table, words that spell no command -/

theorem test_no_word_spells_a_command : decodeTableWord 0 0 = none ∧ decodeTableWord 32 0xFFFFFFFF = none := by decide
theorem test_withFetchWord_keeps_the_state : State.reset.withFetchWord 32 5 = State.reset := rfl
/-! ### The block, the fuses, the mailbox: hypotheses met -/

theorem wit_step_front : ({ State.reset with pending := [.powerOn, .runAck] } : State).pending = .powerOn :: [.runAck] := rfl
theorem wit_step_idle : State.reset.pending = [] := rfl
theorem wit_run : Host.Core.run Sys2Proof.core 1 State.reset
    = .next (State.reset.withDev { State.reset.dev with time := (State.reset.dev.time + 10) % 2 ^ 64 }) := rfl
theorem wit_step : step { State.reset with pending := [.perstDeassert] }
    = .next (State.reset.withDev { State.reset.dev with perst := false }) ∧ State.reset.fuses.revoked < 15
    ∧ Memory.wf State.reset.dev.mem = true ∧ Tbl.rising State.reset.dev.regs = true := ⟨rfl, by decide, rfl, rfl⟩
/-- Fuses with two keys revoked, one by a fuse that reads between the thresholds (R680). -/
def twoRevoked : Fuses := { imgRevoke := [.intact, .between, .blown] }
theorem wit_revocation : twoRevoked.revoked = 6 ∧ twoRevoked.revoked < 15 ∧ bit twoRevoked.revoked 1 = true ∧ bit twoRevoked.revoked 0 = false := by decide

theorem wit_ordered : up.dev.ordered := by unfold Dev.ordered; decide
theorem wit_may_ack : ({ up.dev with life := .starting } : Dev).mayAck = true ∧ ({ up.dev with life := .starting } : Dev).ordered
    ∧ State.reset.dev.mayAck = false := by unfold Dev.ordered; decide

/-- Every command of the opcode table can be the next to be served, and pass its checks. -/
theorem wit_ready : ∀ r ∈ opcodeTable, Ready (asks r.1 []) 0 0 r.1 := by unfold Ready; decide +kernel
/-- The answer of a query is a next state. -/
theorem wit_query_answers : (asks 0 []).dev.ordered ∧ ∃ t, exec (.identify 0 0) (asks 0 []) = .next t := by
  unfold Dev.ordered; exact ⟨by decide +kernel, _, rfl⟩

theorem wit_unknown_opcode : (asks 0xFF []).dev.servable 0 0 = true ∧ opcodeRow ((asks 0xFF []).dev.opcode 0 0) = none := by decide +kernel

/-- A PF0 command on context 1, reserved bits set in word 0, a SEQ that is not accepted, a command outside R658's list. -/
def ctx1Asks : State := up.withDev (((up.dev.wr MBX_CMD_WORD 1 0 0 (0x90 + 256)).setSlot 1 0 slotAccepted))
def reservedSet : State := up.withDev (((up.dev.wr MBX_CMD_WORD 0 0 0 0x10100).setSlot 0 0 slotAccepted))
def staleSeq : State := up.withDev (((up.dev.wr MBX_CMD_WORD 0 0 0 0).setSlot 0 0 slotAccepted))

theorem wit_checks_in_order :
    (ctx1Asks.dev.servable 1 0 = true ∧ ctx1Asks.dev.opcode 1 0 = 0x90 ∧ (opcodeRow 0x90).any (·.2) = true)
    ∧ (reservedSet.dev.servable 0 0 = true ∧ reservedSet.dev.opcode 0 0 = 0 ∧ bits ((reservedSet.dev.setSlot 0 0 slotRunning).cmd 0 0 0) 31 16 ≠ 0)
    ∧ (staleSeq.dev.servable 0 0 = true ∧ (staleSeq.dev.setSlot 0 0 slotRunning).seqAccepted 0 0 = false)
    ∧ ¬ (up.dev.servable 0 0 = true ∧ up.dev.opcode 0 0 = 0) := by decide +kernel

theorem wit_go : up.dev.exists_ 0 = true ∧ up.dev.life ≠ .off ∧ up.dev.perst = false := by decide

theorem wit_page_answers : up.dev.answers 0 = true := by decide
/-- A window open to the host with one word left, one open to the device with two. -/
def readWindow : State := upWith (fun d => d.openWindow 0 0 false 1 [7] (0, []))
def writeWindow : State := upWith (fun d => d.openWindow 0 0 true 2 [] (0, []))
theorem wit_read_window : readWindow.dev.answers 0 = true ∧ readWindow.dev.windowOpen 0 = true ∧ readWindow.dev.on MBX_DATA_STATUS_DIR 0 = false
    ∧ (readWindow.dev.ctx 0).window = 7 :: [] := by decide +kernel
theorem wit_write_window : writeWindow.dev.answers 0 = true ∧ writeWindow.dev.windowOpen 0 = true ∧ writeWindow.dev.on MBX_DATA_STATUS_DIR 0 = true
    ∧ 2 ≤ writeWindow.dev.rd MBX_DATA_STATUS_REMAIN 0 := by decide +kernel
theorem wit_window_closed : up.dev.answers 0 = true ∧ up.dev.windowOpen 0 = false := by decide +kernel
theorem wit_window_times_out : ({ readWindow.dev with time := 10000000000 } : Dev).windowOpen 0 = true
    ∧ (readWindow.dev.ctx 0).windowAccess + 10000000000 ≤ 10000000000 := by decide +kernel

/-- R509, R510, R539: TELEM_CFG completes: the header gives opcode, SEQ, status OK and class P1, and the period is stored. -/
theorem test_telem_cfg_response :
    (match exec (.telemCfg 0 0) (asks 0x72 [500]) with
      | .next t => t.dev.rd MBX_RSP_WORD 0 0 0 == 0x01000172 && t.dev.telemetryPeriod == 500 && t.dev.slotState 0 0 == slotDone
      | _ => false) = true := by decide +kernel
/-! ### The spec's worked examples -/

/-- Chapter 2: array 5 of Grain 0x2D7, and the addresses of its ARR_ block, of the Peck-common block and of port F5. -/
theorem test_identifiers : grainOf 0x2D75 = 0x2D7 ∧ slotOf 0x2D75 = 5 ∧ peckOfGrain 0x2D7 = 90 ∧ bushelOfPeck 90 = 11 ∧ stackOfBushel 11 = 2 := by
  decide
theorem test_csr_addresses : ARR_ROWGRP_CFG.key 0x2D7 5 / 2 ^ 16 * 2 ^ 16 = 0xB5C50000 ∧ CNV_SEQ_ENTRY.key 0x2D7 5 = 0xB5D50040
    ∧ CNV_SEQ_CTRL.key 0x2D7 5 = 0xB5D50000 ∧ FUR_PORT_STATUS.key 5 % 2 ^ 40 / 2 ^ 16 = 0xF340 := by decide

/-- Chapter 3: element unit 2^-6 of the segment with code 128, the five elements of column 17 and their levels. -/
theorem test_segment_scale : scaleCode .mxfp4 (1152 / 100) = 128 ∧ scaleCode .mxfp4 (256 / 100) = 126 := by decide +kernel
theorem test_segment_elements :
    ([576, -333, -192, 26, 25].map (fun n => weightLevel .mxfp4 (elemEncode .mxfp4 .rne 0 (mkRat n 100)).1)) = [12, -6, -4, 1, 0] := by decide +kernel
/-- R121: slots of 3.0 under codes 124 and 125 aligned to 126. -/
theorem test_alignment : inputSlots .mxfp4 5 = 6 ∧ alignSlots 124 126 6 = 2 ∧ alignSlots 125 126 6 = 3 := by decide +kernel

/-- Chapter 4: groups g0 and g1 of output 17: y × f in FP32. -/
theorem test_row_group_terms :
    Fp.mul (Fp.ofRat 768) (.fin false (pow2 (-9))) = .fin false (3 / 2)
    ∧ Fp.mul (fp32Round (Fp.addExact (Fp.ofRat (-2407 / 2)) (Fp.ofRat 12))) (.fin false (pow2 (-12))) = .fin true (2383 / 8192) := by decide +kernel

/-- Chapter 5: the sequence of array 5 passes its checks and takes 40.0 ns; its first arm leaves the staged entries alone. -/
def userSeq : List Nat :=
  [0x58030010, 0x180C0010, 0x580F1010, 0x98012008, 0x580E2008, 0x980F2808, 0x98053008, 0xD80A3008, 0xD0033808, 0xA00C3808,
    0xD8014001, 0xD8024001, 0xD80C4001, 0x10034101, 0x60044101, 0xD8084101]
theorem test_user_sequence : armStatus 16 userSeq = .ok ∧ seqTime userSeq = 80 ∧ armStatus 15 userSeq.dropLast = .badArg := by decide +kernel
theorem test_user_sequence_lsb : gainLsb 1 = 8 ∧ gainLsb 3 = 2 := by decide

/-- Chapter 7: the eight weights decided with nu = -0.0190 (FP32 0xBC9BA5E3). -/
theorem test_residual_decisions :
    (let nu := fp32Decode 0xBC9BA5E3;
      [decideDelta 0 nu 12 128 128 12 0, decideDelta 0 nu 4 128 128 3 0, decideDelta 0 nu (-2) 128 128 0 2, decideDelta 0 nu 6 128 128 8 0,
        decideDelta 0 nu 0 128 128 3 0, decideDelta 0 nu 6 126 127 6 0, decideDelta 0 nu 1 126 127 1 0, decideDelta 0 nu (-8) 126 127 0 8])
      = [0, 1, 0, -2, -3, -3, 0, 4] := by decide +kernel

/-- Chapter 11: the words of SYNC_READ at T0 + 1.0 µs and at T0 + 3.0 µs. -/
def waiterA : Waiter := ⟨.task 0 false, 0x02D00150, true, 1⟩
def waiterB : Waiter := ⟨.partner 0x01F 0x601F0004, 0x601F0004, true, 1⟩
def waiterC : Waiter := ⟨.mailbox 3 2, mailboxWaiterId 3 2, false, 1⟩
def objectWith (ws : List Waiter) (last : Option LastSignal) : SyncObj :=
  { owner := 3, vid := 0x2A0, exported := true, waiters := ws, last := last }
theorem test_sync_read_words :
    ({ up.dev with gens := [(5, 7)] } : Dev).viewWords 5 0 (objectWith [waiterA, waiterB, waiterC] none)
      = [0x00070000, 0x04000003, 0, 0, 0, 3, 0x02D00150, 0x80000001, 0x601F0004, 0x80000001, 0x40030002, 0x00000001]
    ∧ ({ up.dev with gens := [(5, 7)] } : Dev).viewWords 5 0 (objectWith [waiterB] (some ⟨1, 3, 0, 0x2C5, 0x41000007D0⟩))
      = [0x00070000, 0x04000001, 0x430002C5, 0x000007D0, 0x00000041, 1, 0x601F0004, 0x80000001] := by decide +kernel
/-- R370: the signal of that example releases C and A, and leaves B. -/
theorem test_take_in_order : (addSigned 0 1).1 = 1 ∧ (takeInOrder 1 [waiterA, waiterB]).2 = ([waiterB], 0) := by decide +kernel

/-- Chapter 12: the U3 update of four parameters: masters, momentum codes and scale. (0.875^200 is below 2^-25, so c = 1.0 as there.) -/
def u3 : UpdRule := { rule := 3, n := 32, eta := 0x39800000, lambda := 0x3E000000, beta := 0x3F600000, theta := 0, tbc := 200, step := 0x186A0,
                      sr := false, gen1 := false }
def u3Result : UpdResult :=
  updRun u3 0 [⟨16, m32Encode (1 / 16), false⟩, ⟨-16, m32Encode (-1 / 32), false⟩, ⟨0, m32Encode (1 / 64), false⟩, ⟨32, m32Encode (1 / 128), false⟩]
    [⟨124, [64, 224, 10, 102]⟩]
theorem test_u3_momentum : u3Result.momentum = [⟨125, [44, 226, 4, 77]⟩] := by decide +kernel
theorem test_u3_masters : u3Result.masters.map m32Val
    = [1 / 16 - 23 / 524288, -1 / 32 + 31 / 1048576, 1 / 64 - 9 / 2097152, 1 / 128 - 309 / 4194304] := by decide +kernel

/-- Chapter 15: headers of commands across an MP restart: BAD_ARG for the SEQ used again, with SEQ_ERR; OK for the query. -/
def restart : Dev := (up.dev.wr MBX_PAGE_STATUS_SEQ_HIGH 2 0 0 0x3F)
theorem test_seq_used_again :
    (match exec (.syncSignal 2 4) (up.withDev ((restart.wr MBX_CMD_WORD 2 4 0 0x3F42).setSlot 2 4 slotAccepted)) with
      | .next t => t.dev.rd MBX_RSP_WORD 2 4 0 == 0x02103F42 && t.dev.on MBX_PAGE_STATUS_SEQ_ERR 2
          && t.dev.rd MBX_PAGE_STATUS_SEQ_HIGH 2 == 0x3F
      | _ => false) = true := by decide +kernel
theorem test_query_after_restart :
    (match exec (.arrayInfo 2 2) (up.withDev ((restart.wr MBX_CMD_WORD 2 2 0 0x4033).setSlot 2 2 slotAccepted)) with
      | .next t => t.dev.rd MBX_RSP_WORD 2 2 0 == 0x03004033 && t.dev.rd MBX_PAGE_STATUS_SEQ_HIGH 2 == 0x40
      | _ => false) = true := by decide +kernel

/-- Chapter 16: the window of VF 3 over a region of 2 GiB: the last 128 bytes of a read lie outside the map. -/
def vf3 : Dev := (({ up.dev with vfEnable := true, numVFs := 15 } : Dev).modCtx 3 (fun x => { x with map := [⟨0x4200000000, 2 ^ 31⟩] })).wr
  PCI_WIN_BASE_HI_BASE 0 3 0 0x42
theorem test_vf_window : vf3.windowBase 3 = 0x4200000000 ∧ vf3.mapCovers 3 (0x4200000000 + 0x7FFFFE00) 512 = true
    ∧ vf3.mapCovers 3 (0x4200000000 + 0x7FFFFF80) 256 = false ∧ vf3.mapCovers 3 (0x4200000000 + 0x80000000) 64 = false := by decide +kernel

/-- Chapter 18: a limit of 1,000 W: 941 W holds the level, and so does 1,150 W within 1 ms of the last change. -/
def limited (now : Nat) : State :=
  upWith (fun d => { (d.wr PWR_LIMIT_LIMIT 0 0 0 1000).wr PWR_LEVEL_POWER 0 0 0 3 with time := now, levelAt := 2200000 })
theorem test_power_holds :
    (match exec (.powerEvaluation 9410 540 174) (limited 4000000) with | .next t => t.dev.rd PWR_LEVEL_POWER 0 | _ => 99) = 3 := by decide +kernel
theorem test_power_waits :
    (match exec (.powerEvaluation 11500 540 213) (limited 3100000) with | .next t => t.dev.rd PWR_LEVEL_POWER 0 | _ => 99) = 3 := by decide +kernel
/-! ### Step programs and their tables: hypotheses met -/

/-- A program without tables, an empty exchange table, one whose group lists two tensors. -/
def prog : Program := { base := 0, length := 1088 }
def xch : XchTable := ⟨0, [0, 0, 0, 0, 0, 0, 0, 0], [[0]], [[0]], [], []⟩
def progX : Program := { prog with xch := some xch }
def pol : RecPolicy := { base := 0, header := [], entries := [], count := 0 }

/-- Handle 0 of context 0 is loaded. -/
def loaded (p : Program) (d : Dev) : Dev := { d with programs := [(0, p)] }
/-- A run of it is queued, at step 0 of 1. -/
def aRun : Run := ⟨0, 0, 0, 1, 0⟩
def queuedRun (p : Program) (d : Dev) : Dev := { loaded p d with runs := [aRun] }

theorem wit_step_submit : Ready (asks 0x21 [0, 1] (loaded prog)) 0 0 0x21
    ∧ Tbl.find ((asks 0x21 [0, 1] (loaded prog)).dev.begun 0 0).programs (progKey 0 0) = some prog
    ∧ ((asks 0x21 [0, 1] (loaded prog)).dev.begun 0 0).argsClean 0 0 [3, mHigh] = true := by unfold Ready; decide +kernel
theorem wit_step_abort : Ready (asks 0x23 [0] (queuedRun prog)) 0 0 0x23
    ∧ ((asks 0x23 [0] (queuedRun prog)).dev.begun 0 0).argsClean 0 0 [3] = true
    ∧ ((asks 0x23 [0] (queuedRun prog)).dev.begun 0 0).hasRun 0 0 = true
    ∧ (Tbl.find ((asks 0x23 [0] (queuedRun prog)).dev.begun 0 0).programs (progKey 0 0)).isSome = true
    ∧ ((asks 0x23 [0] (queuedRun prog)).dev.begun 0 0).runStarted = false := by unfold Ready; decide +kernel
theorem wit_step_abort_answers : ∃ t, exec (.stepAbort 0 0) (asks 0x23 [0] (queuedRun prog)) = .next t := ⟨_, rfl⟩
theorem wit_xch_load : Ready (asks 0x28 [0, 0, 0, 64] (loaded prog)) 0 0 0x28
    ∧ Tbl.find ((asks 0x28 [0, 0, 0, 64] (loaded prog)).dev.begun 0 0).programs (progKey 0 0) = some prog
    ∧ ((asks 0x28 [0, 0, 0, 64] (loaded prog)).dev.begun 0 0).argsClean 0 0 [3, mWord, mHigh, mWord] = true := by unfold Ready; decide +kernel
theorem wit_wch_load : Ready (asks 0x2B [0, 0, 0, 64] (loaded prog)) 0 0 0x2B
    ∧ Tbl.find ((asks 0x2B [0, 0, 0, 64] (loaded prog)).dev.begun 0 0).programs (progKey 0 0) = some prog := by unfold Ready; decide +kernel
theorem wit_policy_load : Ready (asks 0x60 [0, 0, 0, 64] (loaded progX)) 0 0 0x60
    ∧ (Tbl.find ((asks 0x60 [0, 0, 0, 64] (loaded progX)).dev.begun 0 0).programs (progKey 0 0)).bind (·.xch) = some xch
    ∧ ((asks 0x60 [0, 0, 0, 64] (loaded progX)).dev.begun 0 0).argsClean 0 0 [3, mWord, mHigh, mWord] = true := by unfold Ready; decide +kernel
theorem wit_upd_set : Ready (asks 0x2A [0, 0, 0] (loaded progX)) 0 0 0x2A
    ∧ (Tbl.find ((asks 0x2A [0, 0, 0] (loaded progX)).dev.begun 0 0).programs (progKey 0 0)).bind (·.xch) = some xch
    ∧ ((asks 0x2A [0, 0, 0] (loaded progX)).dev.begun 0 0).argsClean 0 0 [3 + 31 * 256, mHigh, mHigh, mWord, mWord, mWord, mWord, mWord] = true := by
  unfold Ready; decide +kernel
theorem wit_replay : Ready (asks 0x6A [256, 0, 0, 0, 64, 0] (loaded progX)) 0 0 0x6A
    ∧ (Tbl.find ((asks 0x6A [256, 0, 0, 0, 64, 0] (loaded progX)).dev.begun 0 0).programs (progKey 0 0)).bind (·.xch) = some xch
    ∧ (xch.layout 0 64).2 = 0
    ∧ ((asks 0x6A [256, 0, 0, 0, 64, 0] (loaded progX)).dev.begun 0 0).argsClean 0 0 [3 + 0xFFFF * 256, mWord, mWord, mHigh, mWord, mHigh] = true
    ∧ ((asks 0x6A [256, 0, 0, 0, 64, 0] (loaded progX)).dev.begun 0 0).cmd48 0 0 5 = 64
    ∧ ((asks 0x6A [256, 0, 0, 0, 64, 0] (loaded progX)).dev.begun 0 0).runs = [] := by unfold Ready; decide +kernel

/-! ### Synchronisation objects -/

/-- Object 5 of context 0, VID 3, generation 0, ordinary, with value 1. -/
def theObject : SyncObj := { owner := 0, vid := 3, value := 1 }
def withObject (d : Dev) : Dev := { d with objects := [(5, theObject)], vmap := [(3, .object 5)] }

theorem wit_counters : addSigned 0xFFFF 1 = (0xFFFF, true, false) ∧ addSigned 0 (-1) = (0, false, true) ∧ addSigned 5 (-5) = (0, false, false)
    ∧ (arrives 0 [] true 0).1 = true ∧ arrives 2 [waiterA] false 2 = (true, 2) ∧ arrives 2 [waiterC] true 2 = (true, 0)
    ∧ arrives 2 [waiterA] true 2 = (false, 2) := by decide +kernel
theorem wit_take_leaves_head : (takeInOrder 0 [waiterA]).2.1 = waiterA :: [] ∧ waiterA ∈ [waiterA] := by decide +kernel
theorem wit_sync_free : Ready (asks 0x41 [3, 0] withObject) 0 0 0x41
    ∧ ((asks 0x41 [3, 0] withObject).dev.begun 0 0).argsClean 0 0 [0xFFF, mHigh] = true
    ∧ ((asks 0x41 [3, 0] withObject).dev.begun 0 0).cmdRef 0 0 = .object 5
    ∧ ((asks 0x41 [3, 0] withObject).dev.begun 0 0).gen 5 = bits (((asks 0x41 [3, 0] withObject).dev.begun 0 0).cmd 0 0 2) 15 0
    ∧ ((asks 0x41 [3, 0] withObject).dev.begun 0 0).obj 5 = some theObject ∧ theObject.kind = .ordinary := by unfold Ready; decide +kernel
/-- A stale generation, and a VID that is not mapped, for each command that carries a handle. -/
theorem wit_stale : ∀ op ∈ [0x41, 0x42, 0x43, 0x47], ∀ ws ∈ [[3, 1], [4, 0]],
    Ready (asks op ws withObject) 0 0 op
    ∧ (((asks op ws withObject).dev.begun 0 0).cmdRef 0 0 = .unused
      ∨ ((asks op ws withObject).dev.begun 0 0).refGen (((asks op ws withObject).dev.begun 0 0).cmdRef 0 0)
        ≠ bits (((asks op ws withObject).dev.begun 0 0).cmd 0 0 2) 15 0)
    ∧ ((asks op ws withObject).dev.begun 0 0).argsClean 0 0 [0xFFF, mHigh] = true := by unfold Ready; decide +kernel
theorem wit_map_remote : Ready (asks 0x45 [0x10003, 4, 0]) 0 0 0x45
    ∧ ((asks 0x45 [0x10003, 4, 0]).dev.begun 0 0).argsClean 0 0 [0xFFFFFFF - 0xF000, 0xFFF + 0xF * 2 ^ 16, mHigh] = true := by
  unfold Ready; decide +kernel
/-- A bitmap that names node 0 at address 64. -/
def barrierAsk : State := asks 0x46 [0x10003, 7, 0, 64, 0] (fun d => d.setByte (devCell 64) 1)
theorem wit_barrier_set : Ready barrierAsk 0 0 0x46
    ∧ (barrierAsk.dev.begun 0 0).argsClean 0 0 [0xFFF + 3 * 2 ^ 16, mWord, 0, mWord, mHigh] = true
    ∧ bit ((barrierAsk.dev.begun 0 0).cmd 0 0 1) 16 = true ∧ (barrierAsk.dev.begun 0 0).cmd48 0 0 4 = 64
    ∧ (barrierAsk.dev.begun 0 0).bitmap 64 ≠ [] ∧ (barrierAsk.dev.begun 0 0).mapped 0 3 = none
    ∧ (barrierAsk.dev.begun 0 0).freePhys = some 0 ∧ (barrierAsk.dev.begun 0 0).barrierCount < 16 := by unfold Ready; decide +kernel
theorem wit_ready_bind : Ready (asks 0x47 [3, 0, 9] withObject) 0 0 0x47
    ∧ ((asks 0x47 [3, 0, 9] withObject).dev.begun 0 0).argsClean 0 0 [0xFFF + 2 ^ 16, mHigh, mWord] = true
    ∧ ((asks 0x47 [3, 0, 9] withObject).dev.begun 0 0).cmdRef 0 0 = .object 5
    ∧ ((asks 0x47 [3, 0, 9] withObject).dev.begun 0 0).gen 5 = bits (((asks 0x47 [3, 0, 9] withObject).dev.begun 0 0).cmd 0 0 2) 15 0
    ∧ ((asks 0x47 [3, 0, 9] withObject).dev.begun 0 0).obj 5 = some theObject
    ∧ ((asks 0x47 [3, 0, 9] withObject).dev.begun 0 0).namesVid 0 3 = false := by unfold Ready; decide +kernel
theorem wit_sync_read : Ready (asks 0x44 [3, 0, 0] withObject) 0 0 0x44
    ∧ ((asks 0x44 [3, 0, 0] withObject).dev.begun 0 0).argsClean 0 0 [0xFFF + 3 * 2 ^ 16, mHigh, mHigh] = true
    ∧ ((asks 0x44 [3, 0, 0] withObject).dev.begun 0 0).cmdRef 0 0 = .object 5
    ∧ ((asks 0x44 [3, 0, 0] withObject).dev.begun 0 0).obj 5 = some theObject := by unfold Ready; decide +kernel
theorem wit_sync_signal : Ready (asks 0x42 [3, 0, 1] withObject) 0 0 0x42
    ∧ ((asks 0x42 [3, 0, 1] withObject).dev.begun 0 0).argsClean 0 0 [0xFFF, mHigh, mHigh] = true
    ∧ ((asks 0x42 [3, 0, 1] withObject).dev.begun 0 0).cmdRef 0 0 = .object 5
    ∧ ((asks 0x42 [3, 0, 1] withObject).dev.begun 0 0).gen 5 = bits (((asks 0x42 [3, 0, 1] withObject).dev.begun 0 0).cmd 0 0 2) 15 0 := by
  unfold Ready; decide +kernel
theorem wit_sync_wait : Ready (asks 0x43 [3, 0, 2, 0] withObject) 0 0 0x43
    ∧ ((asks 0x43 [3, 0, 2, 0] withObject).dev.begun 0 0).argsClean 0 0 [0xFFF + 3 * 2 ^ 16, mHigh, mHigh, mWord] = true
    ∧ ((asks 0x43 [3, 0, 2, 0] withObject).dev.begun 0 0).cmdRef 0 0 = .object 5
    ∧ ((asks 0x43 [3, 0, 2, 0] withObject).dev.begun 0 0).gen 5 = bits (((asks 0x43 [3, 0, 2, 0] withObject).dev.begun 0 0).cmd 0 0 2) 15 0
    ∧ ((asks 0x43 [3, 0, 2, 0] withObject).dev.begun 0 0).obj 5 = some theObject := by unfold Ready; decide +kernel

/-! ### Memory, log, registers, fabric, firmware and reset commands -/

/-- MEM_ALLOC of one unit: its state is ordered, the lowest region is free; of none, and with a reserved bit set. -/
theorem wit_mem_alloc : Ready (asks 0x10 [1]) 0 0 0x10 ∧ (asks 0x10 [1]).dev.ordered
    ∧ ((asks 0x10 [1]).dev.begun 0 0).argsClean 0 0 [0xFFFFFF] = true ∧ ((asks 0x10 [1]).dev.begun 0 0).freeRegion (2 ^ 21) = some 0
    ∧ ((asks 0x10 [2 ^ 24]).dev.begun 0 0).argsClean 0 0 [0xFFFFFF] = false
    ∧ ((asks 0x10 [0xFFFFFF]).dev.begun 0 0).freeRegion (0xFFFFFF * 2 ^ 21) = none := by unfold Ready Dev.ordered; decide +kernel
theorem wit_log_read : Ready (asks 0x70 [0, 1] (fun d => d.countWrap LOG_WR_CNT_COUNT 0 0)) 0 0 0x70
    ∧ ((asks 0x70 [0, 1] (fun d => d.countWrap LOG_WR_CNT_COUNT 0 0)).dev.begun 0 0).argsClean 0 0 [mWord, 0x3FFF] = true
    ∧ ((asks 0x70 [0, 1] (fun d => d.countWrap LOG_WR_CNT_COUNT 0 0)).dev.begun 0 0).word LOG_WR_CNT 0 = 1 := by unfold Ready; decide +kernel
/-- R62: an address that is not allocated, one in a Bushel without power, one behind a closed wrapper, one without a register. -/
theorem wit_csr_checks : csrAllocated 3 0 = false ∨ csrAllocated 3 0xFFFFFFFF = false := by decide +kernel
def closedPeck : Dev := up.dev.setWord FLT_ISO 0 2 0 (2 ^ 26)
theorem wit_csr_status :
    (csrAllocated 0 0xB5D50040 = true ∧ State.reset.dev.blockPowered 0 0xB5D50040 = false)
    ∧ (closedPeck.blockPowered 0 0xB5D50040 = true ∧ outsideWrapper 0 0xB5D50040 = false ∧ csrUnit 0 0xB5D50040 = some 90
      ∧ closedPeck.unitClosed 90 = true) := by decide +kernel
theorem wit_csr_no_register :
    up.dev.csrStatus 0 0xB5D50040 = .ok ∧ up.dev.csrStatus 0 0xB5D50FFC = .ok ∧ regAt 0 (csrAlias 0 0xB5D50FFC) = none := by decide +kernel
theorem wit_route_load : Ready (asks 0x50 [0, 0, 1]) 0 0 0x50
    ∧ ((asks 0x50 [0, 0, 1]).dev.begun 0 0).argsClean 0 0 [0xFF7FFF, 0x3F0FFF, 0x1FFF, mWord, mHigh, mWord, mHigh, mWord, mWord] = true
    ∧ bits (((asks 0x50 [0, 0, 1]).dev.begun 0 0).cmd 0 0 1) 23 12 = 0 ∧ bits (((asks 0x50 [0, 0, 1]).dev.begun 0 0).cmd 0 0 3) 12 0 = 1 := by
  unfold Ready; decide +kernel
theorem wit_mirror_set : Ready (asks 0x61 [3]) 0 0 0x61
    ∧ ((asks 0x61 [3]).dev.begun 0 0).argsClean 0 0 [0xFFF + 3 * 2 ^ 16, mWord, mHigh, mWord] = true
    ∧ ((asks 0x61 [3]).dev.begun 0 0).node ≠ some 3 ∧ ((asks 0x61 [3]).dev.begun 0 0).runs = [] := by unfold Ready; decide +kernel
theorem wit_rec_restore : Ready (asks 0x62 [0x100, 3, 0] (loaded progX)) 0 0 0x62
    ∧ Tbl.find ((asks 0x62 [0x100, 3, 0] (loaded progX)).dev.begun 0 0).programs (progKey 0 0) = some progX ∧ progX.xch.isSome = true
    ∧ ((asks 0x62 [0x100, 3, 0] (loaded progX)).dev.begun 0 0).argsClean 0 0 [0xF03, 0xFFF, 0xFFF] = true := by unfold Ready; decide +kernel
theorem wit_fw_info : Ready (asks 0x82 [] (fun d => { d with other := .bytes (List.replicate 5328 0) })) 0 0 0x82
    ∧ ((asks 0x82 [] (fun d => { d with other := .bytes (List.replicate 5328 0) })).dev.begun 0 0).other = .bytes (List.replicate 5328 0)
    ∧ 5328 ≤ (List.replicate 5328 0).length := by
  exact ⟨by unfold Ready; decide +kernel, rfl, by decide +kernel⟩
theorem wit_reset_device : Ready (asks 0x90 []) 0 0 0x90 ∧ ((asks 0x90 []).dev.begun 0 0).pendingReset = none := by unfold Ready; decide +kernel
/-- Images: whatever its version, SVN and key, the delivered one verifies with fresh fuses; an empty slot does not. -/
theorem cleared_bit : ∀ (r : BitVec 4) (k : Fin 4), bit (r &&& ~~~(1#4 <<< k.val)).toNat k.val = false := by decide +kernel
theorem factory_keeps_its_key : bit Image.factory.revoke Image.factory.keySlot = false := cleared_bit _ _
theorem wit_image_verifies : State.reset.dev.active.verify {} = .ok := by
  show Image.factory.verify {} = .ok
  have h1 : ({} : Fuses).rbCount = 0 := rfl
  have h2 : ({} : Fuses).revoked = 0 := by decide
  simp [Image.verify, factory_keeps_its_key, h1, h2]; simp [bit]
theorem wit_boots : (State.reset.dev.bootImage {}).1 = true := by
  simp only [Dev.bootImage, wit_image_verifies, if_true]
/-- An image whose SVN is below the count, and one whose key is revoked. -/
theorem wit_rollback : (Image.bytes []).svn < ({ rb := [.blown] } : Fuses).rbCount := by decide +kernel
theorem wit_revoked : ({ imgRevoke := [.blown] } : Fuses).rbCount ≤ (Image.bytes []).svn ∧ bit 1 ((Image.bytes []).keySlot) = true := by decide +kernel
/-- No image verifies where every key is revoked, or where none is whole. -/
theorem wit_no_image : (({ State.reset.dev with active := .bytes [] } : Dev).bootImage { rb := [.blown] }).1 = false := by decide +kernel
/-! ### Registers, functions, windows, writes that act, resets and starts: hypotheses met -/

/-- A CSR read of an RC register (PWR_TEMP of Bushel 1), a CSR write of a plain one (ARR_ROWGRP_CFG of array 5 of Grain 0x2D7). -/
theorem wit_csr_rc : up.dev.mpState = 0 ∧ PWR_TEMP.key 1 0 0 % 2 ^ 40 < 2 ^ 32 ∧ up.dev.csrStatus PWR_TEMP.scope.lvl (PWR_TEMP.key 1 0 0 % 2 ^ 40) = .ok
    ∧ regAt PWR_TEMP.scope.lvl (csrAlias PWR_TEMP.scope.lvl (PWR_TEMP.key 1 0 0 % 2 ^ 40)) = some (PWR_TEMP, 1, 0, 0)
    ∧ PWR_TEMP.is LOG_TIME_LO = false ∧ PWR_TEMP.is PCI_TIME_LO = false ∧ PWR_TEMP.is MBX_DATA_RD = false
    ∧ PWR_TEMP.fields.any (fun y => decide (y.access = .rc)) = true := by decide +kernel
theorem wit_csr_plain : up.dev.csrStatus 0 (ARR_ROWGRP_CFG.key 0x2D7 5 0) = .ok
    ∧ regAt 0 (csrAlias 0 (ARR_ROWGRP_CFG.key 0x2D7 5 0)) = some (ARR_ROWGRP_CFG, 0x2D7, 5, 0) ∧ ARR_ROWGRP_CFG.plain = true := by decide +kernel
/-- R59: every register of the map is found at its own address, its last instance too. -/
theorem wit_offset : (0xFC : Nat) < 2 ^ 24 ∧ 0xFC % 4 = 0 ∧ (0xFFFC : BitVec 16).toNat % 4 = 0 := by decide
theorem wit_window_halves : Tbl.find up.dev.winPending 3 = none
    ∧ Tbl.find ({ up.dev with winPending := [(3, (false, 5))] } : Dev).winPending 3 = some (!true, 5)
    ∧ ({ up.dev with winPending := [(3, (false, 5))] } : Dev).ordered := by unfold Dev.ordered; decide
theorem wit_vf : ({ up.dev with vfEnable := true, numVFs := 3 } : Dev).answers 0 = true
    ∧ ({ up.dev with vfEnable := true, numVFs := 3 } : Dev).answers 3 = true ∧ ({ up.dev with vfEnable := true, numVFs := 3 } : Dev).answers 4 = false := by
  decide
/-- A write of the last byte of PF0's window, and of the VF's window of chapter 16. -/
theorem wit_bar2 : up.dev.answers 0 = true ∧ up.dev.life ≠ .recovery ∧ up.dev.ordered ∧ (2 ^ 35 - 1) + 1 ≤ 2 ^ (30 + up.dev.bar2Pf)
    ∧ up.dev.windowBase 0 + (2 ^ 35 - 1) + 1 ≤ deviceMemory := by unfold Dev.ordered; decide +kernel
theorem wit_bar2_vf : vf3.answers 3 = true ∧ vf3.ordered ∧ 0x7FFFFE00 + 512 ≤ 2 ^ (30 + vf3.bar2Vf) ∧ vf3.windowBase 3 + 0x7FFFFE00 + 512 ≤ deviceMemory
    ∧ vf3.mapCovers 3 (vf3.windowBase 3 + 0x7FFFFE00) 512 = true := by unfold Dev.ordered; decide +kernel

/-- The registers whose writes act may be accessed, at the last array, Grain, Bushel and Peck. -/
theorem wit_accessible : up.dev.accessible CNV_SEQ_CTRL (grainOf 16383) (slotOf 16383) ∧ up.dev.accessible CNV_CAL_CFG (grainOf 0) (slotOf 0)
    ∧ up.dev.accessible CNV_REF_SEL 15 0 ∧ up.dev.accessible CNV_MON_CTRL 15 0 ∧ up.dev.accessible RSD_CTRL 1023 0
    ∧ up.dev.accessible CLK_ISL_CFG 127 0 ∧ up.dev.accessible PWR_BUSHEL_CTRL 15 0 ∧ up.dev.accessible SEC_FMKEY_CTRL 0 0 := by
  unfold Dev.accessible; decide +kernel
theorem wit_seq_arm : (up.dev.roused CNV_SEQ_CTRL 1023 15).on CNV_SEQ_STATUS_ARM_BUSY 1023 15 = false ∧ bit (0x80000010 : BitVec 32).toNat 30 = false
    ∧ bit (0x40000010 : BitVec 32).toNat 31 = false := by decide +kernel
theorem wit_seq_arm_busy : (up.dev.wr CNV_SEQ_STATUS_ARM_BUSY 1023 15 0 1).on CNV_SEQ_STATUS_ARM_BUSY 1023 15 = true := by decide +kernel
def settled : Dev := up.dev.wr CNV_REF_STATUS_SETTLED 0 0 0 1
theorem wit_cal_now : settled.accessible CNV_CAL_CFG 0 0 ∧ (settled.roused CNV_CAL_CFG 0 0).on CNV_REF_STATUS_SETTLED (bushelOf 0) = true
    ∧ (settled.roused CNV_CAL_CFG 0 0).on CNV_CAL_STATUS_SUBST 0 0 = false ∧ (settled.roused CNV_CAL_CFG 0 0).arrState 0 ≠ RETIRED := by
  unfold Dev.accessible; decide +kernel
/-- R206: LEN 0, 1 and 513, and a staged table whose first entry is valid, or not. -/
def monLen (n : Nat) : Dev := up.dev.wr CNV_MON_CTRL_LEN 15 0 0 n
theorem wit_mon_arm : (monLen 513).accessible CNV_MON_CTRL 15 0 ∧ 512 < (monLen 513).rd CNV_MON_CTRL_LEN 15 ∧ (monLen 0).rd CNV_MON_CTRL_LEN 15 = 0
    ∧ (monLen 1).rd CNV_MON_CTRL_LEN 15 = 1 ∧ scanEntryValid ((monLen 1).scanEntry CNV_MON_ENTRY_ENTRY 15 0) = true
    ∧ scanEntryValid (((monLen 1).wr CNV_MON_ENTRY_ENTRY 15 1 0 0xFFFFFFFF).scanEntry CNV_MON_ENTRY_ENTRY 15 0) = false := by
  unfold Dev.accessible; decide +kernel
theorem wit_refclk : let d := (up.dev.wr CLK_REF_STATUS_EXT_OK 0 0 0 1).wr CLK_REF_STATUS_INTERNAL 0 0 0 1
    d.accessible CLK_REF_CTRL 0 0 ∧ d.on CLK_REF_STATUS_EXT_OK 0 = true ∧ d.on CLK_REF_STATUS_INTERNAL 0 = true := by
  unfold Dev.accessible; decide +kernel
theorem wit_gate : (up.dev.roused PWR_BUSHEL_CTRL 15 0).gated 15 = false ∧ (up.dev.wr PWR_BUSHEL_CTRL_PENDING 15 0 0 1).mayGate 15 = true := by decide +kernel
theorem wit_force_rel : let d := { (up.dev.wr SEC_STATUS_UNLOCKED 0 0 0 1).wr SEC_STATUS_SCOPE 0 0 0 2 with recovering := [(90, (0, 0x20))] }
    d.ordered ∧ d.accessible RST_PECK_CTRL 90 0 ∧ (Tbl.find d.recovering 90).isSome = true ∧ d.on SEC_STATUS_UNLOCKED 0 = true
    ∧ bit (d.rd SEC_STATUS_SCOPE 0) 1 = true := by unfold Dev.ordered Dev.accessible; decide +kernel

/-- Resets: each event that brings a Device reset. -/
theorem wit_device_reset : up.dev.ordered ∧ up.dev.life ≠ .off
    ∧ (let d : Dev := { up.dev with pendingReset := some ⟨false, 0x05, 0⟩ }
       d.ordered ∧ d.pendingReset = some ⟨false, 0x05, 0⟩ ∧ 0 ≤ d.time)
    ∧ (let d : Dev := { up.dev with mpCauses := [0, 0], time := 200000000 }
       d.ordered ∧ d.mpKicked + 200000000 ≤ d.time ∧ d.life = .run ∧ d.mpDown = false ∧ 2 ≤ (d.mpCauses.filter (fun t => decide (d.time ≤ t + 60000000000))).length) := by
  unfold Dev.ordered; decide
theorem wit_context_reset : up.dev.life = .run ∧ up.dev.ordered ∧ Tbl.rising up.dev.winPending = true := by unfold Dev.ordered; decide
/-- Off: with cause 2, and left by PERST# after the wait of R666. -/
def off : Dev := { up.dev.wr RST_OFF_CAUSE_CAUSE 0 0 0 1 with life := .off, perstOff := true, time := 10 ^ 12 }
theorem wit_off : off.life = .off ∧ off.perstOff = true ∧ off.rd RST_OFF_CAUSE_CAUSE 0 ≠ 2 ∧ off.offWaitOver = true
    ∧ (off.wr RST_OFF_CAUSE_CAUSE 0 0 0 2).rd RST_OFF_CAUSE_CAUSE 0 = 2 := by decide +kernel
theorem wit_start : State.reset.dev.life = .starting ∧ State.reset.dev.startDone = false ∧ State.reset.dev.perst = false ∧ State.reset.dev.ordered
    ∧ State.reset.dev.rd RST_START_START_CNT 0 < 3
    ∧ (∀ set < 5, State.reset.fuses.badCopyA.contains set = false ∨ State.reset.fuses.badCopyB.contains set = false)
    ∧ (∀ i < 4, nth goodStart.bondFailed i = 0) := by unfold Dev.ordered; decide
theorem wit_start_bonds : ∀ i, nth goodStart.bondFailed i = 0 := fun i => match i with
  | 0 | 1 | 2 | 3 => rfl
  | _ + 4 => rfl
theorem wit_fourth_start : 3 ≤ (State.reset.dev.wr RST_START_START_CNT 0 0 0 3).rd RST_START_START_CNT 0 := by decide +kernel
theorem wit_management : up.dev.life = .run ∧ up.dev.mpDown = false ∧ (up.dev.mpCauses.filter (fun t => decide (up.dev.time ≤ t + 60000000000))).length < 2
    ∧ ({ up.dev with time := 10 ^ 10 } : Dev).telemetry.time + ({ up.dev with time := 10 ^ 10 } : Dev).samplePeriod ≤ 10 ^ 10
    ∧ ({ up.dev with time := 2 ^ 32 * 1000 } : Dev).rd LOG_EPOCH_EPOCH 0 ≠ (({ up.dev with time := 2 ^ 32 * 1000 } : Dev).micros / 2 ^ 32) % 2 ^ 32 := by
  decide +kernel
/-! ### Runs, attempts, tasks and engines: hypotheses met -/

/-- The run of `prog` started, its attempt 1 of step 0 running with task 0 `t`. -/
def anAttempt (ts : Tbl TaskRun) : Attempt := { step := 0, number := 1, tasks := ts }
def attempting (ts : Tbl TaskRun) (p : Program := prog) : Dev :=
  { queuedRun p up.dev with runStarted := true, attempt := some (anAttempt ts) }
/-- A task of a kind, with the low bits of its first word, at home on Grain 0. -/
def aTask (kind flags : Nat) (arg : List Nat) (phase : TaskPhase) : TaskRun :=
  { desc := [kind * 2 ^ 60 + flags * 2 ^ 58, 0, 0, 0], home := 0, arg := arg, phase := phase }

theorem wit_run_start : (queuedRun prog up.dev).runs ≠ [] ∧ (queuedRun prog up.dev).runStarted = false ∧ (queuedRun prog up.dev).attempt = none := by decide
theorem wit_attempt_start : let d := { queuedRun prog up.dev with runStarted := true }
    d.run = some aRun ∧ d.runProgram = some prog ∧ d.attempt = none ∧ d.lastOutcome = none ∧ d.barrierUnreachable = false := by decide +kernel
/-- A run whose program's BARRIER names a barrier of this module: its step and attempt come from it. -/
def ownBarrier : SyncObj := { owner := 0, vid := 0, kind := .barrier ⟨7, 3, [0], [], 0, 0, none⟩ }
def atBarrier : Dev := { queuedRun prog up.dev with runStarted := true, objects := [(5, ownBarrier)], vmap := [(0, .object 5)] }
theorem wit_attempt_load : atBarrier.run = some aRun ∧ atBarrier.runProgram = some prog ∧ atBarrier.attempt = none ∧ atBarrier.lastOutcome = none
    ∧ atBarrier.barrierUnreachable = false ∧ atBarrier.loadStep none = some (7, 3)
    ∧ (atBarrier.initTable prog.base).all ((atBarrier.clearDone prog.base).initOk aRun.ctx (bits ((atBarrier.clearDone prog.base).header prog.base 6) 11 0)) = true := by
  decide +kernel
theorem wit_attempt_again : ∃ a, ({ attempting [] with attempt := some { anAttempt [] with phase := .refused } } : Dev).attempt = some a
    ∧ a.phase = .refused ∧ a.rescale = false := ⟨_, rfl, rfl, rfl⟩

/-- A VECTOR task without descriptors has done its work. -/
def doneTask : TaskRun := aTask 2 0 [0] .running
theorem wit_task_complete : (attempting [(0, doneTask)]).task 0 = some doneTask ∧ doneTask.phase = .running
    ∧ (attempting [(0, doneTask)]).taskOutcome false doneTask = some .ok := by decide +kernel
def readyTask (kind : Nat) : TaskRun := aTask kind 2 [1] .ready
theorem wit_gated_start : let d := (attempting [(0, readyTask 1)]).wr PWR_BUSHEL_CTRL_GATED 0 0 0 1
    d.task 0 = some (readyTask 1) ∧ d.run = some aRun ∧ (readyTask 1).phase = .ready ∧ (anAttempt [(0, readyTask 1)]).starts = true
    ∧ d.gated (bushelOfPeck (peckOfGrain (readyTask 1).home)) = true := by decide +kernel
theorem wit_task_start : ∀ kind < 4, let d := attempting [(0, readyTask kind)]
    d.task 0 = some (readyTask kind) ∧ d.run = some aRun ∧ (readyTask kind).kind = kind ∧ d.ingestDone.contains 0 = false ∧ d.mirrorDue = false
    ∧ (readyTask kind).unitOf 0 (d.argWords (readyTask kind)) = 0
    ∧ d.gated (bushelOfPeck (peckOfGrain 0)) = false ∧ d.clockGood (peckOfGrain 0) = true ∧ d.wrapperClosed (peckOfGrain 0) = false
    ∧ d.behind false 0 (readyTask kind) = false ∧ d.decisionHolds (readyTask kind) (d.argWords (readyTask kind)) = false
    ∧ (anAttempt [(0, readyTask kind)]).cut = false
    ∧ d.onEngine false ((readyTask kind).engineOn false 0) < engineCapacity ((readyTask kind).engineOn false 0).1
    ∧ d.slotFor (peckOfGrain 0) = some false := by decide +kernel
def faultTask : TaskRun := { aTask 3 0 [0] .running with faultCause := some .timeout }
theorem wit_stream_fault : (attempting [(0, faultTask)]).task 0 = some faultTask ∧ faultTask.phase = .running ∧ faultTask.kind = 3
    ∧ faultTask.faultCause ≠ none ∧ faultTask.outstanding = [] ∧ faultTask.ending = none := by decide
/-- Grain 1 may take the ready PRODUCT task of Grain 0, and Grain 8 of the next Peck of the same Bushel as well. -/
def stealing : Dev := ((attempting [(0, readyTask 1)]).wr TSK_SCHED_CFG_STEAL_EN 0 0 0 1).wr TSK_SCHED_CFG_BUSHEL_STEAL_EN 0 0 0 1
theorem wit_work_steal : stealing.idleFor 1 1 = true ∧ stealing.on TSK_SCHED_CFG_STEAL_EN (peckOfGrain 1) = true
    ∧ (stealing.stealable 1 0).head? = some (0, readyTask 1) ∧ (List.range 8).all (fun n => n == 0 || (stealing.stealable 1 n).isEmpty) = true := by
  decide +kernel
/-- Every Grain of Peck 0 runs a PRODUCT task, so that the ready one of Grain 0 is for Peck 1 to take. -/
def busyPeck : Tbl TaskRun := (0, readyTask 1) :: (List.range 8).map (fun n => (n + 1, { aTask 1 0 [1] .running with home := n, grain := n }))
def stealing2 : Dev := { ((((({ attempting busyPeck with time := 10 ^ 9 } : Dev).wr TSK_SCHED_CFG_STEAL_EN 0 0 0 1).wr TSK_SCHED_CFG_BUSHEL_STEAL_EN 0 0 0 1).wr
  TSK_SCHED_CFG_STEAL_EN 1 0 0 1).wr TSK_SCHED_CFG_BUSHEL_STEAL_EN 1 0 0 1).wr TSK_SCHED_CFG_STEAL_DELAY 1 0 0 0 with startedAt := 0 }
theorem clocksPast_zero (d : Dev) (p since : Nat) : d.clocksPast p since 0 = true := by simp [Dev.clocksPast]
theorem wit_bushel_delay : stealing2.clocksPast 1 (Tbl.get 0 stealing2.idleAt (8 * 4 + 1)) (stealing2.rd TSK_SCHED_CFG_STEAL_DELAY 1) = true := by
  have h : stealing2.rd TSK_SCHED_CFG_STEAL_DELAY 1 = 0 := by decide +kernel
  rw [h]; exact clocksPast_zero _ _ _
theorem wit_bushel_steal : stealing2.attempt = some (anAttempt busyPeck) ∧ stealing2.idleFor 1 8 = true
    ∧ (stealing2.on TSK_SCHED_CFG_STEAL_EN 1 && stealing2.on TSK_SCHED_CFG_BUSHEL_STEAL_EN 1) = true
    ∧ (∀ n < 8, stealing2.stealable 1 (8 * 1 + n) = [])
    ∧ ((List.range 7).map (fun k => bushelOfPeck 1 * 8 + (1 % 8 + 1 + k) % 8)).find? (fun q => (stealing2.on TSK_SCHED_CFG_STEAL_EN q
        && stealing2.on TSK_SCHED_CFG_BUSHEL_STEAL_EN q && !stealing2.idleIn 1 q) && (busyPeck.find? (fun e => decide (e.2.phase = .ready)
          && e.2.kind == 1 && peckOfGrain e.2.home == q && bit (nth e.2.desc 0) 59 && !e.2.local_)).isSome) = some 0
    ∧ (busyPeck.find? (fun e => decide (e.2.phase = .ready) && e.2.kind == 1 && peckOfGrain e.2.home == 0
        && bit (nth e.2.desc 0) 59 && !e.2.local_)).map (·.1) = some 0 := by decide +kernel
/-- The thief's start runs the task. -/
theorem wit_bushel_steal_runs : ((stealing2.startTask 0 8 true).task 0).map TaskRun.phase = some .running := by decide +kernel
theorem wit_work_steal_runs : ((stealing.startTask 0 1 true).task 0).map TaskRun.phase = some .running := by decide +kernel
def waiting : Dev := ((asks 0x43 [3, 0, 2, 0] withObject).dev.setSlot 0 0 slotRunning).modCtx 0 (fun x => { x with
  deadline := [(0, 5)], waits := [(0, .sync)] })
theorem wit_wait_timeout : Tbl.find (waiting.ctx 0).deadline 0 = some 5 ∧ waiting.slotState 0 0 = slotRunning ∧ waiting.slotWait 0 0 = .sync
    ∧ waiting.untested 0 0 = false := by
  decide +kernel

/-- A FWD task of one token on array 0, rows 0 to 15. -/
def latched : LatchedArray :=
  { array := 0, startRow := 0, rowCount := 16, rowTile := 0, size := 16, user := false, seq := [], gainOvr := none, gain := 0x3F800000, offset := 0 }
def fwdTask : TaskRun := { aTask 0 0 [1, 0, 0, 0, 0, 1, 0] .running with arrays := [latched] }
theorem wit_row_group : (attempting [(0, fwdTask)]).task 0 = some fwdTask ∧ fwdTask.arrays[0]? = some latched ∧ fwdTask.kind = 0
    ∧ fwdTask.phase = .running ∧ fwdTask.ending = none ∧ 0 < fwdTokens fwdTask.arg ∧ latched.groups.contains 0 = true
    ∧ fwdTask.started.contains (groupKey 0 0 0) = false ∧ (anAttempt [(0, fwdTask)]).gen1 = false
    ∧ (attempting [(0, fwdTask)]).arrState 0 = SERVING := by decide +kernel
def cycle : StartedCycle := { task := 0, token := 0, entry := 0, row := 0, cmax := 0, slots := List.replicate 16 1 }
theorem wit_read_cycle : let d := (attempting [(0, fwdTask)]).modArr 0 (fun r => { r with cycles := [cycle] })
    d.ordered ∧ (d.arr 0).cycles = cycle :: [] ∧ d.task cycle.task = some fwdTask ∧ fwdTask.arrays[cycle.entry]? = some latched
    ∧ fwdTask.phase = .running := by
  unfold Dev.ordered; decide +kernel
theorem wit_fallback : let d := { attempting [(0, fwdTask)] with fbQueue := [(3, [cycle])] }
    Tbl.get [] d.fbQueue 3 = cycle :: [] ∧ d.task cycle.task = some fwdTask ∧ fwdTask.arrays[cycle.entry]? = some latched
    ∧ d.groupSlots fwdTask.home fwdTask.arg (d.fwdInFmt d.runBase fwdTask.arg) cycle.token latched cycle.row = some (0, List.replicate 16 0) := by
  decide +kernel
theorem wit_counters_of_arrays : let d := (up.dev.wr ARR_CHK_CFG_WINDOW 1023 15 0 1).modArr 16383 (fun r => { r with
      windowCycles := 1024, served := 1048576, refCycles := 1024 })
    let e := d.wr ARR_CHK_STATUS_PERSIST 1023 15 0 2
    0 < d.windowLen 16383 ∧ d.windowLen 16383 ≤ (d.arr 16383).windowCycles ∧ 1048576 ≤ (e.arr 16383).served
    ∧ e.rd ARR_CHK_STATUS_PERSIST (grainOf 16383) (slotOf 16383) ≠ 0 ∧ 1024 ≤ (d.arr 16383).refCycles ∧ d.ordered := by
  unfold Dev.ordered; decide +kernel

/-- A PRODUCT task of one 1 × 1 × 1 product, a FWD task in Gen-1 exact mode, a VECTOR task, a CHAIN task of one unit of 64 bytes. -/
def productTask : TaskRun := aTask 1 0 [1, 2 ^ 32 + 2 ^ 16 + 1, 0, 0, 0, 0, 0] .running
theorem wit_tile_pass : (attempting [(0, productTask)]).class3 0 = some (0, productTask) ∧ productTask.ending = none ∧ productTask.kind = 1
    ∧ Tbl.get [] (attempting [(0, productTask)]).fbQueue 0 = [] ∧ (attempting [(0, productTask)]).class2Waits 0 = false
    ∧ productTask.productsDone = false ∧ (attempting [(0, productTask)]).ordered
    ∧ ((productsOf productTask.arg)[productTask.nextSide]?).isSome = true := by unfold Dev.ordered; decide +kernel
def gen1 : Dev := { attempting [(0, fwdTask)] with attempt := some { anAttempt [(0, fwdTask)] with gen1 := true } }
theorem wit_fwd_pass : gen1.class3 0 = some (0, fwdTask) ∧ fwdTask.kind = 0 ∧ fwdTask.tile < gen1.fwdPasses fwdTask
    ∧ fwdTask.ending = none ∧ Tbl.get [] gen1.fbQueue 0 = [] ∧ gen1.class2Waits 0 = false := by decide +kernel
def vectorTask : TaskRun := aTask 2 0 [1, 0, 0, 0, 0, 0, 0, 0, 0, 0, 0] .running
theorem wit_vector : (anAttempt [(0, vectorTask)]).tasks.find? (fun e => decide (e.2.phase = .running) && decide (e.2.grain = 0) && e.2.kind == 2)
      = some (0, vectorTask) ∧ vectorTask.ending = none ∧ vectorTask.vecIndex < vecCount vectorTask.arg := by decide +kernel
def chainTask : TaskRun := aTask 3 0 [64, 0, 0, 0, 0] .running
theorem wit_chain : (attempting [(0, chainTask)]).chainOn 0 false = some (0, chainTask) ∧ chainTask.ending = none ∧ chainTask.faultCause = none
    ∧ chainTask.closing = false ∧ chainTask.unit < chUnits chainTask.arg ∧ chainTask.outstanding.length < 32
    ∧ (attempting [(0, chainTask)]).wrapperClosed (peckOfGrain chainTask.home) = false
    ∧ (chOpens chainTask.arg chainTask.unit && decide (chNbuf chainTask.arg + 1 ≤ chainTask.seg) && !chainTask.segHeld) = false
    ∧ chSrcSpace chainTask.arg ≠ 3 ∧ chDstSpace chainTask.arg ≠ 3 := by decide +kernel
/-- A sample whose row group is captured: with its columns, and with none (VOID). -/
def sampled : TaskRun := { fwdTask with terms := [(groupKey 0 0 0, [])] }
def aSample : WatchSample := { index := 0, task := 0, entries := [0], cols := [(0, [])], lsbs := [(0, [])] }
theorem wit_sample : let a := { anAttempt [(0, sampled)] with samples := [(0, aSample)] }
    let d : Dev := { attempting [] with attempt := some a }
    d.ordered ∧ d.attempt = some a ∧ Tbl.find a.samples 0 = some aSample ∧ d.task aSample.task = some sampled
    ∧ sampled.arrays[keyEntry 0]? = some latched ∧ aSample.resolved = false ∧ sampled.sampleReady aSample = true
    ∧ Tbl.get [] d.fbQueue (grainOf (0 * 128 + aSample.index)) = [] := by
  unfold Dev.ordered; decide +kernel
/-! ### The exchange, the commit, the update, the mirror: hypotheses met -/

/-- A tensor of 32 parameters (K 32), and an exchange table with it for a group of this node alone. -/
def tensor7 : XchTensor := ⟨[7 * 2 ^ 32 + 1 * 2 ^ 20, 32 * 2 ^ 40 + 32, 0, 0, 4096, 0, 0, 8192, 0, 0, 0, 0, 0, 0, 12288, 0]⟩
def xch7 : XchTable := ⟨0, [1, 0, 0, 0, 0, 0, 0, 0], [[1]], [[0]], [tensor7], []⟩
def prog7 : Program := { prog with xch := some xch7 }
def triggered : Attempt := { anAttempt [] with triggered := [0] }
def exchanging : Dev := { attempting [] prog7 with attempt := some triggered }

theorem wit_compression : exchanging.attempt = some triggered ∧ exchanging.run = some aRun ∧ exchanging.runTable = some xch7
    ∧ xch7.tensors[0]? = some tensor7 ∧ triggered.triggered.contains 0 = true ∧ triggered.compressed.contains 0 = false
    ∧ triggered.phase = .running ∧ exchanging.on FLT_ISO_X_XCH 0 = false ∧ tensor7.chunks = 1 := by decide +kernel
/-- An outcome that commits, one that refuses, one that has been acted on. -/
def decided (st : Nat) (phase : AttemptPhase) (last : Option Outcome) : Dev :=
  { attempting [] with outcomeDue := some ⟨st, 1, 1⟩, attempt := some { anAttempt [] with phase := phase }, lastOutcome := last }
theorem wit_outcomes :
    ((decided 0 .signalled none).outcomeDue = some ⟨0, 1, 1⟩ ∧ (decided 0 .signalled none).run = some aRun
      ∧ (decided 0 .signalled none).runProgram = some prog ∧ (decided 0 .signalled none).runStarted = true
      ∧ (decided 0 .signalled none).lastOutcome ≠ some ⟨0, 1, 1⟩ ∧ Status.ofCode 0 = .ok ∧ 1 = ((anAttempt []).step + 1) % 2 ^ 32)
    ∧ (Status.ofCode 0x15 ≠ .ok ∧ (decided 0x15 .running none).outcomeDue = some ⟨0x15, 1, 1⟩)
    ∧ (decided 0 .committed (some ⟨0, 1, 1⟩)).lastOutcome = (decided 0 .committed (some ⟨0, 1, 1⟩)).outcomeDue := by decide +kernel
def aBarrier : Barrier := ⟨1, 1, [0], [], 0, 0, some ⟨[0], ⟨0, 1, 1⟩⟩⟩
def barrierObject : SyncObj := { owner := 0, vid := 3, exported := true, kind := .barrier aBarrier }
theorem wit_barrier_ack : ({ up.dev with objects := [(5, barrierObject)] } : Dev).obj 5 = some barrierObject
    ∧ barrierObject.kind = .barrier aBarrier ∧ aBarrier.decided.isSome = true := by decide
theorem wit_rescale : let d : Dev := { attempting [] with attempt := some { anAttempt [] with rescale := true } }
    d.life = .run ∧ d.mpDown = false ∧ d.runProgram = some prog ∧ d.attempt = some { anAttempt [] with rescale := true } := by decide +kernel
def anUpdate : UpdateRun := { ctx := 0, base := 0, table := xch7, wch := none, step := 0, committed := 1, gen1 := false, todo := [(0, 0)] }
theorem wit_update_chunk : let d : Dev := { up.dev with updates := [anUpdate] }
    d.updates = anUpdate :: [] ∧ anUpdate.todo = (0, 0) :: [] ∧ d.wrapperClosed (peckOfGrain 1023) = false
    ∧ anUpdate.resend = [] ∧ d.gated (bushelOfPeck (peckOfGrain 1023)) = false ∧ d.clockGood (peckOfGrain 1023) = true ∧ d.on FLT_ISO_X_XCH 0 = false ∧ d.snapshots = [] ∧ d.rebuild = [] := by decide +kernel
theorem wit_mirror : ({ up.dev with mirrorDue := true } : Dev).life = .run ∧ up.dev.mpDown = false
    ∧ ({ up.dev with mirrorDue := true } : Dev).mirroredPending = false ∧ ({ up.dev with mirrorSent := some (4, 2) } : Dev).mirrorSent = some (4, 2) := by
  decide +kernel
/-- A policy whose one entry keeps tensor 7 by snapshot and journal. -/
def entry7 : List Nat := [7 * 2 ^ 32 + 2 * 2 ^ 30 + 2 ^ 29 + 4, 65536, 0, 0]
def pol7 : RecPolicy := { base := 0, header := [2 ^ 48 + 1, 0, 0, 0, 0, 0, 0, 0], entries := [entry7], count := 0 }
def prog7p : Program := { prog7 with policy := some pol7 }
def slot7 : SnapSlot := ⟨0, List.replicate 128 0, [], [], []⟩
theorem wit_snapshot : let d : Dev := { loaded prog7p up.dev with snapshots := [(0, 0, 0, false)] }
    d.snapshots = (0, 0, 0, false) :: [] ∧ Tbl.find d.programs 0 = some prog7p ∧ prog7p.xch = some xch7 ∧ prog7p.policy = some pol7
    ∧ xch7.tensors[0]? = some tensor7 ∧ pol7.entries.find? (fun e => bits (nth e 0) 63 32 == tensor7.tensorId) = some entry7 := by decide +kernel
theorem wit_reconstruction : let d : Dev := { loaded prog7p up.dev with rebuild := [(7, 0, false)], lastCommit := some 0xFFFFFFFF }
    d.rebuild.contains (7, 0, false) = true ∧ d.tensorPlace 7 = some (0, prog7p, xch7, tensor7) ∧ prog7p.policyOf 7 = some entry7
    ∧ recoverable entry7 false = true ∧ methodOf entry7 = 2 ∧ newerSlot d.stampNow [slot7] = some slot7
    ∧ (d.rollChunk 0 xch7 tensor7 0 false d.stampNow slot7 []).isSome = true := by decide +kernel

/-! ### Arrays and converters: hypotheses met -/

/-- Array 0 bound to tensor 7, whose working copy is complete, with a decision due or running. -/
def boundArray (f : ArrayRec → ArrayRec) : Dev := ((loaded prog7 up.dev).wr ARR_BIND_TENSOR_TENSOR_ID 0 0 0 7).modArr 0 f
theorem wit_decision_start : let d := boundArray (fun r => { r with decisionDue := some .drift })
    d.life = .run ∧ d.mpDown = false ∧ (d.arr 0).decisionDue = some .drift ∧ d.mayDecide 0 .drift = true ∧ d.fwdRunsOn 0 = false
    ∧ d.grainDecides (grainOf 0) = false ∧ d.wcPresent (d.binding 0).tensor = true ∧ (DecisionWhy.drift ≠ .rebuild ∧ (d.arr 0).lostList = false)
    ∧ d.wrapperClosed (peckOf 0) = false ∧ d.clockGood (peckOf 0) = true := by decide +kernel
theorem wit_decision_rebuild : let d := (boundArray (fun r => { r with decisionDue := some .rebuild })).wr RSD_STATUS_VALID 0 0 0 1
    d.mayDecide 0 .rebuild = true ∧ d.on RSD_STATUS_VALID (grainOf 0) (slotOf 0) = true := by decide +kernel
theorem wit_decision_complete : let d := boundArray (fun r => { r with decisionRuns := some .drift })
    (d.arr 0).decisionRuns = some .drift ∧ d.mayDecide 0 .drift = true := by decide +kernel
/-- The program queue: an array in SERVING whose branch is on. -/
def anEntry : QueueEntry := ⟨0, 3, false, false⟩
def queued : Dev := { ((boundArray id).wr PRG_BRANCH_STATUS_ON 0 0 0 1) with queue := [anEntry], time := 10 ^ 11 }
theorem wit_program_select : queued.life = .run ∧ queued.mpDown = false ∧ queued.due = [] ∧ (queued.arrays.filter (fun x => x.2.selected)) = []
    ∧ queued.queue.find? (fun e => queued.budgetOk e.array && queued.mayStart e.array) = some anEntry ∧ queued.arrState 0 = SERVING := by decide +kernel
def draining (f : ArrayRec → ArrayRec) : Dev := (queued.wr ARR_STATE_STATE 0 0 0 DRAINING).modArr 0 f
theorem wit_drain : ((draining (fun r => { r with pendingRetire := some 5 })).arrState 0 = DRAINING
      ∧ ((draining (fun r => { r with pendingRetire := some 5 })).arr 0).cycles = []
      ∧ ((draining (fun r => { r with pendingRetire := some 5 })).arr 0).pendingRetire = some 5)
    ∧ ((draining (fun r => { r with selected := true })).arrState 0 = DRAINING ∧ ((draining (fun r => { r with selected := true })).arr 0).cycles = []
      ∧ ((draining (fun r => { r with selected := true })).arr 0).pendingRetire = none
      ∧ ((draining (fun r => { r with selected := true })).arr 0).selected = true ∧ (draining (fun r => { r with selected := true })).mayStart 0 = true
      ∧ (draining (fun r => { r with selected := true })).budgetOk 0 = true) := by
  decide +kernel
/-- Array 0 in its Grain's engine, at the row given. -/
def programming (st row : Nat) (f : ArrayRec → ArrayRec) : Dev :=
  (((queued.wr ARR_STATE_STATE 0 0 0 st).wr PRG_ENG_STATUS_BUSY 0 0 0 1).wr ARR_CHK_STATUS_CHK_READY 0 0 0 1).modArr 0
    (fun r => f { r with targetHeld := true, row := row, attempt := 1 })
theorem wit_program_row : let d := programming PROGRAMMING 1022 id
    d.arrState 0 = PROGRAMMING ∧ (d.arr 0).halted = none ∧ (d.arr 0).targetHeld = true ∧ (d.arr 0).row < 1023
    ∧ [List.replicate 528 (List.replicate 8 (0 : Int))] ≠ [] ∧ d.engineArray (grainOf 0) = some 0 ∧ (d.arr 0).pendingRetire = none
    ∧ d.on PRG_BRANCH_STATUS_ON (bushelOf 0) = true := by decide +kernel
/-- Outputs 260 to 262 at 1.0 and output 263 at 0; the same with 260 at 2.0; the last at the edge of a quarter. -/
theorem wit_verification : let d := programming VERIFYING 1024 id
    d.ordered ∧ d.arrState 0 = VERIFYING ∧ (d.arr 0).passed = false ∧ (d.arr 0).targetHeld = true
    ∧ d.on ARR_CHK_STATUS_CHK_READY (grainOf 0) (slotOf 0) = true ∧ d.engineArray (grainOf 0) = some 0
    ∧ fpWithin 0x3F800000 1 (mkRat (d.rd PRG_VERIFY_CFG_REF_TOL (grainOf 0)) 1000) = true ∧ fpWithin 0 0 (mkRat 1 4) = true
    ∧ fpWithin 0x40000000 1 (mkRat (d.rd PRG_VERIFY_CFG_REF_TOL (grainOf 0)) 1000) = false
    ∧ fpWithin 0x3E800000 0 (mkRat 1 4) = true ∧ fpWithin 0x3E800001 0 (mkRat 1 4) = false ∧ fpWithin fp32Nan 0 (mkRat 1 4) = false := by
  unfold Dev.ordered; decide +kernel
/-- No cycle of a verification is off, and one is, at the threshold's edge. -/
theorem wit_verification_cycles : (List.replicate 4096 ([] : List Rat)).length = 4096
    ∧ (∀ ms ∈ List.replicate 4096 ([] : List Rat), ∀ k < 4, ratAbs (ms.getD k 0) ≤ (0 : Rat))
    ∧ (∃ ms ∈ List.replicate 4096 [(-1 : Rat)], ∃ k < 4, (0 : Rat) < ratAbs (ms.getD k 0)) := by
  refine ⟨List.length_replicate, fun ms h k _ => ?_, [-1], List.mem_replicate.2 ⟨by decide, rfl⟩, 0, by decide, by decide +kernel⟩
  have e : ([] : List Rat).getD k 0 = 0 := rfl
  rw [(List.mem_replicate.1 h).2, e]; decide +kernel
theorem wit_attempt_restart : let d := programming PROGRAMMING 5 (fun r => { r with halted := some .branch })
    d.life = .run ∧ d.mpDown = false ∧ d.arrState 0 = PROGRAMMING ∧ (d.arr 0).halted ≠ none ∧ (d.arr 0).targetHeld = true
    ∧ d.on PRG_BRANCH_STATUS_ON (bushelOf 0) = true ∧ d.wrapperClosed (peckOf 0) = false ∧ d.gated (bushelOf 0) = false
    ∧ d.inhibited.contains (bushelOf 0) = false ∧ d.rd RST_PWR_STATE_STATE 0 = 0 ∧ d.engineArray (grainOf 0) = some 0
    ∧ (d.arr 0).pendingRetire = none ∧ d.clockGood (peckOf 0) = true := by decide +kernel
/-- R216: each condition met at its boundary, and not below it. -/
theorem wit_branch : (decide (400 < 401) && decide (1 ≤ 1)) = true ∧ (decide (4599 < 4600) && decide (2 ≤ 2)) = true
    ∧ (decide (5400 < 5401) && decide (1 ≤ 1)) = true ∧ (decide (3 < 4) && !false && decide (10 ≤ 10)) = true
    ∧ (decide (400 < 400) || decide (5400 < 5400) || decide (3 < 3)) = false := by decide
theorem wit_table_rebuild : let d := (boundArray id).wr ARR_CHK_STATUS_CHK_READY 0 0 0 0
    d.unbound 0 = false ∧ d.arrState 0 ≠ PROGRAMMING ∧ d.clockGood (peckOf 0) = true
    ∧ d.on ARR_CHK_STATUS_CHK_READY (grainOf 0) (slotOf 0) = false ∧ d.ordered := by unfold Dev.ordered; decide +kernel
/-- An array programmed at L0 throughout: every remainder is 0. -/
theorem cellWeight_empty (i j : Nat) : cellWeight [] i j = 0 := by simp [cellWeight, Tbl.get, Tbl.find]
theorem sum_of_zeros {α : Type} : ∀ l : List α, l.foldl (fun (s : Int) _ => s) 0 = 0
  | [] => rfl
  | _ :: l => sum_of_zeros l
theorem groupSum_empty (i k : Nat) : groupSum [] i k = 0 := by simp only [groupSum, cellWeight_empty, Int.add_zero]; exact sum_of_zeros _
theorem table_row_empty (i : Nat) : ∀ l : List Nat, l.foldl (fun acc k => acc.bind (fun m =>
      let x := groupSum [] i k - (2 ^ 0 : Nat) * cellWeight [] i (256 + k)
      if -128 ≤ x ∧ x ≤ 127 then some (Tbl.set 0 m (i * 4 + k) x) else none)) (some ([] : Tbl Int)) = some []
  | [] => rfl
  | k :: l => by simpa [groupSum_empty, cellWeight_empty, Tbl.set, Tbl.del] using table_row_empty i l
theorem table_rows_empty : ∀ l : List Nat, l.foldl (fun acc i => (List.range 4).foldl (fun acc k => acc.bind (fun m =>
      let x := groupSum [] i k - (2 ^ 0 : Nat) * cellWeight [] i (256 + k)
      if -128 ≤ x ∧ x ≤ 127 then some (Tbl.set 0 m (i * 4 + k) x) else none)) acc) (some ([] : Tbl Int)) = some []
  | [] => rfl
  | i :: l => by rw [List.foldl_cons, table_row_empty]; exact table_rows_empty l
theorem wit_table : correctionTable [] 0 = some [] := table_rows_empty _
theorem wit_flush : ({ up.dev with time := 600000000000 } : Dev).lastFlush + 600000000000 ≤ ({ up.dev with time := 600000000000 } : Dev).time
    ∧ (up.dev.modArr 3 (fun r => { r with lifeGrowth := 60 })).arrays.any (fun e => decide (60 ≤ e.2.lifeGrowth)) = true := by decide
theorem wit_dwell : settled.mayDwell 0 = true ∧ settled.on CNV_CAL_STATUS_ROTATING (grainOf 0) (slotOf 0) = false
    ∧ (settled.wr CNV_CAL_STATUS_ROTATING 0 0 0 1).on CNV_CAL_STATUS_ROTATING (grainOf 0) (slotOf 0) = true
    ∧ (settled.wr CNV_CAL_STATUS_ROTATING 0 0 0 1).calPaused 0 = false := by decide +kernel
theorem wit_reference : up.dev.gated 15 = false ∧ up.dev.powerState ≤ 1 ∧ up.dev.held = false ∧ bit up.dev.railsOn 15 = true
    ∧ (up.dev.wr CNV_REF_STATUS_ACTIVE 15 0 0 1).rd CNV_REF_STATUS_ACTIVE 15 = 1 := by decide +kernel
/-- The monitor of a Bushel runs over the default table of 92 entries: entry 0 reads the references of Grain 0's arrays. -/
def monitoring : Dev := up.dev.wr CNV_MON_CTRL_RUN 15 0 0 1
/-- The first reading of entry 0 of a table of one entry is of array 0; an array in RETIRED is skipped; the pass has ended. -/
def monOne : Dev := { (monitoring.wr CNV_MON_ACTIVE_ENTRY 15 0 0 65536).wr CNV_MON_ACTIVE_ENTRY 15 1 0 1 with monLen := [(15, 1)] }
theorem wit_monitor : monOne.monRuns 15 = true ∧ monOne.scanPlan 15 = ([(0, 0, 0)], 0) ∧ Tbl.get 0 monOne.monAt 15 = 0
    ∧ monOne.monWaited 15 0 = true ∧ bits (monOne.scanEntry CNV_MON_ACTIVE_ENTRY 15 0) 63 61 = 0
    ∧ bits (monOne.scanEntry CNV_MON_ACTIVE_ENTRY 15 0) 29 24 * 16 + (0 : Fin 16) < 1024
    ∧ monOne.monSkips (15 * 1024) = false ∧ monOne.slotFree (15 * 1024) = true ∧ monOne.on CNV_REF_STATUS_SETTLED 15 = false
    ∧ (monOne.wr ARR_STATE_STATE 960 0 0 RETIRED).monSkips (15 * 1024) = true
    ∧ (monOne.wr ARR_STATE_STATE 960 0 0 RETIRED).scanPlan 15 = ([(0, 0, 0)], 0) := by decide +kernel
/-- Every array of the Bushel has a tracker. -/
def monLoaded : Dev := { monOne with monAt := [(15, 1)], arrays := (List.range' (15 * 1024) 1024).map (fun a => (a, { awaitsMonitor := false })) }
theorem wit_monitor_pass : monLoaded.on CNV_MON_CTRL_RUN 15 = true ∧ monLoaded.monPowered 15 = true
    ∧ (monLoaded.scanPlan 15).1.length ≤ Tbl.get 0 monLoaded.monAt 15 ∧ monLoaded.monWaited 15 (monLoaded.scanPlan 15).2 = true
    ∧ monLoaded.monArmed.contains 15 = false ∧ (4 : Int).natAbs ≤ 4 := by decide +kernel
theorem find_of_range (r : ArrayRec) : ∀ (n s a : Nat), s ≤ a → a < s + n → Tbl.find ((List.range' s n).map (fun k => (k, r))) a = some r
  | 0, s, a, h, g => by omega
  | n + 1, s, a, h, g => by
    rw [List.range'_succ, List.map_cons, Tbl.find]
    by_cases e : a = s
    · rw [if_pos e]
    · rw [if_neg e, if_neg (by omega)]; exact find_of_range r n (s + 1) a (by omega) (by omega)
theorem wit_monitor_waits (x : Nat) (h : x < 1024) : (monLoaded.arr (15 * 1024 + x)).awaitsMonitor = false := by
  have e := find_of_range { awaitsMonitor := false } 1024 (15 * 1024) (15 * 1024 + x) (by omega) (by omega)
  simp only [Dev.arr, Tbl.get, monLoaded, e, Option.getD_some]
/-! ### Faults, supplies, clocks, temperature: hypotheses met -/

theorem wit_fault_classes : up.dev.life = .run ∧ up.dev.ordered ∧ (1 ≤ (3 : Fin 256).val ∧ (3 : Fin 256).val ≤ 3)
    ∧ (5 ≤ (7 : Fin 256).val ∧ (7 : Fin 256).val ≤ 7 ∧ (127 : Fin 256).val < 128)
    ∧ ((9 : Fin 256).val = 9 ∧ 0x80 ≤ (0x87 : Fin 256).val ∧ (0x87 : Fin 256).val < 0x88) ∧ (0x0C : Fin 256).val = 0x0C := by
  unfold Dev.ordered; decide
theorem wit_release : Tbl.find ({ up.dev with recovering := [(136, (5, 0x20))] } : Dev).recovering 136 = some (5, 0x20) := by decide
/-- A core rail, VPRG and the last rail of the table but the supplies that regulate at their outputs are on. -/
theorem wit_rails : bit up.dev.railsOn 0 = true ∧ bit up.dev.railsOn 0x1C = true ∧ (0x1C : Fin 32).val ≤ 0x1C
    ∧ bit (up.dev.word PWR_SENSE_STATUS 0) 0x1C = false := by decide +kernel
theorem wit_rail_restarts : let d : Dev := { up.dev with railsOn := 0, vcoreFaults := [(15, 0)], time := 1000000, vprgFaults := 1 }
    Tbl.find d.vcoreFaults 15 = some 0 ∧ 0 + 1000000 ≤ d.time ∧ bit d.railsOn 15 = false ∧ d.gated 15 = false ∧ d.life = .run ∧ d.powerState ≠ 2
    ∧ d.vprgFaults = 1 ∧ bit d.railsOn 0x1C = false := by decide +kernel
theorem wit_trip : up.dev.life ≠ .off ∧ up.dev.ordered ∧ ((15 : Fin 32).val < 16 ∧ (1150 : Int) ≤ 1150)
    ∧ (16 ≤ (16 : Fin 32).val ∧ (1050 : Int) ≤ 1050) := by unfold Dev.ordered; decide
theorem wit_idle : ((up.dev.wr RST_PECK_CTRL_IDLE_EN 127 0 0 1).wr RST_PECK_CTRL_IDLE_DELAY 127 0 0 0).mayIdle 127 = true
    ∧ (up.dev.wr RST_PECK_STATUS_IDLE 127 0 0 1).on RST_PECK_STATUS_IDLE 127 = true := by decide +kernel
theorem wit_power_down : let d : Dev := { up.dev with powerDown := some 1000000, time := 1000000 }
    d.powerDown = some 1000000 ∧ 1000000 ≤ d.time ∧ d.life ≠ .off ∧ d.ordered := by unfold Dev.ordered; decide

/-! ### Ports, links and packets: hypotheses met -/

/-- Port 7 in a state. -/
def port7 (st : Nat) : Dev := up.dev.wr FUR_PORT_STATUS_STATE 7 0 0 st
theorem wit_port_states : ∀ st ∈ [pDown, pDetect, pTrain, pIdentify, pAttest], (port7 st).portFree 7 = true ∧ (port7 st).portState 7 = st := by
  decide +kernel
theorem wit_port_retry : (port7 pDown).on FUR_PORT_STATUS_EN 7 = true ∧ (((port7 pDown).modPort 7 (fun r => { r with retryNow := true })).port 7).retryNow = true
    ∧ (((port7 pDown).modPort 7 (fun r => { r with since := 0 })).port 7).since + (port7 pDown).rd FUR_RETRY_CFG_RETRY 7 * 1000000 ≤ 100000000 := by
  decide +kernel
theorem wit_port_timeouts : ((port7 pTrain).port 7).since + 500000000 ≤ ({ port7 pTrain with time := 500000000 } : Dev).time := by decide +kernel
/-- The last of three messages of one fragment each arrives. -/
def attesting : Dev := (port7 pAttest).modPort 7 (fun r => { r with attest := [(2 * 65536, []), (3 * 65536, []), (2 ^ 24 + 2, [1, 0]), (2 ^ 24 + 3, [1, 0])] })
def attested : Dev := attesting.modPort 7 (fun r => { r with attest := Tbl.put (Tbl.put r.attest (4 * 65536 + 0) []) (2 ^ 24 + 4) [1, 0] })
theorem wit_attest : attesting.portFree 7 = true ∧ attesting.portState 7 = pAttest ∧ (attested.port 7).whole 2 = some []
    ∧ (attested.port 7).whole 3 = some [] ∧ (attested.port 7).whole 4 = some [] := by decide +kernel
/-- A packet of 64 bytes that the link takes; port 7 in UP. -/
def wr64 : Packet := { typ := tyMemWr, dst := 0, src := 2, ctx := 0, length := 64, body := List.replicate 64 1 }
theorem wit_link : (port7 pUp).portsRun = true ∧ (port7 pUp).portState 7 = pUp ∧ wr64.lawful wr64.dflits = true ∧ wr64.dflits < 256
    ∧ (port7 pUp).rd FUR_RX_SEQ_SEQ 7 = 0 ∧ 2 ^ 31 ≤ (((port7 pUp).modPort 7 (fun r => { r with packetNo := 2 ^ 31 })).port 7).packetNo := by decide +kernel
theorem wit_e2e : let d : Dev := { up.dev with outstanding := [(16383, ⟨3, .forgotten, 0⟩)], time := 20000000, duePairs := [⟨3, 9, 0, 1000⟩] }
    Tbl.find d.outstanding 16383 = some ⟨3, .forgotten, 0⟩ ∧ 0 + 20000000 ≤ d.time
    ∧ d.duePairs.find? (fun e => decide (e.due ≤ d.time)) = some ⟨3, 9, 0, 1000⟩ := by decide
theorem wit_spdm : up.dev.spdmSessions < 4 ∧ 4 ≤ ({ up.dev with spdmSessions := 4 } : Dev).spdmSessions
    ∧ 0 < ({ up.dev with spdmSessions := 1 } : Dev).spdmSessions ∧ up.dev.spdmSessions = 0 := by decide
theorem wit_host_read : Tbl.find ({ up.dev with hostReads := [(65535, (0, 0))] } : Dev).hostReads 65535 = some (0, 0) := by decide
/-- This module is node 5, behind port 7 in UP. -/
def node5 : Dev := (({ (port7 pUp) with time := 1 } : Dev).wr FUR_NODE_NODE 0 0 0 5).wr FUR_NODE_VALID 0 0 0 1
def toUs (typ len : Nat) (body : List Nat) : Packet := { typ := typ, dst := 5, src := 2, length := len, body := body }
theorem wit_node : node5.node = some 5 := by decide +kernel
/-- Packets of each type for this module land; a window takes the write of node 2; no credential of an empty body verifies. -/
theorem wit_lands : ∀ p ∈ [toUs tyMemWr 64 (List.replicate 64 1), toUs tyMemRd 64 [], toUs tyMemCpl 64 (List.replicate 64 0), toUs tyDelivery 4 [0, 0, 0, 0],
      toUs tyReset 192 [1, 0], toUs tyMgmt 64 [], toUs tyExch 64 [1], toUs tyExch 64 [3]], node5.lands 7 p := by unfold Dev.lands; decide +kernel
theorem wit_lands_sync : ∀ op ∈ [1, 2, 3, 4, 5, 7, 8], node5.lands 7 (toUs tySync 16 [op, 0]) ∧ (toUs tySync 16 [op, 0]).op = op := by
  unfold Dev.lands; decide +kernel
theorem wit_probe_reply : waiterKind (mailboxWaiterId 3 2) = 2 := by decide
theorem wit_window : ({ node5 with windows := [⟨0, 4096, 2, false, true, true⟩] } : Dev).windowAllows 2 0 64 true = true
    ∧ node5.windowAllows 2 0 64 true = false ∧ node5.on FLT_ISO_X_XCH 0 = false := by decide +kernel
/-- A participant of a barrier at home on node 2 takes its outcome. -/
def remoteBarrier : Dev := { attempting [] with regs := node5.regs, vmap := [(0, .remote 2 1 3 4)] }
def outcomePacket : Packet := { syncPacket 5 6 0 1 3 4 0 0 0 0 0 with src := 2, dst := 5 }
theorem wit_remote_outcome : remoteBarrier.lands 7 outcomePacket ∧ outcomePacket.typ = tySync ∧ outcomePacket.op = 6
    ∧ remoteBarrier.barrierRef = .remote outcomePacket.src outcomePacket.octx outcomePacket.vid outcomePacket.gen := by
  unfold Dev.lands; decide +kernel
theorem wit_no_credential : node5.credentialOk [] 1 0 = false := by decide +kernel
/-- A credential holds where its shape, its key, its module, its request and its counter are right and its signature verifies; the last is
an open value of Config, which no test can evaluate. -/
theorem wit_credential (d : Dev) (b : List Nat) (valid : d.on SEC_FMKEY_CTRL_VALID 0 = true) (shape : tokenShape b 0x51535252 = true)
    (key : (Config.sha3 (pubKey b)).toNat = d.fmKeyHash) (device : imgField b 16 32 = Config.identityHash.toNat)
    (request : imgField b 48 1 = 1 ∧ imgField b 49 1 = 0) (counter : d.resetCounter < imgField b 8 8)
    (signed : Config.mldsaVerify (pubKey b) (b.take 2016) (signatureOf b) = true) : d.credentialOk b 1 0 = true := by
  simp [Dev.credentialOk, valid, shape, key, device, request, counter, signed]
/-! ### Completion: hypotheses met, clause by clause -/

theorem wit_queries_complete : ∀ q ∈ [(0x00, ([] : List Nat), ([] : List Nat)), (0x01, [], []), (0x12, [], []), (0x33, [16383], [0x3FFF]), (0x53, [7], [7]),
      (0x71, [], [])], Ready (asks q.1 q.2.1) 0 0 q.1 ∧ ((asks q.1 q.2.1).dev.begun 0 0).argsClean 0 0 q.2.2 = true ∧ (asks q.1 q.2.1).dev.ordered := by
  unfold Ready Dev.ordered; decide +kernel

/-- PF0's window at 0 and past the end of device memory; a VF inside its map and outside. -/
theorem wit_window_byte : up.dev.answers 0 = true ∧ up.dev.life ≠ .recovery ∧ up.dev.ordered ∧ 5 + 1 ≤ 2 ^ (30 + up.dev.bar2Pf)
    ∧ up.dev.windowBase 0 + 5 + 1 ≤ deviceMemory
    ∧ (let d := up.dev.wr PCI_WIN_BASE_HI_BASE 0 0 0 112
       d.answers 0 = true ∧ d.life ≠ .recovery ∧ d.ordered ∧ 5 + 1 ≤ 2 ^ (30 + d.bar2Pf) ∧ deviceMemory < d.windowBase 0 + 5 + 1) := by
  unfold Dev.ordered; decide +kernel
theorem wit_window_byte_vf : vf3.answers 3 = true ∧ vf3.life ≠ .recovery ∧ vf3.ordered ∧ vf3.mapCovers 3 (vf3.windowBase 3 + 0x7FFFFE00) 1 = true
    ∧ vf3.windowBase 3 + 0x7FFFFE00 + 1 ≤ deviceMemory ∧ 0x7FFFFE00 + 1 ≤ 2 ^ (30 + vf3.bar2Vf)
    ∧ (let d : Dev := { up.dev with vfEnable := true, numVFs := 3 }
       d.answers 3 = true ∧ d.life ≠ .recovery ∧ d.ordered ∧ 5 + 1 ≤ 2 ^ (30 + d.bar2Vf) ∧ d.mapCovers 3 (d.windowBase 3 + 5) 1 = false) := by
  unfold Dev.ordered; decide +kernel
theorem wit_functions : up.dev.answers 0 = true ∧ up.dev.ordered ∧ ({ up.dev with vfEnable := true, numVFs := 3 } : Dev).answers 3 = true
    ∧ ({ up.dev with vfEnable := true, numVFs := 3 } : Dev).ordered ∧ ({ up.dev with vfEnable := true, numVFs := 3 } : Dev).answers 0 = true := by
  unfold Dev.ordered; decide

theorem wit_start_complete : State.reset.dev.active.verify State.reset.fuses = .ok := wit_image_verifies
theorem wit_mp_watchdog : let d : Dev := { up.dev with time := 200000000 }
    d.life = .run ∧ d.mpDown = false ∧ (d.mpCauses.filter (fun t => decide (d.time ≤ t + 60000000000))).length < 2 ∧ d.mpKicked + 200000000 ≤ d.time := by
  decide
theorem wit_mp_restarted : ({ State.reset.dev with mpDown := true } : Dev).mpDown = true
    ∧ ({ State.reset.dev with mpDown := true } : Dev).active.verify State.reset.fuses = .ok := ⟨rfl, wit_image_verifies⟩
theorem wit_shed : up.dev.life = .run ∧ up.dev.mpDown = false ∧ up.dev.ordered ∧ up.dev.nextStage 0 false = up.dev.rd MBX_MP_STATUS_SHED 0 := by
  unfold Dev.ordered; decide +kernel
theorem wit_window_out : let d : Dev := { readWindow.dev with time := 10000000000 }
    d.ordered ∧ d.windowOpen 0 = true ∧ (d.ctx 0).windowAccess + 10000000000 ≤ d.time := by unfold Dev.ordered; decide +kernel
theorem wit_sample_time : let d : Dev := { up.dev with time := 10 ^ 10 }
    d.life = .run ∧ d.mpDown = false ∧ d.telemetry.time + d.samplePeriod ≤ d.time := by decide +kernel
theorem wit_epoch : let d : Dev := { up.dev with time := 2 ^ 32 * 1000 }
    d.life ≠ .off ∧ d.ordered ∧ d.rd LOG_EPOCH_EPOCH 0 ≠ (d.micros / 2 ^ 32) % 2 ^ 32 := by unfold Dev.ordered; decide +kernel

/-- A task that signals nothing; an attempt between outcomes; a run of two steps. -/
theorem wit_task_done : Status.ok.signals = true ∧ doneTask.kind ≠ 0 ∧ doneTask.kind ≠ 4 ∧ doneTask.segPosted = false
    ∧ entryOn (doneTask.entry 2) = false ∧ entryOn (doneTask.entry 3) = false ∧ (anAttempt [(0, doneTask)]).phase = .running
    ∧ (attempting [(0, doneTask)]).run = some aRun := by decide +kernel
/-- The first row group of the FWD task; its first input element is an MXFP4 1.0. -/
def driving : Dev := (attempting [(0, fwdTask)]).setByte (fwdInputCell 0 fwdTask.arg 0 + 4) 2
def drivenSlots : List Int := 2 :: List.replicate 15 0
theorem wit_row_group_starts : driving.ordered ∧ driving.task 0 = some fwdTask ∧ driving.attempt = some (anAttempt [(0, fwdTask)])
    ∧ driving.groupSlots fwdTask.home fwdTask.arg (driving.fwdInFmt driving.runBase fwdTask.arg) 0 latched 0 = some (0, drivenSlots)
    ∧ drivenSlots.all (fun x => x == 0) = false ∧ driving.arrState 0 = SERVING ∧ driving.cycleTurn 0 fwdTask.order = true
    ∧ ((List.range 16).filter (fun n => decide (grainOf latched.array * 16 + n ≠ latched.array) && !(driving.arr (grainOf latched.array * 16 + n)).cycles.isEmpty)).length
      < driving.grainLimit (grainOf latched.array)
    ∧ driving.monWaits.contains (grainOf latched.array) = false := by unfold Dev.ordered; decide +kernel
theorem wit_vector_last : vecCount vectorTask.arg ≤ vectorTask.vecIndex + 1
    ∧ vectorTask.vecIndex + 1 < vecCount [2, 0, 0, 0, 0, 0, 0, 0, 0, 0, 0] := by decide +kernel

def twoSteps : Dev := { decided 0 .signalled none with runs := [⟨0, 0, 0, 2, 0⟩] }
theorem wit_outcome_commits : twoSteps.outcomeDue = some ⟨0, 1, 1⟩ ∧ twoSteps.run = some ⟨0, 0, 0, 2, 0⟩ ∧ twoSteps.runProgram = some prog
    ∧ twoSteps.runStarted = true ∧ twoSteps.lastOutcome ≠ some ⟨0, 1, 1⟩ ∧ Status.ofCode 0 = .ok ∧ 1 = ((anAttempt []).step + 1) % 2 ^ 32
    ∧ (0 : Nat) + 1 < 2 ∧ ({ twoSteps with attempt := none } : Dev).attempt = none ∧ ({ twoSteps with attempt := none } : Dev).run = some ⟨0, 0, 0, 2, 0⟩ := by
  decide +kernel
theorem wit_update_chunks : ({ anUpdate with todo := [(0, 0), (0, 1)] } : UpdateRun).todo = (0, 0) :: [(0, 1)] ∧ anUpdate.todo = (0, 0) :: [] := by decide
theorem wit_mirror_off : ({ up.dev with mirrorDue := true } : Dev).ordered ∧ ({ up.dev with mirrorDue := true } : Dev).on FLT_MIRROR_STATUS_EN 0 = false := by
  unfold Dev.ordered; decide +kernel

theorem wit_arrays_ordered : (boundArray (fun r => { r with decisionDue := some .drift })).ordered ∧ (boundArray (fun r => { r with decisionRuns := some .drift })).ordered
    ∧ queued.ordered ∧ (draining (fun r => { r with selected := true })).ordered ∧ (draining (fun r => { r with pendingRetire := some 5 })).ordered
    ∧ (draining (fun r => { r with selected := true })).lifeCount 0 < (draining (fun r => { r with selected := true })).lifeLimit
    ∧ (programming PROGRAMMING 5 (fun r => { r with halted := some .branch })).ordered ∧ up.dev.ordered := by unfold Dev.ordered; decide +kernel
theorem verify_zero : verifyLevel verifyLsb [0, 0, 0, 0, 0, 0, 0, 0] = 0 := by decide +kernel
/-- Every cell of a row whose targets are L0 reads L0. -/
theorem wit_row_reads (c : Nat) (h : c < 528) : let d := programming PROGRAMMING 1022 id
    ratAbs (verifyLevel verifyLsb ((List.replicate 528 (List.replicate 8 (0 : Int))).getD c []) - (16 * Tbl.get 0 (d.arr 0).target ((d.arr 0).row * 528 + c) : Nat))
      ≤ (d.rd PRG_VERIFY_CFG_TOL (grainOf 0) : Rat) := by
  have e : (List.replicate 528 (List.replicate 8 (0 : Int))).getD c [] = [0, 0, 0, 0, 0, 0, 0, 0] := by
    rw [List.getD_eq_getElem?_getD, List.getElem?_replicate, if_pos h]; rfl
  have z : ((programming PROGRAMMING 1022 id).arr 0).target = [] := by decide +kernel
  simp only [e, verify_zero, z, Tbl.get, Tbl.find, Option.getD_none]
  decide +kernel
theorem wit_row_stuck : let d := programming PROGRAMMING 1022 id
    d.ordered ∧ (d.arr 0).stuck ≤ d.rd PRG_VERIFY_CFG_STUCK_LIMIT (grainOf 0) := by unfold Dev.ordered; decide +kernel
theorem wit_dwell_ordered : settled.ordered := by unfold Dev.ordered; decide +kernel
/-- A rotation on whose slice every trim is 0. -/
def rotating : Dev := (((settled.wr CNV_CAL_STATUS_ROTATING 0 0 0 1).wr CNV_CAL_CFG_EN 0 0 0 1).wr CNV_CAL_STATUS_POS 0 0 0 66).modArr 0 (fun r => { r with
  trims := (List.range 8).map (fun k => (66 * 8 + k, 0)) })
theorem wit_rotation : rotating.ordered ∧ rotating.on CNV_CAL_STATUS_ROTATING (grainOf 0) (slotOf 0) = true ∧ rotating.calPaused 0 = false
    ∧ rotating.trimAtEnd 0 (rotating.rd CNV_CAL_STATUS_POS (grainOf 0) (slotOf 0)) = false ∧ rotating.on CNV_CAL_CFG_EN (grainOf 0) (slotOf 0) = true := by
  unfold Dev.ordered; decide +kernel
theorem wit_ext_ref : (up.dev.wr CNV_REF_STATUS_ACTIVE 15 0 0 1).ordered ∧ ((1224 : Nat) < 1225 ∨ (1275 : Nat) < 1224) ∧ ((1276 : Nat) < 1225 ∨ (1275 : Nat) < 1276) := by
  unfold Dev.ordered; decide +kernel
theorem wit_monitor_ordered : monOne.ordered ∧ (monOne.wr ARR_STATE_STATE 960 0 0 RETIRED).ordered ∧ (monOne.wr ARR_STATE_STATE 960 0 0 RETIRED).monRuns 15 = true := by
  unfold Dev.ordered; decide +kernel
theorem rising_range (r : ArrayRec) : ∀ n s lo, lo ≤ s → Tbl.risingFrom lo ((List.range' s n).map (fun k => (k, r))) = true
  | 0, _, _, _ => rfl
  | n + 1, s, lo, h => by
    rw [List.range'_succ, List.map_cons, Tbl.risingFrom, Bool.and_eq_true]
    exact ⟨decide_eq_true h, rising_range r n (s + 1) (s + 1) (Nat.le_refl _)⟩
theorem wit_monitor_pass_ordered : monLoaded.ordered := by
  have h : Tbl.rising monLoaded.arrays = true := rising_range _ _ _ _ (Nat.zero_le _)
  unfold Dev.ordered; rw [h]; decide +kernel

/-- An address of the program records is repaired from the shadow, one that holds nothing known is a block-contained fault. -/
theorem wit_repair : (up.dev.repairRegion (hbmAddress 0 78523604992)).1 = false ∧ (up.dev.repairRegion (hbmAddress 0 5)).1 = true ∧ 78523604992 < 80000000000 := by
  decide +kernel
theorem wit_release_units : let d : Dev := { up.dev with recovering := [(5, (0, 0x20)), (0x80, (0, 0x20)), (0x88, (5, 0x20))] }
    Tbl.find d.recovering 5 = some (0, 0x20) ∧ Tbl.find d.recovering 0x80 = some (0, 0x20) ∧ Tbl.find d.recovering 0x88 = some (5, 0x20)
    ∧ d.powered 5 = true ∧ d.controlRestore 5 = some d := by decide +kernel
theorem wit_supply : up.dev.ordered ∧ bit up.dev.railsOn 0x1C = true ∧ bit up.dev.railsOn 16 = true
    ∧ bit (up.dev.word PWR_SENSE_STATUS 0) 0 = false ∧ up.dev.word PWR_SENSE_STATUS 0 < 2 ^ 32 ∧ bit (up.dev.word PWR_PHASE_SHED 0) 0 = false
    ∧ up.dev.word PWR_PHASE_SHED 0 < 2 ^ 32 ∧ ({ up.dev with railsOn := 0, vcoreFaults := [(15, 0)], time := 1000000, vprgFaults := 1 } : Dev).ordered := by
  unfold Dev.ordered; decide +kernel
/-- Power between 90 % of the limit and the limit, and above it, a wait of 1 ms over; a reading at each threshold. -/
theorem wit_power : let d : Dev := { up.dev with time := 1000000, levelAt := 0 }
    d.life ≠ .off ∧ d.ordered ∧ d.levelAt + 1000000 ≤ d.time ∧ 9 * d.rd PWR_LIMIT_LIMIT 0 ≤ (10 * 1500 : Nat) ∧ 10 * d.rd PWR_LIMIT_LIMIT 0 < (0xFFFF#16).toNat
    ∧ 9 * d.rd PWR_LIMIT_LIMIT 0 ≤ (BitVec.ofNat 16 (9 * d.rd PWR_LIMIT_LIMIT 0)).toNat ∧ (BitVec.ofNat 16 (9 * d.rd PWR_LIMIT_LIMIT 0)).toNat ≤ 10 * d.rd PWR_LIMIT_LIMIT 0
    ∧ d.rd PWR_LEVEL_POWER 0 < 11 ∧ d.rd PWR_LEVEL_HBM 0 < 11 ∧ d.rd PWR_THERM_LEVEL_LEVEL 15 < 11 ∧ d.on CLK_REF_STATUS_INTERNAL 0 = false
    ∧ (500 : Nat) < (-501 : Int).natAbs := by unfold Dev.ordered; decide +kernel
theorem wit_idle_ordered : ((up.dev.wr RST_PECK_CTRL_IDLE_EN 127 0 0 1).wr RST_PECK_CTRL_IDLE_DELAY 127 0 0 0).ordered
    ∧ (up.dev.wr RST_PECK_STATUS_IDLE 127 0 0 1).ordered := by unfold Dev.ordered; decide +kernel

theorem wit_ports_ordered : ∀ st ∈ [pDown, pDetect, pTrain, pIdentify, pAttest, pUp], (port7 st).ordered := by unfold Dev.ordered; decide +kernel
theorem wit_port_identify : ∃ h : BitVec 256, h.toNat ≠ Config.identityHash.toNat :=
  ⟨Config.identityHash + 1, fun e => by have := BitVec.eq_of_toNat_eq e; revert this; generalize Config.identityHash = x; intro h; bv_omega⟩
theorem wit_port_version (d : Dev) (h : d.firmwareVersion < 2 ^ 32) :
    (BitVec.ofNat 32 d.firmwareVersion).toNat / 2 ^ 24 = d.firmwareVersion / 2 ^ 24 := by rw [BitVec.toNat_ofNat, Nat.mod_eq_of_lt h]
theorem wit_attested : (Tbl.find ({ up.dev with spdmSessions := 3 } : Dev).outstanding 0) = none ∧ ({ up.dev with spdmSessions := 3 } : Dev).spdmSessions < 4 := by decide
/-- A partner is accepted where its chain is, its leaf's key has the identity hash it sent, and its signature verifies: the chain's parse and
the signature are open values of Config, which no test can evaluate. -/
theorem wit_partner (identity : Nat) (last hash : List Nat) (cs : List Cert) (leaf : Cert) (parsed : Config.parseChain (last.drop 3309) = some cs)
    (at_end : cs.getLast? = some leaf) (chain : chainAccepted cs = true) (key : (Config.sha3 leaf.publicKey).toNat = identity)
    (signed : Config.mldsaVerify leaf.publicKey hash (last.take 3309) = true) : partnerAccepted identity last hash = true := by
  simp [partnerAccepted, parsed, at_end, chain, key, signed]
theorem wit_due_pairs : ({ up.dev with time := 20000000, duePairs := [⟨3, 9, 0, 1000⟩] } : Dev).duePairs = [⟨3, 9, 0, 1000⟩] := rfl
theorem wit_epoch_due : let d := (port7 pUp).modPort 7 (fun r => { r with packetNo := 2 ^ 31 })
    d.ordered ∧ d.portsRun = true ∧ d.portState 7 = pUp ∧ 2 ^ 31 ≤ (d.port 7).packetNo ∧ bit (4 : BitVec 8).toNat 2 = true ∧ wr64.lawful wr64.dflits = true := by
  unfold Dev.ordered; decide +kernel
/-- Windows that let node 2 read; a context of this module to reset. -/
theorem wit_packets : ({ node5 with windows := [⟨0, 4096, 2, true, true, true⟩] } : Dev).windowAllows 2 0 64 false = true
    ∧ ({ node5 with windows := [⟨0, 4096, 2, true, true, true⟩] } : Dev).lands 7 (toUs tyMemRd 64 []) ∧ node5.lands 7 (toUs tyDelivery 4 [0, 0, 0, 0])
    ∧ node5.on FLT_ISO_X_XCH 0 = false ∧ nth (toUs tyExch 64 [1]).body 0 ≠ 3 ∧ nth (toUs tyExch 64 [3]).body 0 = 3
    ∧ nth (toUs tyReset 192 [2, 0]).body 0 = 2 ∧ nth (toUs tyReset 192 [2, 0]).body 1 < 16 := by
  unfold Dev.lands; decide +kernel

end Sys2Proof.Tests
end

section
/-! Register accesses (R11, R62, R524, R556 to R559, R564, R568) and functions (R549, R550): what each access does in the case its rule
speaks of, each said once of the operation, and O33 put together from them. -/
namespace Sys2Proof.Machine

section
variable (d : Dev) (f : Fuses)

/-! ### Reads and writes of a register (R11, R524) -/

/-- The upper half of the time is latched. -/
theorem Dev.regRead_logTimeLo : (d.regRead f LOG_TIME_LO 0 0 0).2 = d.setWord LOG_TIME_HI 0 0 0 (d.time / 2 ^ 32) := rfl

/-- The copy in a function's page latches into that function's own upper half. -/
theorem Dev.regRead_pciTimeLo (c : Nat) :
    d.regRead f PCI_TIME_LO c 0 0 = (d.time % 2 ^ 32, d.modCtx c (fun x => { x with timeHi := d.time / 2 ^ 32 % 2 ^ 32 })) := rfl

/-- A read of a register that latches nothing clears the RC fields, if there are any. -/
theorem Dev.regRead_state {r : Reg} (u n k : Nat) (not_log : r.is LOG_TIME_LO = false) (not_time : r.is PCI_TIME_LO = false)
    (not_window : r.is MBX_DATA_RD = false) :
    (d.regRead f r u n k).2
      = if r.fields.any (fun y => decide (y.access = .rc)) then d.setWord r u n k (r.afterRead (d.word r u n k)) else d := by
  simp only [Dev.regRead, not_log, not_time, not_window, Bool.false_eq_true, if_false]
  split <;> rfl

/-- A plain register is none of those that regWrite and csrWrite treat apart. -/
theorem Dev.regWrite_plain {r : Reg} (u n k v : Nat) (plain : r.plain = true) : d.regWrite f r u n k v = d.plainWrite r u n k v := by
  simp only [Reg.plain, List.all_cons, List.all_nil, Bool.and_true, Bool.and_eq_true, Bool.not_eq_true'] at plain
  simp [Dev.regWrite, plain]

/-! ### Internal CSRs (R62) -/

variable {d} {lvl x u n k : Nat} {r : Reg}

/-- A permitted read is that of the register at the address, after the Peck is awake. -/
theorem Dev.csrRead_state (ok : d.csrStatus lvl x = .ok) (here : regAt lvl (csrAlias lvl x) = some (r, u, n, k)) :
    (d.csrRead f lvl x).2.2 = ((d.wakeFor lvl x).regRead f r u n k).2 := by
  simp only [Dev.csrRead, ok, here]

/-- A permitted write of a plain register does what the access codes say. -/
theorem Dev.csrWrite_plain (command : Bool) (v : Nat) (ok : d.csrStatus lvl x = .ok)
    (here : regAt lvl (csrAlias lvl x) = some (r, u, n, k)) (plain : r.plain = true) :
    (d.csrWrite f command lvl x v).2 = (d.wakeFor lvl x).plainWrite r u n k v := by
  have hw := Dev.regWrite_plain (d.wakeFor lvl x) f u n k v plain
  simp only [Reg.plain, List.all_cons, List.all_nil, Bool.and_true, Bool.and_eq_true, Bool.not_eq_true'] at plain
  simp [Dev.csrWrite, ok, here, plain, hw]

/-! ### BAR0 (R556, R557) -/

/-- An aligned read of four bytes sends the word back. -/
theorem Dev.bar0Read_word {c o : Nat} (up : d.answers c = true) (lt : o < 2 ^ 24) (aligned : o % 4 = 0) :
    d.bar0Read f c o 4 = (d.bar0Read4 f c o).2.hostData c (some (leBytes 4 (d.bar0Read4 f c o).1)) := by
  have reached : ¬ (d.answers c = false ∨ 2 ^ 24 ≤ o) := not_or.2 ⟨by simp [up], Nat.not_le.2 lt⟩
  rw [Dev.bar0Read, if_neg reached, if_pos ⟨rfl, aligned⟩]

/-- An aligned write of four bytes writes the word. -/
theorem Dev.bar0Write_word {c o : Nat} (v : Nat) (up : d.answers c = true) (lt : o < 2 ^ 24) (aligned : o % 4 = 0) :
    d.bar0Write f c o 4 v false = d.bar0Write4 f c o (v % 2 ^ 32) := by
  have reached : ¬ (d.answers c = false ∨ false = true ∨ 2 ^ 24 ≤ o) :=
    not_or.2 ⟨by simp [up], not_or.2 ⟨by decide, Nat.not_le.2 lt⟩⟩
  rw [Dev.bar0Write, if_neg reached, if_pos ⟨rfl, aligned⟩]

/-- R555: a poisoned write is discarded. -/
theorem Dev.bar0Write_poisoned (c o size v : Nat) : d.bar0Write f c o size v true = d := by
  simp [Dev.bar0Write]

/-- PCI_TIME_LO stands at 0x3000 of every function's page. -/
theorem regAt_pciTimeLo : ∀ c : Fin 16, regAt 4 (c.val * 2 ^ 24 + 0x3000) = some (PCI_TIME_LO, c.val, 0, 0) := by
  decide +kernel

theorem Dev.bar0Read4_pciTimeLo (c : Fin 16) :
    d.bar0Read4 f c.val 0x3000 = (d.time % 2 ^ 32, d.modCtx c.val (fun x => { x with timeHi := d.time / 2 ^ 32 % 2 ^ 32 })) := by
  rw [Dev.bar0Read4, if_neg (by decide), if_neg (by decide), if_neg (by decide), if_neg (by omega), regAt_pciTimeLo]
  exact Dev.regRead_pciTimeLo d f c.val

/-! ### The debug aperture (R559) -/

theorem leBytes_zero : leBytes 4 0 = [0, 0, 0, 0] := by decide

theorem inRange_iff {o lo n : Nat} : inRange o lo n = true ↔ lo ≤ o ∧ o < lo + n := by
  simp only [inRange, Bool.and_eq_true, decide_eq_true_eq]

/-- The aperture lies behind the MSI-X table and the pending bits. -/
theorem aperture_range {o : Nat} (lt : o < 2 ^ 16) :
    ¬ inRange (0x810000 + o) 0x10000 1024 = true ∧ ¬ inRange (0x810000 + o) 0x18000 8 = true
      ∧ inRange (0x810000 + o) 0x810000 0x10000 = true := by
  simp only [inRange_iff]
  omega

/-- A read in the aperture's range of BAR0 is an access through it. -/
theorem Dev.bar0Read4_aperture (c : Nat) {o : Nat} (lt : o < 2 ^ 16) : d.bar0Read4 f c (0x810000 + o) = d.aperture f c o none := by
  obtain ⟨no_table, no_pba, within⟩ := aperture_range lt
  rw [Dev.bar0Read4, if_neg no_table, if_neg no_pba, if_pos within, Nat.add_sub_cancel_left]

/-- So is a write. -/
theorem Dev.bar0Write4_aperture (c : Nat) {o : Nat} (v : Nat) (lt : o < 2 ^ 16) :
    d.bar0Write4 f c (0x810000 + o) v = (d.aperture f c o (some v)).2 := by
  obtain ⟨no_table, -, within⟩ := aperture_range lt
  rw [Dev.bar0Write4, if_neg no_table, if_pos within, Nat.add_sub_cancel_left]

theorem Dev.apertureAccess_read {c o : Nat} (up : d.answers c = true) (lt : o < 2 ^ 16) (aligned : o % 4 = 0) :
    d.apertureAccess f c o none = (d.aperture f c o none).2.hostData c (some (leBytes 4 (d.aperture f c o none).1)) := by
  rw [Dev.apertureAccess, Dev.bar0Read_word f up (by omega) (by omega), Dev.bar0Read4_aperture f c lt]

theorem Dev.apertureAccess_write {c o v : Nat} (up : d.answers c = true) (lt : o < 2 ^ 16) (aligned : o % 4 = 0) (word : v < 2 ^ 32) :
    d.apertureAccess f c o (some v) = (d.aperture f c o (some v)).2 := by
  rw [Dev.apertureAccess, Dev.bar0Write_word f v up (by omega) (by omega), Nat.mod_eq_of_lt word, Dev.bar0Write4_aperture f c v lt]

/-! ### Window bases (R568) -/

/-- The two halves of a window base are two registers. -/
theorem winBaseHi_key_ne (c : Nat) : PCI_WIN_BASE_HI.key 0 c 0 ≠ PCI_WIN_BASE_LO.key 0 c 0 := by
  simp [Reg.key, PCI_WIN_BASE_HI, PCI_WIN_BASE_LO]

theorem Dev.windowBaseWrite_first {c : Nat} (hi : Bool) (v : Nat) (none_waits : Tbl.find d.winPending c = none) :
    d.windowBaseWrite c hi v = { d with winPending := Tbl.put d.winPending c (hi, v) } := by
  simp only [Dev.windowBaseWrite, none_waits]

/-- The first half's write leaves the other register, so both words come from the state before the pair. -/
theorem Dev.plainWrite_winBase (ok : d.regsOk) (c lo up : Nat) :
    (d.plainWrite PCI_WIN_BASE_LO 0 c 0 lo).plainWrite PCI_WIN_BASE_HI 0 c 0 up =
      (d.setWord PCI_WIN_BASE_LO 0 c 0 (PCI_WIN_BASE_LO.afterWrite (d.word PCI_WIN_BASE_LO 0 c) lo)).setWord PCI_WIN_BASE_HI 0 c 0
        (PCI_WIN_BASE_HI.afterWrite (d.word PCI_WIN_BASE_HI 0 c) up) := by
  rw [Dev.plainWrite, Dev.plainWrite, Dev.word_setWord_other ok _ _ _ _ _ _ _ _ _ (winBaseHi_key_ne c)]

/-- The second half of a pair applies both. -/
theorem Dev.windowBaseWrite_second {c old : Nat} {hi : Bool} (v : Nat) (ok : d.regsOk)
    (waits : Tbl.find d.winPending c = some (!hi, old)) :
    d.windowBaseWrite c hi v =
      ({ d with winPending := Tbl.del d.winPending c }.setWord PCI_WIN_BASE_LO 0 c 0
          (PCI_WIN_BASE_LO.afterWrite (d.word PCI_WIN_BASE_LO 0 c) (if hi then old else v))).setWord PCI_WIN_BASE_HI 0 c 0
        (PCI_WIN_BASE_HI.afterWrite (d.word PCI_WIN_BASE_HI 0 c) (if hi then v else old)) := by
  have pair := Dev.plainWrite_winBase (d := { d with winPending := Tbl.del d.winPending c }) ok c
  rw [Dev.windowBaseWrite, waits]
  cases hi with
  | false => exact pair v old
  | true => exact pair old v

end

/-! ### The accesses, and O33 -/

variable (s : State) (c : Fin 16)

theorem State.to_eq {d e : Dev} (same : d = e) : s.to d = .next (s.withDev e) := same ▸ rfl

/-- The aperture is shut to a function: it is not PF0, debug is not unlocked, or the unlock's scope leaves the aperture out. -/
abbrev Dev.apertureShut (d : Dev) (c : Fin 16) : Prop :=
  c ≠ 0 ∨ d.on SEC_STATUS_UNLOCKED 0 = false ∨ bit (d.rd SEC_STATUS_SCOPE 0) 0 = false

theorem Dev.apertureShut_iff (d : Dev) :
    (c.val ≠ 0 ∨ d.on SEC_STATUS_UNLOCKED 0 = false ∨ bit (d.rd SEC_STATUS_SCOPE 0) 0 = false) ↔ d.apertureShut c := by
  rw [Dev.apertureShut, ← Fin.val_ne_zero_iff]

theorem Dev.aperture_shut {d : Dev} (f : Fuses) (o : Nat) (write : Option Nat) (shut : d.apertureShut c) :
    d.aperture f c.val o write = (0, d.wr PCI_DBG_SEL_STATUS 0 0 0 Status.notPermitted.code) := by
  rw [Dev.aperture, if_pos ((Dev.apertureShut_iff c d).2 shut)]

/-- Otherwise a read is the CSR read of the selected address. The access is named before the aperture is unfolded, so that the kernel
does not compute it. -/
theorem Dev.aperture_read {d e : Dev} {f : Fuses} {o w : Nat} {st : Status} (unlocked : ¬ d.apertureShut c)
    (read : d.csrRead f (d.rd PCI_DBG_SEL_LVL 0) (d.rd PCI_DBG_SEL_ADDR_HI 0 * 2 ^ 16 + o) = (st, w, e)) :
    d.aperture f c.val o none = (w, e.wr PCI_DBG_SEL_STATUS 0 0 0 st.code) := by
  obtain ⟨access, named⟩ : ∃ access, d.csrRead f = access := ⟨_, rfl⟩
  rw [named] at read
  rw [Dev.aperture, if_neg (mt (Dev.apertureShut_iff c d).1 unlocked), named]
  simp only [read]

/-- And a write is the CSR write of the selected address. -/
theorem Dev.aperture_write {d e : Dev} {f : Fuses} {o v : Nat} {st : Status} (unlocked : ¬ d.apertureShut c)
    (written : d.csrWrite f false (d.rd PCI_DBG_SEL_LVL 0) (d.rd PCI_DBG_SEL_ADDR_HI 0 * 2 ^ 16 + o) v = (st, e)) :
    d.aperture f c.val o (some v) = (0, e.wr PCI_DBG_SEL_STATUS 0 0 0 st.code) := by
  obtain ⟨access, named⟩ : ∃ access, d.csrWrite f false = access := ⟨_, rfl⟩
  rw [named] at written
  rw [Dev.aperture, if_neg (mt (Dev.apertureShut_iff c d).1 unlocked), named]
  simp only [written]

theorem exec_logTimeLoRead_log (wide : Bool) :
    exec (.logTimeLoRead none wide) s = .next (s.withDev (s.dev.setWord LOG_TIME_HI 0 0 0 (s.dev.time / 2 ^ 32))) := by
  show Host.Outcome.next (s.withDev (s.dev.regRead s.fuses LOG_TIME_LO 0 0 0).2) = _
  rw [Dev.regRead_logTimeLo]

theorem exec_logTimeLoRead_page (up : s.dev.answers c = true) :
    exec (.logTimeLoRead (some c) false) s = .next (s.withDev (
      (s.dev.modCtx c (fun x => { x with timeHi := s.dev.time / 2 ^ 32 % 2 ^ 32 })).hostData c
        (some (leBytes 4 (s.dev.time % 2 ^ 32))))) := by
  show Host.Outcome.next (s.withDev (s.dev.bar0Read s.fuses c.val 0x3000 4)) = _
  rw [Dev.bar0Read_word s.fuses up (by decide) (by decide), Dev.bar0Read4_pciTimeLo]

theorem exec_rcFieldRead_csr (wide : Bool) {lvl : Fin 4} {x u n k : Nat} {r : Reg} (serving : s.dev.mpState = 0) (lt : x < 2 ^ 32)
    (ok : s.dev.csrStatus lvl x = .ok) (here : regAt lvl (csrAlias lvl x) = some (r, u, n, k)) (not_log : r.is LOG_TIME_LO = false)
    (not_time : r.is PCI_TIME_LO = false) (not_window : r.is MBX_DATA_RD = false) :
    exec (.rcFieldRead (.csr lvl x) wide) s = .next (s.withDev (
      let d := s.dev.wakeFor lvl x
      if r.fields.any (fun y => decide (y.access = .rc)) then d.setWord r u n k (r.afterRead (d.word r u n k)) else d)) := by
  show Host.Outcome.next (s.withDev (if s.dev.mpState = 0 then (s.dev.csrRead s.fuses lvl.val (x % 2 ^ 32)).2.2 else s.dev)) = _
  rw [if_pos serving, Nat.mod_eq_of_lt lt, Dev.csrRead_state s.fuses ok here, Dev.regRead_state _ _ _ _ _ not_log not_time not_window]

theorem exec_registerWrite_csr (wide : Bool) (v : BitVec 64) {lvl : Fin 4} {x u n k : Nat} {r : Reg} (serving : s.dev.mpState = 0)
    (lt : x < 2 ^ 32) (ok : s.dev.csrStatus lvl x = .ok) (here : regAt lvl (csrAlias lvl x) = some (r, u, n, k))
    (plain : r.plain = true) :
    exec (.registerWrite (.csr lvl x) wide v false) s = .next (s.withDev ((s.dev.wakeFor lvl x).plainWrite r u n k (v.toNat % 2 ^ 32))) := by
  show Host.Outcome.next (s.withDev (if s.dev.mpState = 0 then
    (s.dev.csrWrite s.fuses false lvl.val (x % 2 ^ 32) (v.toNat % 2 ^ 32)).2 else s.dev)) = _
  rw [if_pos serving, Nat.mod_eq_of_lt lt, Dev.csrWrite_plain s.fuses false _ ok here plain]

theorem exec_rcFieldRead_bar0 {o : Nat} (up : s.dev.answers c = true) (lt : o < 2 ^ 24) (aligned : o % 4 = 0) :
    exec (.rcFieldRead (.bar0 c o) false) s = .next (s.withDev (
      (s.dev.bar0Read4 s.fuses c o).2.hostData c (some (leBytes 4 (s.dev.bar0Read4 s.fuses c o).1)))) :=
  s.to_eq (Dev.bar0Read_word s.fuses up lt aligned)

theorem exec_registerWrite_bar0 {o : Nat} (v : BitVec 64) (up : s.dev.answers c = true) (lt : o < 2 ^ 24) (aligned : o % 4 = 0) :
    exec (.registerWrite (.bar0 c o) false v false) s = .next (s.withDev (s.dev.bar0Write4 s.fuses c o (v.toNat % 2 ^ 32))) :=
  s.to_eq (Dev.bar0Write_word s.fuses v.toNat up lt aligned)

theorem exec_registerWrite_poisoned (o : Nat) (wide : Bool) (v : BitVec 64) : exec (.registerWrite (.bar0 c o) wide v true) s = .next s :=
  s.to_eq (Dev.bar0Write_poisoned s.fuses c.val o (if wide then 8 else 4) v.toNat)

theorem exec_rcFieldRead_config (r : CfgReg) (wide : Bool) (up : s.dev.answers c = true) :
    exec (.rcFieldRead (.config c r) wide) s = .next (s.withDev (s.dev.hostData c (some (leBytes 4 (s.dev.cfgRead c r))))) :=
  s.to_eq (if_pos up)

theorem exec_registerWrite_config (r : CfgReg) (wide : Bool) (v : BitVec 64) (up : s.dev.answers c = true) :
    exec (.registerWrite (.config c r) wide v false) s = .next (s.withDev (s.dev.cfgWrite c r v.toNat)) :=
  s.to_eq (if_pos up)

theorem exec_debugApertureAccess_read (o : BitVec 16) (up : s.dev.answers c = true) (aligned : o.toNat % 4 = 0) :
    exec (.debugApertureAccess c o none) s = .next (s.withDev (
      if s.dev.apertureShut c then (s.dev.wr PCI_DBG_SEL_STATUS 0 0 0 Status.notPermitted.code).hostData c (some [0, 0, 0, 0])
      else
        let r := s.dev.csrRead s.fuses (s.dev.rd PCI_DBG_SEL_LVL 0) (s.dev.rd PCI_DBG_SEL_ADDR_HI 0 * 2 ^ 16 + o.toNat)
        (r.2.2.wr PCI_DBG_SEL_STATUS 0 0 0 r.1.code).hostData c (some (leBytes 4 r.2.1)))) := by
  show Host.Outcome.next (s.withDev (s.dev.apertureAccess s.fuses c.val o.toNat none)) = _
  rw [Dev.apertureAccess_read s.fuses up o.isLt aligned]
  by_cases shut : s.dev.apertureShut c
  · rw [if_pos shut, Dev.aperture_shut c s.fuses _ _ shut, leBytes_zero]
  · rcases read : s.dev.csrRead s.fuses (s.dev.rd PCI_DBG_SEL_LVL 0) (s.dev.rd PCI_DBG_SEL_ADDR_HI 0 * 2 ^ 16 + o.toNat)
      with ⟨st, w, e⟩
    rw [if_neg shut, Dev.aperture_read c shut read]

theorem exec_debugApertureAccess_write (o : BitVec 16) (v : BitVec 32) (up : s.dev.answers c = true) (aligned : o.toNat % 4 = 0) :
    exec (.debugApertureAccess c o (some v)) s = .next (s.withDev (
      if s.dev.apertureShut c then s.dev.wr PCI_DBG_SEL_STATUS 0 0 0 Status.notPermitted.code
      else
        let r := s.dev.csrWrite s.fuses false (s.dev.rd PCI_DBG_SEL_LVL 0) (s.dev.rd PCI_DBG_SEL_ADDR_HI 0 * 2 ^ 16 + o.toNat) v.toNat
        r.2.wr PCI_DBG_SEL_STATUS 0 0 0 r.1.code)) := by
  show Host.Outcome.next (s.withDev (s.dev.apertureAccess s.fuses c.val o.toNat (some v.toNat))) = _
  rw [Dev.apertureAccess_write s.fuses up o.isLt aligned v.isLt]
  by_cases shut : s.dev.apertureShut c
  · rw [if_pos shut, Dev.aperture_shut c s.fuses _ _ shut]
  · rcases written : s.dev.csrWrite s.fuses false (s.dev.rd PCI_DBG_SEL_LVL 0) (s.dev.rd PCI_DBG_SEL_ADDR_HI 0 * 2 ^ 16 + o.toNat) v.toNat
      with ⟨st, e⟩
    rw [if_neg shut, Dev.aperture_write c shut written]

theorem exec_pciWinBaseWrite (hi : Bool) (v : BitVec 32) :
    exec (.pciWinBaseWrite c hi v) s = .next (s.withDev (s.dev.windowBaseWrite c hi v.toNat)) := rfl

/-- R564: the mask is cleared, then what it held back is sent. -/
theorem exec_msixVectorUnmask (v : Option (Fin 64)) (up : s.dev.answers c = true) :
    exec (.msixVectorUnmask c v) s = .next (s.withDev ((s.dev.modCtx c (fun x => match v with
      | some v => { x with unmasked := if x.unmasked.contains v.val then x.unmasked else x.unmasked ++ [v.val] }
      | none => { x with functionMask := false })).sendPending c)) := by
  show Host.Outcome.next (s.withDev (if s.dev.answers c.val then s.dev.unmask c.val (v.map Fin.val) else s.dev)) = _
  rw [if_pos up]
  cases v <;> rfl

/-! ### Functions (R549, R550) -/

theorem exec_flr (up : s.dev.answers c = true) :
    exec (.flr c) s = .next (s.withDev (((if c = 0 then s.dev.vfEnableClear else s.dev).contextReset c 0x10).configReset c)) := by
  show Host.Outcome.next (s.withDev (s.dev.flr c.val)) = _
  simp only [Dev.flr, up, if_true, Fin.val_eq_zero_iff]

theorem exec_vfEnableSet (n : Fin 16) (up : s.dev.answers 0 = true) :
    exec (.vfEnableSet n) s = .next (s.withDev
      { (if s.dev.vfEnable then s.dev.vfsEnd (n + 1) s.dev.numVFs 0x12 else s.dev) with vfEnable := true, numVFs := n.val }) :=
  s.to_eq (if_pos up)

theorem exec_vfEnableClear (up : s.dev.answers 0 = true) (enabled : s.dev.vfEnable = true) :
    exec .vfEnableClear s = .next (s.withDev { s.dev.vfsEnd 1 s.dev.numVFs 0x12 with vfEnable := false }) :=
  s.to_eq (if_pos (by rw [Dev.configUp, up, enabled]; rfl))

/-- Settles O33: each clause is the lemma above that says what its access does. -/
theorem registerAccessesTakeEffect : Obligations.RegisterAccessesTakeEffect := by
  unfold Obligations.RegisterAccessesTakeEffect
  refine ⟨⟨exec_logTimeLoRead_log, exec_logTimeLoRead_page, ?rcRead, ?csrWrite, ?bar0, ?config⟩, ?aperture,
    ⟨?winFirst, ?winSecond, exec_msixVectorUnmask⟩, exec_flr, exec_vfEnableSet, exec_vfEnableClear⟩
  case rcRead =>
    intro s wide lvl x r u n k serving lt ok here not_log not_time not_window
    exact exec_rcFieldRead_csr s wide serving lt ok here not_log not_time not_window
  case csrWrite =>
    intro s wide lvl x v r u n k serving lt ok here plain
    exact exec_registerWrite_csr s wide v serving lt ok here plain
  case bar0 =>
    intro s c o v up lt aligned
    exact ⟨exec_rcFieldRead_bar0 s c up lt aligned, exec_registerWrite_bar0 s c v up lt aligned,
      exec_registerWrite_poisoned s c o false v⟩
  case config =>
    intro s c r wide v up
    exact ⟨exec_rcFieldRead_config s c r wide up, exec_registerWrite_config s c r wide v up⟩
  case aperture =>
    intro s c o v up aligned
    have word : (v.setWidth 32).toNat = v.toNat := BitVec.toNat_setWidth_of_le (by decide)
    have write := exec_debugApertureAccess_write s c o (v.setWidth 32) up aligned
    rw [word] at write
    exact ⟨exec_debugApertureAccess_read s c o up aligned, write⟩
  case winFirst =>
    intro s c hi v none_waits
    rw [exec_pciWinBaseWrite, Dev.windowBaseWrite_first hi v.toNat none_waits]
  case winSecond =>
    intro s c hi v old ordered waits
    obtain ⟨regs, -⟩ := ordered
    rw [exec_pciWinBaseWrite, Dev.windowBaseWrite_second v.toNat regs waits]

end Sys2Proof.Machine
end

section
/-! Memory, the log and the CSR space through commands (R62, R534, R537, R539, R540, R542): what a context's record and its response
words read after a slot's completion, what MEM_ALLOC's region is, the checks of an access to the internal CSR space, and O27 put
together from them. -/
namespace Sys2Proof.Machine

/-! ### Sparse tables and memory -/

/-- Leaving entries out by their keys leaves the reads at the other keys. -/
theorem Tbl.find_filter {α : Type} {m : Tbl α} (ok : Tbl.rising m = true) (keep : Nat → Bool) (k : Nat) :
    Tbl.find (m.filter (fun e => keep e.1)) k = if keep k then Tbl.find m k else none := by
  unfold Tbl.rising at ok
  generalize 0 = lo at ok
  induction m generalizing lo with
  | nil => simp [Tbl.find]
  | cons e rest ih =>
    have rest_ok := ok
    simp only [Tbl.risingFrom, Bool.and_eq_true] at rest_ok
    have below (lt : k < e.1) : Tbl.find rest k = none := Tbl.find_of_risingFrom rest_ok.2 (by omega)
    cases kept : keep e.1 with
    | true =>
      rw [List.filter_cons_of_pos (by simpa using kept), Tbl.find, Tbl.find, ih _ rest_ok.2]
      by_cases same : k = e.1
      · simp [same, kept]
      · by_cases lt : k < e.1 <;> simp [same, lt]
    | false =>
      rw [List.filter_cons_of_neg (by simpa using kept), Tbl.find, ih _ rest_ok.2]
      by_cases same : k = e.1
      · simp [same, kept]
      · by_cases lt : k < e.1
        · simp [same, lt, below lt]
        · simp [same, lt]

variable {d : Dev}

/-- A cleared range of device memory reads 0, and every other byte is as before. -/
theorem Dev.byte_clearBytes (ok : d.memOk) {a n : Nat} (inside : a + n ≤ deviceMemory) (x : Nat) :
    (d.clearBytes (devCell a) n).byte x = if a ≤ x ∧ x < a + n then 0 else d.byte x := by
  have read := Tbl.find_filter (Memory.rising_of_wf ok) (fun c => !(decide (devCell a ≤ c) && decide (c < devCell a + n))) x
  simp only [Dev.byte, Dev.clearBytes, Tbl.get, read]
  by_cases cleared : a ≤ x ∧ x < a + n
  · have there : cellExists x = true := cellExists_dev (by omega)
    simp [there, cleared, devCell, memDefault]
  · have kept : (!(decide (devCell a ≤ x) && decide (x < devCell a + n))) = true := by
      rw [Bool.not_eq_true', Bool.and_eq_false_iff, decide_eq_false_iff_not, decide_eq_false_iff_not]
      exact Decidable.not_and_iff_not_or_not.1 cleared
    rw [if_neg cleared, if_pos kept]

/-! ### A context's record -/

/-- The contexts' table of a state is in order. -/
abbrev Dev.ctxsOk (d : Dev) : Prop := Tbl.rising d.ctxs = true

theorem Dev.ctxsOk_modCtx (ok : d.ctxsOk) (c : Nat) (f : CtxRec → CtxRec) : (d.modCtx c f).ctxsOk := Tbl.rising_set ok _ _

/-- The record just changed. -/
theorem Dev.ctx_modCtx_self (ok : d.ctxsOk) (c : Nat) (f : CtxRec → CtxRec) : (d.modCtx c f).ctx c = f (d.ctx c) :=
  Tbl.get_set_self ok _ _

/-- A message of MSI-X, or its pending bit, leaves the memory map. -/
theorem Dev.map_msix (ok : d.ctxsOk) (c v : Nat) : ((d.msix c v).ctx c).map = (d.ctx c).map := by
  unfold Dev.msix
  split
  · rw [Dev.ctx_modCtx_self ok]
  · rfl

theorem Dev.msix_regs (c v : Nat) : (d.msix c v).regs = d.regs := by
  unfold Dev.msix
  split <;> rfl

@[simp] theorem Dev.putWords_ctxs (c k i : Nat) (ws : List Nat) : (d.putWords c k i ws).ctxs = d.ctxs := by
  rw [Dev.putWords_sameButRegs d c k i ws]

/-- A context's record once its slot is complete. -/
def CtxRec.slotCompleted (k : Nat) (x : CtxRec) : CtxRec := { x with waits := Tbl.del x.waits k, goOrder := Tbl.del x.goOrder k }

/-- The module once a slot is complete, before its message of MSI-X is due. -/
def Dev.completed (d : Dev) (c k : Nat) (st : Status) (ws : List Nat) (done : Nat) : Dev :=
  (((d.putWords c k 0 (d.responseHeader c k st :: ws.take 15)).setSlot c k slotDone).modCtx c (CtxRec.slotCompleted k)).wr
    MBX_DONE_DONE c 0 0 done

/-- R509: the message, where one is due, is the last thing a completion does. -/
theorem Dev.finishSlot_cases (d : Dev) (c k : Nat) (st : Status) (ws : List Nat) :
    ∃ done, d.finishSlot c k st ws = d.completed c k st ws done ∨ ∃ v, d.finishSlot c k st ws = (d.completed c k st ws done).msix c v := by
  unfold Dev.finishSlot
  exact ⟨_, (Decidable.em _).elim (fun due => .inr ⟨_, if_pos due⟩) (fun quiet => .inl (if_neg quiet))⟩

theorem Dev.completed_ctxs (d : Dev) (c k : Nat) (st : Status) (ws : List Nat) (done : Nat) :
    (d.completed c k st ws done).ctxs = (d.modCtx c (CtxRec.slotCompleted k)).ctxs := by
  have words := Dev.putWords_ctxs (d := d) c k 0 (d.responseHeader c k st :: ws.take 15)
  rw [Dev.completed, Dev.wr_ctxs, Dev.modCtx, Dev.setSlot_ctxs, words, Dev.modCtx]

/-- A slot's completion leaves the memory map. -/
theorem Dev.map_finishSlot (ok : d.ctxsOk) (c k : Nat) (st : Status) (ws : List Nat) :
    ((d.finishSlot c k st ws).ctx c).map = (d.ctx c).map := by
  obtain ⟨done, finished⟩ := Dev.finishSlot_cases d c k st ws
  have ctxs := Dev.completed_ctxs d c k st ws done
  have ok' : (d.completed c k st ws done).ctxsOk := by
    rw [Dev.ctxsOk, ctxs]; exact Dev.ctxsOk_modCtx ok c _
  have map : ((d.completed c k st ws done).ctx c).map = (d.ctx c).map := by
    rw [Dev.ctx, ctxs, ← Dev.ctx, Dev.ctx_modCtx_self ok, CtxRec.slotCompleted]
  obtain silent | ⟨v, sent⟩ := finished
  · rw [silent, map]
  · rw [sent, Dev.map_msix ok', map]

/-! ### Response words -/

theorem rsp_key_ne {c k i j : Nat} (ne : i ≠ j) : MBX_RSP_WORD.reg.key c k i ≠ MBX_RSP_WORD.reg.key c k j := by
  simp only [Reg.key, MBX_RSP_WORD, MBX_RSP]
  omega

theorem Dev.regsOk_putWords (ok : d.regsOk) (c k i : Nat) (ws : List Nat) : (d.putWords c k i ws).regsOk := by
  induction ws generalizing d i with
  | nil => exact ok
  | cons w ws ih => exact ih (Dev.regsOk_wr ok _ _ _ _ _) _

/-- Words in front of those written. -/
theorem Dev.rsp_putWords_before (ok : d.regsOk) (c k : Nat) {i j : Nat} (ws : List Nat) (before : j < i) :
    (d.putWords c k i ws).rd MBX_RSP_WORD c k j = d.rd MBX_RSP_WORD c k j := by
  induction ws generalizing d i with
  | nil => rfl
  | cons w ws ih =>
    rw [Dev.putWords, ih (Dev.regsOk_wr ok _ _ _ _ _) (by omega), Dev.rd_wr_other ok _ _ _ _ _ _ _ _ _ (rsp_key_ne (by omega))]

/-- The words written. -/
theorem Dev.rsp_putWords (ok : d.regsOk) (c k i : Nat) {ws : List Nat} {j : Nat} (lt : j < ws.length) :
    (d.putWords c k i ws).rd MBX_RSP_WORD c k (i + j) = ws[j] % 2 ^ 32 := by
  induction ws generalizing d i j with
  | nil => simp at lt
  | cons w ws ih =>
    have ok' := Dev.regsOk_wr ok MBX_RSP_WORD c k i w
    rw [Dev.putWords]
    cases j with
    | zero =>
      exact (Dev.rsp_putWords_before ok' c k ws (Nat.lt_succ_self i)).trans
        (Dev.rd_wr_self ok MBX_RSP_WORD c k i w (by decide) (by decide))
    | succ j => rw [show i + (j + 1) = i + 1 + j by omega, ih ok' (i + 1) (by simpa using lt), List.getElem_cons_succ]

/-- After its response words a completion writes the slot's state and its bit of MBX_DONE. -/
theorem Dev.finishSlot_regs (d : Dev) (c k : Nat) (st : Status) (ws : List Nat) :
    ∃ done, (d.finishSlot c k st ws).regs =
      (((d.putWords c k 0 (d.responseHeader c k st :: ws.take 15)).setSlot c k slotDone).wr MBX_DONE_DONE c 0 0 done).regs := by
  obtain ⟨done, silent | ⟨v, sent⟩⟩ := Dev.finishSlot_cases d c k st ws
  · exact ⟨done, silent ▸ rfl⟩
  · exact ⟨done, by rw [sent, Dev.msix_regs]; rfl⟩

/-- R509, R510: the response words of a completed slot. -/
theorem Dev.rsp_finishSlot (ok : d.regsOk) (c k : Nat) (st : Status) {ws : List Nat} {j : Nat}
    (lt : j < ws.length) (fits : j < 15) : (d.finishSlot c k st ws).rd MBX_RSP_WORD c k (j + 1) = ws[j] % 2 ^ 32 := by
  obtain ⟨v, regs⟩ := Dev.finishSlot_regs d c k st ws
  have ok' := Dev.regsOk_putWords ok c k 0 (d.responseHeader c k st :: ws.take 15)
  have word := Dev.rsp_putWords ok c k 0 (ws := d.responseHeader c k st :: ws.take 15) (j := j + 1) (by simp; omega)
  generalize d.putWords c k 0 (d.responseHeader c k st :: ws.take 15) = e at regs ok' word
  have done_ne : MBX_RSP_WORD.reg.key c k (j + 1) ≠ MBX_DONE_DONE.reg.key c 0 0 := by
    simp only [Reg.key, MBX_RSP_WORD, MBX_RSP, MBX_DONE_DONE, MBX_DONE]; omega
  have state_ne : MBX_RSP_WORD.reg.key c k (j + 1) ≠ MBX_SLOT_STATE.key c 0 0 := by
    simp only [Reg.key, MBX_RSP_WORD, MBX_RSP, MBX_SLOT_STATE]; omega
  calc (d.finishSlot c k st ws).rd MBX_RSP_WORD c k (j + 1)
      = ((e.setSlot c k slotDone).wr MBX_DONE_DONE c 0 0 v).rd MBX_RSP_WORD c k (j + 1) := by simp only [Dev.rd, Dev.word, regs]
    _ = (e.setSlot c k slotDone).rd MBX_RSP_WORD c k (j + 1) :=
        Dev.rd_wr_other (Dev.regsOk_setWord ok' _ _ _ _ _) _ _ _ _ _ _ _ _ _ done_ne
    _ = e.rd MBX_RSP_WORD c k (j + 1) := by
        simp only [Dev.rd, Dev.setSlot, Dev.word_setWord_other ok' _ _ _ _ _ _ _ _ _ state_ne]
    _ = ws[j] % 2 ^ 32 := by simpa [Nat.add_comm] using word

/-! ### Starting a command, and its reply -/

theorem Dev.regsOk_consumeSeq (ok : d.regsOk) (c q : Nat) : (d.consumeSeq c q).regsOk := by
  unfold Dev.consumeSeq
  dsimp only
  split
  · exact Dev.regsOk_wr ok _ _ _ _ _
  · exact ok

theorem Dev.ctxsOk_consumeSeq (ok : d.ctxsOk) (c q : Nat) : (d.consumeSeq c q).ctxsOk := by
  unfold Dev.consumeSeq
  dsimp only
  split <;> exact Dev.ctxsOk_modCtx ok c _

/-- Starting a command keeps the tables it touches in order, and the memory. -/
theorem Dev.begun_ordered (ordered : d.ordered) (c k : Nat) : (d.begun c k).regsOk ∧ (d.begun c k).memOk ∧ (d.begun c k).ctxsOk := by
  obtain ⟨regs, mem, -, ctxs, -⟩ := ordered
  refine ⟨?_, by rwa [Dev.memOk, Dev.begun_mem], ?_⟩
  · exact Dev.regsOk_consumeSeq (Dev.regsOk_setWord regs _ _ _ _ _) _ _
  · exact Dev.ctxsOk_consumeSeq (d := d.setSlot c k slotRunning) ctxs _ _

variable (s : State) {c : Fin 16} {k : Fin 8}

/-- The module after a command's own part: the reply it gave settles its slot. -/
def State.replied (s : State) (c k : Nat) (r : Reply × Dev) : State := s.withDev (r.2.settle c k r.1)

theorem State.replied_done (c k : Nat) (st : Status) (ws : List Nat) (d : Dev) : s.replied c k (.done st ws, d) = s.done c k d st ws := rfl

theorem State.replied_st (c k : Nat) (st : Status) (d : Dev) : s.replied c k (.st st, d) = s.done c k d st := rfl

theorem State.replied_ite (c k : Nat) {p : Prop} [Decidable p] (r r' : Reply × Dev) :
    s.replied c k (if p then r else r') = if p then s.replied c k r else s.replied c k r' := apply_ite _ _ _ _

/-- A ready command replies from the begun module. -/
theorem State.to_serveOp {s : State} {c k op : Nat} (ready : Ready s c k op) (body : Dev → Reply × Dev) :
    s.to (s.dev.serveOp c k op body) = .next (s.replied c k (body (s.dev.begun c k))) :=
  s.to_eq (Dev.serveOp_ready ready body)

variable {s}

theorem exec_memAlloc (ready : Ready s c k 0x10) :
    exec (.memAlloc c k) s = .next (s.replied c k ((s.dev.begun c k).memAlloc c k)) := State.to_serveOp ready _

theorem exec_logRead (ready : Ready s c k 0x70) :
    exec (.logRead c k) s = .next (s.replied c k ((s.dev.begun c k).logRead c k)) := State.to_serveOp ready _

theorem exec_telemCfg (ready : Ready s c k 0x72) :
    exec (.telemCfg c k) s = .next (s.replied c k ((s.dev.begun c k).telemCfg c k)) := State.to_serveOp ready _

theorem exec_csrRead (ready : Ready s c k 0x74) :
    exec (.csrRead c k) s = .next (s.replied c k ((s.dev.begun c k).csrReadCmd s.fuses c k)) := State.to_serveOp ready _

theorem exec_csrDump (ready : Ready s c k 0x76) :
    exec (.csrDump c k) s = .next (s.replied c k ((s.dev.begun c k).csrDumpCmd s.fuses c k)) := State.to_serveOp ready _

/-! ### MEM_ALLOC (R534) -/

/-- The region fits below the management processor's memory, beside every region in use. -/
theorem Dev.freeRegion_free {n a : Nat} (free : d.freeRegion n = some a) :
    a + n ≤ contextMemory ∧ ∀ r ∈ d.regions, a + n ≤ r.addr ∨ r.addr + r.size ≤ a := by
  unfold Dev.freeRegion at free
  dsimp only at free
  split at free
  next => simp at free
  next first others candidates =>
    have chosen : a ∈ first :: others := List.min?_mem (List.min?_cons'.trans free)
    rw [← candidates, List.mem_filter] at chosen
    obtain ⟨-, fits⟩ := chosen
    simpa using fits

/-- What MEM_ALLOC leaves: the region zeroed and in the context's map. -/
def Dev.allocated (d : Dev) (c a n : Nat) : Dev :=
  (d.clearBytes (devCell a) n).modCtx c (fun x => { x with map := x.map ++ [⟨a, n⟩] })

theorem Dev.memAlloc_badArg {c k : Nat} (bad : d.argsClean c k [0xFFFFFF] = false) : d.memAlloc c k = (.st .badArg, d) := by
  simp [Dev.memAlloc, bad]

theorem Dev.memAlloc_zero {c k : Nat} (clean : d.argsClean c k [0xFFFFFF] = true) (zero : bits (d.cmd c k 1) 23 0 * memUnit = 0) :
    d.memAlloc c k = (.st .okZeroWork, d) := by
  simp only [Dev.memAlloc, clean, zero, Bool.not_true, Bool.false_eq_true, if_false, if_true]

theorem Dev.memAlloc_busy {c k : Nat} (clean : d.argsClean c k [0xFFFFFF] = true) (some_units : bits (d.cmd c k 1) 23 0 * memUnit ≠ 0)
    (full : d.freeRegion (bits (d.cmd c k 1) 23 0 * memUnit) = none) : d.memAlloc c k = (.st .busy, d) := by
  simp only [Dev.memAlloc, clean, some_units, full, Bool.not_true, Bool.false_eq_true, if_false]

theorem Dev.memAlloc_ok {c k a : Nat} (clean : d.argsClean c k [0xFFFFFF] = true) (some_units : bits (d.cmd c k 1) 23 0 * memUnit ≠ 0)
    (free : d.freeRegion (bits (d.cmd c k 1) 23 0 * memUnit) = some a) :
    d.memAlloc c k = (.done .ok [a % 2 ^ 32, a / 2 ^ 32], d.allocated c a (bits (d.cmd c k 1) 23 0 * memUnit)) := by
  simp only [Dev.memAlloc, clean, some_units, free, Bool.not_true, Bool.false_eq_true, if_false]
  rfl

theorem Dev.map_allocated (ok : d.ctxsOk) (c a n : Nat) : ((d.allocated c a n).ctx c).map = (d.ctx c).map ++ [⟨a, n⟩] := by
  have cleared_ok : (d.clearBytes (devCell a) n).ctxsOk := ok
  rw [Dev.allocated, Dev.ctx_modCtx_self cleared_ok]
  rfl

/-- The allocation's memory, map and response words, read after the slot's completion. -/
theorem exec_memAlloc_ok {a : Nat} (ready : Ready s c k 0x10) (ordered : s.dev.ordered) :
    let b := s.dev.begun c k
    let n := bits (b.cmd c k 1) 23 0 * memUnit
    b.argsClean c k [0xFFFFFF] = true → n ≠ 0 → b.freeRegion n = some a →
    ∃ t, exec (.memAlloc c k) s = .next t ∧ (t.dev.ctx c).map = (b.ctx c).map ++ [⟨a, n⟩]
      ∧ a + n ≤ contextMemory ∧ (∀ r ∈ b.regions, a + n ≤ r.addr ∨ r.addr + r.size ≤ a)
      ∧ (∀ x, t.dev.byte x = if a ≤ x ∧ x < a + n then 0 else s.dev.byte x)
      ∧ t.dev.rd MBX_RSP_WORD c k 1 = a % 2 ^ 32 ∧ t.dev.rd MBX_RSP_WORD c k 2 = a / 2 ^ 32 := by
  intro b n clean some_units free
  obtain ⟨regs, mem, ctxs⟩ := Dev.begun_ordered ordered c k
  obtain ⟨below, apart⟩ := Dev.freeRegion_free free
  have inside : a + n ≤ deviceMemory := Nat.le_trans below (by decide)
  have high : a / 2 ^ 32 < 2 ^ 32 := by unfold contextMemory at below; omega
  have allocated_ok : (b.allocated c a n).ctxsOk := Dev.ctxsOk_modCtx (d := b.clearBytes (devCell a) n) ctxs c _
  refine ⟨s.done c k (b.allocated c a n) .ok [a % 2 ^ 32, a / 2 ^ 32], ?_, ?_, below, apart, fun x => ?_, ?_, ?_⟩
  · rw [exec_memAlloc ready, Dev.memAlloc_ok clean some_units free, State.replied_done]
  · exact (Dev.map_finishSlot allocated_ok c k _ _).trans (Dev.map_allocated ctxs c a n)
  · calc ((b.allocated c a n).finishSlot c k .ok [a % 2 ^ 32, a / 2 ^ 32]).byte x
        = (b.clearBytes (devCell a) n).byte x := by rw [Dev.byte, Dev.finishSlot_mem]; rfl
      _ = if a ≤ x ∧ x < a + n then 0 else b.byte x := Dev.byte_clearBytes mem inside x
      _ = if a ≤ x ∧ x < a + n then 0 else s.dev.byte x := by rw [Dev.byte, Dev.begun_mem]; rfl
  · exact (Dev.rsp_finishSlot (d := b.allocated c a n) regs c k .ok (j := 0) (by simp) (by omega)).trans (Nat.mod_mod _ _)
  · exact (Dev.rsp_finishSlot (d := b.allocated c a n) regs c k .ok (j := 1) (by simp) (by omega)).trans (Nat.mod_eq_of_lt high)

/-! ### LOG_READ, TELEM_CFG (R537, R539) -/

/-- The entries LOG_READ finds, where the number asked for is one of the last 2^31 written. -/
theorem Dev.logRead_clean {c k : Nat} :
    let count := bits (d.cmd c k 2) 13 0
    let written := d.word LOG_WR_CNT 0
    let behind := (written + 2 ^ 32 - d.cmd c k 1) % 2 ^ 32
    let back := min behind d.log.length
    let found := (d.log.drop (d.log.length - back)).take count
    d.argsClean c k [mWord, 0x3FFF] = true → count ≤ 8192 → 0 < behind → behind ≤ 2 ^ 31 →
    d.logRead c k = if count = 0 then (.st .okZeroWork, d) else if d.windowOpen c then (.st .busy, d)
      else d.deliverWindow c k (found.flatMap LogEntry.words) .ok [found.length, (written + 2 ^ 32 - back) % 2 ^ 32, written] := by
  intro count written behind back found clean few some_behind recent
  have lawful : ¬ (!d.argsClean c k [mWord, 0x3FFF] || decide (8192 < count)) = true := by simp [clean, few]
  have there : ¬ (behind = 0 ∨ 2 ^ 31 < behind) := by omega
  rw [Dev.logRead, if_neg lawful, if_neg there]

theorem exec_telemCfg_answers (ready : Ready s c k 0x72) :
    let b := s.dev.begun c k
    let p := bits (b.cmd c k 1) 23 0
    exec (.telemCfg c k) s = .next (
      if b.argsClean c k [0xFFFFFF] = false then s.done c k b .badArg
      else if p = 0 then s.done c k b .okZeroWork
      else if p < 100 ∨ 1000000 < p then s.done c k b .badArg
      else s.done c k { b with telemetryPeriod := p } .ok) := by
  simp only [exec_telemCfg ready, Dev.telemCfg, State.replied_ite, State.replied_st, Bool.not_eq_true']

/-! ### Accesses to the internal CSR space (R62) -/

section
variable {f : Fuses} {command : Bool} {lvl x v : Nat}

theorem Dev.csrStatus_unallocated (none_there : csrAllocated lvl x = false) : d.csrStatus lvl x = .badArg := by
  rw [Dev.csrStatus, none_there]; rfl

theorem Dev.csrStatus_unpowered (there : csrAllocated lvl x = true) (off : d.blockPowered lvl x = false) :
    d.csrStatus lvl x = .notPermitted := by
  rw [Dev.csrStatus, there, off]; rfl

theorem Dev.csrStatus_closed {u : Nat} (there : csrAllocated lvl x = true) (powered : d.blockPowered lvl x = true)
    (behind : outsideWrapper lvl x = false) (unit : csrUnit lvl x = some u) (closed : d.unitClosed u = true) :
    d.csrStatus lvl x = .isolated := by
  simp [Dev.csrStatus, there, powered, behind, unit, closed]

/-- A failed access changes nothing and reads 0. -/
theorem Dev.csr_refused {st : Status} (status : d.csrStatus lvl x = st) (failed : st ≠ .ok) :
    d.csrRead f lvl x = (st, 0, d) ∧ d.csrWrite f command lvl x v = (st, d) := by
  unfold Dev.csrRead Dev.csrWrite
  rw [status]
  cases st
  case ok => exact absurd rfl failed
  all_goals exact ⟨rfl, rfl⟩

/-- An address without a register reads 0 and ignores writes; the access wakes its Peck. -/
theorem Dev.csr_noRegister (ok : d.csrStatus lvl x = .ok) (empty : regAt lvl (csrAlias lvl x) = none) :
    d.csrRead f lvl x = (.ok, 0, d.wakeFor lvl x) ∧ d.csrWrite f command lvl x v = (.ok, d.wakeFor lvl x) := by
  simp only [Dev.csrRead, Dev.csrWrite, ok, empty, and_self]

end

/-! ### CSR_READ, CSR_DUMP (R540, R542) -/

theorem exec_csrRead_answers (ready : Ready s c k 0x74) :
    let b := s.dev.begun c k
    let n := bits (b.cmd c k 2) 19 16
    let r := b.csrReads s.fuses (bits (b.cmd c k 2) 1 0) (b.cmd c k 1) n
    exec (.csrRead c k) s = .next (
      if b.argsClean c k [mWord, 0xF0003] = false ∨ 14 < n then s.done c k b .badArg
      else if n = 0 then s.done c k b .okZeroWork
      else s.done c k r.2.2 r.1 (0 :: r.2.1)) := by
  simp only [exec_csrRead ready, Dev.csrReadCmd, State.replied_ite, State.replied_st, State.replied_done, Bool.or_eq_true,
    Bool.not_eq_true', decide_eq_true_eq]

theorem exec_csrDump_answers (ready : Ready s c k 0x76) :
    let b := s.dev.begun c k
    let n := bits (b.cmd c k 3) 14 0
    let r := b.csrDumps s.fuses (bits (b.cmd c k 2) 1 0) (b.cmd c k 1) n
    exec (.csrDump c k) s = .next (
      if b.argsClean c k [mWord, 3, 0x7FFF] = false ∨ 16384 < n then s.done c k b .badArg
      else if n = 0 then s.done c k b .okZeroWork
      else if b.windowOpen c then s.done c k b .busy
      else s.replied c k (r.2.2.deliverWindow c k r.2.1 r.1 [n])) := by
  simp only [exec_csrDump ready, Dev.csrDumpCmd, State.replied_ite, State.replied_st, Bool.or_eq_true, Bool.not_eq_true',
    decide_eq_true_eq]

/-- Settles O27: the commands through their replies on the begun module, the accesses through the status of R62. -/
theorem memoryLogAndCsrCommandsTakeEffect : Obligations.MemoryLogAndCsrCommandsTakeEffect := by
  unfold Obligations.MemoryLogAndCsrCommandsTakeEffect
  refine ⟨?alloc, ⟨?log, ?telemetry⟩, ?access, ⟨?read, ?dump⟩⟩
  case alloc =>
    intro s c k ready ordered
    refine ⟨fun bad => ?_, fun clean zero => ?_, fun clean some_units full => ?_, fun a => exec_memAlloc_ok ready ordered⟩
    · rw [exec_memAlloc ready, Dev.memAlloc_badArg bad, State.replied_st]
    · rw [exec_memAlloc ready, Dev.memAlloc_zero clean zero, State.replied_st]
    · rw [exec_memAlloc ready, Dev.memAlloc_busy clean some_units full, State.replied_st]
  case log =>
    intro s c k ready b count written behind back found r clean few some_behind recent
    rw [exec_logRead ready, Dev.logRead_clean clean few some_behind recent, State.replied_ite, State.replied_ite]
    rfl
  case telemetry => exact fun s c k ready => exec_telemCfg_answers ready
  case access =>
    intro d f command lvl x v
    refine ⟨fun none_there => ?_, fun there off => ?_, fun u there powered behind unit closed => ?_, Dev.csr_noRegister⟩
    · exact Dev.csr_refused (Dev.csrStatus_unallocated none_there) (by decide)
    · exact Dev.csr_refused (Dev.csrStatus_unpowered there off) (by decide)
    · exact Dev.csr_refused (Dev.csrStatus_closed there powered behind unit closed) (by decide)
  case read => exact fun s c k ready => exec_csrRead_answers ready
  case dump => exact fun s c k ready => exec_csrDump_answers ready

end Sys2Proof.Machine
end

section
/-! What work that follows a change leaves alone: memory, the started read cycles of the arrays and the terms of the tasks, through the log,
events, packets, waits and their releases, the barrier, retirement and the flagging of an array (R34, R162 to R165, R226 to R229, R369 to
R391, R525 to R530, R580 to R588). One lemma per operation of the model. -/
namespace Sys2Proof.Machine

/-! ### What a read cycle leaves alone -/

/-- `e` comes from `d` by work that leaves memory, the started read cycles of every array and the terms of every task. -/
structure Dev.Spares (d e : Dev) : Prop where
  mem : e.mem = d.mem
  rising : Tbl.rising d.arrays = true → Tbl.rising e.arrays = true
  cycles : Tbl.rising d.arrays = true → ∀ a, (e.arr a).cycles = (d.arr a).cycles
  terms : ∀ i t, d.task i = some t → ∃ t', e.task i = some t' ∧ t'.terms = t.terms

variable {d e e' : Dev}

theorem Dev.Spares.trans (h : d.Spares e) (h' : e.Spares e') : d.Spares e' where
  mem := h'.mem.trans h.mem
  rising ok := h'.rising (h.rising ok)
  cycles ok a := (h'.cycles (h.rising ok) a).trans (h.cycles ok a)
  terms i t ht := by
    obtain ⟨t1, h1, same1⟩ := h.terms i t ht
    obtain ⟨t2, h2, same2⟩ := h'.terms i t1 h1
    exact ⟨t2, h2, same2.trans same1⟩

/-- Work on other parts of the state. -/
theorem Dev.Spares.of_same {d e : Dev} (mem : e.mem = d.mem) (arrays : e.arrays = d.arrays) (attempt : e.attempt = d.attempt) :
    d.Spares e where
  mem := mem
  rising ok := by rwa [arrays]
  cycles _ a := by rw [Dev.arr, arrays, Dev.arr]
  terms i t ht := ⟨t, by rwa [Dev.task, attempt], rfl⟩

theorem Dev.Spares.refl (d : Dev) : d.Spares d := .of_same rfl rfl rfl

/-- Work on other parts of the state, after work that spares. -/
theorem Dev.Spares.still (h : d.Spares e) (mem : e'.mem = e.mem) (arrays : e'.arrays = e.arrays)
    (attempt : e'.attempt = e.attempt) : d.Spares e' := h.trans (.of_same mem arrays attempt)

theorem Dev.Spares.ite {p : Prop} [Decidable p] (h : d.Spares e) (h' : d.Spares e') : d.Spares (if p then e else e') := by
  split
  · exact h
  · exact h'

theorem Dev.Spares.foldl {α : Type} (f : Dev → α → Dev) (step : ∀ (d : Dev) (x : α), d.Spares (f d x)) (xs : List α) (d : Dev) :
    d.Spares (xs.foldl f d) :=
  List.foldlRecOn (motive := d.Spares) xs f (.refl d) (fun e so_far x _ => so_far.trans (step e x))

/-! ### Tasks and arrays -/

theorem Tbl.find_map {α : Type} (m : Tbl α) (i j : Nat) (f : α → α) :
    Tbl.find (m.map (fun e => if e.1 = i then (e.1, f e.2) else e)) j = if j = i then (Tbl.find m j).map f else Tbl.find m j := by
  induction m with
  | nil => simp [Tbl.find]
  | cons e rest ih =>
    have key : (if e.1 = i then (e.1, f e.2) else e).1 = e.1 := by split <;> rfl
    simp only [List.map_cons, Tbl.find, key, ih]
    by_cases here : j = e.1
    · subst here; by_cases same : e.1 = i <;> simp [same]
    · by_cases lt : j < e.1 <;> simp [here, lt]

/-- A task after a change of a task. -/
theorem Dev.task_modTask (d : Dev) (i j : Nat) (f : TaskRun → TaskRun) :
    (d.modTask i f).task j = if j = i then (d.task j).map f else d.task j := by
  cases running : d.attempt with
  | none => simp [Dev.task, Dev.modTask, Dev.modAttempt, running]
  | some a => simp [Dev.task, Dev.modTask, Dev.modAttempt, running, Tbl.find_map]

theorem Dev.arr_modArr (ok : Tbl.rising d.arrays = true) (a b : Nat) (f : ArrayRec → ArrayRec) :
    (d.modArr a f).arr b = if b = a then f (d.arr b) else d.arr b := by
  split
  next here => subst here; exact Tbl.get_set_self ok _ _
  next other => exact Tbl.get_set_other ok _ other

theorem Dev.modTask_spares (d : Dev) (i : Nat) (f : TaskRun → TaskRun) (keep : ∀ t, (f t).terms = t.terms) :
    d.Spares (d.modTask i f) where
  mem := rfl
  rising ok := ok
  cycles _ _ := rfl
  terms j t ht := by
    rw [Dev.task_modTask, ht]
    split
    · exact ⟨f t, rfl, keep t⟩
    · exact ⟨t, rfl, rfl⟩

/-- A change of the attempt that leaves its tasks. -/
theorem Dev.modAttempt_spares (d : Dev) (f : Attempt → Attempt) (keep : ∀ a, (f a).tasks = a.tasks) :
    d.Spares (d.modAttempt f) where
  mem := rfl
  rising ok := ok
  cycles _ _ := rfl
  terms j t ht := by
    refine ⟨t, ?_, rfl⟩
    cases running : d.attempt with
    | none => simp [Dev.task, running] at ht
    | some a => simpa [Dev.task, Dev.modAttempt, running, keep] using ht

theorem Dev.modArr_spares (d : Dev) (a : Nat) (f : ArrayRec → ArrayRec) (keep : ∀ r, (f r).cycles = r.cycles) :
    d.Spares (d.modArr a f) where
  mem := rfl
  rising ok := Tbl.rising_set ok _ _
  cycles ok b := by
    rw [Dev.arr_modArr ok]
    split
    · exact keep _
    · rfl
  terms j t ht := ⟨t, ht, rfl⟩

/-! ### The log, events, packets, slots -/

theorem Dev.setWord_spares (d : Dev) (r : Reg) (u n k v : Nat) : d.Spares (d.setWord r u n k v) := .of_same rfl rfl rfl

theorem Dev.wr_spares (d : Dev) (f : Fld) (u n k v : Nat) : d.Spares (d.wr f u n k v) := d.setWord_spares _ _ _ _ _

theorem Dev.Spares.wr (h : d.Spares e) (f : Fld) (u n k v : Nat) : d.Spares (e.wr f u n k v) := h.trans (e.wr_spares f u n k v)

theorem Dev.modPort_spares (d : Dev) (p : Nat) (f : PortRec → PortRec) : d.Spares (d.modPort p f) := .of_same rfl rfl rfl

theorem Dev.Spares.out (h : d.Spares e) (ms : List OutMsg) : d.Spares { e with out := ms } := h.still rfl rfl rfl

theorem Dev.Spares.count (h : d.Spares e) (f : Fld) (u n m : Nat) : d.Spares (e.count f u n m) := h.wr f u n 0 _

theorem Dev.Spares.countWrap (h : d.Spares e) (f : Fld) (u n m : Nat) : d.Spares (e.countWrap f u n m) := h.wr f u n 0 _

theorem Dev.msix_spares (d : Dev) (c v : Nat) : d.Spares (d.msix c v) := by
  unfold Dev.msix
  exact .ite (.of_same rfl rfl rfl) (.of_same rfl rfl rfl)

theorem Dev.writeEntry_spares (d : Dev) (x : LogEntry) : d.Spares (d.writeEntry x) :=
  ((Dev.Spares.refl d).countWrap LOG_WR_CNT_COUNT 0 0 1).still rfl rfl rfl

theorem Dev.writeEpoch_spares (d : Dev) : d.Spares d.writeEpoch := (d.wr_spares _ _ _ _ _).trans (Dev.writeEntry_spares _ _)

theorem Dev.logSev_spares (d : Dev) (sev src : Nat) (ev : LogEvent) (st : Status) (host : Bool) (c : Nat) (data : List Nat) :
    d.Spares (d.logSev sev src ev st host c data) := by
  have coalesced (log : List LogEntry) : d.Spares { d with log := log } := .of_same rfl rfl rfl
  have epoch : d.Spares (if d.rd LOG_EPOCH_EPOCH 0 = (d.micros / 2 ^ 32) % 2 ^ 32 then d else d.writeEpoch) :=
    .ite (.refl d) d.writeEpoch_spares
  unfold Dev.logSev
  refine .ite (.refl d) ?_
  dsimp only
  split
  · exact (coalesced _).count _ _ _ _
  · exact epoch.trans (Dev.writeEntry_spares _ _)

theorem Dev.diag_spares (d : Dev) (src : Nat) (k : Diag) (st : Status) (data : List Nat) : d.Spares (d.diag src k st data) :=
  d.logSev_spares _ _ _ _ _ _ _

theorem Dev.pushEvent_spares (d : Dev) (c : Nat) (x : LogEntry) : d.Spares (d.pushEvent c x) := by
  unfold Dev.pushEvent
  have queued (f : CtxRec → CtxRec) : d.Spares (d.modCtx c f) := .of_same rfl rfl rfl
  exact .ite (d.wr_spares _ _ _ _ _) (.ite ((queued _).trans (Dev.msix_spares _ _ _)) (queued _))

theorem Dev.hostEvent_spares (d : Dev) (src code : Nat) (st : Status) (only : Option Nat) (data : List Nat) :
    d.Spares (d.hostEvent src code st only data) := by
  have deliver (d : Dev) (x : LogEntry) : d.Spares (d.deliverEvent only x) := by
    cases only with
    | some c => exact d.pushEvent_spares c x
    | none => exact .foldl _ (fun d c => d.pushEvent_spares c x) _ d
  have logged := d.logSev_spares (Config.severity code).val src (.fixed code) st true (only.getD (Config.logContext code).val) data
  unfold Dev.hostEvent
  exact .ite (logged.trans (deliver _ _)) (logged.still rfl rfl rfl)

theorem Dev.transmit_spares (d : Dev) (p : Nat) (pk : Packet) : d.Spares (d.transmit p pk) := by
  have paid (v : Nat) : d.Spares (d.setCredits p pk.cls pk.sub v) := by
    unfold Dev.setCredits
    exact .ite (d.wr_spares _ _ _ _ _) (d.wr_spares _ _ _ _ _)
  exact (((paid _).wr _ _ _ _ _).trans (Dev.modPort_spares _ _ _)).out _

/-- R580: what a port sends on leaves the rest of the module. -/
theorem Dev.pump_spares (d : Dev) (p : Nat) : d.Spares (d.pump p) := by
  unfold Dev.pump
  dsimp only
  generalize hacc : ((d, [], []) : Dev × List Packet × List Nat) = acc
  have from_d : d.Spares acc.1 := by subst hacc; exact .refl d
  clear hacc
  generalize (d.port p).queued = pks
  induction pks generalizing acc with
  | nil => exact from_d.still rfl rfl rfl
  | cons pk pks ih =>
    refine ih _ ?_
    dsimp only
    split
    · exact from_d.trans (Dev.transmit_spares _ _ _)
    · exact from_d

theorem Dev.originate_spares (d : Dev) (pk : Packet) (why : Purpose) (answered : Bool) :
    d.Spares (d.originate pk why answered).2 := by
  have depart (d : Dev) (way : Option Nat) (pk : Packet) : d.Spares (d.depart way pk) := by
    cases way with
    | none => exact .of_same rfl rfl rfl
    | some p => exact Dev.Spares.trans (e := d.modPort p _) (.of_same rfl rfl rfl) (Dev.pump_spares _ p)
  unfold Dev.originate
  split
  · exact .refl d
  · dsimp only
    split
    · split
      · exact .of_same rfl rfl rfl
      · have listed (t : Nat) (o : Outstanding) : d.Spares { d with outstanding := Tbl.put d.outstanding t o } := .of_same rfl rfl rfl
        exact ((listed _ _).wr _ _ _ _ _).trans (depart _ _ _)
    · exact depart _ _ _

theorem Dev.finishSlot_spares (d : Dev) (c k : Nat) (st : Status) (ws : List Nat) : d.Spares (d.finishSlot c k st ws) := by
  have pages := Dev.finishSlot_sameButPages d c k st ws
  unfold Dev.sameButPages at pages
  rw [pages]
  exact .of_same rfl rfl rfl

theorem Dev.finishWaiting_spares (d : Dev) (c k : Nat) (w : SlotWait) (st : Status) (ws : List Nat) :
    d.Spares (d.finishWaiting c k w st ws) := by
  unfold Dev.finishWaiting
  exact .ite (d.finishSlot_spares c k st ws) (.refl d)

/-! ### Objects, the barrier, waits and releases (R369 to R391) -/

theorem Dev.triggers_spares (d : Dev) (i : Nat) : d.Spares (d.triggers i) :=
  d.modAttempt_spares _ (fun a => by split <;> rfl)

theorem Dev.setObj_spares (d : Dev) (k : Nat) (o : SyncObj) : d.Spares (d.setObj k o) := .of_same rfl rfl rfl

theorem Dev.mirrorLost_spares (d : Dev) : d.Spares d.mirrorLost := by
  have lost : d.Spares { d with mirrorSent := none } := .of_same rfl rfl rfl
  unfold Dev.mirrorLost
  exact (lost.wr _ _ _ _ _).trans (Dev.hostEvent_spares _ _ _ _ _ _)

theorem Dev.copyBarrier_spares (d : Dev) (k : Nat) : d.Spares (d.copyBarrier k) := by
  unfold Dev.copyBarrier
  dsimp only
  exact .ite (d.originate_spares _ _ _) d.mirrorLost_spares

theorem Dev.sendOutcome_spares (d : Dev) (k : Nat) : d.Spares (d.sendOutcome k) := by
  unfold Dev.sendOutcome
  split
  · split
    · refine ((d.setObj_spares k _).trans (.foldl _ ?member _ _)).trans (.foldl _ ?waiter _ _)
      case member => exact fun d n => .ite (.of_same rfl rfl rfl) (d.originate_spares _ _ _)
      case waiter =>
        intro d w
        split
        · exact d.finishWaiting_spares _ _ _ _ _
        · exact d.originate_spares _ _ _
        · exact .refl d
    · exact .refl d
  · exact .refl d

theorem Dev.decideBarrier_spares (d : Dev) (k : Nat) (st : Status) : d.Spares (d.decideBarrier k st) := by
  unfold Dev.decideBarrier
  split
  · split
    · exact .ite ((d.setObj_spares k _).trans (Dev.copyBarrier_spares _ k)) ((d.setObj_spares k _).trans (Dev.sendOutcome_spares _ k))
    · exact .refl d
  · exact .refl d

theorem Dev.barrierArrive_spares (d : Dev) (k node step attempt : Nat) (cause : Status) :
    d.Spares (d.barrierArrive k node step attempt cause) := by
  unfold Dev.barrierArrive
  split
  · split
    · exact .ite (d.wr_spares _ _ _ _ _) (.ite ((d.setObj_spares k _).trans (Dev.decideBarrier_spares _ k _)) (d.setObj_spares k _))
    · exact .refl d
  · exact .refl d

theorem Dev.signalBarrier_spares (d : Dev) (cause : Status) : d.Spares (d.signalBarrier cause) := by
  unfold Dev.signalBarrier
  split
  · exact .refl d
  · refine .ite (.refl d) ?_
    have signalled := d.modAttempt_spares (fun x => { x with phase := .signalled }) (fun _ => rfl)
    dsimp only
    split
    · exact signalled.trans (Dev.barrierArrive_spares _ _ _ _ _ _)
    · have sent (pk : Packet) (why : Purpose) := signalled.trans (Dev.originate_spares _ pk why true)
      exact .ite (sent _ _) ((sent _ _).trans (Dev.wr_spares _ _ _ _ _ _))
    · exact signalled

theorem Dev.refuseCut_spares (d : Dev) : d.Spares d.refuseCut := by
  unfold Dev.refuseCut
  split
  · exact .ite (d.signalBarrier_spares _) (.refl d)
  · exact .refl d

theorem Dev.withdrawRemote_spares (d : Dev) (mine : WaiterWho → Bool) : d.Spares (d.withdrawRemote mine) := by
  have forgotten : d.Spares (d.forgetWaits mine) := .of_same rfl rfl rfl
  exact forgotten.trans (.foldl _ (fun d w => d.originate_spares _ _ _) _ _)

theorem Dev.releaseOther_spares (d : Dev) (w : Waiter) (seen : Nat) : d.Spares (d.releaseOther w seen) := by
  unfold Dev.releaseOther
  split
  · exact .refl d
  · exact d.modTask_spares _ _ (fun _ => rfl)
  · exact d.finishWaiting_spares _ _ _ _ _
  · exact d.originate_spares _ _ _
  · exact d.triggers_spares _

theorem Dev.setLcWait_spares (d : Dev) (p n : Nat) (ws : List Waiter) : d.Spares (d.setLcWait p n ws) := by
  have queued : d.Spares { d with lcWaiters := Tbl.set [] d.lcWaiters (lcKey p n) ws } := .of_same rfl rfl rfl
  exact queued.wr _ _ _ _ _

theorem Dev.withdrawTasks_spares (d : Dev) : d.Spares d.withdrawTasks := by
  have others (d : Dev) (ws : List (Waiter × Nat)) : d.Spares (ws.foldl (fun d w => d.releaseOther w.1 w.2) d) :=
    .foldl _ (fun d w => d.releaseOther_spares w.1 w.2) ws d
  unfold Dev.withdrawTasks
  refine (Dev.Spares.foldl _ ?counter _ d).trans ((Dev.Spares.foldl _ ?object _ _).trans (Dev.withdrawRemote_spares _ _))
  case counter => exact fun d e => ((d.wr_spares _ _ _ _ _).trans (Dev.setLcWait_spares _ _ _ _)).trans (others _ _)
  case object =>
    intro d e
    split
    · exact .refl d
    · exact (d.setObj_spares _ _).trans (others _ _)

theorem Dev.showRun_spares (d : Dev) (v : Nat) : d.Spares (d.showRun v) := .foldl _ (fun d _ => d.wr_spares _ _ _ _ _) _ d

theorem Dev.cutShort_spares (d : Dev) : d.Spares d.cutShort := by
  have withdrawn (f : Attempt → Attempt) (keep : ∀ a, (f a).tasks = a.tasks) : d.Spares ((d.modAttempt f).showRun 2).withdrawTasks :=
    ((d.modAttempt_spares f keep).trans (Dev.showRun_spares _ _)).trans (Dev.withdrawTasks_spares _)
  have cut := withdrawn (fun x => { x with phase := .cutShort, cut := true, blockFault := true }) (fun _ => rfl)
  have late := withdrawn (fun x => { x with cut := true, blockFault := true }) (fun _ => rfl)
  have marked := d.modAttempt_spares (fun x => { x with blockFault := true }) (fun _ => rfl)
  unfold Dev.cutShort
  split
  · exact .refl d
  · exact .ite (cut.trans (Dev.refuseCut_spares _)) (.ite late marked)

theorem Dev.postWait_spares (d : Dev) (peck : Nat) (r : ObjRef) (w : Waiter) : d.Spares (d.postWait peck r w).2 := by
  unfold Dev.postWait
  split
  · exact .refl d
  · dsimp only
    split
    · exact d.wr_spares _ _ _ _ _
    · exact d.setLcWait_spares _ _ _
  · split
    · exact .refl d
    · split
      · exact d.setObj_spares _ _
      · exact d.setObj_spares _ _
  · split
    · exact .refl d
    · have sent (pk : Packet) (why : Purpose) := d.originate_spares pk why true
      dsimp only
      split
      · exact (sent _ _).still rfl rfl rfl
      · split
        · exact (sent _ _).trans (Dev.finishWaiting_spares _ _ _ _ _ _)
        · exact (sent _ _).trans (Dev.cutShort_spares _)

theorem Dev.postEntry_spares (d : Dev) (i : Nat) (t : TaskRun) (e : Nat) : d.Spares (d.postEntry i t e).2 := by
  unfold Dev.postEntry
  dsimp only
  split
  · split <;> next posted => exact (congrArg Prod.snd posted) ▸ d.postWait_spares _ _ _
  · exact .refl d

theorem Dev.stir_spares (d : Dev) (p : Nat) : d.Spares (d.stir p) := .of_same rfl rfl rfl

theorem Dev.wake_spares (d : Dev) (p : Nat) : d.Spares (d.wake p) := by
  unfold Dev.wake
  exact .ite ((d.wr_spares _ _ _ _ _).trans (Dev.stir_spares _ _)) (.refl d)

theorem Dev.makeReady_spares (d : Dev) (i : Nat) : d.Spares (d.makeReady i) := by
  have ready := d.modTask_spares i (fun t => { t with held0 := true, held1 := true, phase := .ready }) (fun _ => rfl)
  unfold Dev.makeReady
  dsimp only
  split
  · exact ready.trans (Dev.wake_spares _ _)
  · exact ready

theorem Dev.afterWait0_spares (d : Dev) (i : Nat) : d.Spares (d.afterWait0 i) := by
  have held := d.modTask_spares i (fun t => { t with held0 := true }) (fun _ => rfl)
  unfold Dev.afterWait0
  dsimp only
  split
  · exact held
  · next t _ =>
    have posted := held.trans (Dev.postEntry_spares _ i t 1)
    split
    · next d2 h => rw [h] at posted; exact posted.trans (Dev.makeReady_spares d2 i)
    · next d2 h => rw [h] at posted; exact posted

theorem Dev.release_spares (d : Dev) (w : Waiter) (seen : Nat) : d.Spares (d.release w seen) := by
  unfold Dev.release
  split
  · split
    · exact .ite (.ite (d.makeReady_spares _) (d.afterWait0_spares _)) (.refl d)
    · exact .refl d
  · exact d.modTask_spares _ _ (fun _ => rfl)
  · exact d.finishWaiting_spares _ _ _ _ _
  · exact d.originate_spares _ _ _
  · exact d.triggers_spares _

theorem Dev.releaseAll_spares (d : Dev) (ws : List (Waiter × Nat)) : d.Spares (d.releaseAll ws) := by
  unfold Dev.releaseAll
  exact .foldl _ (fun d w => d.release_spares w.1 w.2) ws d

theorem Dev.setReady_spares (d : Dev) (k v : Nat) : d.Spares (d.setReady k v) := by
  unfold Dev.setReady
  split
  · exact .refl d
  · exact .ite (.refl d) ((d.setObj_spares k _).trans (Dev.releaseAll_spares _ _))

theorem Dev.updateReady_spares (d : Dev) : d.Spares d.updateReady := by
  refine Dev.Spares.foldl _ (fun d e => ?_) _ d
  split
  · exact .ite (d.setReady_spares _ _) (.refl d)
  · exact .refl d

/-! ### Retirement, the queue and the checksum window (R162 to R165, R226 to R229) -/

theorem Dev.setArrState_spares (d : Dev) (a st : Nat) : d.Spares (d.setArrState a st) := by
  unfold Dev.setArrState
  exact .ite (.refl d) (d.wr_spares _ _ _ _ _)

theorem Dev.unqueue_spares (d : Dev) (a : Nat) : d.Spares (d.unqueue a) := .of_same rfl rfl rfl

theorem Dev.metaChanged_spares (d : Dev) : d.Spares d.metaChanged := .of_same rfl rfl rfl

theorem Dev.flashField_spares (d : Dev) (f : Fld) (u n : Nat) : d.Spares (d.flashField f u n) := .of_same rfl rfl rfl

theorem Dev.setMeta_spares (d : Dev) (f : Fld) (a v : Nat) : d.Spares (d.setMeta f a v) :=
  (d.wr_spares _ _ _ _ _).trans (Dev.metaChanged_spares _)

theorem Dev.freeEngine_spares (d : Dev) (g : Nat) : d.Spares (d.freeEngine g) := (d.setWord_spares _ _ _ _ _).trans (Dev.stir_spares _ _)

theorem Dev.retireNow_spares (d : Dev) (a cause : Nat) : d.Spares (d.retireNow a cause) := by
  have freed : d.Spares (if d.engineArray (grainOf a) = some a then d.freeEngine (grainOf a) else d) :=
    .ite (d.freeEngine_spares _) (.refl d)
  have retired (e : Dev) :
      e.Spares ((((e.unqueue a).setArrState a RETIRED).metaChanged).flashField ARR_STATE_STATE (grainOf a) (slotOf a)) :=
    ((e.unqueue_spares a).trans (Dev.setArrState_spares _ a RETIRED)).trans
      ((Dev.metaChanged_spares _).trans (Dev.flashField_spares _ _ _ _))
  have forgotten (e : Dev) := e.modArr_spares a (fun r => { r with
    cause := cause, pendingRetire := none, pendingBind := none, attempt := 0, halted := none, selected := false,
    passed := false, targetHeld := false, decisionDue := none, decisionRuns := none }) (fun _ => rfl)
  have told (e : Dev) (d : List Nat) : e.Spares ((((e.wr RSD_STATUS_PENDING (grainOf a) (slotOf a) 0 0).showActive (bushelOf a)).hostEvent
      (srcArray a) 0x0100 .arrayRetired none d).updateReady) :=
    (((e.wr_spares _ _ _ _ _).trans (Dev.wr_spares _ _ _ _ _ _)).trans (Dev.hostEvent_spares _ _ _ _ _ _)).trans
      (Dev.updateReady_spares _)
  unfold Dev.retireNow
  exact .ite (.refl d) (((freed.trans (retired _)).trans (forgotten _)).trans (told _ _))

theorem Dev.dropDecision_spares (d : Dev) (a : Nat) : d.Spares (d.dropDecision a) :=
  ((d.modArr_spares a (fun r => { r with decisionDue := none, decisionRuns := none }) (fun _ => rfl)).wr _ _ _ _ _).trans
    (Dev.stir_spares _ _)

theorem Dev.startDrain_spares (d : Dev) (a : Nat) : d.Spares (d.startDrain a) :=
  (((d.dropDecision_spares a).trans (Dev.setArrState_spares _ a DRAINING)).trans (Dev.metaChanged_spares _)).trans
    (Dev.updateReady_spares _)

theorem Dev.decideRetire_spares (d : Dev) (a cause : Nat) : d.Spares (d.decideRetire a cause) := by
  have pending := (d.unqueue_spares a).trans
    (Dev.modArr_spares _ a (fun r => { r with pendingRetire := some cause, selected := false }) (fun _ => rfl))
  have programming : d.Spares (if (d.arr a).halted.isSome then d.retireNow a cause
      else d.modArr a (fun r => { r with pendingRetire := some cause })) :=
    .ite (d.retireNow_spares a cause) (d.modArr_spares a _ (fun _ => rfl))
  have drains := Dev.Spares.ite (p := d.arrState a = SERVING) (pending.trans (Dev.startDrain_spares _ a)) pending
  unfold Dev.decideRetire
  exact .ite (.refl d) (.ite (.refl d) (.ite (d.retireNow_spares a cause) (.ite programming drains)))

theorem Dev.enqueue_spares (d : Dev) (a cls : Nat) (now checksum : Bool) : d.Spares (d.enqueue a cls now checksum) := by
  unfold Dev.enqueue
  refine .ite (.refl d) ?_
  split
  · exact .of_same rfl rfl rfl
  · exact .ite (.of_same rfl rfl rfl) (.of_same rfl rfl rfl)

theorem Dev.flagArray_spares (d : Dev) (a : Nat) : d.Spares (d.flagArray a) := by
  have flagged := (d.wr_spares ARR_CHK_STATUS_FLAGGED (grainOf a) (slotOf a) 0 1).trans
    (Dev.diag_spares _ (srcArray a) .faultRecord .checkFailed [a])
  have queued := (flagged.trans (Dev.enqueue_spares _ a 1 false true)).trans
    (Dev.modArr_spares _ a (fun x => { x with served := 0, lastWasChecksum := false }) (fun _ => rfl))
  unfold Dev.flagArray
  exact .ite (flagged.trans (Dev.decideRetire_spares _ a 1)) (.ite (queued.trans (Dev.setMeta_spares _ _ _ _)) queued)

theorem Dev.countWindow_spares (d : Dev) (a row mask : Nat) : d.Spares (d.countWindow a row mask) := by
  have window (cyc mm : Nat) := d.modArr_spares a (fun x => { x with windowCycles := cyc, windowMismatch := mm }) (fun _ => rfl)
  have counted (cyc mm : Nat) := (((window cyc mm).count ARR_CHK_MISMATCH_CNT_COUNT (grainOf a) (slotOf a)
    ((List.range 4).filter (fun i => bit mask i)).length).wr ARR_CHK_STATUS_LAST_RG (grainOf a) (slotOf a) 0 (row / 16)).wr
    ARR_CHK_STATUS_LAST_CG (grainOf a) (slotOf a) 0 mask
  unfold Dev.countWindow
  exact .ite (window _ _) (.ite ((counted _ _).trans (Dev.flagArray_spares _ a)) (counted _ _))

theorem Dev.addReference_spares (d : Dev) (a : Nat) (slots : List Int) (p : Nat → Rat) : d.Spares (d.addReference a slots p) :=
  d.modArr_spares a _ (fun _ => rfl)

end Sys2Proof.Machine
end

section
/-! The read cycle and the fallback path (R147, R157, R259, R302, R444): what they store, that what follows keeps it, and O44 put together from
both. -/
namespace Sys2Proof.Machine

variable {d : Dev}

/-! ### The read cycle (R147, R157, R259, R444) -/

/-- The values y of a row group, one after another from a cell on, leave every byte outside them. -/
theorem Dev.setLe_row {d : Dev} (ok : d.memOk) (at_ k : Nat) (ys : List Nat) {x : Nat}
    (out : x < at_ + 4 * k ∨ at_ + 4 * (k + ys.length) ≤ x) :
    let f := fun (d : Dev) (e : Nat × Nat) => d.setLe (at_ + 4 * e.2) 4 e.1
    (((ys.zipIdx k).foldl f d).byte x = d.byte x) := by
  intro f
  induction ys generalizing d k with
  | nil => rfl
  | cons y ys ih =>
    rw [List.length_cons] at out
    rw [List.zipIdx_cons, List.foldl_cons, ih (Dev.memOk_setLe ok _ _ _) (k + 1) (by omega)]
    exact Dev.byte_setLe_other ok _ _ _ (by omega)

theorem Dev.setLe_sameButMem (d : Dev) (a n v : Nat) : d.setLe a n v = { d with mem := (d.setLe a n v).mem } := by
  induction n generalizing d a v with
  | zero => rfl
  | succ n ih => rw [Dev.setLe, ih]; rfl

theorem Dev.captureStore_sameButMem (d : Dev) (p : Nat) (s : WatchSample) (t : TaskRun) (c : StartedCycle) (ys : List Nat) :
    d.captureStore p s t c ys = { d with mem := (d.captureStore p s t c ys).mem } := by
  unfold Dev.captureStore
  dsimp only
  split
  · refine List.foldlRecOn (motive := fun e : Dev => e = { d with mem := e.mem }) _ _ rfl (fun e same y _ => ?_)
    rw [Dev.setLe_sameButMem, same]
  · rfl

/-- R444: the 256 values of a row group go to the Peck's capture area only. -/
theorem Dev.captureStore_byte {d : Dev} (ok : d.memOk) (p : Nat) (s : WatchSample) (t : TaskRun) (c : StartedCycle) {ys : List Nat}
    (few : ys.length = 256) {x : Nat} (out : x < captureCell p ∨ captureCell p + 524288 ≤ x) :
    (d.captureStore p s t c ys).byte x = d.byte x := by
  unfold Dev.captureStore
  dsimp only
  split
  next fits => exact Dev.setLe_row ok _ 0 ys (by omega)
  next => rfl

/-- What the capture of a read cycle leaves: the arrays, the tasks, and memory outside the capture area. -/
theorem Dev.capture_keeps (d : Dev) (p : Nat) (t : TaskRun) (c : StartedCycle) (ys lsbs : List Nat) (unsettled : Bool) :
    let e := d.capture p t c ys lsbs unsettled
    e.arrays = d.arrays ∧ (∀ i, e.task i = d.task i)
      ∧ (d.memOk → ys.length = 256 → ∀ x, x < captureCell p ∨ captureCell p + 524288 ≤ x → e.byte x = d.byte x) := by
  dsimp only
  unfold Dev.capture
  split
  · exact ⟨rfl, fun _ => rfl, fun _ _ _ _ => rfl⟩
  · split
    · refine ⟨by rw [Dev.captureStore_sameButMem]; rfl, fun i => ?_, fun ok few x out => ?_⟩
      case refine_2 => exact Dev.captureStore_byte (d := d.modAttempt _) ok p _ t c few out
      rw [Dev.task, Dev.captureStore_sameButMem]
      cases running : d.attempt <;> simp [Dev.task, Dev.modAttempt, running]
    · exact ⟨rfl, fun _ => rfl, fun _ _ _ _ => rfl⟩

/-- R147, R157, R259: y and the segment's scale code of each of the 256 outputs of a read cycle. -/
def Dev.cycleOutputs (d : Dev) (a : Nat) (codes : List Int) (c : StartedCycle) (t : TaskRun) (l : LatchedArray) : List (Fp × Nat) :=
  let slots := c.slots
  let four := decide ((d.fwdInFmt d.runBase t.arg).slotsPerCycle = 16)
  let code := fun o => max (-255) (min 255 (codes.getD o 0))
  let n : Fp := .fin false ((slots.foldl (fun x y => x + y.natAbs) 0 : Nat) : Rat)
  let p := fun o => Fp.mul (fp32Decode l.gain)
    (Fp.sub (Fp.ofRat ((code o * (gainLsb (l.gainCode four o) : Int) : Int) : Rat)) (Fp.mul (fp32Decode l.offset) n))
  let y := fun j => fp32Round (Fp.addExact (p j) (Fp.ofRat (residualSum (d.arr a).residuals c.row slots j : Rat)))
  (List.range 256).map (fun j => (y j, Tbl.get 0 (d.arr a).baseCodes (j * 8 + c.row / 128)))

/-- The module once a read cycle's terms are with its task. -/
def Dev.cycleStored (d : Dev) (a : Nat) (c : StartedCycle) (rest : List StartedCycle) (t : TaskRun) (ys : List (Fp × Nat)) : Dev :=
  ((d.modArr a (fun x => { x with cycles := rest })).showGrain (grainOf a)).putTerms c.task (groupKey c.token c.entry c.row)
    (d.groupTerms d.runBase t.arg c.cmax ys)

theorem Dev.showGrain_arrays (d : Dev) (g : Nat) : (d.showGrain g).arrays = d.arrays := by
  rw [Dev.showGrain, Dev.wr_arrays, Dev.wr_arrays]

theorem Dev.showGrain_attempt (d : Dev) (g : Nat) : (d.showGrain g).attempt = d.attempt := by
  rw [Dev.showGrain, Dev.wr_attempt, Dev.wr_attempt]

theorem Dev.showGrain_mem (d : Dev) (g : Nat) : (d.showGrain g).mem = d.mem := by
  rw [Dev.showGrain, Dev.wr_mem, Dev.wr_mem]

theorem Dev.showGrain_task (d : Dev) (g i : Nat) : (d.showGrain g).task i = d.task i := by rw [Dev.task, Dev.showGrain_attempt, Dev.task]

theorem Dev.putTerms_arrays (d : Dev) (i key : Nat) (ts : List Nat) : (d.putTerms i key ts).arrays = d.arrays := rfl

theorem Dev.putTerms_mem (d : Dev) (i key : Nat) (ts : List Nat) : (d.putTerms i key ts).mem = d.mem := rfl

/-- The terms just stored. -/
theorem Dev.task_putTerms {i : Nat} {t : TaskRun} (run : d.task i = some t) (key : Nat) (ts : List Nat) :
    (d.putTerms i key ts).task i = some { t with terms := Tbl.put t.terms key ts } := by
  rw [Dev.putTerms, Dev.task_modTask, if_pos rfl, run, Option.map_some]

theorem Dev.byte_of_mem {d e : Dev} (same : e.mem = d.mem) (x : Nat) : e.byte x = d.byte x := by rw [Dev.byte, same, Dev.byte]

variable {a : Nat} {codes : List Int} {c : StartedCycle} {rest : List StartedCycle} {t : TaskRun} {l : LatchedArray}

theorem Dev.cycleStored_arrays (ys : List (Fp × Nat)) :
    (d.cycleStored a c rest t ys).arrays = (d.modArr a (fun x => { x with cycles := rest })).arrays := by
  rw [Dev.cycleStored, Dev.putTerms_arrays, Dev.showGrain_arrays]

theorem Dev.cycleStored_mem (ys : List (Fp × Nat)) : (d.cycleStored a c rest t ys).mem = d.mem := by
  rw [Dev.cycleStored, Dev.putTerms_mem, Dev.showGrain_mem, Dev.modArr_mem]

theorem Dev.cycleStored_task (run : d.task c.task = some t) (ys : List (Fp × Nat)) :
    (d.cycleStored a c rest t ys).task c.task = some { t with
      terms := Tbl.put t.terms (groupKey c.token c.entry c.row) (d.groupTerms d.runBase t.arg c.cmax ys) } := by
  have shown : ((d.modArr a (fun x => { x with cycles := rest })).showGrain (grainOf a)).task c.task = some t := by
    rw [Dev.showGrain_task]; exact run
  exact Dev.task_putTerms shown _ _

/-- After its terms and its capture a read cycle counts and compares, and flags the array where a window's mismatches reach the limit. -/
theorem Dev.readCycle_spares (started : (d.arr a).cycles = c :: rest) (run : d.task c.task = some t)
    (latched : t.arrays[c.entry]? = some l) :
    let ys := d.cycleOutputs a codes c t l
    ∃ lsbs unsettled, ((d.cycleStored a c rest t ys).capture (peckOf a) t c (ys.map (fun e => fp32Encode e.1)) lsbs unsettled).Spares
      (d.readCycle a codes) := by
  intro ys
  refine ⟨(List.range 256).map (fun o => gainLsb (l.gainCode (decide ((d.fwdInFmt d.runBase t.arg).slotsPerCycle = 16)) o)),
    !d.on CNV_REF_STATUS_SETTLED (bushelOf a), ?_⟩
  unfold Dev.readCycle
  simp only [started, run, latched]
  refine Dev.Spares.trans ?_ (Dev.addReference_spares _ _ _ _)
  refine Dev.Spares.trans ?_ (Dev.countWindow_spares _ _ _ _)
  refine Dev.Spares.trans ?_ (Dev.modArr_spares _ a _ (fun _ => rfl))
  refine Dev.Spares.count (Dev.Spares.count (Dev.Spares.countWrap ?_ _ _ _ _) _ _ _ _) _ _ _ _
  refine .ite ((Dev.Spares.refl _).count _ _ _ _ |>.trans (Dev.modTask_spares _ _ _ (fun _ => rfl))) (.refl _)

/-- R147, R157, R259, R444: a completed read cycle: what has become of the array's cycles, the task's terms and memory. -/
theorem Dev.readCycle_converts (ordered : d.ordered) (started : (d.arr a).cycles = c :: rest) (run : d.task c.task = some t)
    (latched : t.arrays[c.entry]? = some l) :
    let u := d.readCycle a codes
    (u.arr a).cycles = rest
      ∧ (∃ t', u.task c.task = some t' ∧ t'.terms = Tbl.put t.terms (groupKey c.token c.entry c.row)
        (d.groupTerms d.runBase t.arg c.cmax (d.cycleOutputs a codes c t l)))
      ∧ ∀ x, x < captureCell (peckOf a) ∨ captureCell (peckOf a) + 524288 ≤ x → u.byte x = d.byte x := by
  obtain ⟨-, memory, arrays, -⟩ := ordered
  obtain ⟨lsbs, unsettled, spares⟩ := Dev.readCycle_spares (codes := codes) started run latched
  have few : ((d.cycleOutputs a codes c t l).map (fun e => fp32Encode e.1)).length = 256 := by simp [Dev.cycleOutputs]
  generalize d.cycleOutputs a codes c t l = ys at *
  obtain ⟨kept, tasks, outside⟩ := Dev.capture_keeps (d.cycleStored a c rest t ys) (peckOf a) t c (ys.map (fun e => fp32Encode e.1))
    lsbs unsettled
  generalize (d.cycleStored a c rest t ys).capture (peckOf a) t c (ys.map (fun e => fp32Encode e.1)) lsbs unsettled = e at *
  rw [Dev.cycleStored_arrays] at kept
  have rising : Tbl.rising e.arrays = true := kept ▸ Tbl.rising_set arrays _ _
  refine ⟨?_, ?_, fun x out => ?_⟩
  · rw [spares.cycles rising, Dev.arr, kept, ← Dev.arr, Dev.arr_modArr arrays, if_pos rfl]
  · obtain ⟨t', found, same⟩ := spares.terms c.task _ ((tasks _).trans (Dev.cycleStored_task run ys))
    exact ⟨t', found, same⟩
  · have stored := Dev.cycleStored_mem (d := d) (a := a) (c := c) (rest := rest) (t := t) ys
    calc (d.readCycle a codes).byte x
        = e.byte x := Dev.byte_of_mem spares.mem x
      _ = (d.cycleStored a c rest t ys).byte x := outside (by rwa [Dev.memOk, stored]) few x out
      _ = d.byte x := Dev.byte_of_mem stored x

/-! ### The fallback path (R302) -/

/-- R302: the exact sum and the segment's scale code of each of the 256 outputs of a fallback row group. -/
def Dev.fallbackOutputs (d : Dev) (c : StartedCycle) (t : TaskRun) (l : LatchedArray) (slots : List Int) : List (Fp × Nat) :=
  let b : Binding := ⟨fwdTensor t.arg, l.rowTile, fwdColTile t.arg⟩
  let sum := fun j => (slots.zipIdx).foldl (fun (x : Int) (y, i) => match d.wcElem b (c.row + i) j with
    | some (f, q, _) => x + y * weightLevel f q
    | none => x) 0
  let code := fun j => match d.wcElem b c.row j with | some (_, _, k) => k | none => 0
  (List.range 256).map (fun j => (fp32Round (Fp.ofRat (sum j : Rat)), code j))

/-- The module with the first fallback row group off the queue of its Grain. -/
def Dev.fallbackTaken (d : Dev) (g : Nat) (rest : List StartedCycle) : Dev :=
  { d with fbQueue := Tbl.set [] d.fbQueue g rest }.showGrain g

/-- After its terms a fallback row group counts its passes. -/
theorem Dev.fallbackGroup_spares {g cx : Nat} {slots : List Int} (waits : Tbl.get [] d.fbQueue g = c :: rest)
    (run : d.task c.task = some t) (latched : t.arrays[c.entry]? = some l)
    (driven : d.groupSlots t.home t.arg (d.fwdInFmt d.runBase t.arg) c.token l c.row = some (cx, slots)) :
    ((d.fallbackTaken g rest).putTerms c.task (groupKey c.token c.entry c.row)
      (d.groupTerms d.runBase t.arg cx (d.fallbackOutputs c t l slots))).Spares (d.fallbackGroup g) := by
  have passed (e : Dev) (n : Nat) := ((Dev.Spares.refl e).countWrap DMX_PASS_CNT_COUNT g 0 n).count DMX_FB_PASS_CNT_COUNT g 0 n
  unfold Dev.fallbackGroup
  simp only [waits, run, latched, driven]
  exact .ite ((passed _ _).count _ _ _ _) (passed _ _)

theorem Dev.fallbackGroup_sums {g cx : Nat} {slots : List Int} (waits : Tbl.get [] d.fbQueue g = c :: rest)
    (run : d.task c.task = some t) (latched : t.arrays[c.entry]? = some l)
    (driven : d.groupSlots t.home t.arg (d.fwdInFmt d.runBase t.arg) c.token l c.row = some (cx, slots)) :
    ∃ t', (d.fallbackGroup g).task c.task = some t' ∧ (d.fallbackGroup g).mem = d.mem
      ∧ t'.terms = Tbl.put t.terms (groupKey c.token c.entry c.row)
        (d.groupTerms d.runBase t.arg cx (d.fallbackOutputs c t l slots)) := by
  have spares := Dev.fallbackGroup_spares waits run latched driven
  have taken : (d.fallbackTaken g rest).task c.task = some t := by rw [Dev.fallbackTaken, Dev.showGrain_task]; exact run
  obtain ⟨t', found, same⟩ := spares.terms c.task _ (Dev.task_putTerms taken _ _)
  refine ⟨t', found, ?_, same⟩
  rw [spares.mem, Dev.putTerms_mem, Dev.fallbackTaken, Dev.showGrain_mem]

/-- Settles O44: what the read cycle and the fallback row group store, kept by all that they do after it. -/
theorem readCyclesConvert : Obligations.ReadCyclesConvert := by
  unfold Obligations.ReadCyclesConvert
  refine ⟨?cycle, ?fallback⟩
  case cycle =>
    intro s a codes c rest t l ordered started run _ latched
    obtain ⟨cycles, ⟨t', found, terms⟩, outside⟩ := Dev.readCycle_converts (codes := codes) ordered started run latched
    exact ⟨s.withDev (s.dev.readCycle a codes), t', rfl, cycles, found, terms, fun _ => outside, rfl⟩
  case fallback =>
    intro s g c rest t l cx slots waits run latched driven
    obtain ⟨t', found, mem, terms⟩ := Dev.fallbackGroup_sums waits run latched driven
    exact ⟨s.withDev (s.dev.fallbackGroup g), t', rfl, found, mem, terms⟩

end Sys2Proof.Machine
end

section
/-! Branch faults (R216): the refutation of O48, from one state and one reading of a branch. -/
namespace Sys2Proof.Machine

/-- The number of a local counter whose register, reckoned from Peck 0, has the place of Bushel 0's PRG_BRANCH_FAULT_CNT. A Peck has 48
local counters (R375). -/
def strayCounter : Nat := (2 ^ 40 + 0x10008 - 0x3f0200) / 4

theorem strayCounter_key : SYN_LC.key 0 strayCounter = PRG_BRANCH_FAULT_CNT.key 0 := by decide

/-- A task that waits on object 0 and then takes 1 from that counter. -/
def strayTask : TaskRun := { desc := [0, 2 ^ 31 + 2 ^ 29 + 1], refs := [.object 0, .counter strayCounter] }

/-- Array 0 in PROGRAMMING with a retirement pending, and a ready object that releases the task once the array has retired. -/
def strayDev : Dev :=
  { (({} : Dev).wr ARR_STATE_STATE 0 0 0 PROGRAMMING).wr LOG_CFG_MIN_SEV 0 0 0 0 with
    arrays := [(0, { pendingRetire := some 1 })]
    objects := [(0, { owner := 0, vid := 0, kind := .ready 7, waiters := [⟨.task 0 false, 0, false, 1⟩] })]
    attempt := some { step := 0, number := 1, tasks := [(0, strayTask)] } }

theorem strayDev_ordered : strayDev.ordered := by unfold Dev.ordered; decide +kernel

/-- 500 mA for 1 µs latch the branch and count 1; the retirement that takes effect releases the task, whose take sets the count back. -/
theorem strayDev_count :
    strayDev.rd PRG_BRANCH_FAULT_CNT_COUNT 0 = 0 ∧ (strayDev.branchReading 0 500 5000 true 1).rd PRG_BRANCH_FAULT_CNT_COUNT 0 = 0 := by
  decide +kernel

/-- Refutes O48: its clause on R216 assumes of the state only that its tables are in order, so a task may name a local counter beyond its
Peck's 48 (R375), whose register is then the branch's fault counter; the wait that a retirement releases takes 1 from it. -/
theorem not_arraysAreKept : ¬ Obligations.ArraysAreKept := by
  unfold Obligations.ArraysAreKept
  rintro ⟨⟨-, branch, -⟩, -⟩
  obtain ⟨-, latches⟩ := branch (State.reset.withDev strayDev) 0 500 5000 true 1 strayDev_ordered
  obtain ⟨u, ran, -, -, -, -, -, -, counted⟩ := latches (by decide +kernel)
  have read : u.dev = strayDev.branchReading 0 500 5000 true 1 := by injection ran with same; exact same ▸ rfl
  have one : (strayDev.branchReading 0 500 5000 true 1).rd PRG_BRANCH_FAULT_CNT_COUNT 0
      = satAdd 32 (strayDev.rd PRG_BRANCH_FAULT_CNT_COUNT 0) 1 := read ▸ counted
  obtain ⟨before, after⟩ := strayDev_count
  rw [before, after] at one
  exact absurd one (by decide)

end Sys2Proof.Machine
end

section
/-! Row groups, reference ratios and the engines of a Grain (R140, R144 to R146, R150, R154, R282, R295, R301, R302, R319, R328, R360): what
each does next, case by case, and O43 put together from the cases. -/
namespace Sys2Proof.Machine

/-! ### Row groups (R144 to R146, R150, R154, R302) -/

section
variable {d : Dev} {i token entry row : Nat} {t : TaskRun} {at_ : Attempt} {l : LatchedArray}
  (run : d.task i = some t) (attempt : d.attempt = some at_) (latched : t.arrays[entry]? = some l)
  (may : t.kind = 0 ∧ t.phase = .running ∧ t.ending = none ∧ at_.gen1 = false ∧ token < fwdTokens t.arg
    ∧ l.groups.contains row = true ∧ t.started.contains (groupKey token entry row) = false)
include run attempt latched may

/-- R146: a NaN block. -/
theorem Dev.rowGroupStart_nan (nan : d.groupSlots t.home t.arg (d.fwdInFmt d.runBase t.arg) token l row = none) :
    let key := groupKey token entry row
    let e := d.modTask i (fun t => { t with started := t.started ++ [key] })
    d.rowGroupStart i token entry row = (e.modTask i (fun t => { t with nanInput := true })).putTerms i key [] := by
  unfold Dev.rowGroupStart
  simp only [run, attempt, latched, if_pos may, nan]

/-- A row group with slots: nothing to multiply, the array's read cycle, or the fallback path. -/
theorem Dev.rowGroupStart_slots {cx : Nat} {slots : List Int}
    (driven : d.groupSlots t.home t.arg (d.fwdInFmt d.runBase t.arg) token l row = some (cx, slots)) :
    let key := groupKey token entry row
    let g := grainOf l.array
    let c : StartedCycle := { task := i, token := token, entry := entry, row := row }
    let e := d.modTask i (fun t => { t with started := t.started ++ [key] })
    let busy := (List.range 16).filter (fun n => decide (g * 16 + n ≠ l.array) && !(d.arr (g * 16 + n)).cycles.isEmpty)
    d.rowGroupStart i token entry row =
      if slots.all (fun x => x == 0) then e.putTerms i key []
      else if d.arrState l.array = SERVING then
        (if d.cycleTurn l.array t.order = false then d
         else if d.grainLimit g ≤ busy.length ∨ d.monWaits.contains g = true then d.count ARR_GRAIN_STALL_CNT_COUNT g 0
         else (e.modArr l.array (fun r => { r with
           cycles := r.cycles ++ [{ c with cmax := cx, slots := slots }], turn := t.order })).showGrain g)
      else ({ e with fbQueue := Tbl.set [] d.fbQueue g (Tbl.get [] d.fbQueue g ++ [c]) }.modTask i
        (fun t => { t with fallback := true })).showGrain g := by
  unfold Dev.rowGroupStart
  simp only [run, attempt, latched, if_pos may, driven, Bool.not_eq_true']

end

/-! ### Reference ratios (R140) -/

theorem Dev.ratioUpdate_keeps (d : Dev) (a : Nat) : (d.ratioUpdate a).arrays = d.arrays ∧ (d.ratioUpdate a).mem = d.mem := by
  unfold Dev.ratioUpdate
  split
  · exact ⟨rfl, rfl⟩
  · simp only [Dev.wr_arrays, Dev.wr_mem, and_self]

/-- An array's record at the start of the next sums. -/
def ArrayRec.sumsCleared (r : ArrayRec) : ArrayRec :=
  { r with refMeasured := [0, 0, 0, 0], refIdeal := [0, 0, 0, 0], refSlots := 0, refCycles := 0 }

/-- The four ratios stand in registers; a free value is taken where a divisor is zero. -/
theorem Dev.publishRatios_clears (d : Dev) (a : Nat) :
    ∃ e : Dev, e.arrays = d.arrays ∧ e.mem = d.mem ∧ d.publishRatios a = (e.modArr a ArrayRec.sumsCleared).ratioUpdate a := by
  refine ⟨_, ?arrays, ?mem, rfl⟩
  case arrays =>
    refine List.foldlRecOn (motive := fun e : Dev => e.arrays = d.arrays) _ _ rfl (fun e same k _ => ?_)
    dsimp only
    generalize (if k = 3 then ((d.arr a).refSlots : Int) else (d.arr a).refIdeal.getD k 0) = den
    split <;> rw [Dev.wr_arrays] <;> exact same
  case mem =>
    refine List.foldlRecOn (motive := fun e : Dev => e.mem = d.mem) _ _ rfl (fun e same k _ => ?_)
    dsimp only
    generalize (if k = 3 then ((d.arr a).refSlots : Int) else (d.arr a).refIdeal.getD k 0) = den
    split <;> rw [Dev.wr_mem] <;> exact same

theorem Dev.arr_publishRatios {d : Dev} (ok : Tbl.rising d.arrays = true) (a : Nat) :
    (d.publishRatios a).arr a = (d.arr a).sumsCleared := by
  obtain ⟨e, arrays, -, published⟩ := d.publishRatios_clears a
  obtain ⟨kept, -⟩ := (e.modArr a ArrayRec.sumsCleared).ratioUpdate_keeps a
  rw [published, Dev.arr, kept, ← Dev.arr, Dev.arr_modArr (arrays ▸ ok), if_pos rfl, Dev.arr, arrays, Dev.arr]

theorem Dev.publishRatios_mem (d : Dev) (a : Nat) : (d.publishRatios a).mem = d.mem := by
  obtain ⟨e, -, mem, published⟩ := d.publishRatios_clears a
  obtain ⟨-, kept⟩ := (e.modArr a ArrayRec.sumsCleared).ratioUpdate_keeps a
  rw [published, kept, Dev.modArr_mem, mem]

/-! ### The engines of a Grain (R282, R295, R319, R328, R360) -/

/-- The vector engine runs the next descriptor of its task. -/
theorem Dev.vecDescriptor_next {d : Dev} {g i : Nat} {t : TaskRun} {a : Attempt} (attempt : d.attempt = some a)
    (on_engine : a.tasks.find? (fun e => decide (e.2.phase = .running) && decide (e.2.grain = g) && e.2.kind == 2) = some (i, t))
    (goes : t.ending = none) (more : t.vecIndex < vecCount t.arg) :
    let v := vecDesc t.arg t.vecIndex
    let e := if vOp v < 8 then d.vNative d.runBase t v else if vCount0 v = 0 then d else d.vUpdate d.runBase a.gen1 t.home v
    let f := (e.countWrap VEC_DESC_CNT_COUNT g 0).modTask i (fun t => { t with vecIndex := t.vecIndex + 1 })
    d.vecDescriptor g = if t.vecIndex + 1 < vecCount t.arg then f.showVector g t.arg (t.vecIndex + 1) else f := by
  unfold Dev.vecDescriptor
  simp only [attempt, Option.bind_some, on_engine, Option.map_some, goes, Option.isSome_none, Nat.not_le.2 more, decide_false,
    Bool.or_self, Bool.false_eq_true, if_false]

/-- The digital matrix array serves its class 3 task once nothing of a higher class waits (R301). -/
theorem Dev.tilePass_product {d : Dev} {g i : Nat} {t : TaskRun} {a : Attempt} {p : Product} (on_array : d.class3 g = some (i, t))
    (attempt : d.attempt = some a) (goes : t.ending = none) (no_fallback : Tbl.get [] d.fbQueue g = [])
    (no_wide : d.class2Waits g = false) (product : t.kind = 1) (more : t.productsDone = false)
    (next : (productsOf t.arg)[t.nextSide]? = some p) :
    let e := ((d.productPass i t a.gen1 p t.nextSide (if t.nextSide = 0 then t.tile else t.tile2)).countWrap DMX_PASS_CNT_COUNT g 0).wr
      DMX_STATUS_PAIR_SIDE g 0 0 t.nextSide
    d.tilePass g = if p.unaligned then e.count DMX_UNALIGNED_CNT_COUNT g 0 else e := by
  have free : ¬ (t.ending.isSome || !(Tbl.get [] d.fbQueue g).isEmpty || d.class2Waits g) = true := by simp [goes, no_fallback, no_wide]
  have not_forward : ¬ t.kind = 0 := by omega
  unfold Dev.tilePass
  simp only [on_array, attempt, if_neg free, if_neg not_forward, more, Bool.false_eq_true, if_false, next]

theorem Dev.tilePass_forward {d : Dev} {g i : Nat} {t : TaskRun} {a : Attempt} (on_array : d.class3 g = some (i, t))
    (attempt : d.attempt = some a) (goes : t.ending = none) (no_fallback : Tbl.get [] d.fbQueue g = [])
    (no_wide : d.class2Waits g = false) (forward : t.kind = 0) (more : t.tile < d.fwdPasses t) :
    d.tilePass g = (d.modTask i (fun t => { t with tile := t.tile + 1 })).countWrap DMX_PASS_CNT_COUNT g 0 := by
  have free : ¬ (t.ending.isSome || !(Tbl.get [] d.fbQueue g).isEmpty || d.class2Waits g) = true := by simp [goes, no_fallback, no_wide]
  unfold Dev.tilePass
  simp only [on_array, attempt, if_neg free, if_pos forward, if_pos more]

/-- A Chain task's next unit, where it neither waits for a segment nor touches host memory. -/
theorem Dev.chainUnit_moves {d : Dev} {g i : Nat} {peck : Bool} {t : TaskRun} {r : Run} (on_engine : d.chainOn g peck = some (i, t))
    (run : d.run = some r)
    (goes : t.ending = none ∧ t.faultCause = none ∧ t.closing = false ∧ t.unit < chUnits t.arg ∧ t.outstanding.length < 32
      ∧ d.wrapperClosed (peckOfGrain t.home) = false)
    (no_wait : (chOpens t.arg t.unit && decide (chNbuf t.arg + 1 ≤ t.seg) && !t.segHeld) = false)
    (src : chSrcSpace t.arg ≠ 3) (dst : chDstSpace t.arg ≠ 3) :
    d.chainUnit g peck = ((((d.chnWr t CHN_STATUS_SEG_WAITING PCHN_STATUS_SEG_WAITING 0 0).moveUnit i t.unit r.ctx t).chnCount t
      (chSrcAt t.arg t.unit) (chDstAt t.arg t.unit t.seg)).modTask i (fun x => { x with
        unit := x.unit + 1, closing := chCloses t.arg t.unit
        planeUnit := ((chPlaneUnits t.arg (chSrcAt t.arg t.unit) (chDstAt t.arg t.unit t.seg)).getLast?).orElse
          (fun _ => x.planeUnit) })).chainSettle i r.ctx := by
  obtain ⟨ending, fault, closing, more, few, wrapper⟩ := goes
  unfold Dev.chainUnit
  simp only [on_engine, run, no_wait, ending, fault, closing, wrapper, Nat.not_le.2 more, Nat.not_le.2 few, src, dst, beq_iff_eq,
    Option.isSome_none, decide_false, Bool.or_self, Bool.false_eq_true, Bool.false_and, Bool.and_eq_true, Bool.or_eq_true, or_self,
    false_and, if_false, if_true]

/-- Settles O43: each clause is the lemma above that says what its row does. -/
theorem enginesWork : Obligations.EnginesWork := by
  unfold Obligations.EnginesWork
  refine ⟨?rowGroup, ⟨?window, ?persist, ?ratios⟩, ?product, ?forward, ?vector, ?chain⟩
  case rowGroup =>
    intro s i token entry row t a l key g c d busy run attempt latched kind phase ending gen1 token_lt group fresh
    have nan := Dev.rowGroupStart_nan run attempt latched ⟨kind, phase, ending, gen1, token_lt, group, fresh⟩
    have slots {cx : Nat} {xs : List Int} := Dev.rowGroupStart_slots (cx := cx) (slots := xs) run attempt latched
      ⟨kind, phase, ending, gen1, token_lt, group, fresh⟩
    cases driven : s.dev.groupSlots t.home t.arg (s.dev.fwdInFmt s.dev.runBase t.arg) token l row with
    | none => exact s.to_eq (nan driven)
    | some found => exact s.to_eq (slots driven)
  case window => exact fun s a window full => s.to_eq (if_pos ⟨window, full⟩)
  case persist => exact fun s a served flagged => s.to_eq (if_pos ⟨served, flagged⟩)
  case ratios =>
    intro s a enough ordered
    obtain ⟨-, -, arrays, -⟩ := ordered
    have cleared := Dev.arr_publishRatios arrays a
    exact ⟨s.withDev (s.dev.publishRatios a), s.to_eq (if_pos enough), congrArg _ cleared, congrArg _ cleared, congrArg _ cleared,
      congrArg _ cleared, s.dev.publishRatios_mem a⟩
  case product =>
    intro s g i t a p on_array attempt goes no_fallback no_wide product more next
    exact s.to_eq (Dev.tilePass_product on_array attempt goes no_fallback no_wide product more next)
  case forward =>
    intro s g i t a on_array attempt goes no_fallback no_wide forward more
    exact s.to_eq (Dev.tilePass_forward on_array attempt goes no_fallback no_wide forward more)
  case vector =>
    intro s g i t a attempt on_engine goes more
    exact s.to_eq (Dev.vecDescriptor_next attempt on_engine goes more)
  case chain =>
    intro s g peck i t r on_engine run ending fault closing more few wrapper no_wait src dst
    exact s.to_eq (Dev.chainUnit_moves on_engine run ⟨ending, fault, closing, more, few, wrapper⟩ no_wait src dst)

end Sys2Proof.Machine
end

section
/-! Early release of a Peck (R653): what FORCE_REL leaves of the table of recovering units, and the refutation of O35 from it. -/
namespace Sys2Proof.Machine

variable {d e : Dev}

/-! ### Work that leaves the table of recovering units alone -/

theorem Dev.foldl_recovering {α : Type} (f : Dev → α → Dev) (keep : ∀ d x, (f d x).recovering = d.recovering) (xs : List α) (d : Dev) :
    (xs.foldl f d).recovering = d.recovering :=
  List.foldlRecOn (motive := fun e => e.recovering = d.recovering) xs f rfl (fun e same x _ => (keep e x).trans same)

theorem Dev.sameButPages.recovering (h : d.sameButPages e) : e.recovering = d.recovering := by
  unfold Dev.sameButPages at h
  rw [h]

theorem Dev.msix_recovering (d : Dev) (c v : Nat) : (d.msix c v).recovering = d.recovering := (d.msix_sameButPages c v).recovering

theorem Dev.writeEntry_recovering (d : Dev) (x : LogEntry) : (d.writeEntry x).recovering = d.recovering := rfl

theorem Dev.logSev_recovering (d : Dev) (sev src : Nat) (ev : LogEvent) (st : Status) (host : Bool) (c : Nat) (data : List Nat) :
    (d.logSev sev src ev st host c data).recovering = d.recovering := by
  have epoch : (if d.rd LOG_EPOCH_EPOCH 0 = (d.micros / 2 ^ 32) % 2 ^ 32 then d else d.writeEpoch).recovering = d.recovering := by
    split <;> rfl
  unfold Dev.logSev
  split
  · rfl
  · dsimp only
    split
    · rfl
    · exact (Dev.writeEntry_recovering _ _).trans epoch

theorem Dev.diag_recovering (d : Dev) (src : Nat) (k : Diag) (st : Status) (data : List Nat) :
    (d.diag src k st data).recovering = d.recovering := d.logSev_recovering _ _ _ _ _ _ _

theorem Dev.pushEvent_recovering (d : Dev) (c : Nat) (x : LogEntry) : (d.pushEvent c x).recovering = d.recovering := by
  unfold Dev.pushEvent
  dsimp only
  split
  · rw [Dev.wr_recovering]
  · split
    · rw [Dev.msix_recovering, Dev.modCtx_recovering]
    · rw [Dev.modCtx_recovering]

theorem Dev.hostEvent_recovering (d : Dev) (src code : Nat) (st : Status) (only : Option Nat) (data : List Nat) :
    (d.hostEvent src code st only data).recovering = d.recovering := by
  have deliver (e : Dev) (x : LogEntry) : (e.deliverEvent only x).recovering = e.recovering := by
    cases only with
    | some c => exact e.pushEvent_recovering c x
    | none => exact Dev.foldl_recovering _ (fun e c => e.pushEvent_recovering c x) _ e
  have logged := d.logSev_recovering (Config.severity code).val src (.fixed code) st true (only.getD (Config.logContext code).val) data
  unfold Dev.hostEvent
  dsimp only
  split
  · exact (deliver _ _).trans logged
  · exact logged

theorem Dev.finishWaiting_recovering (d : Dev) (c k : Nat) (w : SlotWait) (st : Status) (ws : List Nat) :
    (d.finishWaiting c k w st ws).recovering = d.recovering := by
  unfold Dev.finishWaiting
  split
  · exact (d.finishSlot_sameButPages c k st ws).recovering
  · rfl

theorem Dev.releaseSlots_recovering (d : Dev) (unit : Nat) : (d.releaseSlots unit).recovering = d.recovering := by
  refine Dev.foldl_recovering _ (fun e c => Dev.foldl_recovering _ (fun e k => ?_) _ e) _ d
  split
  · exact e.finishWaiting_recovering _ _ _ _ _
  · rfl

theorem Dev.markIsolated_recovering (d : Dev) : d.markIsolated.recovering = d.recovering := rfl

theorem Dev.showFaults_recovering (d : Dev) : d.showFaults.recovering = d.recovering := by
  rw [Dev.showFaults, Dev.wr_recovering, Dev.wr_recovering]

theorem Dev.setWrapper_recovering (d : Dev) (unit : Nat) (closed : Bool) : (d.setWrapper unit closed).recovering = d.recovering := by
  rw [Dev.setWrapper, Dev.showFaults_recovering]
  split
  · rw [Dev.setWord_recovering]
  · rw [Dev.setWord_recovering]

theorem Dev.stir_recovering (d : Dev) (p : Nat) : (d.stir p).recovering = d.recovering := rfl

theorem Dev.wake_recovering (d : Dev) (p : Nat) : (d.wake p).recovering = d.recovering := by
  unfold Dev.wake
  split
  · rw [Dev.stir_recovering, Dev.wr_recovering]
  · rfl

theorem Dev.makeDue_recovering (d : Dev) (a : Nat) (why : DecisionWhy) : (d.makeDue a why).recovering = d.recovering := by
  obtain ⟨due, eq⟩ : ∃ due, d.makeDue a why = if d.arrState a = SERVING ∧ d.unbound a = false then
      ((d.modArr a (fun r => { r with decisionDue := due })).wr RSD_STATUS_PENDING (grainOf a) (slotOf a) 0 1).wake (peckOf a)
      else d := ⟨_, rfl⟩
  rw [eq]
  split
  · rw [Dev.wake_recovering, Dev.wr_recovering, Dev.modArr_recovering]
  · rfl

/-! ### A release after which a unit still recovers -/

/-- R50: a participant whose attempt was cut short signals only once no unit recovers. -/
theorem Dev.refuseCut_waits (recovers : d.recovering ≠ []) : d.refuseCut = d := by
  unfold Dev.refuseCut
  split
  · exact if_neg (fun cut => recovers cut.2)
  · rfl

/-- The release of a unit takes its first entry out of the table. -/
theorem Dev.openUnit_recovering (d : Dev) (unit since source : Nat) (others : Tbl.del d.recovering unit ≠ []) :
    (d.openUnit unit since source).recovering = Tbl.del d.recovering unit := by
  have waits (e : Dev) (same : e.recovering = Tbl.del d.recovering unit) : e.refuseCut.recovering = Tbl.del d.recovering unit := by
    rw [Dev.refuseCut_waits (same ▸ others), same]
  have opened := Dev.setWrapper_recovering { d with recovering := Tbl.del d.recovering unit } unit false
  unfold Dev.openUnit
  refine waits _ ?_
  rw [Dev.markIsolated_recovering, Dev.releaseSlots_recovering, Dev.hostEvent_recovering]
  split
  · rw [Dev.diag_recovering, Dev.setWord_recovering, opened]
  · rw [Dev.setWord_recovering, opened]

/-- The tracker of an array whose Peck is in reset is not loaded. -/
theorem Dev.loadTracker_inReset {a : Nat} (reset : d.inReset (peckOf a) = true) : d.loadTracker a = d :=
  if_neg (fun loads => by simp [reset] at loads)

/-- No tracker of a Peck in reset is loaded when it returns. -/
theorem Dev.peckReturns_recovering (p : Nat) (reset : d.inReset p = true) : (d.peckReturns p).recovering = d.recovering := by
  have idle : ((List.range 128).map (fun i => p * 128 + i)).foldl (fun (d : Dev) a => d.loadTracker a) (d.stir p) = d.stir p := by
    refine List.foldlRecOn (motive := fun e => e = d.stir p) _ _ rfl (fun e same a here => ?_)
    obtain ⟨i, lt, rfl⟩ := List.mem_map.1 here
    have of_peck : peckOf (p * 128 + i) = p := by
      have := List.mem_range.1 lt
      unfold peckOf
      omega
    subst same
    exact Dev.loadTracker_inReset (of_peck.symm ▸ reset)
  unfold Dev.peckReturns
  dsimp only
  rw [idle]
  have due (e : Dev) (a : Nat) : ((e.modArr a (fun r => { r with lostList := true })).makeDue a .rebuild).recovering = e.recovering := by
    rw [Dev.makeDue_recovering, Dev.modArr_recovering]
  split
  · rw [Dev.foldl_recovering _ due, Dev.stir_recovering]
  · rw [Dev.diag_recovering, Dev.foldl_recovering _ due, Dev.stir_recovering]

/-- R653: FORCE_REL, with debug unlocked for it, takes the first entry of its Peck out of the table. A Peck that has a second one stays in
reset. -/
theorem Dev.forceRelease_recovering {p : Nat} (here : (Tbl.find d.recovering p).isSome = true)
    (again : (Tbl.find (Tbl.del d.recovering p) p).isSome = true) (unlocked : d.on SEC_STATUS_UNLOCKED 0 = true)
    (scope : bit (d.rd SEC_STATUS_SCOPE 0) 1 = true) : (d.forceRelease p).recovering = Tbl.del d.recovering p := by
  have others : Tbl.del d.recovering p ≠ [] := fun empty => by simp [empty, Tbl.find] at again
  obtain ⟨v, found⟩ := Option.isSome_iff_exists.1 here
  have released : (((d.openUnit p v.1 v.2).wr CLK_ISL_STATUS_UNSTABLE p 0 0 1).diag (srcPeck p) .other .clockUnstable [p]).recovering
      = Tbl.del d.recovering p := by
    rw [Dev.diag_recovering, Dev.wr_recovering, d.openUnit_recovering p v.1 v.2 others]
  unfold Dev.forceRelease
  simp only [found, unlocked, scope, Bool.and_self, if_true]
  rw [Dev.peckReturns_recovering p, released]
  rw [Dev.inReset, Dev.inRecovery, released, again, Bool.or_true]

/-! ### The write of FORCE_REL, and O35 -/

/-- The module as the release finds it: the Peck is awake, and the write has done what the access codes say; IDLE_DELAY counts from the
moment IDLE_EN is set (R661). -/
def Dev.beforeRelease (d : Dev) (p v : Nat) : Dev :=
  let e := d.roused RST_PECK_CTRL p 0
  if bit v 31 && !e.on RST_PECK_CTRL_IDLE_EN p then (e.plainWrite RST_PECK_CTRL p 0 0 v).stir p else e.plainWrite RST_PECK_CTRL p 0 0 v

/-- The word that FORCE_REL writes. -/
def Dev.forceRelWord (d : Dev) (p : Nat) : Nat := setBits (d.word RST_PECK_CTRL p) 30 30 1

theorem Dev.forceRelWord_bit (d : Dev) (p : Nat) : bit (d.forceRelWord p) 30 = true := by
  rw [bit, Dev.forceRelWord, testBit_setBits _ _ _ (by decide)]
  rfl

theorem State.dev_withDev (s : State) (d : Dev) : (s.withDev d).dev = d := rfl

/-- R62: a direct write that is permitted is that of the register, after the Peck is awake. -/
theorem Dev.trigger_accessible (f : Fuses) {r : Reg} {u n : Nat} (v : Nat) (ok : d.accessible r u n) :
    d.trigger f r u n v = (d.roused r u n).regWrite f r u n 0 v := if_pos ok

/-- A write of FORCE_REL is that of the other fields and the release. -/
theorem Dev.regWrite_forceRel (d : Dev) (f : Fuses) (p : Nat) {v : Nat} (force_rel : bit v 30 = true) :
    d.regWrite f RST_PECK_CTRL p 0 0 v =
      (if bit v 31 && !d.on RST_PECK_CTRL_IDLE_EN p then (d.plainWrite RST_PECK_CTRL p 0 0 v).stir p
        else d.plainWrite RST_PECK_CTRL p 0 0 v).forceRelease p := by
  obtain ⟨seq, entry, cal, rsd, clk, self⟩ : RST_PECK_CTRL.is CNV_SEQ_CTRL = false ∧ RST_PECK_CTRL.is CNV_SEQ_ENTRY = false
    ∧ RST_PECK_CTRL.is CNV_CAL_CFG = false ∧ RST_PECK_CTRL.is RSD_CTRL = false ∧ RST_PECK_CTRL.is CLK_ISL_CFG = false
    ∧ RST_PECK_CTRL.is RST_PECK_CTRL = true := by decide
  simp only [Dev.regWrite, seq, entry, cal, rsd, clk, self, force_rel, Bool.false_and, Bool.false_eq_true, if_false, if_true]

theorem exec_forceRel (s : State) (p : Fin 128) (ok : s.dev.accessible RST_PECK_CTRL p 0) :
    exec (.forceRel p) s = .next (s.withDev ((s.dev.beforeRelease p (s.dev.forceRelWord p)).forceRelease p)) := by
  exact s.to_eq ((Dev.trigger_accessible s.fuses _ ok).trans (Dev.regWrite_forceRel _ _ _ (s.dev.forceRelWord_bit p)))

/-- Peck 0 stands twice in the table of recovering units; debug is unlocked with the scope that permits FORCE_REL. -/
def twiceRecovering : Dev :=
  { (({} : Dev).wr SEC_STATUS_UNLOCKED 0 0 0 1).wr SEC_STATUS_SCOPE 0 0 0 2 with
    life := .run, railsOn := 2 ^ 32 - 1, recovering := [(0, (0, 0x20)), (0, (0, 0x20))] }

theorem twiceRecovering_ordered : twiceRecovering.ordered := by unfold Dev.ordered; decide +kernel

theorem twiceRecovering_accessible : twiceRecovering.accessible RST_PECK_CTRL 0 0 := by unfold Dev.accessible; decide +kernel

theorem twiceRecovering_unlocked : (Tbl.find twiceRecovering.recovering 0).isSome = true
    ∧ twiceRecovering.on SEC_STATUS_UNLOCKED 0 = true ∧ bit (twiceRecovering.rd SEC_STATUS_SCOPE 0) 1 = true := by decide +kernel

/-- The release meets both entries. -/
theorem twiceRecovering_beforeRelease :
    let e := twiceRecovering.beforeRelease 0 (twiceRecovering.forceRelWord 0)
    e.recovering = twiceRecovering.recovering ∧ e.on SEC_STATUS_UNLOCKED 0 = true ∧ bit (e.rd SEC_STATUS_SCOPE 0) 1 = true := by
  decide +kernel

/-- One of them stays. -/
theorem twiceRecovering_released :
    ((twiceRecovering.beforeRelease 0 (twiceRecovering.forceRelWord 0)).forceRelease 0).recovering = [(0, (0, 0x20))] := by
  obtain ⟨here, -, -⟩ := twiceRecovering_unlocked
  obtain ⟨recovering, unlocked, scope⟩ := twiceRecovering_beforeRelease
  have again : (Tbl.find (Tbl.del twiceRecovering.recovering 0) 0).isSome = true := by decide
  rw [Dev.forceRelease_recovering (recovering ▸ here) (recovering ▸ again) unlocked scope, recovering]
  rfl

/-- Refutes O35: its clause on FORCE_REL assumes of the state's tables only `Dev.ordered`, which leaves the recovering units out, so Peck 0
may stand there twice; the release takes one entry out, and the Peck still recovers. -/
theorem not_triggersTakeEffect : ¬ Obligations.TriggersTakeEffect := by
  unfold Obligations.TriggersTakeEffect
  rintro ⟨-, -, -, -, -, -, -, forceRel, -⟩
  obtain ⟨here, unlocked, scope⟩ := twiceRecovering_unlocked
  obtain ⟨t, ran, released, -⟩ := forceRel (State.reset.withDev twiceRecovering) 0 twiceRecovering_ordered twiceRecovering_accessible
    here unlocked scope
  rw [exec_forceRel (State.reset.withDev twiceRecovering) 0 twiceRecovering_accessible] at ran
  injection ran with same
  rw [← same, State.dev_withDev, State.dev_withDev, Fin.val_zero, twiceRecovering_released] at released
  exact absurd released (by decide)

end Sys2Proof.Machine
end

section
/-! Queries and the commands on arrays (R248 to R253, R532, R533, R536, R538, R607): each command's answer on the begun module, and O15, O21
and O22 put together from them. -/
namespace Sys2Proof.Machine

variable {s : State} {c : Fin 16} {k : Fin 8}

/-! ### Queries (R251, R532, R533, R536, R538, R607) -/

/-- A query answers where its arguments are clean, and changes nothing. -/
theorem State.replied_query (s : State) (c k : Nat) (b : Dev) (clean : Bool) (ws : List Nat) :
    s.replied c k (if !clean then (.st .badArg, b) else (.done .ok ws, b)) =
      if clean then s.done c k b .ok ws else s.done c k b .badArg := by
  cases clean <;> rfl

theorem exec_identify (ready : Ready s c k 0x00) :
    exec (.identify c k) s = .next (s.replied c k ((s.dev.begun c k).identify c k)) := State.to_serveOp ready _

theorem exec_capabilities (ready : Ready s c k 0x01) :
    exec (.capabilities c k) s = .next (s.replied c k ((s.dev.begun c k).capabilities c k)) := State.to_serveOp ready _

theorem exec_ctxInfo (ready : Ready s c k 0x12) :
    exec (.ctxInfo c k) s = .next (s.replied c k ((s.dev.begun c k).ctxInfo c k)) := State.to_serveOp ready _

theorem exec_arrayInfo (ready : Ready s c k 0x33) :
    exec (.arrayInfo c k) s = .next (s.replied c k ((s.dev.begun c k).arrayInfo c k)) := State.to_serveOp ready _

theorem exec_portInfo (ready : Ready s c k 0x53) :
    exec (.portInfo c k) s = .next (s.replied c k ((s.dev.begun c k).portInfo c k)) := State.to_serveOp ready _

theorem exec_telemRead (ready : Ready s c k 0x71) :
    exec (.telemRead c k) s = .next (s.replied c k ((s.dev.begun c k).telemRead c k)) := State.to_serveOp ready _

/-- R533: the arrays in a state are the listed words of ARR_STATE that hold it. -/
theorem Dev.arraysIn_eq (d : Dev) (st : Nat → Bool) :
    d.arraysIn st = ((d.regs.filter (fun e => ARR_STATE.hasKey e.1)).filter (fun e => st (bits e.2 2 0))).length := by
  rw [Dev.arraysIn, Dev.arrayStates, List.filter_map, List.length_map]
  rfl

/-- Settles O15: each query's reply on the begun module, where its arguments are clean. -/
theorem queriesAnswer : Obligations.QueriesAnswer := by
  unfold Obligations.QueriesAnswer
  refine ⟨⟨?identify, ?capabilities, ?ctxInfo⟩, ?arrayInfo, ?portInfo, ?telemRead⟩
  case identify =>
    intro s c k ready b
    exact (exec_identify ready).trans (congrArg _ (s.replied_query c k b _ _))
  case capabilities =>
    intro s c k ready b retired
    have counted : b.arraysIn (· == RETIRED) = retired := b.arraysIn_eq _
    rw [exec_capabilities ready, Dev.capabilities, counted]
    exact congrArg _ (s.replied_query c k b _ _)
  case ctxInfo =>
    intro s c k ready b size
    exact (exec_ctxInfo ready).trans (congrArg _ (s.replied_query c k b _ _))
  case arrayInfo =>
    intro s c k ready b a r flags
    rw [exec_arrayInfo ready, Dev.arrayInfo, State.replied_query]
    simp only [flags, Nat.add_assoc]
    rfl
  case portInfo =>
    intro s c k ready b p
    exact (exec_portInfo ready).trans (congrArg _ (s.replied_query c k b _ _))
  case telemRead =>
    intro s c k ready b
    exact (exec_telemRead ready).trans (congrArg _ (s.replied_query c k b _ _))

/-! ### Arrays (R248 to R253) -/

theorem exec_arrayRetire (ready : Ready s c k 0x32) :
    exec (.arrayRetire c k) s = .next (s.replied c k ((s.dev.begun c k).arrayRetire c k)) := State.to_serveOp ready _

theorem exec_arrayProgram (ready : Ready s c k 0x30) :
    exec (.arrayProgram c k) s = .next (s.replied c k ((s.dev.begun c k).arrayProgram c k)) := State.to_serveOp ready _

theorem exec_arrayBind (ready : Ready s c k 0x31) :
    exec (.arrayBind c k) s = .next (s.replied c k ((s.dev.begun c k).arrayBind c k)) := State.to_serveOp ready _

theorem exec_hvBranchRestore (ready : Ready s c k 0x34) (test : Fin 8) :
    exec (.hvBranchRestore c k test) s = .next (s.replied c k ((s.dev.begun c k).branchRestore c k test)) :=
  State.to_serveOp ready _

theorem exec_arrayBudgetSet (ready : Ready s c k 0x35) :
    exec (.arrayBudgetSet c k) s = .next (s.replied c k ((s.dev.begun c k).budgetSet c k)) := State.to_serveOp ready _

/-- Two choices agree where their conditions say the same and their outcomes agree. -/
theorem ite_eq_of_iff {α : Type} {p q : Prop} [Decidable p] [Decidable q] {x y x' y' : α} (same : p ↔ q) (yes : x = x') (no : y = y') :
    (if p then x else y) = if q then x' else y' := ite_congr (propext same) (fun _ => yes) (fun _ => no)

/-- R248 check 1, of a command whose word 1 has the bits of `mask`. -/
theorem Dev.arrayArgsBad_iff (d : Dev) (c k mask : Nat) :
    d.arrayArgsBad c k mask = true ↔ 28 < bits (d.cmd c k 1) 7 0 ∨ d.cmd c k 1 &&& (2 ^ 32 - 1 - mask) ≠ 0
      ∨ (∃ a ∈ d.arrayArgs c k, 16384 ≤ a) ∨ ¬ (d.arrayArgs c k).Nodup := by
  simp only [Dev.arrayArgsBad, Bool.or_eq_true, decide_eq_true_eq, List.any_eq_true, or_assoc]

/-- Settles O21: where the named addresses are lawful, the retirements are decided one after another on the begun module. -/
theorem arrayRetireAnswers : Obligations.ArrayRetireAnswers := by
  unfold Obligations.ArrayRetireAnswers
  intro s c k ready b count named
  rw [exec_arrayRetire ready, Dev.arrayRetire]
  simp only [State.replied_ite, State.replied_st]
  exact congrArg _ (ite_eq_of_iff (b.arrayArgsBad_iff c k 0xFF) rfl (ite_eq_of_iff List.isEmpty_iff rfl rfl))

/-- R248: the first check that fails says the answer; else the arrays that are neither queued nor in program are queued. -/
theorem exec_arrayProgram_answers (ready : Ready s c k 0x30) :
    let b := s.dev.begun c k
    let named := b.arrayArgs c k
    let now := bit (b.cmd c k 1) 9
    let new := named.filter (fun a => !b.already a)
    exec (.arrayProgram c k) s = .next (
      if b.arrayArgsBad c k 0x2FF then s.done c k b .badArg
      else if named = [] then s.done c k b .badLength
      else if ∃ a ∈ named, b.branchShut a = true ∨ (b.unbound a = true ∧ (b.arr a).pendingBind = none) then s.done c k b .notPermitted
      else if ∃ a ∈ named, b.arrState a = RETIRED then s.done c k b .arrayRetired
      else if ∃ a ∈ new, b.lifeLimit ≤ b.lifeCount a ∨ (now = true ∧ b.budgetOk a = false) then s.done c k b .writeBudget
      else s.done c k (new.foldl (fun (d : Dev) a => d.enqueue a 3 now false) b) .ok [new.length + (named.length - new.length) * 2 ^ 8]) := by
  intro b named now new
  have shut : named.any (fun a => b.branchShut a || (b.unbound a && (b.arr a).pendingBind.isNone)) = true
      ↔ ∃ a ∈ named, b.branchShut a = true ∨ (b.unbound a = true ∧ (b.arr a).pendingBind = none) := by
    simp only [List.any_eq_true, Bool.or_eq_true, Bool.and_eq_true, Option.isNone_iff_eq_none]
  have retired : named.any (fun a => b.arrState a == RETIRED) = true ↔ ∃ a ∈ named, b.arrState a = RETIRED := by
    simp only [List.any_eq_true, beq_iff_eq]
  have spent : named.any (fun a => !b.already a && (decide (b.lifeLimit ≤ b.lifeCount a) || (now && !b.budgetOk a))) = true
      ↔ ∃ a ∈ new, b.lifeLimit ≤ b.lifeCount a ∨ (now = true ∧ b.budgetOk a = false) := by
    simp only [new, List.any_eq_true, List.mem_filter, Bool.and_eq_true, Bool.or_eq_true, decide_eq_true_eq, Bool.not_eq_true', and_assoc]
  rw [exec_arrayProgram ready, Dev.arrayProgram]
  simp only [State.replied_ite, State.replied_st, State.replied_done]
  exact congrArg _ (ite_eq_of_iff .rfl rfl (ite_eq_of_iff List.isEmpty_iff rfl
    (ite_eq_of_iff shut rfl (ite_eq_of_iff retired rfl (ite_eq_of_iff spent rfl rfl)))))

/-- The module once a binding waits for its program: the array drains, and its program is due. -/
def Dev.bound (d : Dev) (a : Nat) (bind : Binding) : Dev :=
  let drained := ((d.unqueue a).modArr a (fun r => { r with pendingBind := some bind, checksumCaused := false })).startDrain a
  { drained with due := drained.due ++ [a] }

theorem Dev.arrayBind_eq (d : Dev) (c k : Nat) :
    d.arrayBind c k =
      if !d.argsClean c k [0x3FFF, mWord, mWord] || decide (d.cmd c k 2 = noTensor)
          || decide (⟨d.cmd c k 2, bits (d.cmd c k 3) 31 16, bits (d.cmd c k 3) 15 0⟩ = d.binding (d.cmd c k 1 % 16384)) then (.st .badArg, d)
      else if d.branchShut (d.cmd c k 1 % 16384) then (.st .notPermitted, d)
      else if d.arrState (d.cmd c k 1 % 16384) = RETIRED then (.st .arrayRetired, d)
      else if d.arrState (d.cmd c k 1 % 16384) ≠ SERVING then (.st .busy, d)
      else if d.lifeLimit ≤ d.lifeCount (d.cmd c k 1 % 16384) then (.st .writeBudget, d)
      else (.st .ok, d.bound (d.cmd c k 1 % 16384) ⟨d.cmd c k 2, bits (d.cmd c k 3) 31 16, bits (d.cmd c k 3) 15 0⟩) := rfl

theorem exec_arrayBind_answers (ready : Ready s c k 0x31) :
    let b := s.dev.begun c k
    let a := b.cmd c k 1 % 16384
    let bind : Binding := ⟨b.cmd c k 2, bits (b.cmd c k 3) 31 16, bits (b.cmd c k 3) 15 0⟩
    exec (.arrayBind c k) s = .next (
      if b.argsClean c k [0x3FFF, mWord, mWord] = false ∨ bind.tensor = noTensor ∨ bind = b.binding a then s.done c k b .badArg
      else if b.branchShut a then s.done c k b .notPermitted
      else if b.arrState a = RETIRED then s.done c k b .arrayRetired
      else if b.arrState a ≠ SERVING then s.done c k b .busy
      else if b.lifeLimit ≤ b.lifeCount a then s.done c k b .writeBudget
      else s.done c k (b.bound a bind) .ok) := by
  simp only [exec_arrayBind ready, Dev.arrayBind_eq, State.replied_ite, State.replied_st, Bool.or_eq_true, Bool.not_eq_true',
    decide_eq_true_eq, or_assoc]

theorem exec_hvBranchRestore_answers (ready : Ready s c k 0x34) (test : Fin 8) :
    let b := s.dev.begun c k
    let n := b.cmd c k 1 % 16
    exec (.hvBranchRestore c k test) s = .next (
      if b.argsClean c k [0xF] = false then s.done c k b .badArg
      else if b.on PRG_BRANCH_STATUS_ON n then s.done c k b .ok
      else if b.gated n = true ∨ bit b.railsOn 0x1C = false then s.done c k b .notPermitted
      else s.done c k (b.branchSelfTest n test) (if test.val = 0 then .ok else .notPermitted)) := by
  have mask : test.val % 8 = test.val := Nat.mod_eq_of_lt test.isLt
  simp only [exec_hvBranchRestore ready, Dev.branchRestore, mask, State.replied_ite, State.replied_st, Bool.or_eq_true,
    Bool.not_eq_true']

theorem exec_arrayBudgetSet_answers (ready : Ready s c k 0x35) :
    let b := s.dev.begun c k
    let limit := bits (b.cmd c k 2) 23 0
    exec (.arrayBudgetSet c k) s = .next (
      if b.argsClean c k [0xFFFF, 0xFFFFFF] = false ∨ 250000 < limit then s.done c k b .badArg
      else s.done c k { b with minInterval := bits (b.cmd c k 1) 15 0, lifeLimit := limit } .ok) := by
  simp only [exec_arrayBudgetSet ready, Dev.budgetSet, State.replied_ite, State.replied_st, Bool.or_eq_true, Bool.not_eq_true',
    decide_eq_true_eq]

/-- Settles O22: each command's reply on the begun module, check by check. -/
theorem arrayCommandsTakeEffect : Obligations.ArrayCommandsTakeEffect := by
  unfold Obligations.ArrayCommandsTakeEffect
  exact ⟨fun s c k ready => exec_arrayProgram_answers ready, fun s c k ready => exec_arrayBind_answers ready,
    fun s c k test ready => exec_hvBranchRestore_answers ready test, fun s c k ready => exec_arrayBudgetSet_answers ready⟩

end Sys2Proof.Machine
end

section
/-! Verification (R222, R224): the refutation of O47, from one state and one verification that passes. -/
namespace Sys2Proof.Machine

/-- The number of a local counter whose register, reckoned from Peck 0, has the place of array 16's ARR_PROG_GEN. A Peck has 48 local
counters (R375). -/
def strayGenCounter : Nat := (ARR_PROG_GEN.key 1 0 - SYN_LC.key 0 0) / 4

theorem strayGenCounter_key : SYN_LC.key 0 strayGenCounter = ARR_PROG_GEN.key 1 0 := by decide

/-- Array 16 in verification with its correction table ready, and a ready object that releases a task once the array's tracker is set. The
task then takes 1 from that counter. -/
def strayVerification : Dev :=
  { ((({} : Dev).wr ARR_STATE_STATE 1 0 0 VERIFYING).wr ARR_CHK_STATUS_CHK_READY 1 0 0 1).wr LOG_CFG_MIN_SEV 0 0 0 0 with
    arrays := [(16, { targetHeld := true })]
    objects := [(0, { owner := 0, vid := 0, kind := .ready 7, waiters := [⟨.task 0 false, 0, false, 1⟩] })]
    attempt := some { step := 0, number := 1, tasks := [(0, { strayTask with refs := [.object 0, .counter strayGenCounter] })] } }

theorem strayVerification_ordered : strayVerification.ordered := by unfold Dev.ordered; decide +kernel

/-- The reference outputs as their targets say. -/
def exactReferences : List (BitVec 32) := [0x3F800000, 0x3F800000, 0x3F800000, 0]

/-- The differences of 4,096 cycles without a mismatch. -/
def quietCycles : List (List Rat) := List.replicate verifyCycles []

theorem exec_verificationComplete (s : State) (a : Fin 16384) (cycles : List (List Rat)) (m : List (BitVec 32)) :
    exec (.verificationComplete a cycles m) s = .next (s.withDev (s.dev.verificationComplete a cycles (m.map BitVec.toNat))) := rfl

/-- R222: the verification may complete on this state. -/
theorem strayVerification_completes :
    strayVerification.arrState 16 = VERIFYING ∧ (strayVerification.arr 16).passed = false ∧ (strayVerification.arr 16).targetHeld = true
      ∧ strayVerification.on ARR_CHK_STATUS_CHK_READY (grainOf 16) (slotOf 16) = true
      ∧ strayVerification.engineArray (grainOf 16) = some 16 := by decide +kernel

/-- The references lie within their tolerance. -/
theorem exactReferences_within :
    let w := exactReferences.map BitVec.toNat
    let tol : Rat := mkRat (strayVerification.rd PRG_VERIFY_CFG_REF_TOL (grainOf 16)) 1000
    fpWithin (nth w 0) 1 tol = true ∧ fpWithin (nth w 1) 1 tol = true ∧ fpWithin (nth w 2) 1 tol = true
      ∧ fpWithin (nth w 3) 0 (mkRat 1 4) = true := by decide +kernel

/-- No group of a quiet cycle differs. -/
theorem quietCycles_within (thresh : Nat) : ∀ ms ∈ quietCycles, ∀ k < 4, ratAbs (ms.getD k 0) ≤ (thresh : Rat) := by
  intro ms quiet k _
  rw [List.eq_of_mem_replicate quiet]
  exact Rat.natCast_nonneg

/-- The verification passes and sets the generation to 1; the task that it releases takes that 1 back. -/
theorem strayVerification_gen :
    let u := strayVerification.verificationComplete 16 quietCycles (exactReferences.map BitVec.toNat)
    strayVerification.rd ARR_PROG_GEN_GEN (grainOf 16) (slotOf 16) = 0 ∧ (u.arr 16).passed = true ∧ (u.arr 16).recGen = 1
      ∧ u.rd ARR_PROG_GEN_GEN (grainOf 16) (slotOf 16) = 0 := by
  decide +kernel

/-- Refutes O47: its clause on a verification that passes assumes of the state only that its tables are in order, so a task may name a local
counter beyond its Peck's 48 (R375), whose register is then the array's ARR_PROG_GEN; the wait that the tracker's refresh releases takes 1
from the generation just written. -/
theorem not_arraysAreProgrammed : ¬ Obligations.ArraysAreProgrammed := by
  unfold Obligations.ArraysAreProgrammed
  rintro ⟨-, -, -, -, passes, -⟩
  obtain ⟨verifying, unfinished, held, table, engine⟩ := strayVerification_completes
  obtain ⟨high0, high1, low, zero⟩ := exactReferences_within
  obtain ⟨u, ran, -, -, -, -, gen, -⟩ := passes (State.reset.withDev strayVerification) 16 quietCycles exactReferences
    strayVerification_ordered verifying unfinished held table engine List.length_replicate (quietCycles_within _) high0 high1 low zero
  obtain ⟨before, -, -, after⟩ := strayVerification_gen
  rw [exec_verificationComplete] at ran
  injection ran with same
  have index : (16 : Fin 16384).val = 16 := rfl
  rw [← same, State.dev_withDev, State.dev_withDev, index, before, after] at gen
  exact absurd gen (by decide)

end Sys2Proof.Machine
end

section
/-! Step programs (R333 to R337): each command's answer on the begun module, what an abort of queued runs leaves, and O18 and O19 put
together from them. -/
namespace Sys2Proof.Machine

variable {s : State} {c : Fin 16} {k : Fin 8}

theorem exec_stepLoad (ready : Ready s c k 0x20) :
    exec (.stepLoad c k) s = .next (s.replied c k ((s.dev.begun c k).stepLoad c k)) := State.to_serveOp ready _

theorem exec_stepSubmit (ready : Ready s c k 0x21) :
    exec (.stepSubmit c k) s = .next (s.replied c k ((s.dev.begun c k).stepSubmit c k)) := State.to_serveOp ready _

theorem exec_stepUnload (ready : Ready s c k 0x22) :
    exec (.stepUnload c k) s = .next (s.replied c k ((s.dev.begun c k).stepUnload c k)) := State.to_serveOp ready _

theorem exec_stepAbort (ready : Ready s c k 0x23) :
    exec (.stepAbort c k) s = .next (s.replied c k ((s.dev.begun c k).stepAbort c k)) := State.to_serveOp ready _

theorem State.replied_wait (s : State) (c k : Nat) (w : SlotWait) (d : Dev) : s.replied c k (.wait w, d) = s.waits c k d w := rfl

/-! ### The commands' answers (R333 to R336) -/

/-- R333: the first check that fails says the answer; else the lowest free handle holds the program. -/
theorem exec_stepLoad_answers (ready : Ready s c k 0x20) :
    let b := s.dev.begun c k
    let base := b.cmd48 c k 1
    let free := (List.range 4).find? (fun h => !(b.handles c).contains h)
    exec (.stepLoad c k) s = .next (
      if b.argsClean c k [mWord, mHigh, mWord] = false ∨ inMemory base 1088 = false then s.done c k b .badArg
      else match b.programCheck c base (b.cmd c k 3), free with
        | some st, _ => s.done c k b st
        | none, none => s.done c k b .busy
        | none, some h => s.done c k { b with programs := Tbl.put b.programs (progKey c h) { base := base, length := b.cmd c k 3 } } .ok [h]) := by
  intro b base free
  rw [exec_stepLoad ready, Dev.stepLoad, State.replied_ite]
  refine congrArg _ (ite_eq_of_iff (by simp only [Bool.or_eq_true, Bool.not_eq_true']; rfl) rfl ?_)
  split
  next st refused => simp only [b, base, refused]; rfl
  next passed =>
    split
    next full => simp only [b, base, free, passed, full]; rfl
    next h lowest => simp only [b, base, free, passed, lowest]; rfl

theorem exec_stepSubmit_answers (ready : Ready s c k 0x21) (p : Program) :
    let b := s.dev.begun c k
    let h := bits (b.cmd c k 1) 1 0
    let n := bits (b.cmd c k 2) 15 0
    Tbl.find b.programs (progKey c h) = some p → b.argsClean c k [3, mHigh] = true →
    exec (.stepSubmit c k) s = .next (
      if b.powerState ≠ 0 then s.done c k b .notPermitted
      else if 16 ≤ b.runs.length then s.done c k b .busy
      else if n = 0 ∨ b.mbCount p.base = 0 then s.done c k (b.barrierValue c h).2 .okZeroWork [0, (b.barrierValue c h).1, 0]
      else s.waits c k { b with runs := b.runs ++ [⟨c, h, k, n, 0⟩] } .run) := by
  intro b h n loaded clean
  simp only [b, h] at loaded clean
  simp only [exec_stepSubmit ready, Dev.stepSubmit, loaded, clean, Bool.not_true, Bool.false_eq_true, if_false, State.replied_ite,
    State.replied_st, State.replied_done, State.replied_wait]
  rfl

theorem exec_stepUnload_answers (ready : Ready s c k 0x22) :
    let b := s.dev.begun c k
    let h := bits (b.cmd c k 1) 1 0
    exec (.stepUnload c k) s = .next (
      if b.argsClean c k [3] = false ∨ Tbl.find b.programs (progKey c h) = none then s.done c k b .badArg
      else if b.runs.any (fun r => r.ctx == c.val && r.handle == h) then s.done c k b .busy
      else s.done c k { b with programs := Tbl.del b.programs (progKey c h) } .ok) := by
  simp only [exec_stepUnload ready, Dev.stepUnload, State.replied_ite, State.replied_st, Bool.or_eq_true, Bool.not_eq_true',
    Option.isNone_iff_eq_none]
  rfl

theorem exec_stepAbort_answers (ready : Ready s c k 0x23) :
    let b := s.dev.begun c k
    let h := bits (b.cmd c k 1) 1 0
    exec (.stepAbort c k) s = .next (
      if b.argsClean c k [3] = false ∨ Tbl.find b.programs (progKey c h) = none then s.done c k b .badArg
      else if b.hasRun c h = false then s.done c k b .okZeroWork
      else s.done c k (b.abortRuns (fun r => r.ctx == c.val && r.handle == h)) .ok) := by
  simp only [exec_stepAbort ready, Dev.stepAbort, State.replied_ite, State.replied_st, Bool.or_eq_true, Bool.not_eq_true',
    Option.isNone_iff_eq_none]

/-! ### An abort of queued runs (R336, R337) -/

/-- Work that leaves the queue of runs, whether its first has started, and the programs. -/
structure Dev.KeepsRuns (d e : Dev) : Prop where
  runs : e.runs = d.runs
  started : e.runStarted = d.runStarted
  programs : e.programs = d.programs

variable {d e f : Dev}

theorem Dev.KeepsRuns.trans (h : d.KeepsRuns e) (h' : e.KeepsRuns f) : d.KeepsRuns f :=
  ⟨h'.runs.trans h.runs, h'.started.trans h.started, h'.programs.trans h.programs⟩

theorem Dev.sameButPages.keepsRuns (h : d.sameButPages e) : d.KeepsRuns e := by
  unfold Dev.sameButPages at h
  rw [h]
  exact ⟨rfl, rfl, rfl⟩

theorem Dev.finishWaiting_sameButPages (d : Dev) (c k : Nat) (w : SlotWait) (st : Status) (ws : List Nat) :
    d.sameButPages (d.finishWaiting c k w st ws) := Dev.sameButPages_ite (d.finishSlot_sameButPages c k st ws) rfl

/-- Reading a value of a barrier takes a free value at most. -/
theorem Dev.barrierValue_keepsRuns (d : Dev) (c h : Nat) : d.KeepsRuns (d.barrierValue c h).2 := by
  unfold Dev.barrierValue
  dsimp only
  split
  · split <;> exact ⟨rfl, rfl, rfl⟩
  · exact ⟨rfl, rfl, rfl⟩

/-- A queued run of an aborted program ends with zero steps. -/
def Dev.endQueued (d : Dev) (r : Run) : Dev :=
  (d.barrierValue r.ctx r.handle).2.finishWaiting r.ctx r.slot .run .ok [0, (d.barrierValue r.ctx r.handle).1, 0]

theorem Dev.endQueued_keepsRuns (d : Dev) (r : Run) : d.KeepsRuns (d.endQueued r) :=
  (d.barrierValue_keepsRuns r.ctx r.handle).trans (Dev.finishWaiting_sameButPages _ _ _ _ _ _).keepsRuns

/-- The module with the named runs out of its queue and their submissions answered. -/
def Dev.queuedEnded (d : Dev) (mine : Run → Bool) : Dev :=
  (d.runs.filter mine).foldl Dev.endQueued { d with runs := d.runs.filter (fun r => !mine r) }

theorem Dev.queuedEnded_keepsRuns (d : Dev) (mine : Run → Bool) :
    { d with runs := d.runs.filter (fun r => !mine r) }.KeepsRuns (d.queuedEnded mine) :=
  List.foldlRecOn (motive := { d with runs := d.runs.filter (fun r => !mine r) }.KeepsRuns) _ _ ⟨rfl, rfl, rfl⟩
    (fun e so_far r _ => so_far.trans (e.endQueued_keepsRuns r))

/-- Where the first queued run has not started, an abort ends queued runs only. -/
theorem Dev.abortRuns_unstarted (mine : Run → Bool) (unstarted : d.runStarted = false) : d.abortRuns mine = d.queuedEnded mine := by
  have ended : d.runs.filter (fun r => mine r && !(d.runStarted && decide (d.run = some r))) = d.runs.filter mine := by simp [unstarted]
  have left : d.runs.filter (fun r => !mine r || (d.runStarted && decide (d.run = some r))) = d.runs.filter (fun r => !mine r) := by
    simp [unstarted]
  have still : (d.queuedEnded mine).runStarted = false := (d.queuedEnded_keepsRuns mine).started.trans unstarted
  rw [Dev.abortRuns]
  dsimp only
  rw [ended, left]
  change (match (d.queuedEnded mine).run with | some r => if mine r = true ∧ (d.queuedEnded mine).runStarted = true then _ else _ | none => _) = _
  rw [still]
  split
  · exact if_neg (by simp)
  · rfl

/-- Settles O18: each command's answer on the begun module, and the frame of an abort before the first queued run has started. -/
theorem stepCommandsTakeEffect : Obligations.StepCommandsTakeEffect := by
  unfold Obligations.StepCommandsTakeEffect
  refine ⟨⟨fun s c k ready => exec_stepLoad_answers ready, fun s c k p ready => exec_stepSubmit_answers ready p,
    fun s c k ready => exec_stepAbort_answers ready⟩, ?frame⟩
  case frame =>
    intro s t c k ready b h clean queued loaded unstarted ran
    have there : Tbl.find b.programs (progKey c h) ≠ none := Option.ne_none_iff_isSome.2 loaded
    rw [exec_stepAbort_answers ready, if_neg (by simp [b, h, clean, there]), if_neg (by simp [b, h, queued])] at ran
    injection ran with same
    rw [Dev.abortRuns_unstarted _ unstarted] at same
    have answered := (b.queuedEnded_keepsRuns (fun r => r.ctx == c.val && r.handle == h)).trans
      (Dev.finishSlot_sameButPages _ c k .ok []).keepsRuns
    exact same ▸ ⟨answered.runs, answered.programs⟩

/-- Settles O19: the reply on the begun module. -/
theorem stepUnloadAnswers : Obligations.StepUnloadAnswers := by
  unfold Obligations.StepUnloadAnswers
  exact fun s c k ready => exec_stepUnload_answers ready

end Sys2Proof.Machine
end

section
/-! The start of a ready task at home (R63, R267, R347 to R349): what holds it, what a start leaves, and O42 put together from them. -/
namespace Sys2Proof.Machine

/-! ### What the shown registers leave alone -/

/-- Work that leaves memory and the attempt in progress. -/
structure Dev.KeepsAttempt (d e : Dev) : Prop where
  mem : e.mem = d.mem
  attempt : e.attempt = d.attempt

variable {d e f : Dev}

theorem Dev.KeepsAttempt.trans (h : d.KeepsAttempt e) (h' : e.KeepsAttempt f) : d.KeepsAttempt f :=
  ⟨h'.mem.trans h.mem, h'.attempt.trans h.attempt⟩

theorem Dev.KeepsAttempt.refl (d : Dev) : d.KeepsAttempt d := ⟨rfl, rfl⟩

theorem Dev.KeepsAttempt.ite {p : Prop} [Decidable p] (h : d.KeepsAttempt e) (h' : d.KeepsAttempt f) :
    d.KeepsAttempt (if p then e else f) := by
  split
  · exact h
  · exact h'

theorem Dev.KeepsAttempt.task (h : d.KeepsAttempt e) (i : Nat) : e.task i = d.task i := by rw [Dev.task, h.attempt, Dev.task]

theorem Dev.wr_keepsAttempt (d : Dev) (f : Fld) (u n k v : Nat) : d.KeepsAttempt (d.wr f u n k v) := ⟨rfl, rfl⟩

theorem Dev.KeepsAttempt.wr (h : d.KeepsAttempt e) (f : Fld) (u n k v : Nat) : d.KeepsAttempt (e.wr f u n k v) :=
  h.trans (e.wr_keepsAttempt f u n k v)

theorem Dev.stirKind_keepsAttempt (d : Dev) (g kind : Nat) : d.KeepsAttempt (d.stirKind g kind) := ⟨rfl, rfl⟩

theorem Dev.wake_keepsAttempt (d : Dev) (p : Nat) : d.KeepsAttempt (d.wake p) := by
  have stirred (d : Dev) : d.KeepsAttempt (d.stir p) := ⟨rfl, rfl⟩
  unfold Dev.wake
  exact .ite ((d.wr_keepsAttempt _ _ _ _ _).trans (stirred _)) (.refl d)

/-- The registers of an engine show its task. -/
theorem Dev.showEngineOf_keepsAttempt (d : Dev) (gen1 : Bool) (t : TaskRun) (busy : Bool) : d.KeepsAttempt (d.showEngineOf gen1 t busy) := by
  unfold Dev.showEngineOf
  dsimp only
  split
  · have shown := (((Dev.KeepsAttempt.refl d).wr DMX_STATUS_BUSY t.grain 0 0 (b2n busy)).wr DMX_STATUS_CLASS t.grain 0 0
      (if busy then 3 else 0)).wr DMX_STATUS_TAG t.grain 0 0 t.tag
    exact .ite (shown.wr _ _ _ _ _) shown
  · have shown := ((Dev.KeepsAttempt.refl d).wr VEC_STATUS_BUSY t.grain 0 0 (b2n busy)).wr VEC_STATUS_TAG t.grain 0 0 t.tag
    exact .ite (((shown.wr _ _ _ _ _).wr _ _ _ _ _).wr _ _ _ _ _) shown
  · exact ((((Dev.KeepsAttempt.refl d).wr _ _ _ _ _).wr _ _ _ _ _).wr _ _ _ _ _).wr _ _ _ _ _
  · exact ((((Dev.KeepsAttempt.refl d).wr _ _ _ _ _).wr _ _ _ _ _).wr _ _ _ _ _).wr _ _ _ _ _
  · exact .refl d

/-- The registers of a Grain's port show the tasks it runs. -/
theorem Dev.KeepsAttempt.showPort (h : d.KeepsAttempt e) (g : Nat) : d.KeepsAttempt (e.showPort g) := by
  unfold Dev.showPort
  exact ((((h.wr _ _ _ _ _).wr _ _ _ _ _).wr _ _ _ _ _).wr _ _ _ _ _).wr _ _ _ _ _

theorem Dev.showSched_keepsAttempt (d : Dev) (p : Nat) : d.KeepsAttempt (d.showSched p) := d.wr_keepsAttempt _ _ _ _ _

/-! ### The start (R347 to R349) -/

/-- A task once it has started: on a Grain, from home or stolen, with its slot, its argument block and what its start checks lead to. -/
def TaskRun.startedOn (t : TaskRun) (grain : Nat) (stolen shared : Bool) (order : Nat) (arg : List Nat) (check : Option Status × Nat)
    (latched : List LatchedArray) : TaskRun :=
  { t with phase := .running, grain := grain, stolen := stolen, hasSlot := true, sharedSlot := shared, order := order, arg := arg
           ending := check.1, vecIndex := check.2, arrays := latched }

/-- The module with task `i` running, before its engine shows it. -/
def Dev.placed (d : Dev) (a : Attempt) (i : Nat) (t : TaskRun) (grain : Nat) (stolen shared : Bool) : Dev :=
  let arg := d.argWords t
  let check := d.startCheck a.gen1 t arg
  let counted := if t.kind = 0 then d.modAttempt (fun x => { x with starts_ := x.starts_ + 1 }) else d
  ((counted.wake (peckOfGrain t.home)).wake (peckOfGrain grain)).modTask i (fun x => x.startedOn grain stolen shared (a.starts_ + 1) arg check
    (if t.kind = 0 ∧ check.1 = none then d.fwdLatch arg else []))

/-- What shows a started task: its engine, the Grain's port and the Peck's slots. -/
def Dev.showStart (d : Dev) (a : Attempt) (t : TaskRun) (grain : Nat) (arg : List Nat) (ending : Option Status) (stolen : Bool) : Dev :=
  let engine := if ending = none then d.showEngineOf a.gen1 { t with grain := grain, arg := arg } true else d
  let shown := ((engine.showPort grain).wr TSK_PORT_STATUS_TAG grain 0 0 t.tag).showSched (peckOfGrain t.home)
  if stolen then shown.stirKind t.home (t.kind % 4) else shown

theorem Dev.showStart_keepsAttempt (d : Dev) (a : Attempt) (t : TaskRun) (grain : Nat) (arg : List Nat) (ending : Option Status)
    (stolen : Bool) : d.KeepsAttempt (d.showStart a t grain arg ending stolen) := by
  have engine : d.KeepsAttempt (if ending = none then d.showEngineOf a.gen1 { t with grain := grain, arg := arg } true else d) :=
    .ite (d.showEngineOf_keepsAttempt _ _ _) (.refl d)
  have shown := ((engine.showPort grain).wr TSK_PORT_STATUS_TAG grain 0 0 t.tag).trans (Dev.showSched_keepsAttempt _ (peckOfGrain t.home))
  exact .ite (shown.trans (Dev.stirKind_keepsAttempt _ _ _)) shown

theorem Dev.modAttempt_task (d : Dev) (g : Attempt → Attempt) (keep : ∀ a, (g a).tasks = a.tasks) (i : Nat) :
    (d.modAttempt g).task i = d.task i := by
  cases running : d.attempt with
  | none => simp [Dev.task, Dev.modAttempt, running]
  | some a => simp [Dev.task, Dev.modAttempt, running, keep]

variable {a : Attempt} {i : Nat} {t : TaskRun}

theorem Dev.placed_mem (d : Dev) (a : Attempt) (i : Nat) (t : TaskRun) (grain : Nat) (stolen shared : Bool) :
    (d.placed a i t grain stolen shared).mem = d.mem := by
  have woken (e : Dev) (p q : Nat) : ((e.wake p).wake q).mem = e.mem := ((e.wake_keepsAttempt p).trans (Dev.wake_keepsAttempt _ q)).mem
  refine (woken _ _ _).trans ?_
  split <;> rfl

theorem Dev.task_placed (here : d.task i = some t) (grain : Nat) (stolen shared : Bool) :
    let arg := d.argWords t
    let check := d.startCheck a.gen1 t arg
    (d.placed a i t grain stolen shared).task i = some (t.startedOn grain stolen shared (a.starts_ + 1) arg check
      (if t.kind = 0 ∧ check.1 = none then d.fwdLatch arg else [])) := by
  have woken (e : Dev) (p q : Nat) : ((e.wake p).wake q).task i = e.task i :=
    ((e.wake_keepsAttempt p).trans (Dev.wake_keepsAttempt _ q)).task i
  have counted : (if t.kind = 0 then d.modAttempt (fun x => { x with starts_ := x.starts_ + 1 }) else d).task i = some t := by
    split
    · exact (d.modAttempt_task (fun x => { x with starts_ := x.starts_ + 1 }) (fun _ => rfl) i).trans here
    · exact here
  intro arg check
  rw [Dev.placed, Dev.task_modTask, if_pos rfl, woken, counted]
  rfl

/-- A ready task that nothing holds, whose engine has room and whose Peck has a slot, runs. -/
theorem Dev.startTask_runs {r : Run} {on : Nat} {stolen shared : Bool} (here : d.task i = some t) (run : d.run = some r)
    (attempt : d.attempt = some a) (ready : t.phase = .ready) (starts : a.starts = true) (no_verdict : t.kind ≠ 4) :
    let p := peckOfGrain t.home
    let arg := d.argWords t
    let grain := t.unitOf on arg
    let e := t.engineOn a.gen1 grain
    d.gated (bushelOfPeck p) = false → d.startHeld a i t grain stolen arg = false → d.isReused i t arg = false →
    d.onEngine a.gen1 e < engineCapacity e.1 → d.slotFor p = some shared →
    d.startTask i on stolen = (d.placed a i t grain stolen shared).showStart a t grain arg (d.startCheck a.gen1 t arg).1 stolen := by
  dsimp only
  intro powered free fresh room slot
  unfold Dev.startTask
  simp only [here, run, attempt]
  rw [if_neg (by simp [ready, starts]), if_neg (by simp [powered]), if_neg (by simp [free]), if_neg (by simp [fresh]),
    if_neg (Nat.not_le.2 room)]
  simp only [slot]
  rw [if_neg no_verdict]
  rfl

/-- What leaves a task of an engine to start at home. -/
theorem Dev.startHeld_free {grain : Nat} {stolen : Bool} {arg : List Nat} (home : d.clockGood (peckOfGrain t.home) = true)
    (there : d.clockGood (peckOfGrain grain) = true) (home_open : d.wrapperClosed (peckOfGrain t.home) = false)
    (there_open : d.wrapperClosed (peckOfGrain grain) = false) (powered : d.gated (bushelOfPeck (peckOfGrain grain)) = false)
    (next : d.behind a.gen1 i t = false) (decided : d.decisionHolds t arg = false) (no_verdict : t.kind ≠ 4) (mirrored : d.mirrorDue = false) :
    d.startHeld a i t grain stolen arg = false := by
  simp [Dev.startHeld, home, there, home_open, there_open, powered, next, decided, no_verdict, mirrored]

theorem State.fuses_withDev (s : State) (d : Dev) : (s.withDev d).fuses = s.fuses := rfl

theorem exec_taskStart (s : State) (i : Fin 65536) {t : TaskRun} (here : s.dev.task i = some t) :
    exec (.taskStart i) s = .next (s.withDev (s.dev.startTask i t.home false)) := by
  refine s.to_eq ?_
  unfold Dev.taskStart
  simp only [here]

/-- Settles O42: nothing holds the task, so that its start is that of a task that runs, and what shows the start leaves memory and the task. -/
theorem readyTasksStart : Obligations.ReadyTasksStart := by
  unfold Obligations.ReadyTasksStart
  intro s i t r a shared p arg g e check here run attempt ready running whole engine not_ingested mirrored home_powered powered home_clock clock
    home_open there_open next decided room slot
  have no_verdict : t.kind ≠ 4 := by omega
  have starts : a.starts = true := by simp [Attempt.starts, running, whole]
  have fresh : s.dev.isReused i t arg = false := by
    simpa [Dev.isReused, and_assoc] using not_ingested
  have free : s.dev.startHeld a i t g false arg = false :=
    Dev.startHeld_free home_clock clock home_open there_open powered next decided no_verdict mirrored
  have shown := (s.dev.placed a i t g false shared).showStart_keepsAttempt a t g arg check.1 false
  refine ⟨s.withDev ((s.dev.placed a i t g false shared).showStart a t g arg check.1 false), ?_, s.fuses_withDev _, ?_, ?_⟩
  · rw [exec_taskStart s i here, Dev.startTask_runs here run attempt ready starts no_verdict home_powered free fresh room slot]
  · rw [State.dev_withDev, shown.mem, Dev.placed_mem]
  · rw [State.dev_withDev, shown.task, Dev.task_placed here]
    rfl

end Sys2Proof.Machine
end

section
/-! Runs, attempts and tasks (R68, R334, R337, R348 to R356, R365, R383, R390, R627): what each row does in the case its rule speaks of, and
O41 put together from them. -/
namespace Sys2Proof.Machine

variable {d : Dev} {i : Nat} {t : TaskRun} {a : Attempt} {r : Run}

/-! ### Runs and attempts (R334, R337, R390) -/

theorem Dev.runStart_queued (queued : d.runs ≠ []) (unstarted : d.runStarted = false) (idle : d.attempt = none) :
    d.runStart = { d with runStarted := true, lastOutcome := none, outcomeDue := none, ingestDone := [] } := by
  unfold Dev.runStart
  split
  next none_queued => exact absurd none_queued queued
  next => rw [if_neg (by simp [unstarted, idle])]

/-- R337: the module, its tasks stopped, once an attempt of run `r` has started at the step and number loaded, or the run has ended. -/
def Dev.attemptLoaded (d : Dev) (r : Run) (p : Program) (loaded : Option (Nat × Nat)) : Dev :=
  match loaded with
  | none => d.endRun .badArg 0 none
  | some (step, number) =>
    let d0 := d.clearDone p.base
    let es := d.initTable p.base
    if es.all (d0.initOk r.ctx (bits (d0.header p.base 6) 11 0)) = false then d0.endRun .badArg 0 none
    else
      let shown := match d0.attempt with
        | some a => if a.step = step then min (a.shown + 1) 255 else number
        | none => number
      let d1 := d0.clearStats p.base
      let d2 := { d1 with attempt := some { step := step, number := number, shown := shown
                                            gen1 := d1.programGen1 p.base, tasks := d1.freshTasks p.base } }
      let d3 := (List.range 128).foldl (fun (d : Dev) q =>
        (d.clearCounters q).wr TSK_SCHED_STATUS_ATTEMPT q 0 0 shown) (d2.clearNorms.showRun 1)
      let d4 := ((d3.applyInit r.ctx es).exchangeStart).startSamples
      let d5 := d4.watchTriggers r.ctx
      (List.range (d5.taskCount p.base)).foldl (fun (d : Dev) i => d.makeEligible r.ctx i) d5

/-- An attempt of a run that has started loads its step, once the attempt before it is over and the barrier can be reached. -/
theorem Dev.attemptStart_loads {p : Program} (answer : Option (Nat × Nat)) (run : d.run = some r) (program : d.runProgram = some p)
    (started : d.runStarted = true)
    (ended : d.attempt = none ∨ ∃ a, d.attempt = some a ∧ (a.phase = .refused ∨ a.phase = .committed) ∧ a.rescale = false)
    (reached : d.lastOutcome = none → d.barrierUnreachable = false) :
    d.attemptStart answer = d.stopTasks.attemptLoaded r p (d.stopTasks.loadStep answer) := by
  have open_ : (d.lastOutcome.isNone && d.barrierUnreachable) = false := by
    cases known : d.lastOutcome with
    | none => simp [reached known]
    | some o => rfl
  unfold Dev.attemptStart
  simp only [run, program, open_, started, Bool.true_and, Bool.or_false]
  rw [if_neg]
  case hnc =>
    obtain none_there | ⟨a, last, phase | phase, scaled⟩ := ended
    · simp [none_there]
    · simp [last, phase, scaled]
    · simp [last, phase, scaled]
  cases loaded : d.stopTasks.loadStep answer with
  | none => rfl
  | some next =>
    refine ite_eq_of_iff (by rw [Bool.not_eq_true']) rfl ?_
    cases previous : (d.stopTasks.clearDone p.base).attempt <;> with_reducible rfl

theorem exec_attemptStart (s : State) (answer : Option (BitVec 32 × BitVec 8)) :
    exec (.attemptStart answer) s = .next (s.withDev (s.dev.attemptStart (answer.map (fun (v, n) => (v.toNat, n.toNat))))) := rfl

/-! ### The end of a task (R348, R350, R365, R627) -/

theorem Dev.completeTask_ends {st : Status} (here : d.task i = some t) (attempt : d.attempt = some a) (running : t.phase = .running)
    (outcome : d.taskOutcome a.gen1 t = some st) :
    d.completeTask i = (if t.kind = 0 ∧ t.ending = none then
      d.fwdWrite a.gen1 { t with nanInput := t.nanInput || (a.gen1 && d.fwdHasNan t) } else d).finishTask i st := by
  unfold Dev.completeTask
  simp only [here, attempt, running, outcome, if_true]
  exact (apply_ite (fun e : Dev => e.finishTask i st) _ _ _).symm

/-- R627: a ready task of a gated Bushel completes where it would start. -/
theorem Dev.startTask_gated {on : Nat} {stolen : Bool} (here : d.task i = some t) (run : d.run = some r) (attempt : d.attempt = some a)
    (ready : t.phase = .ready) (starts : a.starts = true) (gated : d.gated (bushelOfPeck (peckOfGrain t.home)) = true) :
    d.startTask i on stolen = d.finishTask i .notPermitted := by
  unfold Dev.startTask
  simp only [here, run, attempt]
  rw [if_neg (by simp [ready, starts]), if_pos gated]

theorem Dev.streamAbort_ends (here : d.task i = some t) (running : t.phase = .running) (chain : t.kind = 3) (fault : t.faultCause ≠ none)
    (returned : t.outstanding = []) (open_ : t.ending = none) : d.streamAbort i = d.finishTask i .streamFault := by
  unfold Dev.streamAbort
  simp only [here]
  exact if_pos ⟨running, chain, fault, returned, open_⟩

/-! ### Stealing (R68, R354 to R356) -/

/-- The Grain of a Peck, other than `g`, with the most ready stealable tasks of a kind, and their number. -/
def Dev.richest (d : Dev) (kind g : Nat) : Nat × Nat :=
  (List.range 8).foldl (fun (b : Nat × Nat) n =>
    if 8 * peckOfGrain g + n ≠ g ∧ b.2 < (d.stealable kind (8 * peckOfGrain g + n)).length then
      (8 * peckOfGrain g + n, (d.stealable kind (8 * peckOfGrain g + n)).length) else b) (g, 0)

/-- A test of a task that may be absent, as the steals count a task that runs. -/
theorem match_running (o : Option TaskRun) (x y : Dev) :
    (match o with | some t => if t.phase = .running then x else y | none => y) = if o.map TaskRun.phase = some .running then x else y := by
  cases o <;> simp

theorem Dev.steal_takes {g kind : Nat} (idle : d.idleFor kind g = true) (enabled : d.on TSK_SCHED_CFG_STEAL_EN (peckOfGrain g) = true)
    (some_there : (d.richest kind g).2 ≠ 0) (first : (d.stealable kind (d.richest kind g).1).head? = some (i, t)) :
    let e := d.startTask i g true
    d.steal g kind = if (e.task i).map TaskRun.phase = some .running then e.count TSK_STEAL_IN_CNT_COUNT g 0 else e := by
  intro e
  unfold Dev.richest at some_there first
  unfold Dev.steal
  rw [if_pos (by rw [idle, enabled]; rfl)]
  dsimp only
  rw [if_neg some_there, first]
  exact match_running _ _ _

/-- The first place that gives something, where it is the first that may and has. -/
theorem findSome?_of_find? {α β : Type} {l : List α} {may : α → Bool} {has : α → Option β} {x : α} {y : β}
    (first : l.find? (fun q => may q && (has q).isSome) = some x) (found : has x = some y) :
    l.findSome? (fun q => if may q then (has q).map (fun v => (q, v)) else none) = some (x, y) := by
  obtain ⟨gives, before, after, rfl, skipped⟩ := List.find?_eq_some_iff_append.1 first
  rw [Bool.and_eq_true] at gives
  refine List.findSome?_eq_some_iff.2 ⟨before, x, after, rfl, by simp [gives.1, found], fun q earlier => ?_⟩
  cases allowed : may q with
  | false => rfl
  | true => simpa [allowed] using skipped q earlier

/-- A Peck lets its tasks be stolen within its Bushel. -/
def Dev.letsSteal (d : Dev) (q : Nat) : Bool := d.on TSK_SCHED_CFG_STEAL_EN q && d.on TSK_SCHED_CFG_BUSHEL_STEAL_EN q

/-- The first ready stealable task of a kind at home in a Peck that names no local counter (R69). -/
def Attempt.firstStealable (a : Attempt) (kind q : Nat) : Option Nat :=
  (a.tasks.find? (fun e => decide (e.2.phase = .ready) && e.2.kind == kind && peckOfGrain e.2.home == q
    && bit (nth e.2.desc 0) 59 && !e.2.local_)).map (·.1)

/-- The other Pecks of a Peck's Bushel, in the order in which it asks them. -/
def otherPecks (p : Nat) : List Nat := (List.range 7).map (fun k => bushelOfPeck p * 8 + (p % 8 + 1 + k) % 8)

theorem Dev.bushelSteal_takes {g kind q : Nat} (attempt : d.attempt = some a) (idle : d.idleFor kind g = true)
    (enabled : d.letsSteal (peckOfGrain g) = true) (none_own : ∀ n < 8, d.stealable kind (8 * peckOfGrain g + n) = [])
    (waited : d.clocksPast (peckOfGrain g) (Tbl.get 0 d.idleAt (g * 4 + kind)) (d.rd TSK_SCHED_CFG_STEAL_DELAY (peckOfGrain g)) = true)
    (asked : (otherPecks (peckOfGrain g)).find? (fun q => (d.letsSteal q && !d.idleIn kind q) && (a.firstStealable kind q).isSome) = some q)
    (first : a.firstStealable kind q = some i) :
    let e := d.startTask i g true
    d.bushelSteal g kind = if (e.task i).map TaskRun.phase = some .running then
      ((e.count TSK_STEAL_IN_CNT_COUNT g 0).count TSK_STEAL_OUT_CNT_COUNT q 0).count TSK_BUSHEL_STEAL_CNT_COUNT (peckOfGrain g) 0 else e := by
  intro e
  have own : (List.range 8).all (fun n => (d.stealable kind (8 * peckOfGrain g + n)).isEmpty) = true := by
    simpa [List.all_eq_true] using none_own
  have pick := findSome?_of_find? asked first
  simp only [Attempt.firstStealable, Option.map_map, Function.comp_def, otherPecks, Dev.letsSteal] at pick
  unfold Dev.letsSteal at enabled
  unfold Dev.bushelSteal
  simp only [idle, enabled, own, waited, attempt, Bool.and_self, if_true]
  rw [pick]
  exact match_running _ _ _

/-! ### Waits (R383) -/

theorem Dev.waitTimeout_expires {c k time : Nat} (deadline : Tbl.find (d.ctx c).deadline k = some time) (passed : time ≤ d.time)
    (tested : d.untested c k = false) (running : d.slotState c k = slotRunning) (waits : d.slotWait c k = .sync) :
    d.waitTimeout c k = ((d.withdrawMailbox c k).modCtx c (fun x => { x with deadline := Tbl.del x.deadline k })).finishWaiting c k .sync
      .timeout := by
  unfold Dev.waitTimeout
  simp only [deadline]
  exact if_pos ⟨running, waits, passed, tested⟩

/-! ### O41 -/

theorem exec_taskComplete (s : State) (i : Fin 65536) : exec (.taskComplete i) s = .next (s.withDev (s.dev.completeTask i)) := rfl

theorem exec_workSteal (s : State) (g : Fin 1024) (vector : Bool) :
    exec (.workSteal g vector) s = .next (s.withDev (s.dev.steal g (if vector then 2 else 1))) := rfl

theorem exec_bushelSteal (s : State) (g : Fin 1024) (vector : Bool) :
    exec (.bushelSteal g vector) s = .next (s.withDev (s.dev.bushelSteal g (if vector then 2 else 1))) := rfl

/-- Settles O41: each clause is the lemma above that says what its row does. -/
theorem runsAndTasksProceed : Obligations.RunsAndTasksProceed := by
  unfold Obligations.RunsAndTasksProceed
  refine ⟨⟨?run, ?attempt⟩, ⟨?complete, ?gated, ?stream⟩, ⟨?steal, ?bushel⟩, ?timeout⟩
  case run => exact fun s queued unstarted idle => s.to_eq (Dev.runStart_queued queued unstarted idle)
  case attempt =>
    intro s answer r p
    dsimp only
    intro run program started ended reached
    rw [exec_attemptStart, Dev.attemptStart_loads _ run program started ended reached]
    refine congrArg (fun d => Host.Outcome.next (s.withDev d)) ?_
    unfold Dev.attemptLoaded
    cases s.dev.stopTasks.loadStep (answer.map (fun (v, n) => (v.toNat, n.toNat))) with
    | none => rfl
    | some next =>
      refine ite_eq_of_iff .rfl rfl ?_
      cases (s.dev.stopTasks.clearDone p.base).attempt <;> with_reducible rfl
  case complete =>
    intro s i t a st here attempt running outcome
    rw [exec_taskComplete, Dev.completeTask_ends here attempt running outcome]
  case gated =>
    intro s i t r a here run attempt ready starts gated
    rw [exec_taskStart s i here, Dev.startTask_gated here run attempt ready starts gated]
  case stream =>
    exact fun s i t here running chain fault returned open_ => s.to_eq (Dev.streamAbort_ends here running chain fault returned open_)
  case steal =>
    intro s g vector i t kind p best d idle enabled some_there first
    rw [exec_workSteal, Dev.steal_takes idle enabled some_there first]
  case bushel =>
    intro s g vector q i a kind p lets gives first d attempt idle enabled none_own waited asked found
    rw [exec_bushelSteal, Dev.bushelSteal_takes attempt idle enabled none_own waited asked found]
  case timeout =>
    exact fun s c k time deadline passed tested running waits =>
      s.to_eq (Dev.waitTimeout_expires deadline passed tested running waits)

end Sys2Proof.Machine
end

section
/-! Links, answers, SPDM and host reads (R365, R555, R575, R578 to R583, R588, R589, R693, R694): what each row does in the case its rule
speaks of, and O55 put together from them. -/
namespace Sys2Proof.Machine

variable {d : Dev}

/-! ### LINK flits, HEAD packets and key epochs (R575, R578 to R583) -/

section
variable {p : Nat} (running : d.portsRun = true) (up : d.portState p = pUp)
include running up

theorem Dev.linkArrives_up (ack flags seq : Nat) (credits : List Nat) :
    d.linkArrives p ack flags seq credits true = d.linkFlit p ack flags seq credits
      ∧ d.linkArrives p ack flags seq credits false = d.tagFails p := by
  simp [Dev.linkArrives, running, up]

/-- A packet with the SEQ expected. -/
theorem Dev.headPacket_expected {seq : Nat} (bad fixed : Nat) (tag : Bool) (pk : Packet) (m : MgmtContent) (lawful : pk.lawful pk.dflits = true) :
    let e := (d.count FUR_FEC_CORR_CNT_COUNT p 0 fixed).count FUR_FEC_UNCORR_CNT_COUNT p 0 bad
    seq = e.rd FUR_RX_SEQ_SEQ p →
    d.headPacket p seq bad fixed tag pk.dflits pk m =
      if bad = 0 ∧ tag = false then e.tagFails p
      else if bad ≠ 0 then e.sendNack p
      else (e.acceptSeq p (e.rd FUR_RX_SEQ_SEQ p)).receive p pk m := by
  intro e expected
  have no_offset : (seq + 2 ^ 24 - e.rd FUR_RX_SEQ_SEQ p) % 2 ^ 24 = 0 := by omega
  rw [Dev.headPacket, if_neg (by simp [running]), if_neg (by simp [up])]
  subst expected
  simp only [e] at no_offset ⊢
  simp only [no_offset, true_and, if_true, lawful]

end

theorem Dev.keyEpochChange_due {p : Nat} (up : d.portState p = pUp)
    (due : 2 ^ 31 ≤ (d.port p).packetNo ∨ (d.port p).epochStart + 3600000000000 ≤ d.time) : d.keyEpochChange p = d.newEpoch p := by
  rw [Dev.keyEpochChange, if_pos ⟨up, due⟩]

/-! ### Timeouts and DELIVERY pairs (R588, R589) -/

theorem Dev.e2eTimeout_expires {ttag : Nat} {o : Outstanding} (waits : Tbl.find d.outstanding ttag = some o)
    (late : o.sent + 20000000 ≤ d.time) :
    d.e2eTimeout ttag = (d.count FUR_E2E_TIMEOUT_CNT_COUNT 0 0).completeTag ttag .linkDown [] := by
  unfold Dev.e2eTimeout
  simp only [waits]
  exact if_pos late

/-- The pairs of a node leave once the first of them is due. -/
theorem Dev.pairsDue_sends {e : DuePair} (first : d.duePairs.find? (fun e => decide (e.due ≤ d.time)) = some e) :
    let mine := d.duePairs.filter (fun x => x.node == e.node)
    let body := (mine.take 48).flatMap (fun x => leBytes 2 x.ttag ++ [x.status, 0])
    d.pairsDue = ({ d with duePairs := d.duePairs.filter (fun (x : DuePair) => x.node != e.node) ++ mine.drop 48 }.originate
      { typ := tyDelivery, dst := e.node, src := 0, length := body.length, body := body } .forgotten false).2 := by
  intro mine body
  have there : e ∈ mine := List.mem_filter.2 ⟨List.mem_of_find?_eq_some first, by simp⟩
  have some_now : (mine.take 48).isEmpty ≠ true := by
    rw [Ne, List.isEmpty_iff, List.take_eq_nil_iff]
    exact not_or.2 ⟨by decide, List.ne_nil_of_mem there⟩
  unfold Dev.pairsDue
  simp only [first]
  exact if_neg some_now

/-! ### SPDM, IDE and host memory (R365, R555, R693, R694) -/

section
variable (up : d.firmware = true)
include up

/-- Requests that need no session and whose answer SPDM lays down. -/
theorem Dev.spdmRequest_open :
    ∀ r ∈ [SpdmRequest.getVersion, .getCapabilities, .negotiateAlgorithms, .getDigests, .challenge], d.spdmRequest r = d.answerOpen := by
  simp [Dev.spdmRequest, up]

theorem Dev.spdmRequest_keyExchange :
    d.spdmRequest .keyExchange = if 4 ≤ d.spdmSessions then d.answerSpdm .busy else { d with spdmSessions := d.spdmSessions + 1 }.answerOpen := by
  simp [Dev.spdmRequest, up]

theorem Dev.spdmRequest_getMeasurements {i : Nat} (first : 1 ≤ i) (last : i ≤ 5) :
    d.spdmRequest (.getMeasurements i) = d.answerSpdm (.measurement i (d.measure (i - 1)).1) := by
  simp [Dev.spdmRequest, up, first, last]

theorem Dev.spdmRequest_getCertificate :
    d.spdmRequest (.getCertificate 0) = d.answerSpdm (.certificates Config.deviceChain) := by
  simp [Dev.spdmRequest, up]

theorem Dev.spdmRequest_unsupported : d.spdmRequest .unsupported = d.answerSpdm .error := by
  simp [Dev.spdmRequest, up]

/-- Log entry 25 (the model's choice): without a session these are answered with ERROR. -/
theorem Dev.spdmRequest_sessionless (none_open : d.spdmSessions = 0) :
    ∀ r ∈ [SpdmRequest.heartbeat, .keyUpdate, .finish true, .finish false, .endSession, .ideKm 0], d.spdmRequest r = d.answerSpdm .error := by
  simp [Dev.spdmRequest, up, none_open]

section
variable (some_open : 0 < d.spdmSessions)
include some_open

theorem Dev.spdmRequest_inSession :
    ∀ r ∈ [SpdmRequest.heartbeat, .keyUpdate, .finish true], d.spdmRequest r = d.answerOpen := by
  simp [Dev.spdmRequest, up, Nat.ne_of_gt some_open]

theorem Dev.spdmRequest_endSession :
    d.spdmRequest .endSession = { d with spdmSessions := d.spdmSessions - 1 }.answerOpen := by
  simp [Dev.spdmRequest, up, Nat.ne_of_gt some_open]

theorem Dev.spdmRequest_ideKm (stream : Nat) :
    d.spdmRequest (.ideKm stream) = { d with ideInsecure := d.ideInsecure.filter (· != stream) }.answerOpen := by
  simp [Dev.spdmRequest, up, Nat.ne_of_gt some_open]

theorem Dev.spdmRequest_finish_unverified :
    d.spdmRequest (.finish false) = ({ d with spdmSessions := d.spdmSessions - 1 }.authFail 5 0).answerSpdm .error := by
  simp [Dev.spdmRequest, up, Nat.ne_of_gt some_open]

end

end

theorem Dev.ideFail_on (on : d.life ≠ .off) (k : Nat) :
    d.ideFail k = { d with ideInsecure := if d.ideInsecure.contains k then d.ideInsecure else d.ideInsecure ++ [k] }.hostEvent
      srcSecurity 0x0805 .ok none [k] := if_neg on

section
variable {tag i u : Nat} (waits : Tbl.find d.hostReads tag = some (i, u))
include waits

theorem Dev.hostReadFails_faults (why : Status) :
    d.hostReadFails tag why = ({ d with hostReads := Tbl.del d.hostReads tag }.chainAnswered i u).modTask i (fun t =>
      if t.faultCause.isSome || t.ending.isSome then t else { t with faultCause := some why }) := by
  unfold Dev.hostReadFails
  simp only [waits]

theorem Dev.hostReadDone_fails : d.hostReadDone tag none = d.hostReadFails tag .notPermitted := by
  unfold Dev.hostReadDone
  simp only [waits]

theorem Dev.hostReadDone_data (bs : List Nat) :
    d.hostReadDone tag (some bs) = { d with hostReads := Tbl.del d.hostReads tag }.chainData i u 0 bs := by
  unfold Dev.hostReadDone
  simp only [waits]

end

/-! ### O55 -/

theorem exec_spdmRequest (s : State) {r : SpdmRequest} {e : Dev} (answered : s.dev.spdmRequest r = e) :
    exec (.spdmRequest r) s = .next (s.withDev e) := s.to_eq answered

/-- Settles O55: each clause is the lemma above that says what its row does. -/
theorem linksAndAnswersTakeEffect : Obligations.LinksAndAnswersTakeEffect := by
  unfold Obligations.LinksAndAnswersTakeEffect
  refine ⟨⟨?link, ?send, ?epoch, ?head⟩, ⟨?timeout, ?pairs⟩, ?spdm, ?ide, ?host⟩
  case link =>
    intro s p ack flags seq credits running up d1 d2 d3
    obtain ⟨holds, fails⟩ := Dev.linkArrives_up running up ack.toNat flags.toNat seq.toNat (credits.map BitVec.toNat)
    exact ⟨s.to_eq holds, s.to_eq fails⟩
  case send => exact fun s p up => s.to_eq (if_pos up)
  case epoch => exact fun s p up due => s.to_eq (Dev.keyEpochChange_due up due)
  case head =>
    intro s p seq bad fixed tag pk m running up d e lawful small expected
    have dflits : (BitVec.ofNat 8 pk.dflits).toNat = pk.dflits := by simpa using small
    have arrives := Dev.headPacket_expected running up bad fixed tag pk m lawful expected
    rw [← dflits] at arrives
    exact s.to_eq arrives
  case timeout => exact fun s t o waits late => s.to_eq (Dev.e2eTimeout_expires waits late)
  case pairs => exact fun s e first => s.to_eq (Dev.pairsDue_sends first)
  case spdm =>
    intro s run serves
    have up : s.dev.firmware = true := by simp [Dev.firmware, run, serves]
    refine ⟨fun few => exec_spdmRequest s ?_, fun many => exec_spdmRequest s ?_,
      fun some_open => exec_spdmRequest s (Dev.spdmRequest_endSession up some_open),
      fun i first last => exec_spdmRequest s (Dev.spdmRequest_getMeasurements up first last),
      fun r asked => exec_spdmRequest s (Dev.spdmRequest_open up r asked),
      exec_spdmRequest s (Dev.spdmRequest_getCertificate up),
      fun r asked some_open => exec_spdmRequest s (Dev.spdmRequest_inSession up some_open r asked),
      fun n some_open => exec_spdmRequest s (Dev.spdmRequest_ideKm up some_open n),
      fun r asked none_open => exec_spdmRequest s (Dev.spdmRequest_sessionless up none_open r asked),
      exec_spdmRequest s (Dev.spdmRequest_unsupported up),
      fun some_open => exec_spdmRequest s (Dev.spdmRequest_finish_unverified up some_open)⟩
    · rw [Dev.spdmRequest_keyExchange up, if_neg (Nat.not_le.2 few)]
    · rw [Dev.spdmRequest_keyExchange up, if_pos many]
  case ide => exact fun s k on => s.to_eq (Dev.ideFail_on on k)
  case host =>
    intro s tag i u waits d fails
    refine ⟨s.to_eq (Dev.hostReadFails_faults waits _), s.to_eq ?_, fun data => s.to_eq (Dev.hostReadDone_data waits _)⟩
    exact (Dev.hostReadDone_fails waits).trans (Dev.hostReadFails_faults waits _)

end Sys2Proof.Machine
end

section
/-! Values and waits (R369 to R371): what the releases of TAKE waiters keep and leave, and O23 put together from them. -/
namespace Sys2Proof.Machine

variable {v : Nat} {w : Waiter}

/-! ### TAKE waiters in order of arrival -/

/-- A first waiter whose threshold is reached takes it, and the rest goes on with what is left. -/
theorem takeInOrder_cons_reached (rest : List Waiter) (reached : w.thresh ≤ v) :
    takeInOrder v (w :: rest) =
      ((w, v) :: (takeInOrder (v - w.thresh) rest).1, (takeInOrder (v - w.thresh) rest).2) := if_pos reached

/-- One whose threshold is not reached holds back itself and all behind it. -/
theorem takeInOrder_cons_short (rest : List Waiter) (short : ¬ w.thresh ≤ v) : takeInOrder v (w :: rest) = ([], w :: rest, v) :=
  if_neg short

/-- The value is what is left and what was taken. -/
theorem takeInOrder_sum (v : Nat) (ws : List Waiter) :
    v = (takeInOrder v ws).2.2 + ((takeInOrder v ws).1.map (fun e => e.1.thresh)).sum := by
  induction ws generalizing v with
  | nil => rfl
  | cons w rest ih =>
    by_cases reached : w.thresh ≤ v
    · have left := ih (v - w.thresh)
      rw [takeInOrder_cons_reached rest reached, List.map_cons, List.sum_cons]
      dsimp only
      omega
    · rw [takeInOrder_cons_short rest reached]; rfl

/-- The waiters are those released and, behind them, those left. -/
theorem takeInOrder_waiters (v : Nat) (ws : List Waiter) : ws = (takeInOrder v ws).1.map (·.1) ++ (takeInOrder v ws).2.1 := by
  induction ws generalizing v with
  | nil => rfl
  | cons w rest ih =>
    by_cases reached : w.thresh ≤ v
    · rw [takeInOrder_cons_reached rest reached]
      exact congrArg (w :: ·) (ih (v - w.thresh))
    · rw [takeInOrder_cons_short rest reached]; rfl

/-- The value left does not reach the threshold of the first waiter left. -/
theorem takeInOrder_head_short (v : Nat) (ws : List Waiter) {w : Waiter} {rest : List Waiter}
    (left : (takeInOrder v ws).2.1 = w :: rest) : (takeInOrder v ws).2.2 < w.thresh := by
  induction ws generalizing v with
  | nil => exact absurd left (List.cons_ne_nil w rest).symm
  | cons first others ih =>
    by_cases reached : first.thresh ≤ v
    · rw [takeInOrder_cons_reached others reached] at left ⊢
      exact ih (v - first.thresh) left
    · rw [takeInOrder_cons_short others reached] at left ⊢
      obtain ⟨rfl, -⟩ := List.cons.inj left
      exact Nat.lt_of_not_le reached

/-! ### A wait that arrives -/

/-- R370, R371: a wait on a threshold other than 0, by its kind; a TAKE wait needs no other ahead of it. -/
theorem arrives_eq (v : Nat) (ws : List Waiter) (take : Bool) (thresh : Nat) :
    arrives v ws take thresh =
      if thresh = 0 then (true, v)
      else if thresh ≤ v ∧ take = false then (true, v)
      else if thresh ≤ v ∧ (∀ w ∈ ws, w.take = false) then (true, v - thresh)
      else (false, v) := by
  have free : (!ws.any (·.take)) = true ↔ ∀ w ∈ ws, w.take = false := by
    simp only [Bool.not_eq_true', List.any_eq_false, Bool.not_eq_true]
  by_cases reached : thresh ≤ v
  · cases take with
    | false => simp [arrives, reached]
    | true => simp only [arrives, reached, free, decide_true, Bool.true_and, Bool.not_true, Bool.false_or, if_true, true_and,
        Bool.true_eq_false, if_false]
  · simp [arrives, reached]

/-- Settles O23: the model's own sum, the wait by its kind, and the three laws of the releases in order. -/
theorem countersSaturateAndWaitsHold : Obligations.CountersSaturateAndWaitsHold := by
  unfold Obligations.CountersSaturateAndWaitsHold
  exact ⟨fun v inc => rfl, arrives_eq, fun v ws => ⟨takeInOrder_sum v ws, takeInOrder_waiters v ws,
    fun w rest left => takeInOrder_head_short v ws left⟩⟩

end Sys2Proof.Machine
end

section
/-! Commands on synchronisation objects (R378, R392 to R400): what the handle of a command names, each command's answer on the begun module,
and O24 and O25 put together from them. -/
namespace Sys2Proof.Machine

variable {s : State} {c : Fin 16} {k : Fin 8}

theorem exec_syncAlloc (ready : Ready s c k 0x40) :
    exec (.syncAlloc c k) s = .next (s.replied c k ((s.dev.begun c k).syncAlloc c k)) := State.to_serveOp ready _

theorem exec_syncFree (ready : Ready s c k 0x41) :
    exec (.syncFree c k) s = .next (s.replied c k ((s.dev.begun c k).syncFree c k)) := State.to_serveOp ready _

theorem exec_syncSignal (ready : Ready s c k 0x42) :
    exec (.syncSignal c k) s = .next (s.replied c k ((s.dev.begun c k).syncSignal c k)) := State.to_serveOp ready _

theorem exec_syncWait (ready : Ready s c k 0x43) :
    exec (.syncWait c k) s = .next (s.replied c k ((s.dev.begun c k).syncWait c k)) := State.to_serveOp ready _

theorem exec_syncRead (ready : Ready s c k 0x44) :
    exec (.syncRead c k) s = .next (s.replied c k ((s.dev.begun c k).syncRead c k)) := State.to_serveOp ready _

theorem exec_syncMapRemote (ready : Ready s c k 0x45) :
    exec (.syncMapRemote c k) s = .next (s.replied c k ((s.dev.begun c k).syncMapRemote c k)) := State.to_serveOp ready _

theorem exec_syncBarrierSet (ready : Ready s c k 0x46) :
    exec (.syncBarrierSet c k) s = .next (s.replied c k ((s.dev.begun c k).syncBarrierSet c k)) := State.to_serveOp ready _

theorem exec_syncReadyBind (ready : Ready s c k 0x47) :
    exec (.syncReadyBind c k) s = .next (s.replied c k ((s.dev.begun c k).syncReadyBind c k)) := State.to_serveOp ready _

section
variable {d : Dev} {c k o n x vid g : Nat} {masks : List Nat} {obj : SyncObj}

/-! ### Handles (R378, R392) -/

/-- A handle that is not stale names what its VID is mapped to. -/
theorem Dev.handle_current (clean : d.argsClean c k masks = true) (mapped : d.cmdRef c k ≠ .unused)
    (current : d.refGen (d.cmdRef c k) = bits (d.cmd c k 2) 15 0) : d.handle c k masks = (some (d.cmdRef c k), d) := by
  simp only [Dev.handle, clean, mapped, current, Bool.not_true, Bool.false_eq_true, if_false, ne_eq, not_true, or_false]

theorem Dev.handle_object (clean : d.argsClean c k masks = true) (named : d.cmdRef c k = .object o)
    (current : d.gen o = bits (d.cmd c k 2) 15 0) : d.handle c k masks = (some (.object o), d) := by
  rw [← named]
  exact Dev.handle_current clean (by simp [named]) (by rw [named]; exact current)

theorem Dev.handle_remote (clean : d.argsClean c k masks = true) (named : d.cmdRef c k = .remote n x vid g)
    (current : g = bits (d.cmd c k 2) 15 0) : d.handle c k masks = (some (.remote n x vid g), d) := by
  rw [← named]
  exact Dev.handle_current clean (by simp [named]) (by rw [named]; exact current)

/-- The VID and generation of a command's handle name nothing that stands. -/
abbrev Dev.staleHandle (d : Dev) (c k : Nat) : Prop := d.cmdRef c k = .unused ∨ d.refGen (d.cmdRef c k) ≠ bits (d.cmd c k 2) 15 0

theorem Dev.staleHandle_object (named : d.cmdRef c k = .object o) : d.staleHandle c k ↔ d.gen o ≠ bits (d.cmd c k 2) 15 0 := by
  simp [Dev.staleHandle, named, Dev.refGen]

theorem Dev.staleHandle_remote (named : d.cmdRef c k = .remote n x vid g) : d.staleHandle c k ↔ g ≠ bits (d.cmd c k 2) 15 0 := by
  simp [Dev.staleHandle, named, Dev.refGen]

theorem Dev.handle_stale (clean : d.argsClean c k masks = true) (stale : d.staleHandle c k) :
    d.handle c k masks = (none, d.countStale c (bits (d.cmd c k 1) 11 0) (bits (d.cmd c k 2) 15 0)) := by
  simp only [Dev.handle, clean, Bool.not_true, Bool.false_eq_true, if_false, if_pos stale]

/-- R378: a stale handle is counted, unless its VID is unmapped and named before either nothing or an object of that generation (log entry
96). -/
theorem Dev.countStale_eq (stale : d.staleHandle c k) :
    let gen := bits (d.cmd c k 2) 15 0
    let former := Tbl.find d.formerly (c * 4096 + bits (d.cmd c k 1) 11 0)
    d.countStale c (bits (d.cmd c k 1) 11 0) gen =
      if d.cmdRef c k = .unused ∧ (former = none ∨ former.map d.gen = some gen) then d else d.count SYN_STALE_CNT_COUNT 0 0 := by
  intro gen former
  have named : d.refOf c (bits (d.cmd c k 1) 11 0) = d.cmdRef c k := rfl
  unfold Dev.countStale
  rw [named]
  cases ref : d.cmdRef c k with
  | unused =>
    cases before : Tbl.find d.formerly (c * 4096 + bits (d.cmd c k 1) 11 0) with
    | none => simp [former, before]
    | some o => by_cases same : d.gen o = gen <;> simp [former, before, same]
  | counter _ | object _ | remote _ _ _ _ =>
    have differs : d.refGen (d.cmdRef c k) ≠ gen := stale.resolve_left (by simp [ref])
    rw [ref] at differs
    simp [differs]

/-- A reference that is mapped is stale by its generation, and counted. -/
theorem Dev.countStale_object (named : d.cmdRef c k = .object o) (stale : d.gen o ≠ bits (d.cmd c k 2) 15 0) :
    d.countStale c (bits (d.cmd c k 1) 11 0) (bits (d.cmd c k 2) 15 0) = d.count SYN_STALE_CNT_COUNT 0 0 := by
  rw [Dev.countStale_eq ((Dev.staleHandle_object named).2 stale), if_neg (by simp [named])]

/-- The commands that need a mapped object are refused where the handle leads to none. -/
theorem Dev.sync_refused {e : Dev} :
    (d.handle c k [0xFFF, mHigh] = (none, e) → d.syncFree c k = (.st .badArg, e))
    ∧ (d.handle c k [0xFFF, mHigh, mHigh] = (none, e) → d.syncSignal c k = (.st .badArg, e))
    ∧ (d.handle c k [0xFFF + 3 * 2 ^ 16, mHigh, mHigh, mWord] = (none, e) → d.syncWait c k = (.st .badArg, e))
    ∧ (d.handle c k [0xFFF + 2 ^ 16, mHigh, mWord] = (none, e) → d.syncReadyBind c k = (.st .badArg, e)) := by
  refine ⟨fun refused => ?_, fun refused => ?_, fun refused => ?_, fun refused => ?_⟩
  · rw [Dev.syncFree, refused]
  · rw [Dev.syncSignal, refused]
  · rw [Dev.syncWait, refused]
  · rw [Dev.syncReadyBind, refused]

/-! ### Allocation (R393, R394) -/

/-- The module with `obj` at the free object `o`, mapped by the object's owner and VID. -/
def Dev.withMapped (d : Dev) (o : Nat) (obj : SyncObj) : Dev :=
  Dev.showHub { d with
    objects := Tbl.put d.objects o obj
    vmap := Tbl.put d.vmap (obj.owner * 4096 + obj.vid) (.object o) }

theorem Dev.syncAlloc_badArg (bad : d.argsClean c k [0xFFF + 2 ^ 16, mHigh] = false) : d.syncAlloc c k = (.st .badArg, d) := by
  rw [Dev.syncAlloc, bad]; rfl

theorem Dev.syncAlloc_ok (clean : d.argsClean c k [0xFFF + 2 ^ 16, mHigh] = true) (unmapped : d.mapped c (bits (d.cmd c k 1) 11 0) = none)
    (free : d.freePhys = some o) :
    d.syncAlloc c k = (.done .ok [d.gen o], d.withMapped o
      { owner := c, vid := bits (d.cmd c k 1) 11 0, value := bits (d.cmd c k 2) 15 0, exported := bit (d.cmd c k 1) 16 }) := by
  simp only [Dev.syncAlloc, clean, unmapped, free, Bool.not_true, Bool.false_eq_true, if_false]
  rfl

theorem Dev.syncAlloc_busy (clean : d.argsClean c k [0xFFF + 2 ^ 16, mHigh] = true)
    (none_free : d.mapped c (bits (d.cmd c k 1) 11 0) ≠ none ∨ d.freePhys = none) : d.syncAlloc c k = (.st .busy, d) := by
  simp only [Dev.syncAlloc, clean, Bool.not_true, Bool.false_eq_true, if_false]
  split
  next unmapped free => simp [unmapped, free] at none_free
  next => rfl

/-- An object that has waiters, or whose context has a run, stays. -/
theorem Dev.syncFree_object (named : d.handle c k [0xFFF, mHigh] = (some (.object o), d)) (there : d.obj o = some obj)
    (ordinary : obj.kind = .ordinary) :
    d.syncFree c k = if obj.waiters ≠ [] ∨ d.runs.any (fun r => r.ctx == c) = true then (.st .busy, d) else (.st .ok, d.freeObj o) := by
  simp only [Dev.syncFree, named, there, ordinary, Bool.or_false, Bool.or_eq_true, decide_eq_true_eq]

theorem Dev.freeObj_eq (there : d.obj o = some obj) :
    d.freeObj o = Dev.showHub { d with
      objects := Tbl.del d.objects o, gens := Tbl.set 0 d.gens o ((d.gen o + 1) % 2 ^ 16)
      vmap := Tbl.del d.vmap (obj.owner * 4096 + obj.vid)
      formerly := Tbl.put d.formerly (obj.owner * 4096 + obj.vid) o } := by
  simp only [Dev.freeObj, there]

/-! ### Remote mappings, barriers, ready objects (R397 to R399) -/

/-- R397: the probe of the object that SYNC_MAP_REMOTE names. -/
def Dev.probe (d : Dev) (c k : Nat) : Packet :=
  syncPacket (bits (d.cmd c k 1) 27 16) 7 0 (bits (d.cmd c k 2) 19 16) (bits (d.cmd c k 2) 11 0) (bits (d.cmd c k 3) 15 0) 0
    (mailboxWaiterId c k) 0 0 0

theorem Dev.syncMapRemote_clean (clean : d.argsClean c k [0xFFFFFFF - 0xF000, 0xFFF + 0xF * 2 ^ 16, mHigh] = true) :
    d.syncMapRemote c k =
      if d.mapped c (bits (d.cmd c k 1) 11 0) ≠ none then (.st .busy, d)
      else if (d.originate (d.probe c k) (.probe c k)).1 = .ok then
        (.wait (.remote (bits (d.cmd c k 1) 11 0)), (d.originate (d.probe c k) (.probe c k)).2)
      else (.st (d.originate (d.probe c k) (.probe c k)).1, (d.originate (d.probe c k) (.probe c k)).2) := by
  simp only [Dev.syncMapRemote, clean, Bool.not_true, Bool.false_eq_true, if_false]
  exact ite_eq_of_iff Option.isSome_iff_ne_none rfl rfl

theorem Dev.syncBarrierSet_creates (clean : d.argsClean c k [0xFFF + 3 * 2 ^ 16, mWord, 0, mWord, mHigh] = true)
    (create : bit (d.cmd c k 1) 16 = true) (aligned : d.cmd48 c k 4 % 64 = 0) (inside : inMemory (d.cmd48 c k 4) 512 = true)
    (members : d.bitmap (d.cmd48 c k 4) ≠ []) (unmapped : d.mapped c (bits (d.cmd c k 1) 11 0) = none) (free : d.freePhys = some o)
    (few : d.barrierCount < 16) :
    d.syncBarrierSet c k = (.st .ok, d.withMapped o
      { owner := c, vid := bits (d.cmd c k 1) 11 0, exported := true
        kind := .barrier ⟨d.cmd c k 2, 1, d.bitmap (d.cmd48 c k 4), [], 0, 0, none⟩ }) := by
  have some_members : (d.bitmap (d.cmd48 c k 4)).isEmpty = false := by simpa using members
  simp only [Dev.syncBarrierSet, clean, create, aligned, inside, some_members, unmapped, free, Nat.not_le.2 few, Bool.not_true,
    Bool.false_and, ne_eq, not_true, decide_false, Bool.or_false, Bool.false_eq_true, if_false, if_true]
  rfl

/-- R386, R399: an object bound to a tensor shows whether the tensor's refresh is complete. -/
def Dev.boundReady (d : Dev) (o : Nat) (obj : SyncObj) (tensor : Nat) : Dev :=
  let bound := d.setObj o { obj with kind := .ready tensor }
  bound.setReady o (b2n (bound.refreshed tensor))

theorem Dev.syncReadyBind_object (named : d.handle c k [0xFFF + 2 ^ 16, mHigh, mWord] = (some (.object o), d))
    (there : d.obj o = some obj) (ordinary : obj.kind = .ordinary) (unused : d.namesVid c (bits (d.cmd c k 1) 11 0) = false) :
    d.syncReadyBind c k =
      if bit (d.cmd c k 1) 16 then (.st .ok, d.setObj o { obj with kind := .ordinary })
      else if d.cmd c k 3 = noTensor then (.st .badArg, d)
      else (.st .ok, d.boundReady o obj (d.cmd c k 3)) := by
  simp only [Dev.syncReadyBind, named, there, ordinary, unused, Bool.false_eq_true, if_false]
  cases unbind : bit (d.cmd c k 1) 16 with
  | true => simp
  | false => simp only [true_and, Bool.false_eq_true, if_false]; rfl

/-! ### The debugger view (R400) -/

theorem Dev.syncRead_stale (clean : d.argsClean c k [0xFFF + 3 * 2 ^ 16, mHigh, mHigh] = true) (checked : bit (d.cmd c k 1) 16 = false)
    (stale : d.staleHandle c k) :
    d.syncRead c k = (.st .badArg, d.countStale c (bits (d.cmd c k 1) 11 0) (bits (d.cmd c k 2) 15 0)) := by
  simp only [Dev.syncRead, clean, checked, Bool.not_true, Bool.not_false, Bool.false_eq_true, if_false, true_and, if_pos stale]

theorem Dev.syncRead_view (clean : d.argsClean c k [0xFFF + 3 * 2 ^ 16, mHigh, mHigh] = true)
    (lawful : bit (d.cmd c k 1) 16 = true ∨ ¬ d.staleHandle c k) : d.syncRead c k = d.viewOfRef c k (d.cmdRef c k) := by
  have passes : ¬ ((!bit (d.cmd c k 1) 16) = true ∧ d.staleHandle c k) := by
    rw [Bool.not_eq_true', Decidable.not_and_iff_not_or_not, Bool.not_eq_false]; exact lawful
  simp only [Dev.syncRead, clean, Bool.not_true, Bool.false_eq_true, if_false]
  exact if_neg passes

theorem Dev.viewOfRef_object (there : d.obj o = some obj) :
    d.viewOfRef c k (.object o) = (.done .ok (d.viewWords o (bits (d.cmd c k 3) 15 0) obj),
      if bit (d.cmd c k 1) 17 then d.setObj o { obj with satHi := false, satLo := false } else d) := by
  simp only [Dev.viewOfRef, Dev.viewObject, there, Bool.false_eq_true, if_false]

theorem Dev.viewOfRef_unreachable {st : Status} (away : d.node ≠ some n) (cut : d.unreachable n true = some st) :
    d.viewOfRef c k (.remote n x vid g) = (.st st, d) := by
  simp only [Dev.viewOfRef, away, cut, if_false]

theorem Dev.viewOfRef_reachable (away : d.node ≠ some n) (reached : d.unreachable n true = none) :
    d.viewOfRef c k (.remote n x vid g) =
      (.done .ok (remoteView (d.freshWords 14).1 (if bit (d.cmd c k 1) 16 then none else some g) n (bits (d.cmd c k 3) 15 0)),
        (d.freshWords 14).2) := by
  simp only [Dev.viewOfRef, away, reached, if_false]

/-! ### Signals and waits (R383, R395, R396) -/

/-- R395: a signal of an ordinary object of this module. -/
theorem Dev.syncSignal_object (named : d.handle c k [0xFFF, mHigh, mHigh] = (some (.object o), d)) :
    let inc := signed 16 (d.cmd c k 3)
    let r := d.signalObject o inc ⟨3, c, 0, 0, d.time⟩
    d.syncSignal c k =
      if (d.obj o).map SyncObj.kind ≠ some .ordinary then (.st .notPermitted, d)
      else if inc = 0 then (.st .okZeroWork, d)
      else (.done (if r.2.1 then .saturated else .ok) [r.1], r.2.2) := by
  intro inc r
  rw [Dev.syncSignal, named]

/-- R384: the packet of a host signal. -/
def Dev.hostSignalPacket (d : Dev) (c k n x vid g : Nat) : Packet :=
  { syncPacket n 1 0 x vid g (unsigned 16 (signed 16 (d.cmd c k 3))) (mailboxWaiterId c k) 0 0 0 with ctx := c }

/-- R385: a host signal that cannot leave is dropped. -/
theorem Dev.syncSignal_remote (named : d.handle c k [0xFFF, mHigh, mHigh] = (some (.remote n x vid g), d)) :
    let r := d.originate (d.hostSignalPacket c k n x vid g) (.hostSignal c k)
    d.syncSignal c k = if r.1 = .ok then (.wait (.remote vid), r.2) else (.st r.1, r.2.dropSignal) := by
  intro r
  simp only [Dev.syncSignal, named]
  rfl

/-- The wait of a slot's SYNC_WAIT. -/
def Dev.mailboxWaiter (d : Dev) (c k : Nat) : Waiter :=
  ⟨.mailbox c k, mailboxWaiterId c k, bit (d.cmd c k 1) 16, bits (d.cmd c k 3) 15 0⟩

/-- R383: the module `e` with the timeout that the command of a slot of `d` asks for, if any. -/
def Dev.withDeadline (d : Dev) (c k : Nat) (e : Dev) : Dev :=
  if bit (d.cmd c k 1) 17 then
    e.modCtx c (fun y => { y with deadline := Tbl.put y.deadline k (e.time + d.cmd c k 4 * 1000) })
  else e

/-- R370, R396: a wait that holds at once is answered with the value it held on. -/
theorem Dev.syncWait_holds {left : Nat} (named : d.handle c k [0xFFF + 3 * 2 ^ 16, mHigh, mHigh, mWord] = (some (.object o), d))
    (there : d.obj o = some obj) (ordinary : obj.kind = .ordinary)
    (holds : arrives obj.value obj.waiters (bit (d.cmd c k 1) 16) (bits (d.cmd c k 3) 15 0) = (true, left)) :
    d.syncWait c k = (.done .ok [obj.value], d.setObj o { obj with value := left }) := by
  simp only [Dev.syncWait, Dev.postWait, named, there, ordinary, holds, if_true, Option.getD_some]

/-- R383: one that does not is posted, unless its timeout is zero. -/
theorem Dev.syncWait_queued {left : Nat} (named : d.handle c k [0xFFF + 3 * 2 ^ 16, mHigh, mHigh, mWord] = (some (.object o), d))
    (there : d.obj o = some obj) (ordinary : obj.kind = .ordinary)
    (short : arrives obj.value obj.waiters (bit (d.cmd c k 1) 16) (bits (d.cmd c k 3) 15 0) = (false, left)) :
    d.syncWait c k =
      if bit (d.cmd c k 1) 17 = true ∧ d.cmd c k 4 = 0 then (.st .timeout, d)
      else (.wait .sync, d.withDeadline c k (d.setObj o { obj with waiters := obj.waiters ++ [d.mailboxWaiter c k] })) := by
  simp only [Dev.syncWait, Dev.postWait, named, there, ordinary, short, Bool.false_eq_true, if_false]
  rfl

theorem Dev.syncWait_remote (named : d.handle c k [0xFFF + 3 * 2 ^ 16, mHigh, mHigh, mWord] = (some (.remote n x vid g), d)) :
    let w := d.mailboxWaiter c k
    let r := d.originate (syncPacket n 2 (b2n w.take) x vid g w.thresh w.id 0 0 0) (.mailboxWait c k)
    d.syncWait c k =
      if r.1 = .ok then
        (.wait .sync, d.withDeadline c k { r.2 with remoteWaits := r.2.remoteWaits ++ [⟨w.who, n, x, vid, g, w.id⟩] })
      else (.st r.1, r.2) := by
  intro w r
  simp only [Dev.syncWait, named]
  rfl

end

/-! ### O24 -/

/-- Settles O24: each command's reply on the begun module, by what its handle names. -/
theorem syncObjectCommandsTakeEffect : Obligations.SyncObjectCommandsTakeEffect := by
  unfold Obligations.SyncObjectCommandsTakeEffect
  refine ⟨⟨?alloc, ?free⟩, ?stale, ⟨?probe, ?barrier, ?bind⟩, ?view, ?remote⟩
  case alloc =>
    intro s c k ready b vid free
    rw [exec_syncAlloc ready]
    cases clean : b.argsClean c k [0xFFF + 2 ^ 16, mHigh] with
    | false => rw [Dev.syncAlloc_badArg clean]; rfl
    | true =>
      cases unmapped : b.mapped c vid with
      | some m => rw [Dev.syncAlloc_busy clean (.inl (Option.ne_none_iff_exists'.2 ⟨m, unmapped⟩))]; rfl
      | none =>
        cases lowest : free with
        | none => rw [Dev.syncAlloc_busy clean (.inr lowest)]; rfl
        | some o => rw [Dev.syncAlloc_ok clean unmapped lowest]; rfl
  case free =>
    intro s c k o x ready b clean named current there ordinary
    rw [exec_syncFree ready, Dev.syncFree_object (Dev.handle_object clean named current) there ordinary, State.replied_ite,
      Dev.freeObj_eq there]
    rfl
  case stale =>
    intro s c k b gen former refused stale
    have answer : s.replied c k (.st .badArg, b.countStale c (bits (b.cmd c k 1) 11 0) gen) = refused := by
      rw [State.replied_st, Dev.countStale_eq stale]
      exact apply_ite (fun d => s.done c k d .badArg) _ _ _
    obtain ⟨free, signal, wait, bind⟩ :=
      Dev.sync_refused (d := b) (c := c) (k := k) (e := b.countStale c (bits (b.cmd c k 1) 11 0) gen)
    refine ⟨fun ready clean => ?_, fun ready clean => ?_, fun ready clean => ?_, fun ready clean => ?_⟩
    · rw [exec_syncFree ready, free (Dev.handle_stale clean stale), answer]
    · rw [exec_syncSignal ready, signal (Dev.handle_stale clean stale), answer]
    · rw [exec_syncWait ready, wait (Dev.handle_stale clean stale), answer]
    · rw [exec_syncReadyBind ready, bind (Dev.handle_stale clean stale), answer]
  case probe =>
    intro s c k ready b w1 w2 probe r clean
    rw [exec_syncMapRemote ready, Dev.syncMapRemote_clean clean, State.replied_ite, State.replied_ite]
    rfl
  case barrier =>
    intro s c k o ready b vid a members barrier clean create aligned inside some_members unmapped free few
    rw [exec_syncBarrierSet ready, Dev.syncBarrierSet_creates clean create aligned inside some_members unmapped free few]
    rfl
  case bind =>
    intro s c k o x ready b tensor bound clean named current there ordinary unused
    rw [exec_syncReadyBind ready, Dev.syncReadyBind_object (Dev.handle_object clean named current) there ordinary unused,
      State.replied_ite, State.replied_ite]
    rfl
  case view =>
    intro s c k o x ready b w1 clean named there
    have stale_iff := Dev.staleHandle_object named
    rw [exec_syncRead ready]
    by_cases refused : bit w1 16 = false ∧ b.gen o ≠ bits (b.cmd c k 2) 15 0
    · obtain ⟨checked, stale⟩ := refused
      rw [if_pos ⟨checked, stale⟩, Dev.syncRead_stale clean checked (stale_iff.2 stale), Dev.countStale_object named stale]
      rfl
    · have lawful : bit w1 16 = true ∨ ¬ b.staleHandle c k := by
        rw [stale_iff, ← Bool.not_eq_false, ← Decidable.not_and_iff_not_or_not]; exact refused
      rw [if_neg refused, Dev.syncRead_view clean lawful, named, Dev.viewOfRef_object there]
      rfl
  case remote =>
    intro s c k n x vid g ready b any r clean named away lawful
    have current : bit (b.cmd c k 1) 16 = true ∨ ¬ b.staleHandle c k := by
      rw [Dev.staleHandle_remote named, Decidable.not_not]; exact lawful
    rw [exec_syncRead ready, Dev.syncRead_view clean current, named]
    cases reached : b.unreachable n true with
    | some st => rw [Dev.viewOfRef_unreachable away reached]; rfl
    | none => rw [Dev.viewOfRef_reachable away reached]; rfl

/-! ### O25 -/

/-- Settles O25: each command's reply on the begun module, by what its handle names. -/
theorem signalsAndWaitsTakeEffect : Obligations.SignalsAndWaitsTakeEffect := by
  unfold Obligations.SignalsAndWaitsTakeEffect
  refine ⟨?signal, ?wait, ?remoteSignal, ?remoteWait⟩
  case signal =>
    intro s c k o ready b inc r clean named current
    rw [exec_syncSignal ready, Dev.syncSignal_object (Dev.handle_object clean named current), State.replied_ite, State.replied_ite]
    rfl
  case wait =>
    intro s c k o x ready b take thresh w clean named current there ordinary
    have handle := Dev.handle_object clean named current
    rw [exec_syncWait ready]
    rcases arrival : arrives x.value x.waiters take thresh with ⟨_ | _, left⟩
    · rw [Dev.syncWait_queued handle there ordinary arrival, State.replied_ite]
      rfl
    · rw [Dev.syncWait_holds handle there ordinary arrival]
      rfl
  case remoteSignal =>
    intro s c k n x vid g ready b p r clean named current
    rw [exec_syncSignal ready, Dev.syncSignal_remote (Dev.handle_remote clean named current), State.replied_ite]
    rfl
  case remoteWait =>
    intro s c k n x vid g ready b take r d clean named current
    rw [exec_syncWait ready, Dev.syncWait_remote (Dev.handle_remote clean named current), State.replied_ite]
    exact (congrArg _ (ite_not _ _ _)).symm

end Sys2Proof.Machine
end

section
/-! Tables of a step program (R434 to R436, R464 to R466, R497): what each command does from the program or table that its handle names, and
O20 put together from that. -/
namespace Sys2Proof.Machine

section
variable {s : State} {c : Fin 16} {k : Fin 8}

theorem exec_xchLoad (ready : Ready s c k 0x28) :
    exec (.xchLoad c k) s = .next (s.replied c k ((s.dev.begun c k).xchLoad c k)) := State.to_serveOp ready _

theorem exec_xchUnload (ready : Ready s c k 0x29) :
    exec (.xchUnload c k) s = .next (s.replied c k ((s.dev.begun c k).xchUnload c k)) := State.to_serveOp ready _

theorem exec_updSet (ready : Ready s c k 0x2A) :
    exec (.updSet c k) s = .next (s.replied c k ((s.dev.begun c k).updSet c k)) := State.to_serveOp ready _

theorem exec_wchLoad (ready : Ready s c k 0x2B) :
    exec (.wchLoad c k) s = .next (s.replied c k ((s.dev.begun c k).wchLoad c k)) := State.to_serveOp ready _

theorem exec_wchUnload (ready : Ready s c k 0x2C) :
    exec (.wchUnload c k) s = .next (s.replied c k ((s.dev.begun c k).wchUnload c k)) := State.to_serveOp ready _

theorem exec_recPolicyLoad (ready : Ready s c k 0x60) :
    exec (.recPolicyLoad c k) s = .next (s.replied c k ((s.dev.begun c k).policyLoad c k)) := State.to_serveOp ready _

theorem exec_replayDiag (ready : Ready s c k 0x6A) :
    exec (.replayDiag c k) s = .next (s.replied c k ((s.dev.begun c k).replayDiag c k)) := State.to_serveOp ready _

end

variable {d : Dev} {c k : Nat} {x : XchTable}

/-- The program that a command's handle names (R333). -/
abbrev Dev.cmdProgram (d : Dev) (c k : Nat) : Option Program := Tbl.find d.programs (progKey c (bits (d.cmd c k 1) 1 0))

/-- The module with the record of that program changed. -/
abbrev Dev.modCmdProgram (d : Dev) (c k : Nat) (f : Program → Program) : Dev := d.modProgram (progKey c (bits (d.cmd c k 1) 1 0)) f

/-- A run of that program is queued or running. -/
abbrev Dev.cmdRuns (d : Dev) (c k : Nat) : Bool := d.hasRun c (bits (d.cmd c k 1) 1 0)

/-! ### Tables attached to a program and detached from it (R434, R435, R464, R465, R497) -/

section
variable {p : Program} (loaded : d.cmdProgram c k = some p)
include loaded

theorem Dev.xchLoad_refused {st : Status} (clean : d.argsClean c k [3, mWord, mHigh, mWord] = true)
    (refused : d.xchCheck p (d.cmd48 c k 2) (d.cmd c k 4) = some st) : d.xchLoad c k = (.st st, d) := by
  simp only [Dev.xchLoad, loaded, clean, refused, Bool.not_true, Bool.false_eq_true, if_false]

theorem Dev.xchLoad_passed (clean : d.argsClean c k [3, mWord, mHigh, mWord] = true)
    (passed : d.xchCheck p (d.cmd48 c k 2) (d.cmd c k 4) = none) :
    let x := d.readXch (d.cmd48 c k 2)
    d.xchLoad c k =
      if d.cmdRuns c k = true ∨ p.xch.isSome = true then (.st .busy, d)
      else (.st .ok, (d.modCmdProgram c k (fun p => { p with xch := some x })).copiesReturn x) := by
  simp only [Dev.xchLoad, loaded, clean, passed, Bool.not_true, Bool.false_eq_true, if_false, Bool.or_eq_true]

theorem Dev.wchLoad_eq :
    let a := d.cmd48 c k 2
    d.wchLoad c k =
      if d.argsClean c k [3, mWord, mHigh, mWord] = false ∨ d.wchOk p a (d.cmd c k 4) = false then (.st .badArg, d)
      else if d.cmdRuns c k = true ∨ p.wch.isSome = true then (.st .busy, d)
      else (.st .ok, d.modCmdProgram c k (fun p => { p with wch := some ⟨a⟩ })) := by
  simp only [Dev.wchLoad, loaded, Bool.or_eq_true, Bool.not_eq_true']

end

theorem Dev.xchUnload_eq (d : Dev) (c k : Nat) :
    d.xchUnload c k =
      if d.argsClean c k [3] = false ∨ (d.cmdProgram c k).bind (·.xch) = none then (.st .badArg, d)
      else if d.cmdRuns c k then (.st .busy, d)
      else (.st .ok, d.modCmdProgram c k (fun p => { p with xch := none })) := by
  unfold Dev.xchUnload
  cases attached : (d.cmdProgram c k).bind (·.xch) with
  | none => simp [attached]
  | some x => simp only [attached, Bool.not_eq_true', reduceCtorEq, or_false]

theorem Dev.wchUnload_eq (d : Dev) (c k : Nat) :
    d.wchUnload c k =
      if d.argsClean c k [3] = false ∨ (d.cmdProgram c k).bind (·.wch) = none then (.st .badArg, d)
      else if d.cmdRuns c k then (.st .busy, d)
      else (.st .ok, d.modCmdProgram c k (fun p => { p with wch := none })) := by
  unfold Dev.wchUnload
  cases attached : (d.cmdProgram c k).bind (·.wch) with
  | none => simp [attached]
  | some w => simp only [attached, Bool.not_eq_true', reduceCtorEq, or_false]

theorem Dev.policyLoad_eq (attached : (d.cmdProgram c k).bind (·.xch) = some x) (clean : d.argsClean c k [3, mWord, mHigh, mWord] = true) :
    let a := d.cmd48 c k 2
    let pol := d.readPolicy a
    let len := d.cmd c k 4
    d.policyLoad c k =
      if a % 64 ≠ 0 ∨ len < 64 ∨ inMemory a len = false ∨ len < 64 + 32 * pol.entries.length ∨ pol.ok x d.nodeId = false then
        (.st .badArg, d)
      else if d.cmdRuns c k then (.st .busy, d)
      else (.st .ok, { d.modCmdProgram c k (fun p => { p with policy := some pol }) with
        slotStamps := d.slotStamps.filter (fun e => !(pol.entries.map (fun e => bits (nth e 0) 63 32)).contains e.tensor) }) := by
  simp only [Dev.policyLoad, attached, clean, Bool.not_true, Bool.false_or, Bool.or_eq_true, decide_eq_true_eq, Bool.not_eq_true',
    or_assoc]

/-! ### UPD_SET (R436) -/

/-- The words that UPD_SET gives a tensor: those pending, or else its own, with the command's fields replaced. -/
abbrev Dev.updWords (d : Dev) (c k : Nat) (x : XchTable) (i : Nat) : List Nat :=
  updFields (bits (d.cmd c k 1) 12 8) (fun f => d.cmd c k (4 + f)) ((Tbl.find x.pending i).getD (x.tensors.getD i ⟨[]⟩).words)

theorem Dev.updSet_eq (attached : (d.cmdProgram c k).bind (·.xch) = some x)
    (clean : d.argsClean c k [3 + 31 * 256, mHigh, mHigh, mWord, mWord, mWord, mWord, mWord] = true) :
    let first := bits (d.cmd c k 2) 15 0
    let count := bits (d.cmd c k 3) 15 0
    let new := (List.range count).map (fun j => (first + j, d.updWords c k x (first + j)))
    d.updSet c k =
      if x.tensors.length < first + count ∨ new.any (fun e => let t : XchTensor := ⟨e.2⟩; !hyperOk t.rule t.eta t.lambda t.beta t.theta) then
        (.st .badArg, d)
      else if count = 0 ∨ bits (d.cmd c k 1) 12 8 = 0 then (.st .okZeroWork, d)
      else (.st .ok, d.modCmdProgram c k (fun p => { p with xch := p.xch.map (fun x => { x with
        pending := new.foldl (fun m e => Tbl.put m e.1 e.2) x.pending }) })) := by
  simp only [Dev.updSet, attached, clean, Bool.not_true, Bool.false_or, Bool.or_eq_true, decide_eq_true_eq]

/-! ### REPLAY_DIAG (R466) -/

/-- The entries of a context in the journal of an exchange table (R419, R466). -/
def Dev.journalEntries (d : Dev) (c : Nat) (x : XchTable) : List (List Nat) :=
  let ring := bits (nth x.header 2) 47 0 / 64
  (d.ringEntries (bits (nth x.header 1) 47 0) ring (d.word UPD_JOURNAL_KEEP 0) (d.word UPD_JOURNAL_HEAD 0)
    (2 * ring + 2)).filter (fun e => entryCtx e == c)

/-- R466: the answer on the entries found for the steps named: BAD_ARG where one is missing, CHECK_FAILED where one is not sound, else the two
CRC-32 (log entry 29: its conventions are presumed) of the copy that they were applied to. -/
def Dev.replayAnswer (d : Dev) (c k : Nat) (x : XchTable) : Option (List (List Nat)) → Reply × Dev
  | none => (.st .badArg, d)
  | some l =>
    let src := d.cmd48 c k 3
    let dst := d.cmd48 c k 5
    let places := (x.layout d.nodeId dst).1
    let e := l.foldl (fun (d : Dev) b => d.applyEntry places b) (d.copyBytes (devCell src) (devCell dst) (x.layout d.nodeId dst).2)
    if l.any (fun b => !entryCrcOk b || (sectionsOf (b.drop 64) (entrySections b)).any (fun h => !x.ownsSection d.nodeId h.1)) then
      (.st .checkFailed, d)
    else
      (.done .ok [bits (d.cmd c k 1) 23 8, crc32 (places.flatMap (fun (_, n, m, _, _) => e.bytes (devCell m) (4 * n))),
        crc32 (places.flatMap (fun (_, n, _, mom, plane) =>
          if mom = plane then [] else e.bytes (devCell mom) n ++ e.bytes (devCell plane) ((n + 31) / 32)))], e)

/-- R466: with lawful arguments and no run, the entries found for the steps named decide the answer. -/
theorem Dev.replayDiag_lawful (attached : (d.cmdProgram c k).bind (·.xch) = some x) {found : Option (List (List Nat))} :
    let count := bits (d.cmd c k 1) 23 8
    let src := d.cmd48 c k 3
    let dst := d.cmd48 c k 5
    let len := (x.layout d.nodeId dst).2
    d.argsClean c k [3 + 0xFFFF * 256, mWord, mWord, mHigh, mWord, mHigh] = true → src % 64 = 0 → dst % 64 = 0 →
    inMemory src len = true → inMemory dst len = true → (dst + len ≤ src ∨ src + len ≤ dst) → d.runs = [] →
    stepEntries (d.journalEntries c x) (d.cmd c k 2) count = found →
    d.replayDiag c k = if count = 0 then (.st .okZeroWork, d) else d.replayAnswer c k x found := by
  intro count src dst len clean src_aligned dst_aligned src_inside dst_inside apart idle entries
  have disjoint : (decide (src < dst + len) && decide (dst < src + len)) = false := by
    simp only [Bool.and_eq_false_iff, decide_eq_false_iff_not, Nat.not_lt]; exact apart
  simp only [src, dst, len, count, Dev.journalEntries] at *
  simp only [Dev.replayDiag, attached, clean, src_aligned, dst_aligned, src_inside, dst_inside, disjoint, idle, entries, ne_eq, not_true,
    decide_false, Bool.not_true, Bool.or_false, Bool.false_eq_true, if_false]
  cases found with
  | none => rfl
  | some l => rfl

/-! ### O20 -/

/-- Settles O20: each command's reply on the begun module, from the program or the table that its handle names. -/
theorem tableCommandsTakeEffect : Obligations.TableCommandsTakeEffect := by
  unfold Obligations.TableCommandsTakeEffect
  refine ⟨⟨?xchLoad, ?xchUnload, ?wchLoad, ?wchUnload, ?policy⟩, ?update, ?replay⟩
  case xchLoad =>
    intro s c k p ready b h a loaded clean
    rw [exec_xchLoad ready]
    cases check : b.xchCheck p a (b.cmd c k 4) with
    | some st => rw [Dev.xchLoad_refused loaded clean check]; rfl
    | none => rw [Dev.xchLoad_passed loaded clean check, State.replied_ite]; rfl
  case xchUnload =>
    intro s c k ready b h
    rw [exec_xchUnload ready, Dev.xchUnload_eq, State.replied_ite, State.replied_ite]
    rfl
  case wchLoad =>
    intro s c k p ready b h a loaded
    rw [exec_wchLoad ready, Dev.wchLoad_eq loaded, State.replied_ite, State.replied_ite]
    rfl
  case wchUnload =>
    intro s c k ready b h
    rw [exec_wchUnload ready, Dev.wchUnload_eq, State.replied_ite, State.replied_ite]
    rfl
  case policy =>
    intro s c k x ready b h a pol len attached clean
    rw [exec_recPolicyLoad ready, Dev.policyLoad_eq attached clean, State.replied_ite, State.replied_ite]
    rfl
  case update =>
    intro s c k x ready b h fields first count now new attached clean
    rw [exec_updSet ready, Dev.updSet_eq attached clean, State.replied_ite, State.replied_ite]
    rfl
  case replay =>
    intro s c k x ready b count src dst places len ring entries attached clean src_aligned dst_aligned src_inside dst_inside apart idle
    rw [exec_replayDiag ready]
    cases found : stepEntries entries (b.cmd c k 2) count with
    | none =>
      rw [Dev.replayDiag_lawful attached clean src_aligned dst_aligned src_inside dst_inside apart idle found, State.replied_ite]
      rfl
    | some l =>
      rw [Dev.replayDiag_lawful attached clean src_aligned dst_aligned src_inside dst_inside apart idle found, State.replied_ite,
        Dev.replayAnswer, State.replied_ite]
      rfl

end Sys2Proof.Machine
end

section
/-! Packets that a port has accepted (R585 to R595, R601): each row takes in the packets of its own kind, what becomes of one that is taken in,
and O56 put together from that. -/
namespace Sys2Proof.Machine

/-! ### Where an accepted packet goes (R585, R587, R594, R595, R601) -/

/-- A port in UP has accepted a packet that is well formed. -/
structure Dev.Accepts (d : Dev) (port : Nat) (p : Packet) : Prop where
  running : d.portsRun = true
  up : d.portState port = pUp
  lawful : p.lawful p.dflits = true

section
variable {d : Dev} {port : Nat} {p : Packet}

theorem Dev.lands.accepts (lands : d.lands port p) : d.Accepts port p := by
  obtain ⟨running, up, lawful, -⟩ := lands
  exact ⟨running, up, lawful⟩

theorem Dev.Accepts.receives (accepts : d.Accepts port p) (m : MgmtContent) {mine : Packet → Bool} (own : mine p = true) :
    d.accepted_ port p m mine = d.receive port p m := by
  obtain ⟨running, up, lawful⟩ := accepts
  simp only [Dev.accepted_, running, up, lawful, own, decide_true, Bool.and_true, if_true]

theorem Dev.receive_node {n : Nat} (m : MgmtContent) (named : d.node = some n) :
    d.receive port p m =
      if d.suspended port = true ∧ ¬ (p.cls = 5 ∧ p.dst = n) then
        ((d.freeBuffer port p).count FUR_SUSP_DROP_CNT_COUNT port 0).answerTo p .routeSuspended
      else if p.dst = n then d.deliver port p m
      else d.forward port p := by
  simp only [Dev.receive, named, Bool.and_eq_true, Bool.not_eq_true', Bool.and_eq_false_iff, decide_eq_false_iff_not,
    Decidable.not_and_iff_not_or_not]

/-- A packet for this module goes to the unit of its type. -/
theorem Dev.lands.receive (lands : d.lands port p) (m : MgmtContent) : d.receive port p m = d.taken port p (d.takePacket port p m) := by
  obtain ⟨-, -, -, named, open_⟩ := lands
  rw [Dev.receive_node m named, if_neg (by simp [open_]), if_pos rfl]
  rfl

end

/-! ### The rows of the packets' kinds -/

/-- The row of the opcode table that takes in an accepted packet, by the packet's type, and by its OP (R592) or message type (R414). -/
inductive PacketRow (port : Fin 8) (p : Packet) : Instr → MgmtContent → Prop
  | memWr (typ : p.typ = tyMemWr) : PacketRow port p (.memWrReceived port p) .other
  | memRd (typ : p.typ = tyMemRd) : PacketRow port p (.memRdReceived port p) .other
  | memCpl (typ : p.typ = tyMemCpl) : PacketRow port p (.memCplReceived port p) .other
  | delivery (typ : p.typ = tyDelivery) : PacketRow port p (.deliveryReceived port p) .other
  | reset (typ : p.typ = tyReset) : PacketRow port p (.resetReqReceived port p) .other
  | mgmt (typ : p.typ = tyMgmt) (m : MgmtContent) : PacketRow port p (.mgmtMsgReceived port p m) m
  | signal (typ : p.typ = tySync) (op : p.op = 1) : PacketRow port p (.syncOpSignal port p) .other
  | wait (typ : p.typ = tySync) (op : p.op = 2) : PacketRow port p (.syncOpWait port p) .other
  | release (typ : p.typ = tySync) (op : p.op = 3) : PacketRow port p (.syncOpRelease port p) .other
  | withdraw (typ : p.typ = tySync) (op : p.op = 4) : PacketRow port p (.syncOpWithdraw port p) .other
  | barrier (typ : p.typ = tySync) (op : p.op = 5) : PacketRow port p (.barrierSignal port p) .other
  | outcome (typ : p.typ = tySync) (op : p.op = 6) : PacketRow port p (.barrierOutcome (some (port, p))) .other
  | probe (typ : p.typ = tySync) (op : p.op = 7) : PacketRow port p (.mapProbe port p) .other
  | reply (typ : p.typ = tySync) (op : p.op = 8) : PacketRow port p (.probeReply port p) .other
  | contribution (typ : p.typ = tyExch) (kind : nth p.body 0 ≠ 3) : PacketRow port p (.exchContributionReceived port p) .other
  | workingCopy (typ : p.typ = tyExch) (kind : nth p.body 0 = 3) : PacketRow port p (.workingCopyReceived port p) .other

variable {s : State} {port : Fin 8} {p : Packet} {i : Instr} {m : MgmtContent}

theorem isType_of {t : Nat} (typ : p.typ = t) : isType t p = true := beq_iff_eq.2 typ

theorem isSyncOp_of {op : Nat} (typ : p.typ = tySync) (same : p.op = op) : isSyncOp op p = true :=
  Bool.and_eq_true_iff.2 ⟨beq_iff_eq.2 typ, beq_iff_eq.2 same⟩

theorem isContribution_of (typ : p.typ = tyExch) (kind : nth p.body 0 ≠ 3) : isContribution p = true :=
  Bool.and_eq_true_iff.2 ⟨beq_iff_eq.2 typ, bne_iff_ne.2 kind⟩

theorem isWorkingCopy_of (typ : p.typ = tyExch) (kind : nth p.body 0 = 3) : isWorkingCopy p = true :=
  Bool.and_eq_true_iff.2 ⟨beq_iff_eq.2 typ, beq_iff_eq.2 kind⟩

theorem PacketRow.exec_receives (row : PacketRow port p i m) (accepts : s.dev.Accepts port p) :
    exec i s = .next (s.withDev (s.dev.receive port p m)) := by
  cases row with
  | memWr typ | memRd typ | memCpl typ | delivery typ | reset typ | mgmt typ => exact s.to_eq (accepts.receives _ (isType_of typ))
  | signal typ op | wait typ op | release typ op | withdraw typ op | barrier typ op | outcome typ op | probe typ op | reply typ op =>
    exact s.to_eq (accepts.receives _ (isSyncOp_of typ op))
  | contribution typ kind => exact s.to_eq (accepts.receives _ (isContribution_of typ kind))
  | workingCopy typ kind => exact s.to_eq (accepts.receives _ (isWorkingCopy_of typ kind))

theorem PacketRow.exec_taken (row : PacketRow port p i m) (lands : s.dev.lands port p) {e : Dev}
    (taken : s.dev.takePacket port p m = e) : exec i s = .next (s.withDev (s.dev.taken port p e)) := by
  rw [row.exec_receives lands.accepts, lands.receive, taken]

/-! ### What the units do with a packet, by its type (R586), and the hub with one of its OPs (R592) -/

section
variable {d : Dev} {port : Nat}

theorem Dev.takePacket_memWr (typ : p.typ = tyMemWr) : d.takePacket port p m = d.memWrite p := by rw [Dev.takePacket, typ]; rfl

theorem Dev.takePacket_memRd (typ : p.typ = tyMemRd) : d.takePacket port p m = d.memRead p := by rw [Dev.takePacket, typ]; rfl

theorem Dev.takePacket_memCpl (typ : p.typ = tyMemCpl) : d.takePacket port p m = d.memCompletion p := by rw [Dev.takePacket, typ]; rfl

theorem Dev.takePacket_delivery (typ : p.typ = tyDelivery) : d.takePacket port p m = d.deliveryPairs p := by rw [Dev.takePacket, typ]; rfl

theorem Dev.takePacket_reset (typ : p.typ = tyReset) : d.takePacket port p m = d.resetRequest p := by rw [Dev.takePacket, typ]; rfl

theorem Dev.takePacket_mgmt (typ : p.typ = tyMgmt) : d.takePacket port p m = d.mgmtMessage p m := by rw [Dev.takePacket, typ]; rfl

theorem Dev.takePacket_sync (typ : p.typ = tySync) : d.takePacket port p m = d.syncOp port p := by rw [Dev.takePacket, typ]; rfl

theorem Dev.takePacket_exch (typ : p.typ = tyExch) : d.takePacket port p m = d.exchArrives port p := by rw [Dev.takePacket, typ]; rfl

theorem Dev.syncOp_signal (op : p.op = 1) : d.syncOp port p = (d.opSignal port p).addPair p.src p.ttag .ok := by rw [Dev.syncOp, op]; rfl

theorem Dev.syncOp_wait (op : p.op = 2) : d.syncOp port p = (d.opWait p).addPair p.src p.ttag .ok := by rw [Dev.syncOp, op]; rfl

theorem Dev.syncOp_release (op : p.op = 3) : d.syncOp port p = (d.opRelease p).addPair p.src p.ttag .ok := by rw [Dev.syncOp, op]; rfl

theorem Dev.syncOp_withdraw (op : p.op = 4) : d.syncOp port p = (d.opWithdraw p).addPair p.src p.ttag .ok := by rw [Dev.syncOp, op]; rfl

theorem Dev.syncOp_barrier (op : p.op = 5) : d.syncOp port p = (d.opBarrier p).addPair p.src p.ttag .ok := by rw [Dev.syncOp, op]; rfl

theorem Dev.syncOp_outcome (op : p.op = 6) : d.syncOp port p = (d.opOutcome p).addPair p.src p.ttag .ok := by rw [Dev.syncOp, op]; rfl

theorem Dev.syncOp_probe (op : p.op = 7) : d.syncOp port p = (d.opProbe p).addPair p.src p.ttag .ok := by rw [Dev.syncOp, op]; rfl

theorem Dev.syncOp_reply (op : p.op = 8) : d.syncOp port p = (d.opReply p).addPair p.src p.ttag .ok := by rw [Dev.syncOp, op]; rfl

/-- R389: an outcome of the running program's barrier. -/
theorem Dev.opOutcome_ours (ours : d.barrierRef = .remote p.src p.octx p.vid p.gen) :
    d.opOutcome p = d.barrierOutcome (some ⟨nth p.body 12, p.step, p.attempt⟩) := if_pos ours

/-- R397: a reply to the probe of a mailbox slot. -/
theorem Dev.opReply_mailbox (slot : waiterKind p.waiter = 2) :
    d.opReply p = d.probeReply (bits p.waiter 19 16) (bits p.waiter 2 0) p.opStatus := if_pos slot

/-- R589: a read that a window allows is answered with the data. -/
theorem Dev.memRead_allowed (allowed : d.windowAllows p.src p.addr p.length false = true) :
    d.memRead p = (d.originate { typ := tyMemCpl, dst := p.src, src := 0, ttag := p.ttag, length := p.length, addr := p.addr, status := 0
                                 body := d.bytes (devCell p.addr) p.length } .forgotten false).2 := if_pos allowed

/-- R643, R698: with a good credential the reset asked for begins; log entry 83: one of neither kind is answered OK and resets nothing. -/
theorem Dev.resetRequest_good (good : d.credentialOk (p.body.drop 192) (nth p.body 0) (nth p.body 1) = true) :
    let e := ((d.takeCounter (p.body.drop 192)).addPair p.src p.ttag .ok).sendPairs p.src
    d.resetRequest p =
      if nth p.body 0 = 1 then e.deviceReset 0x08
      else if nth p.body 0 = 2 ∧ nth p.body 1 < 16 then e.contextReset (nth p.body 1) 0x13 else e := if_pos good

theorem Dev.resetRequest_bad (bad : d.credentialOk (p.body.drop 192) (nth p.body 0) (nth p.body 1) = false) :
    d.resetRequest p =
      ((d.addPair p.src p.ttag .authFailed).authFail 3 p.src).hostEvent srcReset 0x0706 .authFailed none
        (leBytes 2 p.src ++ [Status.authFailed.code]) := if_neg (by simp [bad])

theorem Dev.exchArrives_open (open_ : d.on FLT_ISO_X_XCH 0 = false) :
    d.exchArrives port p =
      (if nth p.body 0 = 3 then d.copyArrives (2 * port + p.sub) p.body else d.contributionArrives p.body).addPair p.src p.ttag .ok :=
  if_neg (by simp [open_])

end

/-! ### O56 -/

/-- Settles O56: the row takes the packet in, and where it is for this module the unit of its type acts on it. -/
theorem packetsAreDelivered : Obligations.PacketsAreDelivered := by
  unfold Obligations.PacketsAreDelivered
  refine ⟨?anywhere, ?here, ?units⟩
  case anywhere =>
    intro s i port p m n kind running up lawful named
    have row : PacketRow port p i m := by
      obtain ⟨rfl, ⟨rfl, typ⟩ | ⟨rfl, typ⟩ | ⟨rfl, typ⟩ | ⟨rfl, typ⟩ | ⟨rfl, typ⟩ | ⟨rfl, typ, op⟩ | ⟨rfl, typ, op⟩ | ⟨rfl, typ, op⟩
        | ⟨rfl, typ, op⟩ | ⟨rfl, typ, op⟩ | ⟨rfl, typ, op⟩ | ⟨rfl, typ, op⟩ | ⟨rfl, typ, op⟩ | ⟨rfl, typ, kind⟩ | ⟨rfl, typ, kind⟩⟩
        | ⟨rfl, typ⟩ := kind
      · exact .memWr typ
      · exact .memRd typ
      · exact .memCpl typ
      · exact .delivery typ
      · exact .reset typ
      · exact .signal typ op
      · exact .wait typ op
      · exact .release typ op
      · exact .withdraw typ op
      · exact .barrier typ op
      · exact .outcome typ op
      · exact .probe typ op
      · exact .reply typ op
      · exact .contribution typ kind
      · exact .workingCopy typ kind
      · exact .mgmt typ m
    rw [row.exec_receives ⟨running, up, lawful⟩, Dev.receive_node m named]
    rfl
  case here =>
    intro s port p lands
    refine ⟨fun typ => ?write, fun typ allowed => ?read, fun typ => ?completion, fun typ => ?delivery, fun typ good => ?reset,
      fun typ bad => ?refused, fun m typ => ?mgmt⟩
    case write => exact (PacketRow.memWr typ).exec_taken lands (Dev.takePacket_memWr typ)
    case read => exact (PacketRow.memRd typ).exec_taken lands ((Dev.takePacket_memRd typ).trans (Dev.memRead_allowed allowed))
    case completion => exact (PacketRow.memCpl typ).exec_taken lands (Dev.takePacket_memCpl typ)
    case delivery => exact (PacketRow.delivery typ).exec_taken lands (Dev.takePacket_delivery typ)
    case reset => exact (PacketRow.reset typ).exec_taken lands ((Dev.takePacket_reset typ).trans (Dev.resetRequest_good good))
    case refused => exact (PacketRow.reset typ).exec_taken lands ((Dev.takePacket_reset typ).trans (Dev.resetRequest_bad bad))
    case mgmt => exact (PacketRow.mgmt typ m).exec_taken lands (Dev.takePacket_mgmt typ)
  case units =>
    intro s port p lands
    refine ⟨fun typ => ?hub, fun typ open_ => ⟨fun kind => ?contribution, fun kind => ?copy⟩⟩
    case hub =>
      have hub {e : Dev} (acts : s.dev.syncOp port p = e) : s.dev.takePacket port p .other = e := (Dev.takePacket_sync typ).trans acts
      refine ⟨fun op => ?signal, fun op => ?wait, fun op => ?release, fun op => ?withdraw, fun op => ?barrier, fun op ours => ?outcome,
        fun op => ?probe, fun op slot => ?reply⟩
      case signal => exact (PacketRow.signal typ op).exec_taken lands (hub (Dev.syncOp_signal op))
      case wait => exact (PacketRow.wait typ op).exec_taken lands (hub (Dev.syncOp_wait op))
      case release => exact (PacketRow.release typ op).exec_taken lands (hub (Dev.syncOp_release op))
      case withdraw => exact (PacketRow.withdraw typ op).exec_taken lands (hub (Dev.syncOp_withdraw op))
      case barrier => exact (PacketRow.barrier typ op).exec_taken lands (hub (Dev.syncOp_barrier op))
      case outcome =>
        rw [(PacketRow.outcome typ op).exec_taken lands (hub (Dev.syncOp_outcome op)), Dev.opOutcome_ours ours]
      case probe => exact (PacketRow.probe typ op).exec_taken lands (hub (Dev.syncOp_probe op))
      case reply =>
        rw [(PacketRow.reply typ op).exec_taken lands (hub (Dev.syncOp_reply op)), Dev.opReply_mailbox slot]
    case contribution =>
      rw [(PacketRow.contribution typ kind).exec_taken lands ((Dev.takePacket_exch typ).trans (Dev.exchArrives_open open_)), if_neg kind]
    case copy =>
      rw [(PacketRow.workingCopy typ kind).exec_taken lands ((Dev.takePacket_exch typ).trans (Dev.exchArrives_open open_)), if_pos kind]

end Sys2Proof.Machine
end

section
/-! What the charge of a failed sample leaves of the samples' results (R458), through the log, retirement and the releases that follow it. A
charge may retire an array, and what the array's tensor releases may post waits on local counters of any number; their fields lie below
RESULT, so that even a counter with the place of a WCH_SAMPLE leaves it. -/
namespace Sys2Proof.Machine

/-! ### Writes that leave the results of samples -/

/-- `e` comes from `d` by work that leaves the RESULT of every Peck's sample and whether a sample of the attempt failed. -/
structure Dev.KeepsSamples (d e : Dev) : Prop where
  ok : d.regsOk → e.regsOk
  result : d.regsOk → ∀ p < 128, e.rd WCH_SAMPLE_RESULT p = d.rd WCH_SAMPLE_RESULT p
  failed : e.attempt.map Attempt.sampleFail = d.attempt.map Attempt.sampleFail

variable {d e e' : Dev}

theorem Dev.KeepsSamples.trans (h : d.KeepsSamples e) (h' : e.KeepsSamples e') : d.KeepsSamples e' where
  ok ok := h'.ok (h.ok ok)
  result ok p lt := (h'.result (h.ok ok) p lt).trans (h.result ok p lt)
  failed := h'.failed.trans h.failed

/-- Work on other parts of the state. -/
theorem Dev.KeepsSamples.of_same {d e : Dev} (regs : e.regs = d.regs) (attempt : e.attempt = d.attempt) : d.KeepsSamples e where
  ok ok := by rwa [Dev.regsOk, regs]
  result _ p _ := by rw [Dev.rd, Dev.word, regs]; rfl
  failed := by rw [attempt]

theorem Dev.KeepsSamples.refl (d : Dev) : d.KeepsSamples d := .of_same rfl rfl

/-- Work on other parts of the state, after work that keeps the results. -/
theorem Dev.KeepsSamples.still (h : d.KeepsSamples e) (regs : e'.regs = e.regs) (attempt : e'.attempt = e.attempt) :
    d.KeepsSamples e' := h.trans (.of_same regs attempt)

theorem Dev.KeepsSamples.ite {p : Prop} [Decidable p] (h : d.KeepsSamples e) (h' : d.KeepsSamples e') :
    d.KeepsSamples (if p then e else e') := by
  split
  · exact h
  · exact h'

theorem Dev.KeepsSamples.foldl {α : Type} (f : Dev → α → Dev) (step : ∀ (d : Dev) (x : α), d.KeepsSamples (f d x)) (xs : List α)
    (d : Dev) : d.KeepsSamples (xs.foldl f d) :=
  List.foldlRecOn (motive := d.KeepsSamples) xs f (.refl d) (fun e so_far x _ => so_far.trans (step e x))

/-- Units are 4 MiB apart or more: within those, a register elsewhere never has the place of a WCH_SAMPLE. -/
theorem sample_key_ne {r : Reg} (away : r.base % 2 ^ 22 ≠ WCH_SAMPLE.base) (p u : Nat) : WCH_SAMPLE.key p ≠ r.key u := by
  have sample : WCH_SAMPLE.key p % 2 ^ 22 = WCH_SAMPLE.base := by simp only [Reg.key, WCH_SAMPLE, Scope.lvl, Scope.shift]; omega
  have other : r.key u % 2 ^ 22 = r.base % 2 ^ 22 := by
    cases scope : r.scope <;> simp only [Reg.key, scope, Scope.lvl, Scope.shift] <;> omega
  intro same
  exact away (other.symm.trans (same ▸ sample))

/-- A register above the Pecks' level lies above every WCH_SAMPLE. -/
theorem sample_key_ne_above {r : Reg} (above : 0 < r.scope.lvl) {p : Nat} (lt : p < 128) (u n k : Nat) :
    WCH_SAMPLE.key p ≠ r.key u n k := by
  have sample : WCH_SAMPLE.key p < 2 ^ 40 := by simp only [Reg.key, WCH_SAMPLE, Scope.lvl, Scope.shift]; omega
  have other : 2 ^ 40 ≤ r.key u n k := by unfold Reg.key; omega
  omega

/-- Two registers at one place, of one reset word, hold one word. -/
theorem Dev.word_same_place (d : Dev) {r r' : Reg} {u n k u' n' k' : Nat} (key : r'.key u' n' k' = r.key u n k)
    (reset : r'.resetAt n' k' = r.resetAt n k) : d.word r' u' n' k' = d.word r u n k := by
  rw [Dev.word, key, reset, Dev.word]

theorem Dev.KeepsSamples.setWord (h : d.KeepsSamples e) (r : Reg) (u v : Nat)
    (away : r.base % 2 ^ 22 ≠ WCH_SAMPLE.base := by decide) : d.KeepsSamples (e.setWord r u 0 0 v) :=
  h.trans {
    ok := fun ok => Dev.regsOk_setWord ok r u 0 0 v
    result := fun ok p _ => by
      unfold Dev.rd
      exact congrArg (bits · 31 30) (Dev.word_setWord_other ok r WCH_SAMPLE u 0 0 v p 0 0 (sample_key_ne away p u))
    failed := rfl }

theorem Dev.KeepsSamples.wr (h : d.KeepsSamples e) (f : Fld) (u v : Nat)
    (away : f.reg.base % 2 ^ 22 ≠ WCH_SAMPLE.base := by decide) : d.KeepsSamples (e.wr f u 0 0 v) := h.setWord f.reg u _ away

theorem Dev.KeepsSamples.wr_above (h : d.KeepsSamples e) (f : Fld) (u n k v : Nat) (above : 0 < f.reg.scope.lvl := by decide) :
    d.KeepsSamples (e.wr f u n k v) :=
  h.trans {
    ok := fun ok => Dev.regsOk_wr ok f u n k v
    result := fun ok _ lt => Dev.rd_wr_other ok f WCH_SAMPLE_RESULT u n k v _ 0 0 (sample_key_ne_above above lt u n k)
    failed := rfl }

/-- The register resets to 0 wherever it stands. -/
def Reg.resetsToZero (r : Reg) : Bool :=
  decide (r.base ≠ CNV_SEQ_ACTIVE.base ∧ r.base ≠ CNV_MON_ENTRY.base ∧ r.base ≠ CNV_MON_ACTIVE.base ∧ r.fieldsReset = 0)

theorem Reg.resetAt_zero {r : Reg} (zero : r.resetsToZero = true) (n k : Nat) : r.resetAt n k = 0 := by
  obtain ⟨sequence, entry, table, fields⟩ := of_decide_eq_true zero
  rw [Reg.resetAt, if_neg (fun h => sequence h.2), if_neg (fun h => h.2.elim entry table), fields]

/-- A field below RESULT of a register that resets to 0 leaves RESULT even where the register has the place of a WCH_SAMPLE. -/
theorem Dev.KeepsSamples.wr_low (h : d.KeepsSamples e) (f : Fld) (u n k v : Nat) (low : f.hi < 30 := by decide)
    (le : f.lo ≤ f.hi + 1 := by decide) (zero : f.reg.resetsToZero = true := by decide) : d.KeepsSamples (e.wr f u n k v) :=
  h.trans {
    ok := fun ok => Dev.regsOk_wr ok f u n k v
    result := fun ok p _ => by
      by_cases key : WCH_SAMPLE.key p = f.reg.key u n k
      · have place (d : Dev) : d.rd WCH_SAMPLE_RESULT p = bits (d.word f.reg u n k) 31 30 :=
          congrArg (bits · 31 30) (d.word_same_place key (Reg.resetAt_zero zero n k).symm)
        rw [place, place, Dev.wr, Dev.word_setWord_self ok, bits_setBits_other _ _ le (by decide) (.inl low)]
      · exact Dev.rd_wr_other ok f WCH_SAMPLE_RESULT u n k v p 0 0 key
    failed := rfl }

theorem Dev.KeepsSamples.count (h : d.KeepsSamples e) (f : Fld) (u m : Nat) (away : f.reg.base % 2 ^ 22 ≠ WCH_SAMPLE.base := by decide) :
    d.KeepsSamples (e.count f u 0 m) := h.wr f u _ away

theorem Dev.KeepsSamples.countWrap (h : d.KeepsSamples e) (f : Fld) (u m : Nat)
    (away : f.reg.base % 2 ^ 22 ≠ WCH_SAMPLE.base := by decide) : d.KeepsSamples (e.countWrap f u 0 m) := h.wr f u _ away

theorem Dev.KeepsSamples.modCtx (h : d.KeepsSamples e) (c : Nat) (f : CtxRec → CtxRec) : d.KeepsSamples (e.modCtx c f) := h.still rfl rfl

theorem Dev.KeepsSamples.modArr (h : d.KeepsSamples e) (a : Nat) (f : ArrayRec → ArrayRec) : d.KeepsSamples (e.modArr a f) :=
  h.still rfl rfl

theorem Dev.KeepsSamples.stir (h : d.KeepsSamples e) (p : Nat) : d.KeepsSamples (e.stir p) := h.still rfl rfl

theorem Dev.KeepsSamples.unqueue (h : d.KeepsSamples e) (a : Nat) : d.KeepsSamples (e.unqueue a) := h.still rfl rfl

theorem Dev.KeepsSamples.metaChanged (h : d.KeepsSamples e) : d.KeepsSamples e.metaChanged := h.still rfl rfl

theorem Dev.KeepsSamples.flashField (h : d.KeepsSamples e) (f : Fld) (u n : Nat) : d.KeepsSamples (e.flashField f u n) := h.still rfl rfl

/-- A change of the attempt that leaves whether a sample failed. -/
theorem Dev.KeepsSamples.modAttempt (h : d.KeepsSamples e) (f : Attempt → Attempt) (keep : ∀ a, (f a).sampleFail = a.sampleFail) :
    d.KeepsSamples (e.modAttempt f) :=
  h.trans {
    ok := id
    result := fun _ _ _ => rfl
    failed := by rw [Dev.modAttempt, Option.map_map]; exact Option.map_congr (fun a _ => keep a) }

theorem Dev.KeepsSamples.modTask (h : d.KeepsSamples e) (i : Nat) (f : TaskRun → TaskRun) : d.KeepsSamples (e.modTask i f) :=
  h.modAttempt _ (fun _ => rfl)

/-! ### The log, events, packets, slots -/

theorem Dev.writeEntry_keepsSamples (d : Dev) (x : LogEntry) : d.KeepsSamples (d.writeEntry x) :=
  ((Dev.KeepsSamples.refl d).countWrap LOG_WR_CNT_COUNT 0 1).still rfl rfl

theorem Dev.logSev_keepsSamples (d : Dev) (sev src : Nat) (ev : LogEvent) (st : Status) (host : Bool) (c : Nat) (data : List Nat) :
    d.KeepsSamples (d.logSev sev src ev st host c data) := by
  have coalesced (log : List LogEntry) : d.KeepsSamples { d with log := log } := .of_same rfl rfl
  have epoch : d.KeepsSamples (if d.rd LOG_EPOCH_EPOCH 0 = (d.micros / 2 ^ 32) % 2 ^ 32 then d else d.writeEpoch) :=
    .ite (.refl d) (((Dev.KeepsSamples.refl d).wr LOG_EPOCH_EPOCH 0 _).trans (Dev.writeEntry_keepsSamples _ _))
  unfold Dev.logSev
  refine .ite (.refl d) ?_
  dsimp only
  split
  · exact (coalesced _).count LOG_COALESCE_CNT_COUNT 0 1
  · exact epoch.trans (Dev.writeEntry_keepsSamples _ _)

theorem Dev.msix_keepsSamples (d : Dev) (c v : Nat) : d.KeepsSamples (d.msix c v) := by
  have pages := d.msix_sameButPages c v
  unfold Dev.sameButPages at pages
  exact .of_same (d.msix_regs c v) (by rw [pages])

theorem Dev.pushEvent_keepsSamples (d : Dev) (c : Nat) (x : LogEntry) : d.KeepsSamples (d.pushEvent c x) := by
  have queued (f : CtxRec → CtxRec) : d.KeepsSamples (d.modCtx c f) := .of_same rfl rfl
  unfold Dev.pushEvent
  exact .ite ((Dev.KeepsSamples.refl d).wr MBX_EVT_CTRL_OVF c 1)
    (.ite ((queued _).trans (Dev.msix_keepsSamples _ _ _)) (queued _))

theorem Dev.hostEvent_keepsSamples (d : Dev) (src code : Nat) (st : Status) (only : Option Nat) (data : List Nat) :
    d.KeepsSamples (d.hostEvent src code st only data) := by
  have deliver (d : Dev) (x : LogEntry) : d.KeepsSamples (d.deliverEvent only x) := by
    cases only with
    | some c => exact d.pushEvent_keepsSamples c x
    | none => exact .foldl _ (fun d c => d.pushEvent_keepsSamples c x) _ d
  have logged := d.logSev_keepsSamples (Config.severity code).val src (.fixed code) st true (only.getD (Config.logContext code).val) data
  unfold Dev.hostEvent
  exact .ite (logged.trans (deliver _ _)) (logged.still rfl rfl)

theorem Dev.transmit_keepsSamples (d : Dev) (p : Nat) (pk : Packet) : d.KeepsSamples (d.transmit p pk) := by
  have paid (v : Nat) : d.KeepsSamples (d.setCredits p pk.cls pk.sub v) := by
    unfold Dev.setCredits
    exact .ite ((Dev.KeepsSamples.refl d).wr_above FUR_CREDIT_SUB0 p pk.cls 0 _)
      ((Dev.KeepsSamples.refl d).wr_above FUR_CREDIT_SUB1 p pk.cls 0 _)
  exact ((paid _).wr FUR_TX_SEQ_SEQ p _).still rfl rfl

theorem Dev.pump_keepsSamples (d : Dev) (p : Nat) : d.KeepsSamples (d.pump p) := by
  unfold Dev.pump
  dsimp only
  generalize start : ((d, [], []) : Dev × List Packet × List Nat) = acc
  have from_d : d.KeepsSamples acc.1 := by subst start; exact .refl d
  clear start
  generalize (d.port p).queued = pks
  induction pks generalizing acc with
  | nil => exact from_d.still rfl rfl
  | cons pk pks ih =>
    refine ih _ ?_
    dsimp only
    split
    · exact from_d.trans (Dev.transmit_keepsSamples _ _ _)
    · exact from_d

theorem Dev.originate_keepsSamples (d : Dev) (pk : Packet) (why : Purpose) (answered : Bool) :
    d.KeepsSamples (d.originate pk why answered).2 := by
  have depart (d : Dev) (way : Option Nat) (pk : Packet) : d.KeepsSamples (d.depart way pk) := by
    cases way with
    | none => exact .of_same rfl rfl
    | some p => exact Dev.KeepsSamples.trans (e := d.modPort p _) (.of_same rfl rfl) (Dev.pump_keepsSamples _ p)
  have listed (t : Nat) (o : Outstanding) : d.KeepsSamples { d with outstanding := Tbl.put d.outstanding t o } := .of_same rfl rfl
  unfold Dev.originate
  split
  · exact .refl d
  · dsimp only
    split
    · split
      · exact .of_same rfl rfl
      · exact ((listed _ _).wr FUR_TTAG_USED_COUNT 0 _).trans (depart _ _ _)
    · exact depart _ _ _

theorem Dev.putWords_keepsSamples (d : Dev) (c k i : Nat) (ws : List Nat) : d.KeepsSamples (d.putWords c k i ws) := by
  induction ws generalizing d i with
  | nil => exact .refl d
  | cons w ws ih => exact ((Dev.KeepsSamples.refl d).wr_above MBX_RSP_WORD c k i w).trans (ih _ _)

theorem Dev.finishWaiting_keepsSamples (d : Dev) (c k : Nat) (w : SlotWait) (st : Status) (ws : List Nat) :
    d.KeepsSamples (d.finishWaiting c k w st ws) := by
  have completed (done : Nat) : d.KeepsSamples (d.completed c k st ws done) :=
    ((((d.putWords_keepsSamples c k 0 _).setWord MBX_SLOT_STATE c _).modCtx c _).wr MBX_DONE_DONE c done)
  have finished : d.KeepsSamples (d.finishSlot c k st ws) := by
    obtain ⟨done, silent | ⟨v, sent⟩⟩ := Dev.finishSlot_cases d c k st ws
    · exact silent ▸ completed done
    · exact sent ▸ (completed done).trans (Dev.msix_keepsSamples _ c v)
  exact .ite finished (.refl d)

/-! ### Objects, the barrier, waits and releases (R369 to R391) -/

theorem Dev.triggers_keepsSamples (d : Dev) (i : Nat) : d.KeepsSamples (d.triggers i) :=
  (Dev.KeepsSamples.refl d).modAttempt _ (fun a => by split <;> rfl)

theorem Dev.setObj_keepsSamples (d : Dev) (k : Nat) (o : SyncObj) : d.KeepsSamples (d.setObj k o) := .of_same rfl rfl

theorem Dev.copyBarrier_keepsSamples (d : Dev) (k : Nat) : d.KeepsSamples (d.copyBarrier k) := by
  have unsent : d.KeepsSamples { d with mirrorSent := none } := .of_same rfl rfl
  have lost : d.KeepsSamples d.mirrorLost := by
    unfold Dev.mirrorLost
    exact (unsent.wr FLT_MIRROR_STATUS_BUDDY_OK 0 0).trans (Dev.hostEvent_keepsSamples _ _ _ _ _ _)
  unfold Dev.copyBarrier
  dsimp only
  exact .ite (d.originate_keepsSamples _ _ _) lost

theorem Dev.sendOutcome_keepsSamples (d : Dev) (k : Nat) : d.KeepsSamples (d.sendOutcome k) := by
  unfold Dev.sendOutcome
  split
  · split
    · refine ((d.setObj_keepsSamples k _).trans (.foldl _ ?member _ _)).trans (.foldl _ ?waiter _ _)
      case member => exact fun d n => .ite (.of_same rfl rfl) (d.originate_keepsSamples _ _ _)
      case waiter =>
        intro d w
        split
        · exact d.finishWaiting_keepsSamples _ _ _ _ _
        · exact d.originate_keepsSamples _ _ _
        · exact .refl d
    · exact .refl d
  · exact .refl d

theorem Dev.decideBarrier_keepsSamples (d : Dev) (k : Nat) (st : Status) : d.KeepsSamples (d.decideBarrier k st) := by
  unfold Dev.decideBarrier
  split
  · split
    · exact .ite ((d.setObj_keepsSamples k _).trans (Dev.copyBarrier_keepsSamples _ k))
        ((d.setObj_keepsSamples k _).trans (Dev.sendOutcome_keepsSamples _ k))
    · exact .refl d
  · exact .refl d

theorem Dev.barrierArrive_keepsSamples (d : Dev) (k node step attempt : Nat) (cause : Status) :
    d.KeepsSamples (d.barrierArrive k node step attempt cause) := by
  unfold Dev.barrierArrive
  split
  · split
    · exact .ite ((Dev.KeepsSamples.refl d).count SYN_BARRIER_DROP_CNT_COUNT 0 1)
        (.ite ((d.setObj_keepsSamples k _).trans (Dev.decideBarrier_keepsSamples _ k _)) (d.setObj_keepsSamples k _))
    · exact .refl d
  · exact .refl d

theorem Dev.signalBarrier_keepsSamples (d : Dev) (cause : Status) : d.KeepsSamples (d.signalBarrier cause) := by
  unfold Dev.signalBarrier
  split
  · exact .refl d
  · refine .ite (.refl d) ?_
    have signalled := (Dev.KeepsSamples.refl d).modAttempt (fun x => { x with phase := .signalled }) (fun _ => rfl)
    dsimp only
    split
    · exact signalled.trans (Dev.barrierArrive_keepsSamples _ _ _ _ _ _)
    · have sent (pk : Packet) (why : Purpose) := signalled.trans (Dev.originate_keepsSamples _ pk why true)
      exact .ite (sent _ _) ((sent _ _).count SYN_REMOTE_DROP_CNT_COUNT 0 1)
    · exact signalled

theorem Dev.releaseOther_keepsSamples (d : Dev) (w : Waiter) (seen : Nat) : d.KeepsSamples (d.releaseOther w seen) := by
  unfold Dev.releaseOther
  split
  · exact .refl d
  · exact (Dev.KeepsSamples.refl d).modTask _ _
  · exact d.finishWaiting_keepsSamples _ _ _ _ _
  · exact d.originate_keepsSamples _ _ _
  · exact d.triggers_keepsSamples _

theorem Dev.KeepsSamples.setLcWait (h : d.KeepsSamples e) (p n : Nat) (ws : List Waiter) : d.KeepsSamples (e.setLcWait p n ws) := by
  have queued : d.KeepsSamples { e with lcWaiters := Tbl.set [] e.lcWaiters (lcKey p n) ws } := h.trans (.of_same rfl rfl)
  exact queued.wr_low SYN_LC_NWAIT p n 0 _

theorem Dev.withdrawTasks_keepsSamples (d : Dev) : d.KeepsSamples d.withdrawTasks := by
  have others (d : Dev) (ws : List (Waiter × Nat)) : d.KeepsSamples (ws.foldl (fun d w => d.releaseOther w.1 w.2) d) :=
    .foldl _ (fun d w => d.releaseOther_keepsSamples w.1 w.2) ws d
  have withdrawn (d : Dev) (mine : WaiterWho → Bool) : d.KeepsSamples (d.withdrawRemote mine) :=
    Dev.KeepsSamples.trans (e := d.forgetWaits mine) (.of_same rfl rfl) (.foldl _ (fun d w => d.originate_keepsSamples _ _ _) _ _)
  unfold Dev.withdrawTasks
  refine (Dev.KeepsSamples.foldl _ ?counter _ d).trans ((Dev.KeepsSamples.foldl _ ?object _ _).trans (withdrawn _ _))
  case counter => exact fun d x => (((Dev.KeepsSamples.refl d).wr_low SYN_LC_VALUE _ _ 0 _).setLcWait _ _ _).trans (others _ _)
  case object =>
    intro d x
    split
    · exact .refl d
    · exact (d.setObj_keepsSamples _ _).trans (others _ _)

theorem Dev.cutShort_keepsSamples (d : Dev) : d.KeepsSamples d.cutShort := by
  have withdrawn (f : Attempt → Attempt) (keep : ∀ a, (f a).sampleFail = a.sampleFail) :
      d.KeepsSamples ((d.modAttempt f).showRun 2).withdrawTasks :=
    (((Dev.KeepsSamples.refl d).modAttempt f keep).trans
      (.foldl _ (fun d p => (Dev.KeepsSamples.refl d).wr TSK_SCHED_STATUS_RUN p 2) _ _)).trans (Dev.withdrawTasks_keepsSamples _)
  have refused (d : Dev) : d.KeepsSamples d.refuseCut := by
    unfold Dev.refuseCut
    split
    · exact .ite (d.signalBarrier_keepsSamples _) (.refl d)
    · exact .refl d
  have cut := withdrawn (fun x => { x with phase := .cutShort, cut := true, blockFault := true }) (fun _ => rfl)
  have late := withdrawn (fun x => { x with cut := true, blockFault := true }) (fun _ => rfl)
  have marked := (Dev.KeepsSamples.refl d).modAttempt (fun x => { x with blockFault := true }) (fun _ => rfl)
  unfold Dev.cutShort
  split
  · exact .refl d
  · exact .ite (cut.trans (refused _)) (.ite late marked)

theorem Dev.postWait_keepsSamples (d : Dev) (peck : Nat) (r : ObjRef) (w : Waiter) : d.KeepsSamples (d.postWait peck r w).2 := by
  unfold Dev.postWait
  split
  · exact .refl d
  · dsimp only
    split
    · exact (Dev.KeepsSamples.refl d).wr_low SYN_LC_VALUE peck _ 0 _
    · exact (Dev.KeepsSamples.refl d).setLcWait _ _ _
  · split
    · exact .refl d
    · split
      · exact d.setObj_keepsSamples _ _
      · exact d.setObj_keepsSamples _ _
  · split
    · exact .refl d
    · have sent (pk : Packet) (why : Purpose) := d.originate_keepsSamples pk why true
      dsimp only
      split
      · exact (sent _ _).still rfl rfl
      · split
        · exact (sent _ _).trans (Dev.finishWaiting_keepsSamples _ _ _ _ _ _)
        · exact (sent _ _).trans (Dev.cutShort_keepsSamples _)

theorem Dev.postEntry_keepsSamples (d : Dev) (i : Nat) (t : TaskRun) (n : Nat) : d.KeepsSamples (d.postEntry i t n).2 := by
  unfold Dev.postEntry
  dsimp only
  split
  · split <;> next posted => exact (congrArg Prod.snd posted) ▸ d.postWait_keepsSamples _ _ _
  · exact .refl d

theorem Dev.makeReady_keepsSamples (d : Dev) (i : Nat) : d.KeepsSamples (d.makeReady i) := by
  have ready := (Dev.KeepsSamples.refl d).modTask i (fun t => { t with held0 := true, held1 := true, phase := .ready })
  have woken (d : Dev) (p : Nat) : d.KeepsSamples (d.wake p) := by
    unfold Dev.wake
    exact .ite (((Dev.KeepsSamples.refl d).wr RST_PECK_STATUS_IDLE p 0).stir p) (.refl d)
  unfold Dev.makeReady
  dsimp only
  split
  · exact ready.trans (woken _ _)
  · exact ready

theorem Dev.afterWait0_keepsSamples (d : Dev) (i : Nat) : d.KeepsSamples (d.afterWait0 i) := by
  have held := (Dev.KeepsSamples.refl d).modTask i (fun t => { t with held0 := true })
  unfold Dev.afterWait0
  dsimp only
  split
  · exact held
  · next t _ =>
    have posted := held.trans (Dev.postEntry_keepsSamples _ i t 1)
    split
    · next d2 both => rw [both] at posted; exact posted.trans (Dev.makeReady_keepsSamples d2 i)
    · next d2 waits => rw [waits] at posted; exact posted

theorem Dev.release_keepsSamples (d : Dev) (w : Waiter) (seen : Nat) : d.KeepsSamples (d.release w seen) := by
  unfold Dev.release
  split
  · split
    · exact .ite (.ite (d.makeReady_keepsSamples _) (d.afterWait0_keepsSamples _)) (.refl d)
    · exact .refl d
  · exact (Dev.KeepsSamples.refl d).modTask _ _
  · exact d.finishWaiting_keepsSamples _ _ _ _ _
  · exact d.originate_keepsSamples _ _ _
  · exact d.triggers_keepsSamples _

theorem Dev.releaseAll_keepsSamples (d : Dev) (ws : List (Waiter × Nat)) : d.KeepsSamples (d.releaseAll ws) := by
  unfold Dev.releaseAll
  exact .foldl _ (fun d w => d.release_keepsSamples w.1 w.2) ws d

theorem Dev.updateReady_keepsSamples (d : Dev) : d.KeepsSamples d.updateReady := by
  have set (d : Dev) (k v : Nat) : d.KeepsSamples (d.setReady k v) := by
    unfold Dev.setReady
    split
    · exact .refl d
    · exact .ite (.refl d) ((d.setObj_keepsSamples k _).trans (Dev.releaseAll_keepsSamples _ _))
  refine .foldl _ (fun d x => ?_) _ d
  split
  · exact .ite (set d _ _) (.refl d)
  · exact .refl d

/-! ### The charge of a failed sample (R228, R229, R458) -/

theorem Dev.setArrState_keepsSamples (d : Dev) (a st : Nat) : d.KeepsSamples (d.setArrState a st) := by
  unfold Dev.setArrState
  exact .ite (.refl d) ((Dev.KeepsSamples.refl d).wr_low ARR_STATE_STATE _ _ 0 st)

theorem Dev.retireNow_keepsSamples (d : Dev) (a cause : Nat) : d.KeepsSamples (d.retireNow a cause) := by
  have freed : d.KeepsSamples (if d.engineArray (grainOf a) = some a then d.freeEngine (grainOf a) else d) :=
    .ite (((Dev.KeepsSamples.refl d).setWord PRG_ENG_STATUS (grainOf a) 0).stir _) (.refl d)
  have retired := (freed.unqueue a).trans (Dev.setArrState_keepsSamples _ a RETIRED)
  have forgotten (f : ArrayRec → ArrayRec) := (retired.metaChanged.flashField ARR_STATE_STATE (grainOf a) (slotOf a)).modArr a f
  have shown (f : ArrayRec → ArrayRec) (n : Nat) :=
    ((forgotten f).wr_low RSD_STATUS_PENDING (grainOf a) (slotOf a) 0 0).wr PRG_BRANCH_STATUS_ACTIVE (bushelOf a) n
  unfold Dev.retireNow
  exact .ite (.refl d) (((shown _ _).trans (Dev.hostEvent_keepsSamples _ _ _ _ _ _)).trans (Dev.updateReady_keepsSamples _))

theorem Dev.startDrain_keepsSamples (d : Dev) (a : Nat) : d.KeepsSamples (d.startDrain a) := by
  have dropped : d.KeepsSamples (d.dropDecision a) :=
    (((Dev.KeepsSamples.refl d).modArr a _).wr_low RSD_STATUS_PENDING (grainOf a) (slotOf a) 0 0).stir _
  exact (dropped.trans (Dev.setArrState_keepsSamples _ a DRAINING)).metaChanged.trans (Dev.updateReady_keepsSamples _)

theorem Dev.decideRetire_keepsSamples (d : Dev) (a cause : Nat) : d.KeepsSamples (d.decideRetire a cause) := by
  have marked (f : ArrayRec → ArrayRec) : d.KeepsSamples (d.modArr a f) := .of_same rfl rfl
  have pending (f : ArrayRec → ArrayRec) : d.KeepsSamples ((d.unqueue a).modArr a f) := .of_same rfl rfl
  unfold Dev.decideRetire
  exact .ite (.refl d) (.ite (.refl d) (.ite (d.retireNow_keepsSamples a cause)
    (.ite (.ite (d.retireNow_keepsSamples a cause) (marked _)) (.ite ((pending _).trans (Dev.startDrain_keepsSamples _ a)) (pending _)))))

theorem Dev.enqueue_keepsSamples (d : Dev) (a cls : Nat) (now checksum : Bool) : d.KeepsSamples (d.enqueue a cls now checksum) := by
  unfold Dev.enqueue
  refine .ite (.refl d) ?_
  split
  · exact .of_same rfl rfl
  · exact .ite (.of_same rfl rfl) (.of_same rfl rfl)

theorem Dev.chargeFailure_keepsSamples (d : Dev) (a : Nat) : d.KeepsSamples (d.chargeFailure a) := by
  have recorded (r : WatchRec) (data : List Nat) :
      d.KeepsSamples ({ d with watchRecs := Tbl.put d.watchRecs a r }.diag (srcArray a) .faultRecord .checkFailed data) :=
    Dev.KeepsSamples.trans (e := { d with watchRecs := Tbl.put d.watchRecs a r }) (.of_same rfl rfl) (Dev.logSev_keepsSamples _ _ _ _ _ _ _ _)
  unfold Dev.chargeFailure
  exact .ite ((recorded _ _).trans (Dev.enqueue_keepsSamples _ a 1 false false))
    (.ite ((recorded _ _).trans (Dev.decideRetire_keepsSamples _ a 2)) (recorded _ _))

end Sys2Proof.Machine
end

section
/-! The wide recomputation (R301, R444 to R446, R458, R460): what it does with a sample that is due, by the sample's terms, and O45. -/
namespace Sys2Proof.Machine

variable {d : Dev}

/-- R444: the terms of a Peck's sample: of each captured row group, the pairs y and z over the bound outputs with their scale. -/
def Dev.watchTerms (d : Dev) (p : Nat) (x : WatchSample) (t : TaskRun) : List (Fp × Fp × Nat) :=
  x.cols.flatMap (fun e => match t.arrays[keyEntry e.1]? with
    | none => []
    | some l => d.sampleTerms t l (d.boundOutputs (fwdTensor t.arg) (fwdColTile t.arg)) (keyToken e.1) (keyRow e.1) e.2
        (Tbl.get [] x.lsbs e.1) (d.on WCH_CFG_REF_GEN1 p))

/-- R444: the mean square of the relative error over the terms. -/
def meanSquareError (terms : List (Fp × Fp × Nat)) : Rat :=
  (terms.foldl (fun (m : Rat) (y, z, k) => m + (y.val - z.val) / (k : Rat) * ((y.val - z.val) / (k : Rat))) 0) / (terms.length : Rat)

/-- R445: the terms fail: a value is not finite, or the error exceeds the Peck's tolerance. -/
def Dev.termsFail (d : Dev) (p : Nat) (terms : List (Fp × Fp × Nat)) : Bool :=
  let tol := mkRat (d.rd WCH_CFG_TOL p) 1000
  terms.any (fun (y, z, _) => !y.isFinite || !z.isFinite) || decide (tol * tol < meanSquareError terms)

/-- The module once the sample has resolved and its passes and largest input are counted and shown, before its result is. -/
def Dev.recomputed (d : Dev) (p : Nat) (x : WatchSample) (t : TaskRun) : Dev :=
  let g := grainOf (p * 128 + x.index)
  let n := x.passes t (d.boundOutputs (fwdTensor t.arg) (fwdColTile t.arg))
  let d0 := ((d.resolveSample p).countWrap DMX_PASS_CNT_COUNT g 0 n).count DMX_WR_PASS_CNT_COUNT g 0 n
  let d1 := if 0 < n ∧ d.on TSK_PORT_STATUS_PRODUCT_BUSY g = true then d0.count DMX_PREEMPT_CNT_COUNT g 0 else d0
  d1.setWord WCH_SAMPLE_MAX p 0 0 (d.sampleMax t x)

/-- WCH_SAMPLE shows a result and its error. -/
def Dev.showSample (d : Dev) (p : Nat) (x : WatchSample) (res rms : Nat) : Dev :=
  d.setWord WCH_SAMPLE p 0 0 (res * 2 ^ 30 + b2n x.unsettled * 2 ^ 29 + x.index % 2 ^ 13 * 2 ^ 16 + rms)

/-- A failed sample is counted and kept with its largest input, and fails the attempt's verdict. -/
def Dev.failSample (d : Dev) (p largest : Nat) : Dev :=
  (d.count WCH_FAIL_CNT_COUNT p 0).modAttempt (fun a => { a with
    sampleFail := true
    samples := a.samples.map (fun e => if e.1 = p then (e.1, { e.2 with failed := true, max := largest }) else e) })

/-- R460: a failure is charged to the sampled array unless the reference was unsettled. -/
def Dev.chargeSample (d : Dev) (p : Nat) (x : WatchSample) : Dev := if x.unsettled then d else d.chargeFailure (p * 128 + x.index)

/-- R301, R444 to R446: what the recomputation of a sample that is due does, by its terms. -/
theorem Dev.wideRecompute_judges {p : Nat} {a : Attempt} {x : WatchSample} {t : TaskRun} (running : d.attempt = some a)
    (sampled : Tbl.find a.samples p = some x) (task : d.task x.task = some t) (unresolved : x.resolved = false)
    (ready : t.sampleReady x = true) (quiet : Tbl.get [] d.fbQueue (grainOf (p * 128 + x.index)) = []) :
    let terms := d.watchTerms p x t
    ∃ rms ≤ 0xFFFF, d.wideRecompute p =
      if terms.isEmpty then ((d.recomputed p x t).showSample p x 3 0).count WCH_VOID_CNT_COUNT p 0
      else if d.termsFail p terms then (((d.recomputed p x t).showSample p x 2 rms).failSample p (d.sampleMax t x)).chargeSample p x
      else ((d.recomputed p x t).showSample p x 1 rms).count WCH_PASS_CNT_COUNT p 0 := by
  intro terms
  refine ⟨if terms.any (fun (y, z, _) => !y.isFinite || !z.isFinite) then 0xFFFF
    else min (sqrtNearest (meanSquareError terms * 100000000)) 0xFFFF, ?bound, ?judged⟩
  case bound =>
    split
    · exact Nat.le_refl _
    · exact Nat.min_le_right _ _
  case judged =>
    have due : (x.resolved || !t.sampleReady x || !(Tbl.get [] d.fbQueue (grainOf (p * 128 + x.index))).isEmpty) = false := by
      rw [unresolved, ready, quiet]; rfl
    unfold Dev.wideRecompute
    simp only [running, sampled, Option.bind_some, task, due, Bool.false_eq_true, if_false]
    rfl

theorem Dev.regsOk_recomputed (ok : d.regsOk) (p : Nat) (x : WatchSample) (t : TaskRun) : (d.recomputed p x t).regsOk := by
  have counted (f g : Fld) (u n m : Nat) : (((d.resolveSample p).countWrap f u 0 n).count g u 0 m).regsOk :=
    Dev.regsOk_wr (Dev.regsOk_wr ok _ _ _ _ _) _ _ _ _ _
  unfold Dev.recomputed
  refine Dev.regsOk_setWord ?_ _ _ _ _ _
  split
  · exact Dev.regsOk_wr (counted _ _ _ _ _) _ _ _ _ _
  · exact counted _ _ _ _ _

/-- RESULT reads the result shown, whatever stands below it. -/
theorem Dev.rd_showSample (ok : d.regsOk) (p : Nat) (x : WatchSample) {res rms : Nat} (two_bits : res < 4) (fits : rms ≤ 0xFFFF) :
    (d.showSample p x res rms).rd WCH_SAMPLE_RESULT p = res := by
  have flag : b2n x.unsettled ≤ 1 := by cases x.unsettled <;> decide
  have word := Dev.word_setWord_self ok WCH_SAMPLE p 0 0
    (res * 2 ^ 30 + b2n x.unsettled * 2 ^ 29 + x.index % 2 ^ 13 * 2 ^ 16 + rms)
  rw [Dev.rd, Dev.showSample]
  change bits (Dev.word _ WCH_SAMPLE p 0 0) 31 30 = res
  rw [word, bits, Nat.shiftRight_eq_div_pow]
  omega

/-- What is counted after a result is shown leaves it. -/
theorem Dev.rd_showSample_counted (ok : d.regsOk) {p : Nat} (lt : p < 128) (x : WatchSample) {res rms : Nat} (two_bits : res < 4)
    (fits : rms ≤ 0xFFFF) (f : Fld) (away : f.reg.base % 2 ^ 22 ≠ WCH_SAMPLE.base := by decide) :
    ((d.showSample p x res rms).count f p 0).rd WCH_SAMPLE_RESULT p = res :=
  (((Dev.KeepsSamples.refl _).count f p 1 away).result (Dev.regsOk_setWord ok _ _ _ _ _) p lt).trans
    (Dev.rd_showSample ok p x two_bits fits)

/-- A failed sample that is charged leaves the shown result, and the attempt has failed. -/
theorem Dev.failSample_charged (d : Dev) (p largest : Nat) (x : WatchSample) :
    (d.regsOk → p < 128 → ((d.failSample p largest).chargeSample p x).rd WCH_SAMPLE_RESULT p = d.rd WCH_SAMPLE_RESULT p)
    ∧ ∀ b, ((d.failSample p largest).chargeSample p x).attempt = some b → b.sampleFail = true := by
  have charged : (d.failSample p largest).KeepsSamples ((d.failSample p largest).chargeSample p x) :=
    .ite (.refl _) (Dev.chargeFailure_keepsSamples _ _)
  have counted := (Dev.KeepsSamples.refl d).count WCH_FAIL_CNT_COUNT p 1
  refine ⟨fun ok lt => (charged.result (counted.ok ok) p lt).trans (counted.result ok p lt), fun b ends => ?_⟩
  have failed := charged.failed
  rw [ends, Dev.failSample, Dev.modAttempt, Option.map_map] at failed
  obtain ⟨_, -, fails⟩ := Option.map_eq_some_iff.mp failed.symm
  exact fails.symm

/-- Settles O45: by the terms, the result shown is kept by what is counted and charged after it. -/
theorem wideRecomputationJudges : Obligations.WideRecomputationJudges := by
  unfold Obligations.WideRecomputationJudges
  intro s p a x t ordered running sampled task unresolved ready quiet
  change let terms := s.dev.watchTerms p x t
    ∃ u, exec (.wideRecomputation p) s = .next u
      ∧ u.dev.rd WCH_SAMPLE_RESULT p = (if terms.isEmpty then 3 else if s.dev.termsFail p terms then 2 else 1)
      ∧ (terms.isEmpty = false ∧ s.dev.termsFail p terms = true → ∀ b, u.dev.attempt = some b → b.sampleFail = true)
  intro terms
  obtain ⟨regs, -⟩ := ordered
  have ok := Dev.regsOk_recomputed (d := s.dev) regs p x t
  obtain ⟨rms, fits, judged⟩ := Dev.wideRecompute_judges running sampled task unresolved ready quiet
  refine ⟨_, s.to_eq judged, ?_⟩
  rw [State.dev_withDev]
  split
  next void => exact ⟨Dev.rd_showSample_counted ok p.isLt x (by decide) (by decide) _, fun ⟨judged, _⟩ => by simp [terms, void] at judged⟩
  next =>
    split
    next =>
      obtain ⟨kept, failed⟩ := Dev.failSample_charged ((s.dev.recomputed p x t).showSample p x 2 rms) p (s.dev.sampleMax t x) x
      exact ⟨(kept (Dev.regsOk_setWord ok _ _ _ _ _) p.isLt).trans (Dev.rd_showSample ok p x (by decide) fits), fun _ => failed⟩
    next passes => exact ⟨Dev.rd_showSample_counted ok p.isLt x (by decide) fits _, fun ⟨_, fails⟩ => absurd fails passes⟩

end Sys2Proof.Machine
end

section
/-! Block resets (R471, R472): the refutation of O50, from one state in which a Peck is reset. -/
namespace Sys2Proof.Machine

/-- The number of a local counter whose register, reckoned from Peck 0, has the place of the first FLT_ISO. A Peck has 48 local counters
(R375). -/
def strayWrapperCounter : Nat := (FLT_ISO.key 0 - SYN_LC.key 0 0) / 4

theorem strayWrapperCounter_key : SYN_LC.key 0 strayWrapperCounter = FLT_ISO.key 0 := by decide

/-- On Peck 0 a Chain task runs whose segment wait heads the takers of object 0; behind it waits a task that then takes 1 from that
counter. -/
def strayWrapper : Dev :=
  { life := .run
    objects := [(0, { owner := 0, vid := 0, value := 1, waiters := [⟨.seg 0, 0, true, 2⟩, ⟨.task 1 false, 0, true, 1⟩] })]
    runs := [⟨0, 0, 0, 1, 0⟩]
    attempt := some { step := 0, number := 1, tasks :=
      [(0, { desc := [3 * 2 ^ 60], phase := .running, segPosted := true }),
        (1, { strayTask with refs := [.object 0, .counter strayWrapperCounter] })] } }

theorem strayWrapper_ordered : strayWrapper.ordered := by unfold Dev.ordered; decide +kernel

theorem exec_blockReset (s : State) (u : Fin 137) : exec (.blockReset u) s = .next (s.withDev (s.dev.blockReset u 0x21)) := rfl

/-- The Block reset closes the wrapper and ends the Chain task with ISOLATED; the withdrawal of its segment wait releases the other task, whose
take opens the wrapper again. -/
theorem strayWrapper_open : (strayWrapper.blockReset 0 0x21).unitClosed 0 = false := by decide +kernel

/-- Refutes O50: its clause on R471 assumes of the state only that it runs and that its tables are in order, so a task may name a local
counter beyond its Peck's 48 (R375), whose register is then the FLT_ISO of the Pecks' wrappers; the wait that the isolation of a Chain task
releases takes 1 from it, which is the bit that the Block reset has just set. -/
theorem not_blockResetsAndReleases : ¬ Obligations.BlockResetsAndReleases := by
  unfold Obligations.BlockResetsAndReleases
  rintro ⟨resets, -⟩
  obtain ⟨t, ran, -, -, closed, -, -⟩ := resets (State.reset.withDev strayWrapper) 0 rfl strayWrapper_ordered
  rw [exec_blockReset] at ran
  injection ran with same
  have index : (0 : Fin 137).val = 0 := rfl
  rw [← same, State.dev_withDev, State.dev_withDev, index, strayWrapper_open] at closed
  exact Bool.false_ne_true closed

end Sys2Proof.Machine
end

section
/-! Faults, routes and measurements read through commands (R500, R605, R692): each command's answer on the begun module, and O16 put together
from them. -/
namespace Sys2Proof.Machine

variable {s : State} {c : Fin 16} {k : Fin 8}

theorem exec_faultInfo (ready : Ready s c k 0x63) :
    exec (.faultInfo c k) s = .next (s.replied c k ((s.dev.begun c k).faultInfo c k)) := State.to_serveOp ready _

theorem exec_routeRead (ready : Ready s c k 0x51) :
    exec (.routeRead c k) s = .next (s.replied c k ((s.dev.begun c k).routeRead c k)) := State.to_serveOp ready _

theorem exec_measureRead (ready : Ready s c k 0xA1) :
    exec (.measureRead c k) s = .next (s.replied c k ((s.dev.begun c k).measureRead c k)) := State.to_serveOp ready _

/-- Settles O16: each command's reply on the begun module, check by check. -/
theorem informationCommandsAnswer : Obligations.InformationCommandsAnswer := by
  unfold Obligations.InformationCommandsAnswer
  refine ⟨?faults, ?routes, ?measurements⟩
  case faults =>
    intro s c k ready b
    exact (exec_faultInfo ready).trans (congrArg _ (s.replied_query c k b _ _))
  case routes =>
    intro s c k ready b first count
    simp only [exec_routeRead ready, Dev.routeRead, State.replied_ite, State.replied_st, State.replied_done, Bool.or_eq_true,
      Bool.not_eq_true', decide_eq_true_eq, or_assoc]
    rfl
  case measurements =>
    intro s c k ready b i
    simp only [exec_measureRead ready, Dev.measureRead, State.replied_ite, State.replied_st, State.replied_done, Bool.or_eq_true,
      Bool.not_eq_true', decide_eq_true_eq]
    rfl

end Sys2Proof.Machine
end

section
/-! Routes, ports, mirrors, firmware and debug through commands (R498, R499, R604, R606, R686 to R688, R695, R697): each command's answer on
the begun module, and O29 put together from them. -/
namespace Sys2Proof.Machine

variable {s : State} {c : Fin 16} {k : Fin 8}

/-! ### The commands' own parts -/

theorem exec_routeLoad (ready : Ready s c k 0x50) :
    exec (.routeLoad c k) s = .next (s.replied c k ((s.dev.begun c k).routeLoad c k)) := State.to_serveOp ready _

theorem exec_portCtrl (ready : Ready s c k 0x52) :
    exec (.portCtrl c k) s = .next (s.replied c k ((s.dev.begun c k).portCtrl c k)) := State.to_serveOp ready _

theorem exec_mirrorSet (ready : Ready s c k 0x61) :
    exec (.mirrorSet c k) s = .next (s.replied c k ((s.dev.begun c k).mirrorSet c k)) := State.to_serveOp ready _

theorem exec_recRestore (ready : Ready s c k 0x62) :
    exec (.recRestore c k) s = .next (s.replied c k ((s.dev.begun c k).recRestore c k)) := State.to_serveOp ready _

theorem exec_fwStage (ready : Ready s c k 0x80) :
    exec (.fwStage c k) s = .next (s.replied c k ((s.dev.begun c k).fwStage c k)) := State.to_serveOp ready _

theorem exec_fwActivate (ready : Ready s c k 0x81) :
    exec (.fwActivate c k) s = .next (s.replied c k ((s.dev.begun c k).fwActivate s.fuses c k)) := State.to_serveOp ready _

theorem exec_fwInfo (ready : Ready s c k 0x82) :
    exec (.fwInfo c k) s = .next (s.replied c k ((s.dev.begun c k).fwInfo s.fuses c k)) := State.to_serveOp ready _

theorem exec_debugUnlock (ready : Ready s c k 0xA0) :
    exec (.debugUnlock c k) s = .next (s.replied c k ((s.dev.begun c k).debugUnlock c k)) := State.to_serveOp ready _

theorem exec_debugLock (ready : Ready s c k 0xA2) :
    exec (.debugLock c k) s = .next (s.replied c k ((s.dev.begun c k).debugLock s.fuses c k)) := State.to_serveOp ready _

/-- Two choices on one condition with one first outcome agree where the other outcomes agree. -/
theorem ite_else_eq {α : Type} {p : Prop} [Decidable p] {x y y' : α} (no : y = y') : (if p then x else y) = if p then x else y' :=
  ite_eq_of_iff .rfl rfl no

/-! ### Routes and ports (R604, R606) -/

/-- No bit of a field that is 0 is set. -/
theorem bit_of_bits_zero {x hi lo i : Nat} (zero : bits x hi lo = 0) (above : lo ≤ i) (below : i ≤ hi) : bit x i = false := by
  have here := testBit_bits x hi lo (i - lo)
  rw [zero, Nat.zero_testBit, Nat.add_sub_cancel' above, decide_eq_true (by omega), Bool.true_and] at here
  exact here.symm

/-- The module with route entries stored from a node on (R594). -/
def Dev.withRoutes (d : Dev) (first : Nat) (entries : List Nat) : Dev :=
  entries.zipIdx.foldl (fun (d : Dev) (e, i) => { d with routes := Tbl.set 0 d.routes (first + i) e }) d

/-- R604: the generation that a ROUTE_LOAD names for a port's partner. -/
def Dev.confirmGen (d : Dev) (c k p : Nat) : Nat := bits (d.cmd c k (8 + p / 4)) (8 * (p % 4) + 7) (8 * (p % 4))

/-- R604: the answer of a ROUTE_LOAD, from the confirmations that were not applicable and the module after the others; the waits at nodes
that it no longer reaches fail (R385). -/
def routesAnswer (r : Nat × Dev) : Reply × Dev := (.done .ok [r.1, r.2.nodeWord], r.2.failRemote)

/-- R604: the ports that are marked in a word from bit 16 on are confirmed; those that are not applicable are collected. -/
def Dev.confirmPorts (d : Dev) (w1 : Nat) (gen : Nat → Nat) : Nat × Dev :=
  (List.range 8).foldl (fun (acc : Nat × Dev) p =>
    if bit w1 (16 + p) then if acc.2.mayConfirm p (gen p) then (acc.1, acc.2.confirm p) else (acc.1 + 2 ^ p, acc.2) else acc) (0, d)

/-- A fold whose steps over the list change nothing ends where it began. -/
theorem foldl_unchanged {α β : Type} {f : α → β → α} {xs : List β} (still : ∀ a, ∀ x ∈ xs, f a x = a) (a : α) : xs.foldl f a = a := by
  induction xs with
  | nil => rfl
  | cons x xs ih =>
    rw [List.foldl_cons, still a x List.mem_cons_self]
    exact ih fun a y there => still a y (List.mem_cons_of_mem x there)

/-- Where no port is marked, none is confirmed. -/
theorem Dev.confirmPorts_unmarked {d : Dev} {w1 : Nat} (gen : Nat → Nat) (unmarked : ∀ p < 8, bit w1 (16 + p) = false) :
    d.confirmPorts w1 gen = (0, d) :=
  foldl_unchanged (fun _ p here => if_neg (Bool.eq_false_iff.mp (unmarked p (List.mem_range.mp here)))) (0, d)

/-- R604: the module with the node ID, the hop limit, the windows and the route entries that a ROUTE_LOAD brings. -/
def Dev.routed (d : Dev) (c k : Nat) : Dev :=
  let w1 := d.cmd c k 1
  let a := d.cmd48 c k 4
  let entries := (List.range (bits (d.cmd c k 3) 12 0)).map (fun i => d.le (devCell (a + 4 * i)) 4)
  let wins := (List.range 16).map (fun i => d.words64 (devCell (d.cmd48 c k 6 + 32 * i)) 4)
  let d1 := if bit w1 12 then d.setNode (bits w1 11 0) else d
  let d2 := if bit w1 14 then { d1 with maxHops := bits (d.cmd c k 2) 21 16 } else d1
  let d3 := if bit w1 13 then { d2 with windows := wins.map windowOf } else d2
  d3.withRoutes (bits (d.cmd c k 2) 11 0) entries

/-- R604: with lawful arguments, entries to load, and no node ID, hop limit, window or confirmation in word 1. -/
theorem Dev.routeLoad_entries {d : Dev} {c k : Nat} :
    let first := bits (d.cmd c k 2) 11 0
    let count := bits (d.cmd c k 3) 12 0
    let a := d.cmd48 c k 4
    let entries := (List.range count).map (fun i => d.le (devCell (a + 4 * i)) 4)
    let loaded := d.withRoutes first entries
    d.argsClean c k [0xFF7FFF, 0x3F0FFF, 0x1FFF, mWord, mHigh, mWord, mHigh, mWord, mWord] = true → bits (d.cmd c k 1) 23 12 = 0 →
    0 < count → first + count ≤ 4096 →
    d.routeLoad c k = if a % 64 ≠ 0 ∨ inMemory a (4 * count) = false ∨ (∃ e ∈ entries, routeOk e = false) then (.st .badArg, d)
      else (.done .ok [0, loaded.word FUR_NODE 0], loaded.failRemote) := by
  intro first count a entries loaded clean plain some_entries inside
  have off (i : Nat) (above : 12 ≤ i) (below : i ≤ 23) : bit (d.cmd c k 1) i = false := bit_of_bits_zero plain above below
  have no_node := off 12 (by decide) (by decide)
  have no_window := off 13 (by decide) (by decide)
  have no_hops := off 14 (by decide) (by decide)
  have routed : d.routed c k = loaded := by
    simp only [Dev.routed, no_node, no_window, no_hops, Bool.false_eq_true, if_false]
    rfl
  unfold Dev.routeLoad
  refine ite_eq_of_iff ?checks rfl ((if_neg ?idle).trans ((if_neg ?work).trans ?loads))
  case checks =>
    have short : ¬ 4096 < first + count := Nat.not_lt.mpr inside
    simp only [first, count, a, entries] at short some_entries ⊢
    simp only [clean, short, Nat.ne_of_gt some_entries, no_window, ne_eq, not_false_iff, decide_true, decide_false, Bool.not_true,
      Bool.false_or, Bool.true_and, Bool.false_and, Bool.or_false, Bool.or_eq_true, decide_eq_true_eq, Bool.not_eq_true', List.all_eq_false,
      Bool.not_eq_true, or_assoc]
  case idle => simp only [no_node, Bool.false_and, Bool.false_eq_true, not_false_iff]
  case work => exact fun none_there => Nat.ne_of_gt some_entries none_there.1
  case loads =>
    change routesAnswer ((d.routed c k).confirmPorts (d.cmd c k 1) (d.confirmGen c k)) = _
    rw [routed, Dev.confirmPorts_unmarked _ fun p lt => off (16 + p) (by omega) (by omega)]
    rfl

/-- R606: what a port does for an action of PORT_CTRL. -/
def Dev.portAction (d : Dev) (p action : Nat) : Dev :=
  if action = 1 then (d.wr FUR_PORT_STATUS_EN p 0 0 1).modPort p (fun r => { r with retryNow := true })
  else if action = 2 then (d.wr FUR_PORT_STATUS_EN p 0 0 0).portDown p 0x01
  else if action = 3 then (d.portDown p (d.rd FUR_PORT_STATUS_DOWN_CAUSE p)).setPort p pDetect
  else if action = 4 then d.newEpoch p
  else d

theorem Dev.portCtrl_eq (d : Dev) (c k : Nat) :
    let w1 := d.cmd c k 1
    let p := bits w1 2 0
    let action := bits w1 10 8
    let e := if bit w1 12 then d.wr FUR_RETRY_CFG_RETRY p 0 0 (bits (d.cmd c k 2) 15 0) else d
    d.portCtrl c k =
      if d.argsClean c k [0x1707, 0xFFFF] = false ∨ 4 < action then (.st .badArg, d)
      else if action = 0 ∧ bit w1 12 = false then (.st .okZeroWork, d)
      else if 3 ≤ action ∧ d.portState p ≠ pUp then (.st .notPermitted, d)
      else (.st .ok, e.portAction p action) := by
  intro w1 p action e
  simp only [Dev.portCtrl, Bool.or_eq_true, Bool.not_eq_true', decide_eq_true_eq, decide_eq_false_iff_not]
  refine ite_else_eq (ite_else_eq (ite_else_eq (congrArg (Reply.st .ok, ·) ?_)))
  show _ = e.portAction p (bits w1 10 8)
  generalize bits w1 10 8 = n
  match n with
  | 0 | 1 | 2 | 3 | 4 => rfl
  | _ + 5 => rfl

/-! ### The mirror (R498, R499) -/

/-- R498: the request that MIRROR_SET and REC_RESTORE send to a node. -/
def Dev.askNode (d : Dev) (n c k : Nat) : Status × Dev :=
  d.originate { typ := tyMgmt, dst := n, src := 0, length := 64 } (.command c k)

theorem Dev.mirrorSet_asks {d : Dev} {c k : Nat} :
    let n := bits (d.cmd c k 1) 11 0
    let r := d.askNode n c k
    d.argsClean c k [0xFFF + 3 * 2 ^ 16, mWord, mHigh, mWord] = true → d.node ≠ some n → d.runs = [] → bit (d.cmd c k 1) 17 = false →
    d.mirrorSet c k = if r.1 = .ok then (.wait (.work 1), r.2) else (.st r.1, d) := by
  intro n r clean other idle asks
  simp only [n] at other
  simp only [Dev.mirrorSet, clean, other, idle, asks, decide_false, Bool.not_true, Bool.false_and, Bool.or_false, Bool.false_eq_true,
    ne_eq, not_true, false_and, if_false]
  rfl

theorem Dev.mirrorSet_accepts {d : Dev} {c k : Nat} :
    let n := bits (d.cmd c k 1) 11 0
    let a := d.cmd48 c k 2
    let size := d.cmd c k 4 * 2 ^ 20
    d.argsClean c k [0xFFF + 3 * 2 ^ 16, mWord, mHigh, mWord] = true → d.node ≠ some n → d.runs = [] → bit (d.cmd c k 1) 17 = true →
    d.mirrorSet c k =
      if a % 64 ≠ 0 ∨ inMemory a size = false then (.st .badArg, d)
      else if size = 0 then (.st .okZeroWork, d)
      else match d.unreachable n true with
        | some st => (.st st, d)
        | none => (.st .ok, { d with buddyRegions := d.buddyRegions.filter (fun r => r.node != n) ++ [⟨n, a, size⟩] }) := by
  intro n a size clean other idle accepts
  simp only [n] at other
  simp only [Dev.mirrorSet, regionBad, clean, other, idle, accepts, decide_false, Bool.not_true, Bool.true_and, Bool.or_false,
    Bool.false_or, Bool.or_eq_true, decide_eq_true_eq, Bool.not_eq_true', ne_eq, not_true, true_and, if_true, if_false]
  rfl

theorem Dev.recRestore_eq {d : Dev} {c k : Nat} {p : Program} :
    let w1 := d.cmd c k 1
    let r := d.askNode (bits (d.cmd c k 2) 11 0) c k
    Tbl.find d.programs (progKey c (bits w1 1 0)) = some p → p.xch.isSome = true → d.argsClean c k [0xF03, 0xFFF, 0xFFF] = true →
    d.recRestore c k =
      if d.runs ≠ [] then (.st .busy, d)
      else if bits w1 11 8 = 0 then (.st .okZeroWork, d)
      else if bit w1 9 = true ∧ p.policy = none then (.st .notPermitted, d)
      else match d.restoreLinks c k p with
        | some st => (.st st, d)
        | none => if r.1 = .ok then (.wait (.work 2), { r.2 with restore := some { ctx := c, slot := k } }) else (.st r.1, d) := by
  intro w1 r loaded attached clean
  simp only [w1] at loaded
  have bare : p.xch.isNone = false := by rw [Option.isNone_eq_false_iff]; exact attached
  simp only [Dev.recRestore, loaded, bare, clean, Bool.not_true, Bool.or_false, Bool.false_eq_true, if_false, Bool.and_eq_true,
    Option.isNone_iff_eq_none]
  rfl

/-! ### Firmware (R686 to R688) -/

theorem Dev.fwStage_eq (d : Dev) (c k : Nat) :
    let n := d.cmd c k 1
    d.fwStage c k =
      if d.argsClean c k [mWord] = false ∨ n % 4 ≠ 0 ∨ 2 ^ 24 < n then (.st .badArg, d)
      else if n = 0 then (.st .okZeroWork, d)
      else if d.windowOpen c then (.st .busy, d)
      else (.wait .window, Dev.openWindow { d with other := .bytes [], otherValid := false } c k true (n / 4) [] (0, [])) := by
  simp only [Dev.fwStage, Bool.or_eq_true, Bool.not_eq_true', decide_eq_true_eq, or_assoc]

/-- R687: the module with its images exchanged. -/
def Dev.activated (d : Dev) : Dev :=
  let slot := if d.life = .recovery then 0 else 1 - d.runningSlot
  (Dev.wr { d with active := d.other, other := d.active, otherValid := true, runningSlot := slot }
    RST_START_START_CNT 0 0 0 0).wr SEC_STATUS_SLOT 0 0 0 slot

theorem Dev.fwActivate_eq (d : Dev) (f : Fuses) (c k : Nat) :
    let st := d.other.verify f
    d.fwActivate f c k =
      if d.argsClean c k [1] = false then (.st .badArg, d)
      else if d.otherValid = false then (.st .notPermitted, d)
      else if d.runs ≠ [] ∨ d.windowOpen c = true then (.st .busy, d)
      else if st = .ok then (.st .ok, if bit (d.cmd c k 1) 0 then d.activated.resetIn false 0x05 1000000 else d.activated)
      else if st = .authFailed then (.st .authFailed, d.authFail 1 0)
      else (.st st, d) := by
  intro st
  simp only [Dev.fwActivate, Bool.or_eq_true, Bool.not_eq_true', List.isEmpty_eq_false_iff, decide_eq_true_eq]
  refine ite_else_eq (ite_else_eq (ite_else_eq ?_))
  split
  next good =>
    rw [if_pos good]
    rfl
  next bad =>
    rw [if_neg (by rw [show st = _ from bad]; decide), if_pos bad]
  next not_ok not_bad => rw [if_neg not_ok, if_neg not_bad]

/-- R688: the fields of an OTHER slot that holds a whole header are shown. -/
theorem Dev.otherField_whole {d : Dev} {image : List Nat} (held : d.other = .bytes image) (whole : 5328 ≤ image.length) (v : Nat) :
    d.otherField v = (v, d) := by
  rw [Dev.otherField, held]
  exact if_neg (by omega)

theorem Dev.fwInfo_whole {d : Dev} {image : List Nat} (held : d.other = .bytes image) (whole : 5328 ≤ image.length) (f : Fuses) (c k : Nat) :
    d.fwInfo f c k =
      if !d.argsClean c k [] then (.st .badArg, d)
      else (.done .ok [(if d.life = .recovery then 2 ^ 30 else d.runningSlot * 2 ^ 31) + f.rbCount % 128, d.active.version,
        imgField image 8 4 % 2 ^ 32,
        d.active.svn + imgField image 6 1 % 256 * 2 ^ 8 + b2n d.otherValid * 2 ^ 16 + f.revoked % 16 * 2 ^ 24,
        Config.romVersion.toNat], d) := by
  simp only [Dev.fwInfo, Dev.otherField_whole held whole, held, decide_eq_true_eq]
  rfl

/-! ### Debug (R695, R697) -/

theorem Dev.challengeNow_none {d : Dev} (none_issued : d.challenge = none) : d.challengeNow = none := by
  rw [Dev.challengeNow, none_issued]

theorem Dev.challengeNow_issued {d : Dev} {bytes : List Nat} {t : Nat} (issued : d.challenge = some (bytes, t)) :
    d.challengeNow = if t + 600000000000 ≤ d.time then none else some bytes := by
  rw [Dev.challengeNow, issued]
  simp only [← Nat.not_le, ite_not]

theorem Dev.debugUnlock_eq (d : Dev) (c k : Nat) :
    let r := d.newChallenge
    d.debugUnlock c k =
      if d.argsClean c k [1, mWord] = false then (.st .badArg, d)
      else if bit (d.cmd c k 1) 0 = false then (.done .ok ((List.range 8).map (wordOf r.1)), r.2)
      else if d.cmd c k 2 ≠ 5360 then (.st .badArg, d)
      else match d.challenge with
        | none => (.st .notPermitted, d)
        | some (bytes, t) =>
          if t + 600000000000 ≤ d.time then (.st .notPermitted, d)
          else if d.windowOpen c then (.st .busy, d)
          else (.wait .window, Dev.openWindow { d with challenge := none } c k true 1340 [] (0, bytes)) := by
  intro r
  simp only [Dev.debugUnlock, Bool.not_eq_true']
  refine ite_else_eq (ite_else_eq (ite_else_eq ?_))
  cases issued : d.challenge with
  | none => rw [Dev.challengeNow_none issued]
  | some e =>
    rw [Dev.challengeNow_issued issued]
    by_cases old : e.2 + 600000000000 ≤ d.time
    · simp only [old, if_true]
    · simp only [old, if_false]

/-! ### O29 -/

/-- Settles O29: each command's reply on the begun module, check by check. The statement follows the model's choices where the rules leave one:
MIRROR_SET's message between firmwares (log entry 69), the four free values of a challenge (log entry 36), the DOWN_CAUSE that RETRAIN keeps
(log entry 77); a challenge that is exactly 600 s old is refused. -/
theorem fabricAndFirmwareCommandsTakeEffect : Obligations.FabricAndFirmwareCommandsTakeEffect := by
  unfold Obligations.FabricAndFirmwareCommandsTakeEffect
  refine ⟨⟨?routes, ?port⟩, ⟨?mirror, ?restore⟩, ⟨?stage, ?activate, ?info⟩, ?unlock, ?lock⟩
  case routes =>
    intro s c k ready b first count a entries d clean plain some_entries inside
    rw [exec_routeLoad ready, Dev.routeLoad_entries clean plain some_entries inside, State.replied_ite]
    rfl
  case port =>
    intro s c k ready b w1 p action d
    rw [exec_portCtrl ready, Dev.portCtrl_eq]
    simp only [State.replied_ite]
    rfl
  case mirror =>
    intro s c k ready b n a size r clean other idle
    rw [exec_mirrorSet ready]
    cases accept : bit (b.cmd c k 1) 17 with
    | false =>
      rw [Dev.mirrorSet_asks clean other idle accept, State.replied_ite]
      rfl
    | true =>
      rw [Dev.mirrorSet_accepts clean other idle accept]
      simp only [State.replied_ite, Bool.true_eq_false, if_false]
      refine congrArg _ (ite_else_eq (ite_else_eq ?_))
      cases b.unreachable n true with
      | some st => rfl
      | none => rfl
  case restore =>
    intro s c k p ready b w1 r loaded attached clean
    rw [exec_recRestore ready, Dev.recRestore_eq loaded attached clean]
    simp only [State.replied_ite]
    refine congrArg _ (ite_else_eq (ite_else_eq (ite_else_eq ?_)))
    cases b.restoreLinks c k p with
    | some st => rfl
    | none => exact State.replied_ite _ _ _ _ _
  case stage =>
    intro s c k ready b n
    rw [exec_fwStage ready, Dev.fwStage_eq]
    simp only [State.replied_ite]
    rfl
  case activate =>
    intro s c k ready b st slot d
    rw [exec_fwActivate ready, Dev.fwActivate_eq]
    simp only [State.replied_ite]
    rfl
  case info =>
    intro s c k image ready b held whole
    rw [exec_fwInfo ready, Dev.fwInfo_whole held whole, State.replied_query]
  case unlock =>
    intro s c k ready b r
    rw [exec_debugUnlock ready, Dev.debugUnlock_eq]
    simp only [State.replied_ite]
    refine congrArg _ (ite_else_eq (ite_else_eq (ite_else_eq ?_)))
    cases b.challenge with
    | none => rfl
    | some e =>
      simp only [State.replied_ite]
      rfl
  case lock =>
    intro s c k ready b locked
    simp only [exec_debugLock ready, Dev.debugLock, State.replied_ite, Bool.not_eq_true']
    rfl

end Sys2Proof.Machine
end

section
/-! Serving the mailbox (R508 to R517, R532, R535, R541, R658): the checks that come before a command, what a completion shows, what a query
leaves alone; O12, O13 and O14 put together from them, and the answers of MEM_FREE and CSR_WRITE. -/
namespace Sys2Proof.Machine

variable {s : State} {d e f : Dev} {c k : Nat}

/-! ### The checks before a command (R512, R513, R515, R658) -/

/-- A word other than the reset value is listed, so that its write is seen by no other register, whatever the order of the table. -/
theorem Dev.word_setWord_listed (d : Dev) (r r' : Reg) (u n k v u' n' k' : Nat) (listed : v % 2 ^ 32 ≠ r.resetAt n k)
    (ne : r'.key u' n' k' ≠ r.key u n k) : (d.setWord r u n k v).word r' u' n' k' = d.word r' u' n' k' := by
  rw [Dev.word, Dev.setWord, Tbl.set, if_neg listed, Tbl.get, Tbl.find_put_other _ _ ne]
  rfl

/-- R508: the word that shows a RUNNING slot is not the reset value. -/
theorem running_listed (w : Nat) (slot : k < 8) :
    setBits w (2 * k + 1) (2 * k) slotRunning % 2 ^ 32 ≠ MBX_SLOT_STATE.resetAt 0 0 := by
  have shown := bits_setBits_self w slotRunning (hi := 2 * k + 1) (lo := 2 * k) (by omega) (by omega)
  rw [show 2 * k + 1 + 1 - 2 * k = 2 by omega] at shown
  rw [Reg.resetAt_zero (by decide)]
  intro zero
  rw [zero] at shown
  simp [bits, slotRunning] at shown

/-- A slot that starts keeps its command. -/
theorem Dev.opcode_running (d : Dev) (c : Nat) (slot : k < 8) : (d.setSlot c k slotRunning).opcode c k = d.opcode c k := by
  have apart : MBX_CMD_WORD.reg.key c k 0 ≠ MBX_SLOT_STATE.key c 0 0 := by
    simp only [Reg.key, MBX_CMD_WORD, MBX_CMD, MBX_SLOT_STATE]; omega
  rw [Dev.opcode, Dev.cmd, Dev.rd, Dev.setSlot, Dev.word_setWord_listed _ _ _ _ _ _ _ _ _ _ (running_listed _ slot) apart]
  rfl

/-- Check 2 of R512, and the list of R658: the command is not for this context, or not for minimal recovery mode. -/
abbrev Dev.forbids (d : Dev) (c op : Nat) (pf0 : Bool) : Prop :=
  pf0 = true ∧ c ≠ 0 ∨ d.mpState = 2 ∧ recoveryOps.contains op = false

/-- R512: the checks of a command of the table, in their order. -/
theorem Dev.refuse_eq {cls : Nat} {pf0 : Bool} (row : opcodeRow (d.opcode c k) = some (cls, pf0)) :
    d.refuse c k =
      if d.forbids c (d.opcode c k) pf0 then (some .notPermitted, d)
      else if bits (d.cmd c k 0) 31 16 ≠ 0 then (some .badArg, d)
      else if d.seqAccepted c (bits (d.cmd c k 0) 15 8) = false then (some .badArg, d.wr MBX_PAGE_STATUS_SEQ_ERR c 0 0 1)
      else (none, d) := by
  rw [Dev.opcode] at row
  simp only [Dev.refuse, row, Dev.forbids, Dev.opcode, Bool.or_eq_true, Bool.and_eq_true, bne_iff_ne, beq_iff_eq, Bool.not_eq_true']
  rfl

/-- R515: an opcode outside the table. -/
theorem Dev.refuse_unknown (unknown : opcodeRow (d.opcode c k) = none) : d.refuse c k = (some .unknownOpcode, d) := by
  rw [Dev.opcode] at unknown
  simp only [Dev.refuse, unknown]

/-- A refusal completes the slot from the state that the checks leave. -/
theorem Dev.serve_refused_eq {mine : Nat → Bool} {st : Status} (servable : d.servable c k = true) (own : mine (d.opcode c k) = true)
    (refused : (d.setSlot c k slotRunning).refuse c k = (some st, e)) (body : Dev → Reply × Dev) :
    d.serve c k mine body = e.finishSlot c k st := by
  rw [Dev.serve_refused servable own (by rw [refused]) body, refused]

/-- Each mailbox command of the table serves its slot's command by one opcode, which the table lists. -/
theorem exec_mailboxCommand {i : Instr} {op : Nat} (command : mailboxCommand i = some (c, k, op)) :
    k < 8 ∧ (∃ cls pf0, opcodeRow op = some (cls, pf0)) ∧ ∀ s, ∃ body, exec i s = s.to (s.dev.serveOp c k op body) := by
  unfold mailboxCommand at command
  split at command <;> cases command <;> exact ⟨Fin.isLt _, ⟨_, _, rfl⟩, fun _ => ⟨_, rfl⟩⟩

/-- R512: a command of the table that a check refuses. -/
theorem exec_refused {i : Instr} {op : Nat} {st : Status} (command : mailboxCommand i = some (c, k, op))
    (servable : s.dev.servable c k = true) (opcode : s.dev.opcode c k = op)
    (refused : (s.dev.setSlot c k slotRunning).refuse c k = (some st, e)) : exec i s = .next (s.done c k e st) := by
  obtain ⟨-, -, serves⟩ := exec_mailboxCommand command
  obtain ⟨body, run⟩ := serves s
  exact run.trans (s.to_eq (Dev.serve_refused_eq (mine := (· == op)) servable (beq_iff_eq.2 opcode) refused body))

/-- R517: a command that is not next, or whose slot holds another opcode. -/
theorem exec_notServed {i : Instr} {op : Nat} (command : mailboxCommand i = some (c, k, op))
    (idle : ¬ (s.dev.servable c k = true ∧ s.dev.opcode c k = op)) : exec i s = .next s := by
  obtain ⟨-, -, serves⟩ := exec_mailboxCommand command
  obtain ⟨body, run⟩ := serves s
  exact run.trans (s.to_eq (Dev.serve_idle (by simpa using idle) body))

/-- R515: a slot with an opcode outside the table. -/
theorem exec_unknownOpcode (c : Fin 16) (k : Fin 8) (servable : s.dev.servable c k = true)
    (unknown : opcodeRow (s.dev.opcode c k) = none) :
    exec (.unknownOpcode c k) s = .next (s.done c k (s.dev.setSlot c k slotRunning) .unknownOpcode) := by
  have started : opcodeRow ((s.dev.setSlot c k slotRunning).opcode c k) = none := by rw [Dev.opcode_running _ _ k.isLt, unknown]
  exact s.to_eq (Dev.serve_refused_eq servable (by rw [unknown]; rfl) (Dev.refuse_unknown started) _)

/-- Settles O12: the checks of R512 in their order, each for whatever command of the table the slot holds. That a command which is not next, or
whose slot holds another opcode, is left alone is the model's choice (log entries 2 and 4). -/
theorem mailboxServesInOrder : Obligations.MailboxServesInOrder := by
  unfold Obligations.MailboxServesInOrder
  refine ⟨fun s c k => exec_unknownOpcode c k, ?checks, fun i s c k op => exec_notServed⟩
  case checks =>
    intro i s c k op command servable opcode d w
    obtain ⟨slot, ⟨cls, pf0, row⟩, -⟩ := exec_mailboxCommand command
    have started : d.opcode c k = op := (Dev.opcode_running _ _ slot).trans opcode
    have checks := Dev.refuse_eq (d := d) (started.symm ▸ row)
    rw [started] at checks
    have pf0_only : (opcodeRow op).any (·.2) = pf0 := by rw [row]; rfl
    rw [pf0_only]
    refine ⟨fun forbidden => ?_, fun context mode => ?_⟩
    · exact exec_refused command servable opcode (checks.trans (if_pos forbidden))
    · have allowed : ¬ d.forbids c op pf0 := by
        rintro (⟨pf0_set, elsewhere⟩ | ⟨recovery, unlisted⟩)
        · exact context.elim (by simp [pf0_set]) elsewhere
        · exact mode.elim (· recovery) (by rw [unlisted]; decide)
      rw [if_neg allowed] at checks
      refine ⟨fun reserved => ?_, fun clean replayed => ?_⟩
      · exact exec_refused command servable opcode (checks.trans (if_pos reserved))
      · rw [if_neg (not_not.2 clean), if_pos replayed] at checks
        exact exec_refused command servable opcode checks

/-! ### What a completion shows (R509, R510) -/

/-- Response words leave a register that stands at none of their places. -/
theorem Dev.word_putWords_other (ok : d.regsOk) (c k i : Nat) {ws : List Nat} {r : Reg} {u n j : Nat}
    (away : ∀ m < ws.length, r.key u n j ≠ MBX_RSP_WORD.reg.key c k (i + m)) : (d.putWords c k i ws).word r u n j = d.word r u n j := by
  induction ws generalizing d i with
  | nil => rfl
  | cons w ws ih =>
    have rest : ∀ m < ws.length, r.key u n j ≠ MBX_RSP_WORD.reg.key c k (i + 1 + m) := by
      intro m lt
      rw [Nat.add_right_comm]
      exact away (m + 1) (by simpa using lt)
    rw [Dev.putWords, ih (Dev.regsOk_wr ok _ _ _ _ _) _ rest]
    exact Dev.word_setWord_other ok _ _ _ _ _ _ _ _ _ (away 0 (by simp))

/-- A slot's state is kept by its response words. -/
theorem Dev.slotState_putWords (ok : d.regsOk) (c k j : Nat) {ws : List Nat} (fits : ws.length ≤ 16) :
    (d.putWords c k 0 ws).slotState c j = d.slotState c j := by
  rw [Dev.slotState, Dev.word_putWords_other ok c k 0, Dev.slotState]
  intro m lt
  simp only [Reg.key, MBX_RSP_WORD, MBX_RSP, MBX_SLOT_STATE]
  omega

/-- The slot just moved. -/
theorem Dev.slotState_setSlot_self (ok : d.regsOk) (c st : Nat) (slot : k < 8) : (d.setSlot c k st).slotState c k = st % 4 := by
  rw [Dev.slotState, Dev.setSlot, Dev.word_setWord_self ok, bits_setBits_self _ _ (by omega) (by omega),
    show 2 * k + 1 + 1 - 2 * k = 2 by omega]
  rfl

/-- Another slot of the context. -/
theorem Dev.slotState_setSlot_other (ok : d.regsOk) (c st : Nat) {j : Nat} (slot : j < 8) (ne : j ≠ k) :
    (d.setSlot c k st).slotState c j = d.slotState c j := by
  rw [Dev.slotState, Dev.setSlot, Dev.word_setWord_self ok, bits_setBits_other _ _ (by omega) (by omega) (by omega), Dev.slotState]

/-- MBX_DONE with the bit of a slot set. -/
def doneWith (old k : Nat) : Nat := if bit old k then old else old + 2 ^ k

theorem bit_doneWith (old : Nat) (slot : k < 8) : bit (doneWith old k % 2 ^ 8) k = true := by
  rw [bit, Nat.testBit_mod_two_pow, doneWith]
  cases set : old.testBit k with
  | true => simp [bit, set, slot]
  | false => simp [bit, set, slot, Nat.add_comm old, Nat.testBit_two_pow_add_eq]

/-- R509: the module with the response words written and the slot DONE. -/
def Dev.responded (d : Dev) (c k : Nat) (st : Status) (ws : List Nat) : Dev :=
  (d.putWords c k 0 (d.responseHeader c k st :: ws.take 15)).setSlot c k slotDone

/-- After that a completion sets the slot's bit of MBX_DONE; its message, where one is due, comes last. -/
theorem Dev.finishSlot_sets_done (d : Dev) (c k : Nat) (st : Status) (ws : List Nat) :
    let done := doneWith ((d.responded c k st ws).rd MBX_DONE_DONE c) k
    d.finishSlot c k st ws = d.completed c k st ws done ∨ ∃ v, d.finishSlot c k st ws = (d.completed c k st ws done).msix c v := by
  unfold Dev.finishSlot
  exact (Decidable.em _).elim (fun due => .inr ⟨_, if_pos due⟩) (fun quiet => .inl (if_neg quiet))

theorem Dev.finishSlot_regs_responded (d : Dev) (c k : Nat) (st : Status) (ws : List Nat) :
    (d.finishSlot c k st ws).regs =
      ((d.responded c k st ws).wr MBX_DONE_DONE c 0 0 (doneWith ((d.responded c k st ws).rd MBX_DONE_DONE c) k)).regs := by
  obtain silent | ⟨v, sent⟩ := Dev.finishSlot_sets_done d c k st ws
  · exact silent ▸ rfl
  · rw [sent, Dev.msix_regs]
    rfl

theorem Dev.regsOk_responded (ok : d.regsOk) (c k : Nat) (st : Status) (ws : List Nat) : (d.responded c k st ws).regsOk :=
  Dev.regsOk_setWord (Dev.regsOk_putWords ok _ _ _ _) _ _ _ _ _

theorem Dev.responseWords_length (d : Dev) (c k : Nat) (st : Status) (ws : List Nat) :
    (d.responseHeader c k st :: ws.take 15).length ≤ 16 := by
  simp

/-- The slots' states of a completed slot's context are those of the module with the response. -/
theorem Dev.slotState_finishSlot (ok : d.regsOk) (c k j : Nat) (st : Status) (ws : List Nat) :
    (d.finishSlot c k st ws).slotState c j = (d.responded c k st ws).slotState c j := by
  have apart : MBX_SLOT_STATE.key c 0 0 ≠ MBX_DONE_DONE.reg.key c 0 0 := by
    simp only [Reg.key, MBX_SLOT_STATE, MBX_DONE_DONE, MBX_DONE]; omega
  have word := Dev.word_setWord_other (Dev.regsOk_responded ok c k st ws) MBX_DONE MBX_SLOT_STATE c 0 0
  rw [Dev.slotState, Dev.word, Dev.finishSlot_regs_responded, ← Dev.word, Dev.wr]
  exact congrArg (fun w => bits w (2 * j + 1) (2 * j)) (word _ c 0 0 apart)

/-- R510: word 0 of a completed slot's response. -/
theorem Dev.header_finishSlot (ok : d.regsOk) (c k : Nat) (st : Status) (ws : List Nat) :
    (d.finishSlot c k st ws).rd MBX_RSP_WORD c k 0 = d.responseHeader c k st % 2 ^ 32 := by
  have done_apart : MBX_RSP_WORD.reg.key c k 0 ≠ MBX_DONE_DONE.reg.key c 0 0 := by
    simp only [Reg.key, MBX_RSP_WORD, MBX_RSP, MBX_DONE_DONE, MBX_DONE]; omega
  have state_apart : MBX_RSP_WORD.reg.key c k 0 ≠ MBX_SLOT_STATE.key c 0 0 := by
    simp only [Reg.key, MBX_RSP_WORD, MBX_RSP, MBX_SLOT_STATE]; omega
  calc (d.finishSlot c k st ws).rd MBX_RSP_WORD c k 0
      = (d.responded c k st ws).rd MBX_RSP_WORD c k 0 := by
        rw [Dev.rd, Dev.word, Dev.finishSlot_regs_responded, ← Dev.word, ← Dev.rd]
        exact Dev.rd_wr_other (Dev.regsOk_responded ok c k st ws) _ _ _ _ _ _ _ _ _ done_apart
    _ = (d.putWords c k 0 (d.responseHeader c k st :: ws.take 15)).rd MBX_RSP_WORD c k 0 := by
        rw [Dev.rd, Dev.responded, Dev.setSlot,
          Dev.word_setWord_other (Dev.regsOk_putWords ok _ _ _ _) _ _ _ _ _ _ _ _ _ state_apart, ← Dev.rd]
    _ = d.responseHeader c k st % 2 ^ 32 := Dev.rsp_putWords ok c k 0 (j := 0) (by simp)

/-- Settles O13: the registers after the completion, each read after the writes that follow its own. -/
theorem completionShowsTheResponse : Obligations.CompletionShowsTheResponse := by
  unfold Obligations.CompletionShowsTheResponse
  intro d c k j st ws i ordered e
  obtain ⟨ok, -⟩ := ordered
  have ok' := Dev.regsOk_putWords ok c k 0 (d.responseHeader c k st :: ws.take 15)
  refine ⟨?done, fun other => ?others, ?bit, Dev.header_finishSlot ok c k st ws, fun there => ?words⟩
  case done => exact (Dev.slotState_finishSlot ok c k k st ws).trans (Dev.slotState_setSlot_self ok' c slotDone k.isLt)
  case others =>
    calc e.slotState c j = (d.responded c k st ws).slotState c j := Dev.slotState_finishSlot ok c k j st ws
      _ = (d.putWords c k 0 (d.responseHeader c k st :: ws.take 15)).slotState c j :=
        Dev.slotState_setSlot_other ok' c slotDone j.isLt (Fin.val_ne_of_ne other)
      _ = d.slotState c j := Dev.slotState_putWords ok c k j (d.responseWords_length c k st ws)
  case bit =>
    have read := Dev.rd_wr_self (Dev.regsOk_responded ok c k st ws) MBX_DONE_DONE c 0 0
      (doneWith ((d.responded c k st ws).rd MBX_DONE_DONE c) k) (by decide) (by decide)
    rw [Dev.rd, Dev.word, Dev.finishSlot_regs_responded, ← Dev.word, ← Dev.rd, read]
    exact bit_doneWith _ k.isLt
  case words =>
    rw [Dev.rsp_finishSlot ok c k st there i.isLt, nth, List.getD_eq_getElem _ _ there]

/-! ### What a query leaves alone (R509, R532) -/

/-- The change from one module to another touches the page and the record of a context, and the messages to the host, at most. -/
structure Dev.OnlyPage (c : Nat) (d e : Dev) : Prop where
  rest : d.sameButPages e
  regs : d.regsOk → e.regsOk ∧ ∀ key, key / 2 ^ 40 ≠ 4 → Tbl.find e.regs key = Tbl.find d.regs key
  ctxs : d.ctxsOk → e.ctxsOk ∧ ∀ x, x ≠ c → e.ctx x = d.ctx x

theorem Dev.OnlyPage.trans (h : Dev.OnlyPage c d e) (h' : Dev.OnlyPage c e f) : Dev.OnlyPage c d f where
  rest := Dev.sameButPages_trans h.rest h'.rest
  regs ok := by
    obtain ⟨mid, first⟩ := h.regs ok
    obtain ⟨last, second⟩ := h'.regs mid
    exact ⟨last, fun key away => (second key away).trans (first key away)⟩
  ctxs ok := by
    obtain ⟨mid, first⟩ := h.ctxs ok
    obtain ⟨last, second⟩ := h'.ctxs mid
    exact ⟨last, fun x ne => (second x ne).trans (first x ne)⟩

theorem Dev.onlyPage_refl (c : Nat) (d : Dev) : Dev.OnlyPage c d d := ⟨rfl, fun ok => ⟨ok, fun _ _ => rfl⟩, fun ok => ⟨ok, fun _ _ => rfl⟩⟩

/-- R556: the registers of the functions' pages stand at level 4. -/
theorem Dev.onlyPage_setWord (c : Nat) (d : Dev) {r : Reg} {u n j : Nat} (v : Nat) (page : r.key u n j / 2 ^ 40 = 4) :
    Dev.OnlyPage c d (d.setWord r u n j v) where
  rest := rfl
  regs ok := by
    refine ⟨Dev.regsOk_setWord ok _ _ _ _ _, fun key away => ?_⟩
    have ne : key ≠ r.key u n j := fun same => away (same ▸ page)
    unfold Dev.setWord Tbl.set
    split
    · exact Tbl.find_del_other ok ne
    · exact Tbl.find_put_other _ _ ne
  ctxs ok := ⟨ok, fun _ _ => rfl⟩

theorem Dev.onlyPage_modCtx (c : Nat) (d : Dev) (g : CtxRec → CtxRec) : Dev.OnlyPage c d (d.modCtx c g) where
  rest := rfl
  regs ok := ⟨ok, fun _ _ => rfl⟩
  ctxs ok := ⟨Dev.ctxsOk_modCtx ok c g, fun _ ne => Tbl.get_set_other ok _ ne⟩

theorem Dev.onlyPage_msix (c : Nat) (d : Dev) (v : Nat) : Dev.OnlyPage c d (d.msix c v) := by
  unfold Dev.msix
  split
  · exact Dev.onlyPage_modCtx c d _
  · exact ⟨rfl, fun ok => ⟨ok, fun _ _ => rfl⟩, fun ok => ⟨ok, fun _ _ => rfl⟩⟩

/-- A register of a page that has one place in it. -/
theorem pageKey_level {r : Reg} (scope : r.scope = .fn) (lt : r.base < 2 ^ 24) (ctx : c < 16) : r.key c 0 0 / 2 ^ 40 = 4 := by
  simp only [Reg.key, scope, Scope.lvl, Scope.shift]
  omega

theorem Dev.onlyPage_wr (d : Dev) (g : Fld) (v : Nat) (ctx : c < 16) (scope : g.reg.scope = .fn := by decide)
    (lt : g.reg.base < 2 ^ 24 := by decide) : Dev.OnlyPage c d (d.wr g c 0 0 v) :=
  d.onlyPage_setWord c _ (pageKey_level scope lt ctx)

theorem Dev.onlyPage_setSlot (d : Dev) (k st : Nat) (ctx : c < 16) : Dev.OnlyPage c d (d.setSlot c k st) :=
  d.onlyPage_setWord c _ (pageKey_level rfl (by decide) ctx)

theorem Dev.onlyPage_putWords (d : Dev) {i : Nat} {ws : List Nat} (ctx : c < 16) (slot : k < 8) (fits : i + ws.length ≤ 16) :
    Dev.OnlyPage c d (d.putWords c k i ws) := by
  induction ws generalizing d i with
  | nil => exact d.onlyPage_refl c
  | cons w ws ih =>
    rw [List.length_cons] at fits
    have place : MBX_RSP_WORD.reg.key c k i / 2 ^ 40 = 4 := by
      simp only [Reg.key, MBX_RSP_WORD, MBX_RSP, Scope.lvl, Scope.shift]; omega
    exact (d.onlyPage_setWord c _ place).trans (ih _ (by omega))

theorem Dev.onlyPage_finishSlot (d : Dev) (st : Status) (ws : List Nat) (ctx : c < 16) (slot : k < 8) :
    Dev.OnlyPage c d (d.finishSlot c k st ws) := by
  have words := d.responseWords_length c k st ws
  have responded : Dev.OnlyPage c d (d.responded c k st ws) :=
    (d.onlyPage_putWords ctx slot (by omega)).trans (Dev.onlyPage_setSlot _ _ _ ctx)
  have completed (done : Nat) : Dev.OnlyPage c d (d.completed c k st ws done) :=
    (responded.trans (Dev.onlyPage_modCtx c _ _)).trans (Dev.onlyPage_wr _ _ _ ctx)
  obtain ⟨done, silent | ⟨v, sent⟩⟩ := Dev.finishSlot_cases d c k st ws
  · exact silent ▸ completed done
  · exact sent ▸ (completed done).trans (Dev.onlyPage_msix c _ v)

theorem Dev.onlyPage_consumeSeq (d : Dev) (q : Nat) (ctx : c < 16) : Dev.OnlyPage c d (d.consumeSeq c q) := by
  unfold Dev.consumeSeq
  dsimp only
  split
  · exact (d.onlyPage_wr _ _ ctx).trans (Dev.onlyPage_modCtx c _ _)
  · exact Dev.onlyPage_modCtx c d _

theorem Dev.onlyPage_refuse (d : Dev) (k : Nat) (ctx : c < 16) : Dev.OnlyPage c d (d.refuse c k).2 := by
  cases row : opcodeRow (d.opcode c k) with
  | none => rw [Dev.refuse_unknown row]; exact d.onlyPage_refl c
  | some entry =>
    rw [Dev.refuse_eq row]
    split_ifs
    · exact d.onlyPage_refl c
    · exact d.onlyPage_refl c
    · exact d.onlyPage_wr _ _ ctx
    · exact d.onlyPage_refl c

theorem Dev.onlyPage_settle (d : Dev) (r : Reply) (ctx : c < 16) (slot : k < 8) : Dev.OnlyPage c d (d.settle c k r) := by
  cases r with
  | done st ws => exact d.onlyPage_finishSlot st ws ctx slot
  | wait w => exact d.onlyPage_modCtx c _

/-- Serving a command whose own part changes nothing. -/
theorem Dev.onlyPage_serve (d : Dev) {mine : Nat → Bool} {body : Dev → Reply × Dev} (still : ∀ b, (body b).2 = b)
    (ctx : c < 16) (slot : k < 8) : Dev.OnlyPage c d (d.serve c k mine body) := by
  unfold Dev.serve
  split
  · have refused := (d.onlyPage_setSlot k slotRunning ctx).trans (Dev.onlyPage_refuse _ k ctx)
    dsimp only
    generalize (d.setSlot c k slotRunning).refuse c k = checks at refused ⊢
    obtain ⟨answer | st, checked⟩ := checks
    · exact (refused.trans (still _ ▸ Dev.onlyPage_consumeSeq _ _ ctx)).trans (Dev.onlyPage_settle _ _ ctx slot)
    · exact refused.trans (Dev.onlyPage_finishSlot _ _ _ ctx slot)
  · exact d.onlyPage_refl c

/-! ### The queries and their answers (R251, R500, R532, R533, R536, R538, R605, R607, R692) -/

section
variable (b : Dev) (c k : Nat)

theorem Dev.identify_still : (b.identify c k).2 = b := by unfold Dev.identify; split <;> rfl

theorem Dev.capabilities_still : (b.capabilities c k).2 = b := by unfold Dev.capabilities; split <;> rfl

theorem Dev.ctxInfo_still : (b.ctxInfo c k).2 = b := by unfold Dev.ctxInfo; split <;> rfl

theorem Dev.arrayInfo_still : (b.arrayInfo c k).2 = b := by unfold Dev.arrayInfo; split <;> rfl

theorem Dev.routeRead_still : (b.routeRead c k).2 = b := by unfold Dev.routeRead; dsimp only; split_ifs <;> rfl

theorem Dev.portInfo_still : (b.portInfo c k).2 = b := by unfold Dev.portInfo; dsimp only; split <;> rfl

theorem Dev.faultInfo_still : (b.faultInfo c k).2 = b := by unfold Dev.faultInfo; split <;> rfl

theorem Dev.telemRead_still : (b.telemRead c k).2 = b := by unfold Dev.telemRead; split <;> rfl

theorem Dev.measureRead_still : (b.measureRead c k).2 = b := by unfold Dev.measureRead; dsimp only; split <;> rfl

end

/-- A mailbox command whose own part changes nothing. -/
theorem State.onlyPage_serveOp {t : State} (c : Fin 16) (k : Fin 8) {op : Nat} {body : Dev → Reply × Dev} (still : ∀ b, (body b).2 = b)
    (ran : s.to (s.dev.serveOp c k op body) = .next t) : Dev.OnlyPage c s.dev t.dev := by
  injection ran with same
  exact same ▸ Dev.onlyPage_serve s.dev (mine := (· == op)) still c.isLt k.isLt

/-- Settles O14: a query's own part changes nothing, and its start and its completion touch the context's page only. -/
theorem queriesChangeOnlyTheirPage : Obligations.QueriesChangeOnlyTheirPage := by
  unfold Obligations.QueriesChangeOnlyTheirPage
  intro i s t c k query ordered ran
  obtain ⟨regs, -, -, ctxs, -⟩ := ordered
  have page : Dev.OnlyPage c s.dev t.dev := by
    obtain rfl | rfl | rfl | rfl | rfl | rfl | rfl | rfl | rfl := query
    · exact State.onlyPage_serveOp c k (Dev.identify_still · c k) ran
    · exact State.onlyPage_serveOp c k (Dev.capabilities_still · c k) ran
    · exact State.onlyPage_serveOp c k (Dev.ctxInfo_still · c k) ran
    · exact State.onlyPage_serveOp c k (Dev.arrayInfo_still · c k) ran
    · exact State.onlyPage_serveOp c k (Dev.routeRead_still · c k) ran
    · exact State.onlyPage_serveOp c k (Dev.portInfo_still · c k) ran
    · exact State.onlyPage_serveOp c k (Dev.faultInfo_still · c k) ran
    · exact State.onlyPage_serveOp c k (Dev.telemRead_still · c k) ran
    · exact State.onlyPage_serveOp c k (Dev.measureRead_still · c k) ran
  exact ⟨page.rest, (page.regs regs).2, (page.ctxs ctxs).2⟩

/-! ### MEM_FREE and CSR_WRITE (R535, R541) -/

theorem exec_memFree {c : Fin 16} {k : Fin 8} (ready : Ready s c k 0x11) :
    exec (.memFree c k) s = .next (s.replied c k ((s.dev.begun c k).memFree c k)) := State.to_serveOp ready _

theorem exec_csrWrite {c : Fin 16} {k : Fin 8} (ready : Ready s c k 0x75) :
    exec (.csrWrite c k) s = .next (s.replied c k ((s.dev.begun c k).csrWriteCmd s.fuses c k)) := State.to_serveOp ready _

/-- No region of a context's map starts at an address. -/
theorem noRegionAt_iff (map : List Region) (a : Nat) : map.any (fun r => r.addr == a) = false ↔ ∀ r ∈ map, r.addr ≠ a := by
  simp only [List.any_eq_false, beq_iff_eq, ne_eq]

/-- Settles O26: MEM_FREE's reply on the begun module, check by check. -/
theorem memFreeAnswers : Obligations.MemFreeAnswers := by
  unfold Obligations.MemFreeAnswers
  intro s c k ready b a
  simp only [exec_memFree ready, Dev.memFree, State.replied_ite, State.replied_st, Bool.or_eq_true, Bool.not_eq_true', noRegionAt_iff]
  rfl

/-- Settles O28: where its arguments are clean, CSR_WRITE completes with the status of its one access. -/
theorem csrWriteAnswers : Obligations.CsrWriteAnswers := by
  unfold Obligations.CsrWriteAnswers
  intro s c k ready b r
  simp only [exec_csrWrite ready, Dev.csrWriteCmd, State.replied_ite, State.replied_st, Bool.not_eq_true']
  rfl

end Sys2Proof.Machine
end

section
/-! The event FIFO (R530): the refutation of O17, from one state whose table of contexts lists a context twice. -/
namespace Sys2Proof.Machine

theorem exec_eventPop (s : State) (c : Fin 16) :
    exec (.eventPop c) s = .next (s.withDev (s.dev.bar0Write s.fuses c MBX_EVT_CTRL.base 4 (2 ^ 31) false)) := rfl

/-- An event as a restart of the management processor raises it. -/
def restartEvent : LogEntry := ⟨0, srcUnit 0x01, .fixed 0x0010, Status.internal.code, 4, true, 0, 1, [1, 1], 0⟩

/-- The table of contexts lists context 0 twice: with one event, and behind that with two. -/
def listedTwice : Dev := { ctxs := [(0, { events := [restartEvent] }), (0, { events := [restartEvent, restartEvent] })] }

/-- The context shows one event; its removal leaves the record of reset, which no table lists, so that the entry behind shows its two. -/
theorem listedTwice_events :
    (listedTwice.ctx 0).events.length = 1
      ∧ ((listedTwice.bar0Write State.reset.fuses 0 MBX_EVT_CTRL.base 4 (2 ^ 31) false).ctx 0).events.length = 2 := by
  decide +kernel

/-- Refutes O17: its clause on R530 assumes of the state only that the function answers, so the table of contexts need not be in order and
may list a context twice; the removal of the first entry's only event then shows the events of the second. -/
theorem not_pageAccessesTakeEffect : ¬ Obligations.PageAccessesTakeEffect := by
  unfold Obligations.PageAccessesTakeEffect
  rintro ⟨-, -, -, -, -, -, -, pop⟩
  obtain ⟨t, ran, events, -, -⟩ := pop (State.reset.withDev listedTwice) 0 (by decide)
  rw [exec_eventPop] at ran
  injection ran with same
  obtain ⟨before, after⟩ := listedTwice_events
  have index : (0 : Fin 16).val = 0 := rfl
  have counted := congrArg List.length events
  rw [← same, List.length_drop, State.dev_withDev, State.dev_withDev, State.fuses_withDev, index, before, after] at counted
  exact absurd counted (by decide)

end Sys2Proof.Machine
end

section
/-! The management processor (R503 to R506, R518, R528, R538): what each of its rows does, and what O40 comes to. Its clause on R518 names
context 0 in the entry of a change of stage; the entry concerns no context, for which R526 gives no value (Config.logContext). -/
namespace Sys2Proof.Machine

variable {d : Dev}

/-! ### Restarts (R503, R506) -/

/-- R503: a restart that is not the third within 60 s. -/
theorem Dev.mpRestart_counted (cause : Nat) (run : d.life = .run) (serving : d.mpDown = false)
    (few : (d.mpCauses.filter (fun t => decide (d.time ≤ t + 60000000000))).length < 2) :
    d.mpRestart cause = { (d.countRestart cause).2 with mpDown := true } := by
  have not_third : ¬ 3 ≤ (d.countRestart cause).1 := by
    show ¬ 3 ≤ (d.mpCauses.filter (fun t => decide (d.time ≤ t + 60000000000))).length + 1
    omega
  rw [Dev.mpRestart, if_pos ⟨.inl run, serving⟩]
  exact if_neg not_third

theorem Dev.sameButPages_foldl {α : Type} (g : Dev → α → Dev) (step : ∀ (d : Dev) (x : α), d.sameButPages (g d x)) (xs : List α) (d : Dev) :
    d.sameButPages (xs.foldl g d) := by
  induction xs generalizing d with
  | nil => rfl
  | cons x xs ih => exact Dev.sameButPages_trans (step d x) (ih (g d x))

theorem Dev.closeWindow_sameButPages (d : Dev) (c : Nat) : d.sameButPages (d.closeWindow c) :=
  Dev.sameButPages_trans (Dev.wr_sameButPages d MBX_DATA_STATUS_OPEN c 0 0 0) (Dev.sameButPages_trans
    (Dev.wr_sameButPages _ MBX_DATA_STATUS_REMAIN c 0 0 0) (Dev.sameButPages_trans
      (Dev.wr_sameButPages _ MBX_DATA_STATUS_DIR c 0 0 0) (Dev.modCtx_sameButPages _ c _)))

/-- R506: the commands that a restart ends touch pages only. -/
theorem Dev.resolveCommands_sameButPages (d : Dev) : d.sameButPages d.resolveCommands := by
  refine Dev.sameButPages_foldl _ (fun d c => Dev.sameButPages_foldl _ (fun d k => ?_) _ d) _ d
  split
  · split
    · rfl
    · rfl
    · rfl
    · exact Dev.sameButPages_trans (d.closeWindow_sameButPages c) (Dev.finishSlot_sameButPages _ _ _ _ _)
    · exact Dev.finishSlot_sameButPages _ _ _ _ _
  · rfl

/-- A stage is shown in registers. -/
theorem Dev.setStage_sameButPages (d : Dev) (k : Nat) : d.sameButPages (d.setStage k) :=
  Dev.sameButPages_trans (d.wr_sameButPages MBX_MP_STATUS_SHED 0 0 0 k)
    (Dev.sameButPages_foldl _ (fun d c => d.wr_sameButPages MBX_PAGE_STATUS_SHED c 0 0 k) _ _)

/-- R683: the module that runs its ACTIVE image. -/
def Dev.bootedActive (d : Dev) : Dev := { d with runningSlot := 0, runningImage := d.active }

/-- R505, R518: stage 0 and the image's slot are shown, and firmware serves again. -/
def Dev.servesAgain (d : Dev) : Dev := { (d.wr SEC_STATUS_SLOT 0 0 0 d.runningSlot).setStage 0 with mpDown := false }

theorem Dev.mpServes_active {f : Fuses} (down : d.mpDown = true) (verifies : d.active.verify f = .ok) :
    d.mpServes f = d.bootedActive.servesAgain.resolveCommands := by
  have boot : d.bootImage f = (true, d.bootedActive) := by rw [Dev.bootImage, if_pos verifies]; rfl
  rw [Dev.mpServes, if_neg (by rw [down]; decide), boot]
  rfl

theorem Dev.sameButPages.running {e : Dev} (same : d.sameButPages e) :
    e.mpDown = d.mpDown ∧ e.runningImage = d.runningImage ∧ e.runningSlot = d.runningSlot := by
  unfold Dev.sameButPages at same
  rw [same]
  exact ⟨rfl, rfl, rfl⟩

theorem Dev.sameButPages.serving {e : Dev} (same : d.sameButPages e) :
    let r : Dev := { e with mpDown := false }
    r.mpDown = false ∧ r.runningImage = d.runningImage ∧ r.runningSlot = d.runningSlot :=
  ⟨rfl, same.running.2⟩

theorem Dev.servesAgain_image (d : Dev) :
    d.servesAgain.mpDown = false ∧ d.servesAgain.runningImage = d.runningImage ∧ d.servesAgain.runningSlot = d.runningSlot :=
  have shown : d.sameButPages ((d.wr SEC_STATUS_SLOT 0 0 0 d.runningSlot).setStage 0) :=
    Dev.sameButPages_trans (d.wr_sameButPages SEC_STATUS_SLOT 0 0 0 d.runningSlot) (Dev.setStage_sameButPages _ 0)
  shown.serving

theorem Dev.mpServes_running {f : Fuses} (down : d.mpDown = true) (verifies : d.active.verify f = .ok) :
    ∃ e, d.mpServes f = e ∧ e.mpDown = false ∧ e.runningImage = d.active ∧ e.runningSlot = 0 := by
  obtain ⟨up, image, slot⟩ := Dev.servesAgain_image d.bootedActive
  obtain ⟨up', image', slot'⟩ := (Dev.resolveCommands_sameButPages d.bootedActive.servesAgain).running
  exact ⟨_, Dev.mpServes_active down verifies, up'.trans up, image'.trans image, slot'.trans slot⟩

theorem Dev.mpReturns_serves {f : Fuses} {e : Dev} (down : d.mpDown = true) (serves : d.mpServes f = e) (up : e.mpDown = false) :
    d.mpReturns f = { e with restore := none, mpKicked := d.time } := by
  rw [Dev.mpReturns, if_pos down, serves]
  exact if_neg (by rw [up]; decide)

theorem exec_mpRestartComplete {s : State} (down : s.dev.mpDown = true) (verifies : s.dev.active.verify s.fuses = .ok) :
    ∃ t, exec .mpRestartComplete s = .next t ∧ t.fuses = s.fuses ∧ t.dev.mpDown = false ∧ t.dev.restore = none
      ∧ t.dev.runningImage = s.dev.active ∧ t.dev.runningSlot = 0 := by
  obtain ⟨e, serves, up, image, slot⟩ := Dev.mpServes_running down verifies
  exact ⟨_, s.to_eq (Dev.mpReturns_serves down serves up), rfl, up, rfl, image, slot⟩

/-! ### Shedding, telemetry, epochs (R518, R528, R538) -/

theorem Dev.firmware_serving (run : d.life = .run) (serving : d.mpDown = false) : d.firmware = true := by
  rw [Dev.firmware, run, serving]; rfl

theorem exec_shedStage {s : State} (busy : Fin 101) (held : Bool) (run : s.dev.life = .run) (serving : s.dev.mpDown = false) :
    let k := s.dev.nextStage busy.val held
    let d := s.dev.wr MBX_MP_STATUS_BUSY 0 0 0 busy.val
    exec (.shedStage busy held) s = .next (s.withDev (
      if k = s.dev.rd MBX_MP_STATUS_SHED 0 then d
      else (d.setStage k).logEntry (srcUnit 0x01) (.fixed 0x0011) .ok false (Config.logContext 0x0011).val [k, busy.val])) :=
  s.to_eq (if_pos (Dev.firmware_serving run serving))

theorem exec_telemetrySample {s : State} (run : s.dev.life = .run) (serving : s.dev.mpDown = false)
    (due : s.dev.telemetry.time + s.dev.samplePeriod ≤ s.dev.time) :
    exec .telemetrySample s = .next (s.withDev { s.dev with
      telemetry := ⟨(s.dev.telemetry.number + 1) % 2 ^ 32, s.dev.time, s.dev.sampleWords⟩ }) :=
  s.to_eq (if_pos ⟨Dev.firmware_serving run serving, due⟩)

theorem exec_logEpoch {s : State} (powered : s.dev.life ≠ .off) (wrapped : s.dev.rd LOG_EPOCH_EPOCH 0 ≠ (s.dev.micros / 2 ^ 32) % 2 ^ 32) :
    exec .logEpoch s = .next (s.withDev s.dev.writeEpoch) :=
  s.to_eq (if_pos ⟨powered, wrapped⟩)

/-! ### What O40 comes to -/

/-- An entry that is neither below MIN_SEV nor coalesced, in the epoch last written, stands last in the log with the context it is given. -/
theorem Dev.logEntry_ctx (src code : Nat) (st : Status) (host : Bool) (c : Nat) (data : List Nat)
    (all_kept : d.rd LOG_CFG_MIN_SEV 0 = 0) (stage : d.rd MBX_MP_STATUS_SHED 0 < 3)
    (epoch : d.rd LOG_EPOCH_EPOCH 0 = (d.micros / 2 ^ 32) % 2 ^ 32) :
    ((d.logEntry src (.fixed code) st host c data).log.getLast?.map (·.ctx)) = some c := by
  have no_merge : (decide (LogEvent.fixed code = .diag .correctableError) || decide (3 ≤ d.rd MBX_MP_STATUS_SHED 0)) = false := by
    simpa using stage
  simp only [Dev.logEntry, Dev.logSev, all_kept, Nat.not_lt_zero, if_false, no_merge, Bool.false_eq_true, epoch, if_true, Dev.writeEntry,
    List.getLast?_append, List.getLast?_singleton, Option.some_or, Option.map_some]

/-- The module in Run that logs entries of every severity. -/
def logsAll : Dev := { ({} : Dev).wr LOG_CFG_MIN_SEV 0 0 0 0 with life := .run }

/-- At 80 % busy it enters stage 1; its log is of the first epoch. -/
theorem logsAll_sheds :
    logsAll.nextStage 80 false = 1 ∧ logsAll.rd MBX_MP_STATUS_SHED 0 = 0 ∧
      (let e := (logsAll.wr MBX_MP_STATUS_BUSY 0 0 0 80).setStage 1
      e.rd LOG_CFG_MIN_SEV 0 = 0 ∧ e.rd MBX_MP_STATUS_SHED 0 < 3 ∧ e.rd LOG_EPOCH_EPOCH 0 = (e.micros / 2 ^ 32) % 2 ^ 32) := by
  decide +kernel

/-- O40 holds exactly where the context of a change of stage's entry is 0: its clause on R518 names context 0, where `exec` takes the context
from Config.logContext. Log entry 97 leaves that constant without a body, so that neither O40 nor its negation can be proved. -/
theorem managementEventsTakeEffect_iff : Obligations.ManagementEventsTakeEffect ↔ (Config.logContext 0x0011).val = 0 := by
  unfold Obligations.ManagementEventsTakeEffect
  constructor
  · rintro ⟨-, -, sheds, -, -⟩
    obtain ⟨stage, before, all_kept, low, epoch⟩ := logsAll_sheds
    have claimed := sheds (State.reset.withDev logsAll) 80 false rfl rfl
    rw [exec_shedStage 80 false rfl rfl] at claimed
    have same := Host.Outcome.next.inj claimed
    have logs := congrArg (fun t : State => t.dev.log.getLast?.map (·.ctx)) same
    have busy : (80 : Fin 101).val = 80 := rfl
    simp only [State.dev_withDev, busy, stage, before, if_neg Nat.one_ne_zero] at logs
    rw [Dev.logEntry_ctx _ _ _ _ _ _ all_kept low epoch, Dev.logEntry_ctx _ _ _ _ _ _ all_kept low epoch] at logs
    exact Option.some.inj logs
  · intro context
    refine ⟨fun s b run serving few => ⟨?restart, fun due => ?watchdog⟩, fun s => exec_mpRestartComplete,
      fun s busy held run serving => ?shed, fun s => exec_telemetrySample, fun s => exec_logEpoch⟩
    case restart => exact s.to_eq (Dev.mpRestart_counted _ run serving few)
    case watchdog => exact s.to_eq ((if_pos due).trans (Dev.mpRestart_counted 1 run serving few))
    case shed => rw [exec_shedStage busy held run serving, context]

end Sys2Proof.Machine
end

section
/-! The block (log entries 4 to 6, R684, R685): its queue, its clock and its reset state, what commands leave of the queue and the fuses, and
O1 to O7 and O10 from it. -/
namespace Sys2Proof.Machine

/-! ### The reset state and an idle step -/

/-- An empty table of registers reads reset values. -/
theorem State.reset_word (r : Reg) (u n k : Nat) : State.reset.dev.word r u n k = r.resetAt n k := rfl

theorem bits_zero (hi lo : Nat) : bits 0 hi lo = 0 := by simp [bits]

theorem Dev.deliverOwn_none {d : Dev} (idle : d.own = []) : d.deliverOwn = d := by rw [Dev.deliverOwn, idle]

theorem step_idle {s : State} (idle : s.pending = []) : step s = .next s.tick := by rw [step, idle]

theorem step_front {s : State} {c : Instr} {rest : List Instr} (front : s.pending = c :: rest) :
    step s = exec c { s with pending := rest } := by rw [step, front]

/-- Settles O1. -/
theorem stepRunsFrontCommand : Obligations.StepRunsFrontCommand := fun _ _ _ front => step_front front

/-- Settles O2: a step on an empty queue is a tick, and a tick delivers the oldest of the module's own packets. -/
theorem idleStepIsOneClockEdge : Obligations.IdleStepIsOneClockEdge := by
  intro s idle d
  have none_delivered (none_waits : s.dev.own = []) : s.tick = s.withDev d := congrArg s.withDev (Dev.deliverOwn_none (d := d) none_waits)
  exact ⟨fun none_waits => (step_idle idle).trans (congrArg _ (none_delivered none_waits)), fun _ => ⟨step_idle idle, idle⟩⟩

/-- Settles O3: every register of the reset state reads its reset value. -/
theorem resetStateHoldsResetValues : Obligations.ResetStateHoldsResetValues :=
  ⟨rfl, State.reset_word, fun _ => ⟨rfl, rfl⟩, rfl, fun _ => rfl, fun _ k => bits_zero (2 * k + 1) (2 * k), rfl, rfl, rfl, rfl, rfl, rfl⟩

/-- Settles O4. -/
theorem resetStateMeetsInvariants : Obligations.ResetStateMeetsInvariants := ⟨⟨rfl, rfl, rfl, rfl, rfl⟩, by decide⟩

/-! ### The queue and the fuses -/

theorem exec_runAck_acknowledged {s : State} (may : s.dev.mayAck = true) :
    exec .runAck s = .next { s with fuses := s.fuses.advance s.dev.runningImage
                                    dev := s.dev.runAck s.fuses (s.fuses.advance s.dev.runningImage) } := if_pos may

theorem exec_runAck_unasked {s : State} (not_yet : s.dev.mayAck = false) : exec .runAck s = .next s :=
  if_neg (by simp [not_yet])

/-- Every meaning but that of RUN_ACK takes the module to a next state and touches nothing else. -/
theorem exec_to {c : Instr} (other : c ≠ .runAck) (s : State) : ∃ d, exec c s = s.to d := by
  cases c
  case runAck => exact absurd rfl other
  all_goals exact ⟨_, rfl⟩

/-- What RUN_ACK leaves of the queue and the fuses. -/
theorem exec_runAck_next (s : State) : ∃ t, exec .runAck s = .next t ∧ t.pending = s.pending
    ∧ (t.fuses = s.fuses ∨ t.fuses = s.fuses.advance s.dev.runningImage) := by
  cases may : s.dev.mayAck with
  | true => exact ⟨_, exec_runAck_acknowledged may, rfl, .inr rfl⟩
  | false => exact ⟨s, exec_runAck_unasked may, rfl, .inl rfl⟩

/-- Settles O5. -/
theorem commandsKeepQueueAndFuses : Obligations.CommandsKeepQueueAndFuses := by
  intro c s
  by_cases ack : c = .runAck
  · obtain ⟨t, ran, queue, -⟩ := exec_runAck_next s
    exact ⟨t, ack ▸ ran, queue, fun other => absurd ack other⟩
  · obtain ⟨d, ran⟩ := exec_to ack s
    exact ⟨_, ran, rfl, fun _ => rfl⟩

/-- A step goes on, takes the front command, and leaves the fuses or advances them for an image. -/
theorem step_next (s : State) : ∃ t, step s = .next t ∧ t.pending = s.pending.drop 1
    ∧ (t.fuses = s.fuses ∨ ∃ i, t.fuses = s.fuses.advance i) := by
  cases waiting : s.pending with
  | nil => exact ⟨s.tick, step_idle waiting, waiting, .inl rfl⟩
  | cons c rest =>
    by_cases ack : c = .runAck
    · obtain ⟨t, ran, queue, fuses⟩ := exec_runAck_next { s with pending := rest }
      exact ⟨t, (step_front waiting).trans (ack ▸ ran), queue, fuses.imp_right fun advanced => ⟨_, advanced⟩⟩
    · obtain ⟨d, ran⟩ := exec_to ack { s with pending := rest }
      exact ⟨_, (step_front waiting).trans ran, rfl, .inl rfl⟩

theorem run_succ {n : Nat} {s t : State} (stepped : step s = .next t) :
    Host.Core.run Sys2Proof.core (n + 1) s = Host.Core.run Sys2Proof.core n t := by
  have unfolded : Sys2Proof.core.step s = .next t := stepped
  simp only [Host.Core.run, unfolded]

/-- Settles O6, by induction on the number of steps. -/
theorem commandsAreTakenInOrder : Obligations.CommandsAreTakenInOrder := by
  intro n
  induction n with
  | zero => exact fun s => ⟨s, rfl, rfl⟩
  | succ n ih =>
    intro s
    obtain ⟨t, stepped, queue, -⟩ := step_next s
    obtain ⟨u, ran, rest⟩ := ih t
    exact ⟨u, (run_succ stepped).trans ran, by rw [rest, queue, List.drop_drop, Nat.add_comm]⟩

/-! ### Revocation and the anti-rollback count (R684, R685) -/

/-- A bit that is not set is set by adding its weight. -/
theorem bit_add_two_pow {r k : Nat} (clear : bit r k = false) (j : Nat) : bit (r + 2 ^ k) j = (bit r j || decide (j = k)) := by
  have none_there : bits r k k = 0 := Nat.eq_of_testBit_eq fun i => by
    rw [testBit_bits, Nat.zero_testBit]
    by_cases first : i = 0
    · subst first; simpa [bit] using clear
    · simp; omega
  have added : r + 2 ^ k = setBits r k k 1 := by simp [setBits, none_there]
  rw [bit, added, testBit_setBits r 1 j (by omega)]
  by_cases here : j = k
  · subst here; simp
  · rw [if_neg (by omega)]; simp [here, bit]

/-- `r` comes from `old` by blowing bits that an image's REVOKE names, none of them its own key's. -/
structure Revokes (i : Image) (old r : Nat) : Prop where
  kept : ∀ k, bit old k = true → bit r k = true
  named : ∀ k, bit r k = true → bit old k = true ∨ bit i.revoke k = true
  own : bit r i.keySlot = bit old i.keySlot
  leaves : old < 15 → r < 15
  fits : old < 16 → r < 16

/-- One key slot of revokeAfter. -/
def revokeOne (i : Image) (r k : Nat) : Nat :=
  if bit i.revoke k && k != i.keySlot && !bit r k && decide (r + 2 ^ k < 15) then r + 2 ^ k else r

theorem Revokes.one {i : Image} {old r : Nat} (h : Revokes i old r) (k : Nat) : Revokes i old (revokeOne i r k) := by
  unfold revokeOne
  split
  case isFalse => exact h
  case isTrue blow =>
    simp only [Bool.and_eq_true, bne_iff_ne, Bool.not_eq_true', decide_eq_true_eq] at blow
    obtain ⟨⟨⟨names, other⟩, clear⟩, left⟩ := blow
    have blown := bit_add_two_pow clear
    exact {
      kept := fun j was => by rw [blown, h.kept j was, Bool.true_or]
      named := fun j now => by
        rw [blown, Bool.or_eq_true, decide_eq_true_eq] at now
        obtain was | rfl := now
        · exact h.named j was
        · exact .inr names
      own := by rw [blown, h.own, decide_eq_false (Ne.symm other), Bool.or_false]
      leaves := fun _ => left
      fits := fun _ => by omega }

theorem revokes_revokeAfter (i : Image) (old : Nat) : Revokes i old (revokeAfter old i) :=
  List.foldlRecOn (motive := Revokes i old) (List.range 4) (revokeOne i)
    ⟨fun _ was => was, fun _ now => .inl now, rfl, id, id⟩ (fun _ so_far k _ => so_far.one k)

/-- IMG_REVOKE's bits are its four fuses. -/
theorem Fuses.bit_revoked (f : Fuses) {k : Nat} (slot : k < 4) : bit f.revoked k = fuseBlown f.imgRevoke k := by
  have four : ∀ (b : Fin 4 → Bool) (k : Fin 4),
      bit ((List.range 4).foldl (fun n k => if b (Fin.ofNat 4 k) then n + 2 ^ k else n) 0) k = b k := by decide
  exact four (fun k => fuseBlown f.imgRevoke k) ⟨k, slot⟩

theorem Fuses.revoked_lt (f : Fuses) : f.revoked < 16 := by
  have four : ∀ b : Fin 4 → Bool, (List.range 4).foldl (fun n k => if b (Fin.ofNat 4 k) then n + 2 ^ k else n) 0 < 16 := by decide
  exact four (fun k => fuseBlown f.imgRevoke k)

theorem eq_of_four_bits {m n : Nat} (fits_m : m < 16) (fits_n : n < 16) (same : ∀ k < 4, bit m k = bit n k) : m = n := by
  refine Nat.eq_of_testBit_eq fun k => ?_
  by_cases slot : k < 4
  · exact same k slot
  · have weight : 2 ^ 4 ≤ 2 ^ k := Nat.pow_le_pow_right (by decide) (by omega)
    rw [Nat.testBit_lt_two_pow (by omega), Nat.testBit_lt_two_pow (by omega)]

theorem fuseBlown_advance (f : Fuses) (i : Image) {k : Nat} (slot : k < 4) :
    fuseBlown (f.advance i).imgRevoke k = (fuseBlown f.imgRevoke k || bit (revokeAfter f.revoked i) k) := by
  have listed : (f.advance i).imgRevoke[k]? = some
      (if fuseBlown f.imgRevoke k then f.imgRevoke.getD k .blown else if bit (revokeAfter f.revoked i) k then .blown else .intact) := by
    simp [Fuses.advance, slot]
  rw [fuseBlown, listed]
  cases was : fuseBlown f.imgRevoke k with
  | true =>
    unfold fuseBlown at was
    cases there : f.imgRevoke[k]? with
    | none => simp [there] at was
    | some r => simpa [List.getD, there] using was
  | false => cases now : bit (revokeAfter f.revoked i) k <;> rfl

/-- R684, R685: IMG_REVOKE after RUN acknowledgement. -/
theorem Fuses.revoked_advance (f : Fuses) (i : Image) : (f.advance i).revoked = revokeAfter f.revoked i := by
  have revokes := revokes_revokeAfter i f.revoked
  refine eq_of_four_bits (Fuses.revoked_lt _) (revokes.fits f.revoked_lt) fun k slot => ?_
  rw [Fuses.bit_revoked _ slot, fuseBlown_advance f i slot, ← f.bit_revoked slot]
  cases was : bit f.revoked k with
  | true => rw [revokes.kept k was]; rfl
  | false => rfl

theorem count_blowMore (n : Nat) (l : List FuseRead) :
    ((blowMore n l).filter FuseRead.counts).length = (l.filter FuseRead.counts).length + n := by
  induction l generalizing n with
  | nil => rw [blowMore, List.filter_eq_self.2 (by intro r h; rw [List.eq_of_mem_replicate h]; rfl)]; simp
  | cons r rs ih =>
    rw [blowMore]
    cases blown : r.counts with
    | true => simp [blown, ih]; omega
    | false =>
      by_cases none_more : n = 0
      · simp [blown, none_more, ih]
      · have new : (FuseRead.blown :: blowMore (n - 1) rs).filter FuseRead.counts
            = .blown :: (blowMore (n - 1) rs).filter FuseRead.counts := List.filter_cons_of_pos rfl
        simp [blown, none_more, new, ih]; omega

/-- R684: the anti-rollback count after RUN acknowledgement. -/
theorem Fuses.rbCount_advance (f : Fuses) (i : Image) : (f.advance i).rbCount = max f.rbCount i.svn := by
  have blown : (f.advance i).rbCount = f.rbCount + (i.svn - f.rbCount) := count_blowMore _ f.rb
  omega

/-- Settles O10: R685 of revokeAfter, which is what RUN acknowledgement blows. -/
theorem revocationLeavesTheRunningKey : Obligations.RevocationLeavesTheRunningKey := by
  intro f i left
  have revokes := revokes_revokeAfter i f.revoked
  rw [f.revoked_advance i]
  exact ⟨revokes.leaves left, revokes.kept, revokes.named, fun was => revokes.own.trans was⟩

/-! ### The fuses over a run (R684, R685) -/

/-- The fuses only go on from `f` to `g`. -/
structure Fuses.Onward (f g : Fuses) : Prop where
  count : f.rbCount ≤ g.rbCount
  revoked : ∀ k, bit f.revoked k = true → bit g.revoked k = true
  copyA : g.badCopyA = f.badCopyA
  copyB : g.badCopyB = f.badCopyB

theorem Fuses.Onward.refl (f : Fuses) : f.Onward f := ⟨Nat.le_refl _, fun _ was => was, rfl, rfl⟩

theorem Fuses.Onward.trans {f g h : Fuses} (first : f.Onward g) (then_ : g.Onward h) : f.Onward h :=
  ⟨Nat.le_trans first.count then_.count, fun k was => then_.revoked k (first.revoked k was), then_.copyA.trans first.copyA,
    then_.copyB.trans first.copyB⟩

theorem Fuses.onward_advance (f : Fuses) (i : Image) : f.Onward (f.advance i) where
  count := by rw [f.rbCount_advance]; exact Nat.le_max_left _ _
  revoked := by rw [f.revoked_advance]; exact (revokes_revokeAfter i _).kept
  copyA := rfl
  copyB := rfl

theorem run_onward (n : Nat) (s t : State) (ran : Host.Core.run Sys2Proof.core n s = .next t) : s.fuses.Onward t.fuses := by
  induction n generalizing s with
  | zero => cases ran; exact .refl _
  | succ n ih =>
    obtain ⟨u, stepped, -, fuses⟩ := step_next s
    have rest := ih u ((run_succ stepped).symm.trans ran)
    obtain same | ⟨i, advanced⟩ := fuses
    · exact same ▸ rest
    · exact (s.fuses.onward_advance i).trans (advanced ▸ rest)

/-- Settles O7: a run's fuses go on step by step, and an advance leaves a key. -/
theorem fusesNeverGoBack : Obligations.FusesNeverGoBack := by
  refine ⟨fun n s t ran => ?_, fun s t stepped left => ?_⟩
  · obtain ⟨count, revoked, copyA, copyB⟩ := run_onward n s t ran
    exact ⟨count, revoked, copyA, copyB⟩
  · obtain ⟨u, same_step, -, fuses⟩ := step_next s
    cases stepped.symm.trans same_step
    obtain same | ⟨i, advanced⟩ := fuses
    · rwa [same]
    · rw [advanced, Fuses.revoked_advance]
      exact (revokes_revokeAfter i _).leaves left

end Sys2Proof.Machine
end

section
/-! The canonical form of the tables: registers, memory, arrays, contexts and ports. What keeps it. -/
namespace Sys2Proof.Machine

-- Proofs of this text are elaborated in turn: side by side, the stacks of their tasks pass the memory limit of a build.
set_option Elab.async false

/-! ### Work that keeps the tables in order -/

/-- The tables of the canonical form. -/
def Dev.tables (d : Dev) : Tbl Nat × List Host.Cell × Tbl ArrayRec × Tbl CtxRec × Tbl PortRec := (d.regs, d.mem, d.arrays, d.ctxs, d.ports)

/-- `e` comes from `d` by work that leaves each table of the canonical form in that form. -/
structure Dev.Keeps (d e : Dev) : Prop where
  regs : Tbl.rising d.regs = true → Tbl.rising e.regs = true
  mem : Memory.wf d.mem = true → Memory.wf e.mem = true
  arrays : Tbl.rising d.arrays = true → Tbl.rising e.arrays = true
  ctxs : Tbl.rising d.ctxs = true → Tbl.rising e.ctxs = true
  ports : Tbl.rising d.ports = true → Tbl.rising e.ports = true

variable {d e f : Dev}

theorem Dev.Keeps.refl (d : Dev) : d.Keeps d := ⟨id, id, id, id, id⟩

theorem Dev.Keeps.trans (h : d.Keeps e) (h' : e.Keeps f) : d.Keeps f :=
  ⟨h'.regs ∘ h.regs, h'.mem ∘ h.mem, h'.arrays ∘ h.arrays, h'.ctxs ∘ h.ctxs, h'.ports ∘ h.ports⟩

/-- Work on other parts of the state. -/
theorem Dev.Keeps.still (h : d.Keeps e) (same : f.tables = e.tables := by rfl) : d.Keeps f := by
  simp only [Dev.tables, Prod.mk.injEq] at same
  obtain ⟨regs, mem, arrays, ctxs, ports⟩ := same
  exact ⟨regs ▸ h.regs, mem ▸ h.mem, arrays ▸ h.arrays, ctxs ▸ h.ctxs, ports ▸ h.ports⟩

/-- The module that a pair holds. -/
theorem Dev.Keeps.made {α : Type} {x : α × Dev} {a : α} (h : d.Keeps x.2) (made : x = (a, e)) : d.Keeps e := by rwa [made] at h

theorem Dev.Keeps.made2 {α β : Type} {x : α × β × Dev} {a : α} {b : β} (h : d.Keeps x.2.2) (made : x = (a, b, e)) : d.Keeps e := by
  rwa [made] at h

theorem Dev.Keeps.ite {p : Prop} [Decidable p] (h : d.Keeps e) (h' : d.Keeps f) : d.Keeps (if p then e else f) := by
  split
  · exact h
  · exact h'

theorem Dev.Keeps.ite_snd {α : Type} {p : Prop} [Decidable p] {x y : α × Dev} (h : d.Keeps x.2) (h' : d.Keeps y.2) :
    d.Keeps (if p then x else y).2 := by
  split
  · exact h
  · exact h'

theorem Dev.Keeps.foldl {α : Type} {f : Dev → α → Dev} {xs : List α} (h : d.Keeps e) (step : ∀ (e : Dev) (x : α), d.Keeps e → d.Keeps (f e x)) :
    d.Keeps (xs.foldl f e) :=
  List.foldlRecOn (motive := d.Keeps) xs f h (fun e so_far x _ => step e x so_far)

theorem Dev.Keeps.setWord (h : d.Keeps e) {r : Reg} {u n k v : Nat} : d.Keeps (e.setWord r u n k v) :=
  h.trans ⟨fun ok => Tbl.rising_set ok _ _, id, id, id, id⟩

theorem Dev.Keeps.wr (h : d.Keeps e) {f : Fld} {u n k v : Nat} : d.Keeps (e.wr f u n k v) := h.setWord

theorem Dev.Keeps.modArr (h : d.Keeps e) {a : Nat} {f : ArrayRec → ArrayRec} : d.Keeps (e.modArr a f) :=
  h.trans ⟨id, id, fun ok => Tbl.rising_set ok _ _, id, id⟩

theorem Dev.Keeps.modCtx (h : d.Keeps e) {c : Nat} {f : CtxRec → CtxRec} : d.Keeps (e.modCtx c f) :=
  h.trans ⟨id, id, id, fun ok => Tbl.rising_set ok _ _, id⟩

theorem Dev.Keeps.modPort (h : d.Keeps e) {p : Nat} {f : PortRec → PortRec} : d.Keeps (e.modPort p f) :=
  h.trans ⟨id, id, id, id, fun ok => Tbl.rising_set ok _ _⟩

theorem Dev.Keeps.setByte (h : d.Keeps e) {a v : Nat} : d.Keeps (e.setByte a v) :=
  h.trans ⟨id, fun ok => Dev.memOk_setByte ok a v, id, id, id⟩

theorem Dev.Keeps.clearBytes (h : d.Keeps e) {a n : Nat} : d.Keeps (e.clearBytes a n) :=
  h.trans ⟨id, fun ok => Dev.memOk_clearBytes ok a n, id, id, id⟩

theorem Dev.Keeps.setLe (h : d.Keeps e) {a n v : Nat} : d.Keeps (e.setLe a n v) :=
  h.trans (by rw [Dev.setLe_sameButMem]; exact ⟨id, fun ok => Dev.memOk_setLe ok a n v, id, id, id⟩)

theorem Dev.Keeps.setBytes (h : d.Keeps e) {a : Nat} {bs : List Nat} : d.Keeps (e.setBytes a bs) := by
  induction bs generalizing e a with
  | nil => exact h
  | cons b bs ih => exact ih h.setByte

theorem Dev.Keeps.putWords (h : d.Keeps e) {c k i : Nat} {ws : List Nat} : d.Keeps (e.putWords c k i ws) := by
  induction ws generalizing e i with
  | nil => exact h
  | cons w ws ih => exact ih h.wr

/-- A table keeps its order when its entries keep their keys and some of them go. -/
theorem Tbl.risingFrom_filterMap {α β : Type} {g : Nat × α → Option (Nat × β)} (keys : ∀ x y, g x = some y → y.1 = x.1) {m : Tbl α} {lo : Nat}
    (ok : Tbl.risingFrom lo m = true) : Tbl.risingFrom lo (m.filterMap g) = true := by
  induction m generalizing lo with
  | nil => exact ok
  | cons x rest ih =>
    simp only [Tbl.risingFrom, Bool.and_eq_true, decide_eq_true_eq] at ok
    obtain ⟨le, rest_ok⟩ := ok
    cases found : g x with
    | none => rw [List.filterMap_cons_none found]; exact Tbl.risingFrom_mono (ih rest_ok) (by omega)
    | some y =>
      rw [List.filterMap_cons_some found]
      simp only [Tbl.risingFrom, keys x y found, Bool.and_eq_true, decide_eq_true_eq]
      exact ⟨le, ih rest_ok⟩

theorem Tbl.rising_map {α β : Type} {g : Nat × α → Nat × β} (keys : ∀ x, (g x).1 = x.1) {m : Tbl α} (ok : Tbl.rising m = true) :
    Tbl.rising (m.map g) = true := by
  rw [← List.filterMap_eq_map]
  refine Tbl.risingFrom_filterMap (fun x y hy => ?_) ok
  cases hy
  exact keys x

theorem Tbl.rising_filter {α : Type} (p : Nat × α → Bool) {m : Tbl α} (ok : Tbl.rising m = true) : Tbl.rising (m.filter p) = true :=
  Tbl.risingFrom_filter p ok

theorem Tbl.rising_keepRegs (keep : Reg → Nat → FieldDef → Bool) {m : Tbl Nat} (ok : Tbl.rising m = true) :
    Tbl.rising (keepRegs m keep) = true := by
  refine Tbl.risingFrom_filterMap (fun x y hy => ?_) ok
  dsimp only at hy
  split at hy
  · cases hy; rfl
  · split at hy <;> cases hy
    rfl

theorem Tbl.rising_fromFlash (flash : Tbl Nat) {m : Tbl Nat} (ok : Tbl.rising m = true) : Tbl.rising (fromFlash m flash) = true := by
  refine List.foldlRecOn (motive := fun t => Tbl.rising t = true) flash _ ok (fun t so_far x _ => ?_)
  dsimp only
  split
  · exact so_far
  · exact Tbl.rising_set so_far _ _

theorem Tbl.rising_range {α : Type} (g : Nat → α) (n : Nat) : Tbl.rising ((List.range n).map (fun p => (p, g p))) = true := by
  suffices h : ∀ lo, Tbl.risingFrom lo ((List.range' lo n).map (fun p => (p, g p))) = true by
    rw [List.range_eq_range']; exact h 0
  induction n with
  | zero => intro lo; rfl
  | succ n ih => intro lo; simp [List.range'_succ, Tbl.risingFrom, ih]

/-- Work on an accumulator that holds the module. -/
theorem Dev.Keeps.foldlIn {α β : Type} (at_ : β → Dev) {f : β → α → β} {xs : List α} {b : β} (h : d.Keeps (at_ b))
    (step : ∀ (b : β) (x : α), d.Keeps (at_ b) → d.Keeps (at_ (f b x))) : d.Keeps (at_ (xs.foldl f b)) :=
  List.foldlRecOn (motive := fun b => d.Keeps (at_ b)) xs f h (fun b so_far x _ => step b x so_far)

end Sys2Proof.Machine
end

section
/-! The operations of Machine/Ops keep the tables in order. -/
namespace Sys2Proof.Machine

set_option Elab.async false

variable {d e f : Dev}

theorem Dev.Keeps.count (h : d.Keeps e) {f : Fld} {u n by_ : Nat} : d.Keeps (e.count f u n by_) := by
  unfold Dev.count
  exact h.wr

theorem Dev.Keeps.countWrap (h : d.Keeps e) {f : Fld} {u n by_ : Nat} : d.Keeps (e.countWrap f u n by_) := by
  unfold Dev.countWrap
  exact h.wr

theorem Dev.Keeps.fresh (h : d.Keeps e) : d.Keeps e.fresh.2 := by
  unfold Dev.fresh
  exact h.still

theorem Dev.Keeps.setArrState (h : d.Keeps e) {a st : Nat} : d.Keeps (e.setArrState a st) := by
  unfold Dev.setArrState
  exact .ite h h.wr

theorem Dev.Keeps.stir (h : d.Keeps e) {p : Nat} : d.Keeps (e.stir p) := by
  unfold Dev.stir
  exact h.still

theorem Dev.Keeps.stirKind (h : d.Keeps e) {g kind : Nat} : d.Keeps (e.stirKind g kind) := by
  unfold Dev.stirKind
  exact h.still

theorem Dev.Keeps.wake (h : d.Keeps e) {p : Nat} : d.Keeps (e.wake p) := by
  unfold Dev.wake
  exact .ite h.wr.stir h

theorem Dev.Keeps.msix (h : d.Keeps e) {c v : Nat} : d.Keeps (e.msix c v) := by
  unfold Dev.msix
  exact .ite h.modCtx h.still

theorem Dev.Keeps.writeEntry (h : d.Keeps e) {x : LogEntry} : d.Keeps (e.writeEntry x) := by
  unfold Dev.writeEntry
  extract_lets _ src
  have hsrc : d.Keeps src := h.countWrap
  exact hsrc.still

theorem Dev.Keeps.writeEpoch (h : d.Keeps e) : d.Keeps e.writeEpoch := by
  unfold Dev.writeEpoch
  exact h.wr.writeEntry

theorem Dev.Keeps.logSev (h : d.Keeps e) {sev src : Nat} {ev : LogEvent} {st : Status} {host : Bool} {c : Nat} {data : List Nat} :
    d.Keeps (e.logSev sev src ev st host c data) := by
  unfold Dev.logSev
  refine .ite h ?_
  extract_lets _
  split
  · exact h.still.count
  · exact .writeEntry (.ite h h.writeEpoch)

theorem Dev.Keeps.logEntry (h : d.Keeps e) {src : Nat} {ev : LogEvent} {st : Status} {host : Bool} {c : Nat} {data : List Nat} :
    d.Keeps (e.logEntry src ev st host c data) := by
  unfold Dev.logEntry
  exact h.logSev

theorem Dev.Keeps.diag (h : d.Keeps e) {src : Nat} {k : Diag} {st : Status} {data : List Nat} : d.Keeps (e.diag src k st data) := by
  unfold Dev.diag
  exact h.logEntry

theorem Dev.Keeps.pushEvent (h : d.Keeps e) {c : Nat} {x : LogEntry} : d.Keeps (e.pushEvent c x) := by
  unfold Dev.pushEvent
  exact .ite h.wr (.ite h.modCtx.msix h.modCtx)

theorem Dev.Keeps.deliverEvent (h : d.Keeps e) {only : Option Nat} {x : LogEntry} : d.Keeps (e.deliverEvent only x) := by
  unfold Dev.deliverEvent
  split
  · exact h.pushEvent
  · exact h.foldl (fun _ _ h => h.pushEvent)

theorem Dev.Keeps.hostEvent (h : d.Keeps e) {src code : Nat} {st : Status} {only : Option Nat} {data : List Nat} :
    d.Keeps (e.hostEvent src code st only data) := by
  unfold Dev.hostEvent
  extract_lets _ _ _ _ d1
  have hd1 : d.Keeps d1 := h.logSev
  exact .ite hd1.deliverEvent hd1.still

theorem Dev.Keeps.modAttempt (h : d.Keeps e) {f : Attempt → Attempt} : d.Keeps (e.modAttempt f) := by
  unfold Dev.modAttempt
  exact h.still

theorem Dev.Keeps.modTask (h : d.Keeps e) {i : Nat} {f : TaskRun → TaskRun} : d.Keeps (e.modTask i f) := by
  unfold Dev.modTask
  exact h.modAttempt

end Sys2Proof.Machine
end

section
/-! The operations of Machine/Link keep the tables in order. -/
namespace Sys2Proof.Machine

set_option Elab.async false

variable {d e f : Dev}

theorem Dev.Keeps.setCredits (h : d.Keeps e) {p c sub v : Nat} : d.Keeps (e.setCredits p c sub v) := by
  unfold Dev.setCredits
  exact .ite h.wr h.wr

theorem Dev.Keeps.transmit (h : d.Keeps e) {p : Nat} {pk : Packet} : d.Keeps (e.transmit p pk) := by
  unfold Dev.transmit
  extract_lets _ _ d1 d2
  have hd1 : d.Keeps d1 := h.setCredits.wr
  have hd2 : d.Keeps d2 := hd1.modPort
  exact hd2.still

theorem Dev.Keeps.pump (h : d.Keeps e) {p : Nat} : d.Keeps (e.pump p) := by
  unfold Dev.pump
  refine (Dev.Keeps.foldlIn Prod.fst h fun b pk so_far => ?_).modPort
  dsimp only
  split
  · exact so_far.transmit
  · exact so_far

theorem Dev.Keeps.enqueuePacket (h : d.Keeps e) {p : Nat} {pk : Packet} : d.Keeps (e.enqueuePacket p pk) := by
  unfold Dev.enqueuePacket
  exact h.modPort.pump

theorem Dev.Keeps.sendLink (h : d.Keeps e) {p : Nat} {down : Bool} : d.Keeps (e.sendLink p down) := by
  unfold Dev.sendLink
  extract_lets _ _ _ d1
  have hd1 : d.Keeps d1 := h.modPort
  exact hd1.still

theorem Dev.Keeps.showTtags (h : d.Keeps e) : d.Keeps e.showTtags := by
  unfold Dev.showTtags
  exact h.wr

theorem Dev.Keeps.depart (h : d.Keeps e) {way : Option Nat} {pk : Packet} : d.Keeps (e.depart way pk) := by
  unfold Dev.depart
  split
  · exact h.enqueuePacket
  · exact h.still

theorem Dev.Keeps.originate (h : d.Keeps e) {pk : Packet} {why : Purpose} {answered : Bool} : d.Keeps (e.originate pk why answered).2 := by
  unfold Dev.originate
  split
  · exact h
  · extract_lets _
    refine .ite_snd ?_ h.depart
    split
    · exact h.still
    · exact h.still.showTtags.depart

end Sys2Proof.Machine
end

section
/-! The operations of Machine/Mailbox keep the tables in order. -/
namespace Sys2Proof.Machine

set_option Elab.async false

variable {d e f : Dev}

theorem Dev.Keeps.setSlot (h : d.Keeps e) {c s st : Nat} : d.Keeps (e.setSlot c s st) := by
  unfold Dev.setSlot
  exact h.setWord

theorem Dev.Keeps.finishSlot (h : d.Keeps e) {c s : Nat} {st : Status} {words : List Nat} : d.Keeps (e.finishSlot c s st words) := by
  unfold Dev.finishSlot
  exact .ite h.putWords.setSlot.modCtx.wr.msix h.putWords.setSlot.modCtx.wr

theorem Dev.Keeps.finishWaiting (h : d.Keeps e) {c s : Nat} {w : SlotWait} {st : Status} {words : List Nat} :
    d.Keeps (e.finishWaiting c s w st words) := by
  unfold Dev.finishWaiting
  exact .ite h.finishSlot h

end Sys2Proof.Machine
end

section
/-! The operations of Machine/WorkingCopy keep the tables in order. -/
namespace Sys2Proof.Machine

set_option Elab.async false

variable {d e f : Dev}

theorem Dev.Keeps.scaleStats (h : d.Keeps e) {x : ScaleEntry} {amax : Fp} {sats : Nat} : d.Keeps (e.scaleStats x amax sats) := by
  unfold Dev.scaleStats
  exact h.setLe.setLe

theorem Dev.Keeps.setPlanarElem (h : d.Keeps e) {base w p v : Nat} : d.Keeps (e.setPlanarElem base w p v) := by
  unfold Dev.setPlanarElem
  exact .ite h.setLe h.setByte

end Sys2Proof.Machine
end

section
/-! The operations of Machine/Sync keep the tables in order. -/
namespace Sys2Proof.Machine

set_option Elab.async false

variable {d e f : Dev}

theorem Dev.Keeps.setLcWait (h : d.Keeps e) {p n : Nat} {ws : List Waiter} : d.Keeps (e.setLcWait p n ws) := by
  unfold Dev.setLcWait
  exact h.still.wr

theorem Dev.Keeps.clearCounters (h : d.Keeps e) {p : Nat} : d.Keeps (e.clearCounters p) := by
  have forgot : ∀ {e : Dev} {last : Tbl LastSignal}, d.Keeps e → d.Keeps { e with lcLast := last } := fun h => h.still
  exact h.foldl fun _ _ h => forgot h.setLcWait.setWord

theorem Dev.Keeps.setObj (h : d.Keeps e) {k : Nat} {o : SyncObj} : d.Keeps (e.setObj k o) := by
  unfold Dev.setObj
  exact h.still

theorem Dev.Keeps.showHub (h : d.Keeps e) : d.Keeps e.showHub := by
  unfold Dev.showHub
  exact h.wr.wr

theorem Dev.Keeps.freeObj (h : d.Keeps e) {k : Nat} : d.Keeps (e.freeObj k) := by
  unfold Dev.freeObj
  split
  · exact h
  · exact h.still.showHub

theorem Dev.Keeps.modProgram (h : d.Keeps e) {key : Nat} {f : Program → Program} : d.Keeps (e.modProgram key f) := by
  unfold Dev.modProgram
  exact h.still

theorem Dev.Keeps.sendOutcome (h : d.Keeps e) {k : Nat} : d.Keeps (e.sendOutcome k) := by
  unfold Dev.sendOutcome
  split
  · split
    · exact .foldl (h.setObj.foldl (fun _ _ h => .ite h.still h.originate)) (fun _ _ h => by
      split
      · exact h.finishWaiting
      · exact h.originate
      · exact h)
    · exact h
  · exact h

theorem Dev.Keeps.mirrorLost (h : d.Keeps e) : d.Keeps e.mirrorLost := by
  unfold Dev.mirrorLost
  exact h.still.wr.hostEvent

theorem Dev.Keeps.copyBarrier (h : d.Keeps e) {k : Nat} : d.Keeps (e.copyBarrier k) := by
  unfold Dev.copyBarrier
  split
  · next st d1 made =>
    have hd1 : d.Keeps d1 := h.originate.made made
    exact .ite hd1 h.mirrorLost

theorem Dev.Keeps.resendCopies (h : d.Keeps e) : d.Keeps e.resendCopies := by
  unfold Dev.resendCopies
  exact .ite (h.foldl (fun _ _ h => by
      split
      · split
        · exact .ite h.copyBarrier h
        · exact h)) h

theorem Dev.Keeps.decideBarrier (h : d.Keeps e) {k : Nat} {st : Status} : d.Keeps (e.decideBarrier k st) := by
  unfold Dev.decideBarrier
  split
  · split
    · exact .ite h.setObj.copyBarrier h.setObj.sendOutcome
    · exact h
  · exact h

theorem Dev.Keeps.barrierArrive (h : d.Keeps e) {k node step attempt : Nat} {cause : Status} :
    d.Keeps (e.barrierArrive k node step attempt cause) := by
  unfold Dev.barrierArrive
  split
  · split
    · exact .ite h.count (.ite h.setObj.decideBarrier h.setObj)
    · exact h
  · exact h

theorem Dev.Keeps.signalBarrier (h : d.Keeps e) {cause : Status} : d.Keeps (e.signalBarrier cause) := by
  unfold Dev.signalBarrier
  split
  · exact h
  · refine .ite h ?_
    extract_lets d1
    have hd1 : d.Keeps d1 := h.modAttempt
    split
    · exact hd1.barrierArrive
    · split
      · next st d2 made =>
        have hd2 : d.Keeps d2 := hd1.originate.made made
        exact .ite hd2 hd2.count
    · exact hd1

theorem Dev.Keeps.forgetWaits (h : d.Keeps e) {mine : WaiterWho → Bool} : d.Keeps (e.forgetWaits mine) := by
  unfold Dev.forgetWaits
  exact h.still

theorem Dev.Keeps.withdrawRemote (h : d.Keeps e) {mine : WaiterWho → Bool} : d.Keeps (e.withdrawRemote mine) := by
  unfold Dev.withdrawRemote
  exact h.forgetWaits.foldl (fun _ _ h => h.originate)

theorem Dev.Keeps.triggers (h : d.Keeps e) {i : Nat} : d.Keeps (e.triggers i) := by
  unfold Dev.triggers
  exact h.modAttempt

theorem Dev.Keeps.releaseOther (h : d.Keeps e) {w : Waiter} {seen : Nat} : d.Keeps (e.releaseOther w seen) := by
  unfold Dev.releaseOther
  split
  · exact h
  · exact h.modTask
  · exact h.finishWaiting
  · exact h.originate
  · exact h.triggers

theorem Dev.Keeps.withdrawTasks (h : d.Keeps e) : d.Keeps e.withdrawTasks := by
  unfold Dev.withdrawTasks
  exact .withdrawRemote (.foldl (h.foldl (fun _ _ h => h.wr.setLcWait.foldl (fun _ _ h => h.releaseOther))) (fun _ _ h => by
      split
      · exact h
      · exact h.setObj.foldl (fun _ _ h => h.releaseOther)))

theorem Dev.Keeps.showRun (h : d.Keeps e) {v : Nat} : d.Keeps (e.showRun v) := by
  unfold Dev.showRun
  exact h.foldl (fun _ _ h => h.wr)

theorem Dev.Keeps.refuseCut (h : d.Keeps e) : d.Keeps e.refuseCut := by
  unfold Dev.refuseCut
  split
  · exact .ite h.signalBarrier h
  · exact h

theorem Dev.Keeps.cutShort (h : d.Keeps e) : d.Keeps e.cutShort := by
  unfold Dev.cutShort
  split
  · exact h
  · exact .ite h.modAttempt.showRun.withdrawTasks.refuseCut (.ite h.modAttempt.showRun.withdrawTasks h.modAttempt)

theorem Dev.Keeps.markIsolated (h : d.Keeps e) : d.Keeps e.markIsolated := by
  unfold Dev.markIsolated
  exact h.modAttempt

theorem Dev.Keeps.dropSignal (h : d.Keeps e) : d.Keeps e.dropSignal := by
  unfold Dev.dropSignal
  exact h.count.markIsolated

theorem Dev.Keeps.postWait (h : d.Keeps e) {peck : Nat} {r : ObjRef} {w : Waiter} : d.Keeps (e.postWait peck r w).2 := by
  unfold Dev.postWait
  split
  · exact h
  · extract_lets _ _
    split
    · exact h.wr
    · exact h.setLcWait
  · split
    · exact h
    · split <;> exact h.setObj
  · refine .ite_snd h ?_
    split
    · next st d1 made =>
      have hd1 : d.Keeps d1 := h.originate.made made
      refine .ite_snd hd1.still ?_
      split
      · exact hd1.finishWaiting
      · exact hd1.cutShort

theorem Dev.Keeps.postEntry (h : d.Keeps e) {i : Nat} {t : TaskRun} {x : Nat} : d.Keeps (e.postEntry i t x).2 := by
  unfold Dev.postEntry
  extract_lets _
  refine .ite_snd ?_ h
  split
  · next _ d1 made =>
    have hd1 : d.Keeps d1 := h.postWait.made made
    exact hd1
  · next d1 made =>
    have hd1 : d.Keeps d1 := h.postWait.made made
    exact hd1

theorem Dev.Keeps.makeReady (h : d.Keeps e) {i : Nat} : d.Keeps (e.makeReady i) := by
  unfold Dev.makeReady
  extract_lets d1
  have hd1 : d.Keeps d1 := h.modTask
  split
  · exact hd1.wake
  · exact hd1

theorem Dev.Keeps.afterWait0 (h : d.Keeps e) {i : Nat} : d.Keeps (e.afterWait0 i) := by
  unfold Dev.afterWait0
  extract_lets d1
  have hd1 : d.Keeps d1 := h.modTask
  split
  · exact hd1
  · split
    · next d2 made =>
      have hd2 : d.Keeps d2 := hd1.postEntry.made made
      exact hd2.makeReady
    · next d2 made =>
      have hd2 : d.Keeps d2 := hd1.postEntry.made made
      exact hd2

theorem Dev.Keeps.postTask (h : d.Keeps e) {i : Nat} : d.Keeps (e.postTask i) := by
  unfold Dev.postTask
  split
  · exact h
  · split
    · next d1 made =>
      have hd1 : d.Keeps d1 := h.postEntry.made made
      exact hd1.afterWait0
    · next d1 made =>
      have hd1 : d.Keeps d1 := h.postEntry.made made
      exact hd1

theorem Dev.Keeps.release (h : d.Keeps e) {w : Waiter} {seen : Nat} : d.Keeps (e.release w seen) := by
  unfold Dev.release
  split
  · split
    · exact .ite (.ite h.makeReady h.afterWait0) h
    · exact h
  · exact h.modTask
  · exact h.finishWaiting
  · exact h.originate
  · exact h.triggers

theorem Dev.Keeps.releaseAll (h : d.Keeps e) {ws : List (Waiter × Nat)} : d.Keeps (e.releaseAll ws) := by
  unfold Dev.releaseAll
  exact h.foldl (fun _ _ h => h.release)

theorem Dev.Keeps.checkTriggers (h : d.Keeps e) {k : Nat} : d.Keeps (e.checkTriggers k) := by
  unfold Dev.checkTriggers
  split
  · exact h.foldl (fun _ _ h => h.triggers)
  · exact h

theorem Dev.Keeps.signalCounter (h : d.Keeps e) {p n : Nat} {inc : Int} {grain ctx : Nat} : d.Keeps (e.signalCounter p n inc grain ctx) := by
  unfold Dev.signalCounter
  refine .ite h ?_
  split
  · split
    · extract_lets d1 d2 d3 d4
      have hd1 : d.Keeps d1 := h.wr.setLcWait
      have hd2 : d.Keeps d2 := .ite hd1.wr (.ite hd1.wr hd1)
      have hd3 : d.Keeps d3 := hd2.still
      have hd4 : d.Keeps d4 := .ite hd3.count.diag hd3
      exact hd4.releaseAll

theorem Dev.Keeps.signalObject (h : d.Keeps e) {k : Nat} {inc : Int} {who : LastSignal} : d.Keeps (e.signalObject k inc who).2.2 := by
  unfold Dev.signalObject
  split
  · exact h
  · split
    · exact h
    · dsimp only
      have counted : ∀ {o : SyncObj} {b : Bool}, d.Keeps (if b then ((e.setObj k o).count SYN_SAT_CNT_COUNT 0 0).diag
          (srcUnit 0x03) .satSignal .ok [k]
          else e.setObj k o) := .ite h.setObj.count.diag h.setObj
      exact .releaseAll (.ite counted.checkTriggers counted.setObj.checkTriggers.setObj)

theorem Dev.Keeps.setReady (h : d.Keeps e) {k v : Nat} : d.Keeps (e.setReady k v) := by
  unfold Dev.setReady
  split
  · exact h
  · exact .ite h h.setObj.releaseAll

theorem Dev.Keeps.signalRef (h : d.Keeps e) {i : Nat} {t : TaskRun} {ctx : Nat} {r : ObjRef} {inc : Int} :
    d.Keeps (e.signalRef i t ctx r inc) := by
  unfold Dev.signalRef
  split
  · exact h
  · exact h.signalCounter
  · exact h.signalObject
  · refine .ite h ?_
    split
    · next st d1 made =>
      have hd1 : d.Keeps d1 := h.originate.made made
      exact .ite hd1 hd1.dropSignal

theorem Dev.Keeps.performSignals (h : d.Keeps e) {i ctx : Nat} : d.Keeps (e.performSignals i ctx) := by
  unfold Dev.performSignals
  exact h.foldl (fun _ _ h => by
      split
      · exact .ite h.signalRef h
      · exact h)

theorem Dev.Keeps.withdraw (h : d.Keeps e) {drop : Waiter → Bool} : d.Keeps (e.withdraw drop) := by
  unfold Dev.withdraw
  exact .foldl (h.foldl (fun _ _ h => h.wr.setLcWait.releaseAll)) (fun _ _ h => by
      split
      · exact h
      · exact h.setObj.releaseAll)

theorem Dev.Keeps.waitLost (h : d.Keeps e) {who : WaiterWho} {st : Status} : d.Keeps (e.waitLost who st) := by
  unfold Dev.waitLost
  extract_lets d1
  have hd1 : d.Keeps d1 := h.forgetWaits
  split
  · exact hd1.finishWaiting
  · exact hd1.cutShort

theorem Dev.Keeps.failRemote (h : d.Keeps e) : d.Keeps e.failRemote := by
  unfold Dev.failRemote
  exact h.foldl (fun _ _ h => by
      split
      · exact h.waitLost
      · exact h)

end Sys2Proof.Machine
end

section
/-! The operations of Machine/Ready keep the tables in order. -/
namespace Sys2Proof.Machine

set_option Elab.async false

variable {d e f : Dev}

theorem Dev.Keeps.updateReady (h : d.Keeps e) : d.Keeps e.updateReady := by
  unfold Dev.updateReady
  exact h.foldl (fun _ _ h => by
      split
      · exact .ite h.setReady h
      · exact h)

end Sys2Proof.Machine
end

section
/-! The operations of Machine/Arrays keep the tables in order. -/
namespace Sys2Proof.Machine

set_option Elab.async false

variable {d e f : Dev}

theorem Dev.Keeps.enqueue (h : d.Keeps e) {a cls : Nat} {now checksum : Bool} : d.Keeps (e.enqueue a cls now checksum) := by
  unfold Dev.enqueue
  refine .ite h ?_
  split
  · exact h.still
  · exact .ite h.still h.still

theorem Dev.Keeps.unqueue (h : d.Keeps e) {a : Nat} : d.Keeps (e.unqueue a) := by
  unfold Dev.unqueue
  exact h.still

theorem Dev.Keeps.metaChanged (h : d.Keeps e) : d.Keeps e.metaChanged := by
  unfold Dev.metaChanged
  exact h.still

theorem Dev.Keeps.flushMeta (h : d.Keeps e) : d.Keeps e.flushMeta := by
  refine h.trans ⟨id, id, fun ok => Tbl.rising_filter _ (Tbl.rising_map (fun e => ?_) ok), id, id⟩
  rfl

theorem Dev.Keeps.flashField (h : d.Keeps e) {f : Fld} {u n : Nat} : d.Keeps (e.flashField f u n) := by
  unfold Dev.flashField
  exact h.still

theorem Dev.Keeps.setMeta (h : d.Keeps e) {f : Fld} {a v : Nat} : d.Keeps (e.setMeta f a v) := by
  unfold Dev.setMeta
  exact h.wr.metaChanged

theorem Dev.Keeps.showEngine (h : d.Keeps e) {a attempt phase row : Nat} : d.Keeps (e.showEngine a attempt phase row) := by
  unfold Dev.showEngine
  exact h.wr.wr.wr.wr.wr

theorem Dev.Keeps.freeEngine (h : d.Keeps e) {g : Nat} : d.Keeps (e.freeEngine g) := by
  unfold Dev.freeEngine
  exact h.setWord.stir

theorem Dev.Keeps.lastResult (h : d.Keeps e) {a : Nat} {st : Status} {stuck : Nat} : d.Keeps (e.lastResult a st stuck) := by
  unfold Dev.lastResult
  exact h.wr.wr.wr

theorem Dev.Keeps.showActive (h : d.Keeps e) {b : Nat} : d.Keeps (e.showActive b) := by
  unfold Dev.showActive
  exact h.wr

theorem Dev.Keeps.retireNow (h : d.Keeps e) {a cause : Nat} : d.Keeps (e.retireNow a cause) := by
  unfold Dev.retireNow
  exact .ite h (.updateReady (.hostEvent (.showActive (.wr (.modArr (.flashField (.metaChanged (.setArrState (.unqueue
      (.ite h.freeEngine h))))))))))

theorem Dev.Keeps.dropDecision (h : d.Keeps e) {a : Nat} : d.Keeps (e.dropDecision a) := by
  unfold Dev.dropDecision
  exact h.modArr.wr.stir

theorem Dev.Keeps.startDrain (h : d.Keeps e) {a : Nat} : d.Keeps (e.startDrain a) := by
  unfold Dev.startDrain
  exact h.dropDecision.setArrState.metaChanged.updateReady

theorem Dev.Keeps.decideRetire (h : d.Keeps e) {a cause : Nat} : d.Keeps (e.decideRetire a cause) := by
  unfold Dev.decideRetire
  exact .ite h (.ite h (.ite h.retireNow (.ite (.ite h.retireNow h.modArr) (.ite h.unqueue.modArr.startDrain h.unqueue.modArr))))

theorem Dev.Keeps.beginRow0 (h : d.Keeps e) {a attempt : Nat} : d.Keeps (e.beginRow0 a attempt) := by
  unfold Dev.beginRow0
  exact h.setMeta.modArr.showEngine

theorem Dev.Keeps.startProgram (h : d.Keeps e) {a : Nat} {x : Option QueueEntry} : d.Keeps (e.startProgram a x) := by
  unfold Dev.startProgram
  exact .ite h.retireNow h.unqueue.setArrState.modArr.setMeta.beginRow0.showActive.diag

theorem Dev.Keeps.failAttempt (h : d.Keeps e) {a : Nat} : d.Keeps (e.failAttempt a) := by
  unfold Dev.failAttempt
  exact .ite h.diag.lastResult.retireNow (.ite h.diag.lastResult.modArr.setArrState.beginRow0.showActive
      h.diag.lastResult.modArr.setArrState.modArr.freeEngine.showActive)

theorem Dev.Keeps.programRow (h : d.Keeps e) {a : Nat} {reads : List (List (List Int))} : d.Keeps (e.programRow a reads) := by
  unfold Dev.programRow
  extract_lets _
  refine .ite ?_ h
  split
  · extract_lets _ _ _ d1
    have hd1 : d.Keeps d1 := h.count.modArr
    split
    · exact hd1.retireNow
    · refine .ite hd1.failAttempt ?_
      refine .ite hd1.modArr.showEngine ?_
      split
      · exact hd1.failAttempt
      · exact hd1.modArr.wr.setArrState.metaChanged.wr.wr.showEngine.showActive

theorem Dev.Keeps.setTracker (h : d.Keeps e) {a : Nat} {v : Nat × Nat × Nat} : d.Keeps (e.setTracker a v) := by
  unfold Dev.setTracker
  exact h.wr.wr.wr.wr.wr.modArr.updateReady

theorem Dev.Keeps.verificationComplete (h : d.Keeps e) {a : Nat} {cycles : List (List ℚ)} {m : List Nat} :
    d.Keeps (e.verificationComplete a cycles m) := by
  unfold Dev.verificationComplete
  extract_lets _ _ _ _ _ _ d1 _ d2 d3 d4
  refine .ite (.ite ?_ h.failAttempt) h
  have hd1 : d.Keeps d1 := by
    dsimp only [d1]
    split
    · exact h
    · exact h.setMeta.setMeta.setMeta.flashField.flashField.flashField
  have hd2 : d.Keeps d2 := hd1.setMeta.setMeta
  have hd3 : d.Keeps d3 := hd2.setTracker.modArr
  have hd4 : d.Keeps d4 := hd3.wr.lastResult.freeEngine
  exact hd4.diag

theorem Dev.Keeps.haltAttempt (h : d.Keeps e) {a : Nat} {why : HaltWhy} : d.Keeps (e.haltAttempt a why) := by
  unfold Dev.haltAttempt
  have halted : ∀ {e : Dev} {f : ArrayRec → ArrayRec} {st : Status}, d.Keeps e → d.Keeps (((e.modArr a f).freeEngine (grainOf a)).diag
      (srcArray a) .attemptHalted st [a]) :=
    fun h => h.modArr.freeEngine.diag
  refine .ite ?_ h
  cases why with
  | power =>
    dsimp only
    split
    · exact (halted h).retireNow
    · exact halted h
  | _ =>
    dsimp only
    split
    · exact .ite (halted h).lastResult (halted h).lastResult.retireNow
    · exact (halted h).lastResult

theorem Dev.Keeps.retireHalted (h : d.Keeps e) {a : Nat} : d.Keeps (e.retireHalted a) := by
  unfold Dev.retireHalted
  split
  · exact .ite h.retireNow h
  · exact h

theorem Dev.Keeps.restartAttempt (h : d.Keeps e) {a : Nat} : d.Keeps (e.restartAttempt a) := by
  unfold Dev.restartAttempt
  exact .ite h.retireHalted (.ite h.beginRow0.showActive.diag h)

theorem Dev.Keeps.latchBranch (h : d.Keeps e) {b cause : Nat} : d.Keeps (e.latchBranch b cause) := by
  unfold Dev.latchBranch
  exact .hostEvent (h.wr.wr.wr.wr.wr.wr.count.foldl (fun _ _ h => h.haltAttempt))

theorem Dev.Keeps.branchReading (h : d.Keeps e) {b milliamps millivolts : Nat} {pulsing : Bool} {micros : Nat} :
    d.Keeps (e.branchReading b milliamps millivolts pulsing micros) := by
  unfold Dev.branchReading
  exact .ite h h.latchBranch

theorem Dev.Keeps.branchSelfTest (h : d.Keeps e) {b result : Nat} : d.Keeps (e.branchSelfTest b result) := by
  unfold Dev.branchSelfTest
  exact .ite h.wr.wr.wr.wr.wr.wr h.wr.wr.wr.wr.wr.wr

theorem Dev.Keeps.tryStart (h : d.Keeps e) {a : Nat} {x : Option QueueEntry} : d.Keeps (e.tryStart a x) := by
  unfold Dev.tryStart
  exact .ite h.startProgram h

theorem Dev.Keeps.select (h : d.Keeps e) : d.Keeps e.select := by
  unfold Dev.select
  extract_lets _ d1 d2
  have hd1 : d.Keeps d1 := h.foldl (fun _ _ h => h.tryStart)
  have hd2 : d.Keeps d2 := hd1.foldl (fun _ _ h => h.tryStart)
  split
  · exact hd2
  · exact .ite hd2.still.startDrain.modArr hd2.still.modArr.tryStart

theorem Dev.Keeps.drainComplete (h : d.Keeps e) {a : Nat} : d.Keeps (e.drainComplete a) := by
  unfold Dev.drainComplete
  refine .ite ?_ h
  split
  · exact h.retireNow
  · exact .ite h.tryStart h

theorem Dev.Keeps.loseTarget (h : d.Keeps e) {a : Nat} : d.Keeps (e.loseTarget a) := by
  unfold Dev.loseTarget
  refine .ite ?_ h
  split
  · exact h.setArrState.metaChanged.modArr
  · extract_lets d1
    have hd1 : d.Keeps d1 := h.setArrState.metaChanged.modArr
    exact hd1.still

end Sys2Proof.Machine
end

section
/-! The operations of Machine/Residual keep the tables in order. -/
namespace Sys2Proof.Machine

set_option Elab.async false

variable {d e f : Dev}

theorem Dev.Keeps.makeDue (h : d.Keeps e) {a : Nat} {why : DecisionWhy} : d.Keeps (e.makeDue a why) := by
  unfold Dev.makeDue
  exact .ite h.modArr.wr.wake h

theorem Dev.Keeps.decisionStart (h : d.Keeps e) {a : Nat} : d.Keeps (e.decisionStart a) := by
  unfold Dev.decisionStart
  extract_lets _
  split
  · exact h
  · exact .ite h.modArr h

theorem Dev.Keeps.enterServing (h : d.Keeps e) {a : Nat} : d.Keeps (e.enterServing a) := by
  unfold Dev.enterServing
  exact h.setArrState.metaChanged.modArr

theorem Dev.Keeps.decisionOverflow (h : d.Keeps e) {a : Nat} : d.Keeps (e.decisionOverflow a) := by
  unfold Dev.decisionOverflow
  exact h.wr.wr.wr.wr.setArrState.metaChanged.modArr.wr.stir.enqueue.diag.updateReady

theorem Dev.Keeps.decisionComplete (h : d.Keeps e) {a : Nat} : d.Keeps (e.decisionComplete a) := by
  unfold Dev.decisionComplete
  extract_lets _ _
  split
  · exact h
  · exact .ite h.dropDecision (.ite h.decisionOverflow (.updateReady (.ite (.enqueue (.ite h.modArr.stir.wr.wr.wr.wr.enterServing
      h.modArr.stir.wr.wr.wr.wr)) (.ite h.modArr.stir.wr.wr.wr.wr.enterServing h.modArr.stir.wr.wr.wr.wr))))

theorem Dev.Keeps.driftCheck (h : d.Keeps e) {a : Nat} {changed : Bool} : d.Keeps (e.driftCheck a changed) := by
  unfold Dev.driftCheck
  exact .ite h.makeDue h

theorem Dev.Keeps.monitorUpdate (h : d.Keeps e) {a : Nat} {m : List Nat} : d.Keeps (e.monitorUpdate a m) := by
  unfold Dev.monitorUpdate
  exact .ite h (.ite h.wr.modArr (.ite h.wr.modArr.diag h.wr.wr.wr.modArr.driftCheck))

theorem Dev.Keeps.ratioUpdate (h : d.Keeps e) {a : Nat} : d.Keeps (e.ratioUpdate a) := by
  unfold Dev.ratioUpdate
  exact .ite h h.wr.wr

theorem Dev.Keeps.diodeUpdate (h : d.Keeps e) {a t : Nat} : d.Keeps (e.diodeUpdate a t) := by
  unfold Dev.diodeUpdate
  dsimp only
  refine .modArr ?_
  split
  · exact h
  · exact .ite h.wr h

theorem Dev.Keeps.publishRatios (h : d.Keeps e) {a : Nat} : d.Keeps (e.publishRatios a) := by
  unfold Dev.publishRatios
  exact .ratioUpdate (.modArr (h.foldl (fun _ _ h => .ite h.fresh.wr h.wr)))

theorem Dev.Keeps.rsdRebuild (h : d.Keeps e) {g mask : Nat} : d.Keeps (e.rsdRebuild g mask) := by
  unfold Dev.rsdRebuild
  exact h.foldl (fun _ _ h => .ite h.makeDue h)

end Sys2Proof.Machine
end

section
/-! The operations of Machine/Converters keep the tables in order. -/
namespace Sys2Proof.Machine

set_option Elab.async false

variable {d e f : Dev}

theorem Dev.Keeps.seqToDefault (h : d.Keeps e) {g n : Nat} : d.Keeps (e.seqToDefault g n) := by
  unfold Dev.seqToDefault
  exact .wr (.wr (h.foldl (fun _ _ h => h.wr)))

theorem Dev.Keeps.seqCtrlWrite (h : d.Keeps e) {g n w : Nat} : d.Keeps (e.seqCtrlWrite g n w) := by
  unfold Dev.seqCtrlWrite
  exact .ite h (.ite h.wr (.ite h.wr.wr (.ite h.wr.seqToDefault.wr h.wr)))

theorem Dev.Keeps.seqArmComplete (h : d.Keeps e) {g n : Nat} : d.Keeps (e.seqArmComplete g n) := by
  unfold Dev.seqArmComplete
  exact .ite (.ite (.wr (.wr (h.wr.wr.foldl (fun _ _ h => h.wr)))) h.wr.wr) h

theorem Dev.Keeps.calPark (h : d.Keeps e) {a : Nat} : d.Keeps (e.calPark a) := by
  unfold Dev.calPark
  exact .ite h h.wr

theorem Dev.Keeps.dwell (h : d.Keeps e) {a : Nat} {gains offsets : List Int} : d.Keeps (e.dwell a gains offsets) := by
  unfold Dev.dwell
  exact .ite h.modArr.wr h

theorem Dev.Keeps.dwellCheck (h : d.Keeps e) {a : Nat} : d.Keeps (e.dwellCheck a) := by
  unfold Dev.dwellCheck
  exact .ite (.ite h.wr.setMeta.setMeta.flashField.flashField.modArr.diag (.wr (.ite h.wr.modArr.wr h.wr.modArr))) h

theorem Dev.Keeps.calNow (h : d.Keeps e) {a : Nat} : d.Keeps (e.calNow a) := by
  unfold Dev.calNow
  exact .ite h.wr (.ite h.wr h.wr.wr.modArr)

theorem Dev.Keeps.useReference (h : d.Keeps e) {b v : Nat} : d.Keeps (e.useReference b v) := by
  unfold Dev.useReference
  exact .ite h h.wr.wr

theorem Dev.Keeps.refSelWrite (h : d.Keeps e) {b v : Nat} : d.Keeps (e.refSelWrite b v) := by
  unfold Dev.refSelWrite
  exact .ite h.wr (.ite (.ite h.wr (.ite h.wr.useReference.wr h.wr.useReference)) h.wr.useReference)

theorem Dev.Keeps.extRef (h : d.Keeps e) {b mv : Nat} : d.Keeps (e.extRef b mv) := by
  unfold Dev.extRef
  exact .ite h.still (.ite h.still.useReference.wr h.still)

theorem Dev.Keeps.monArm (h : d.Keeps e) {b : Nat} : d.Keeps (e.monArm b) := by
  unfold Dev.monArm
  have armed : ∀ {e : Dev} {bushels : List Nat} {last : Tbl (List Nat)}, d.Keeps e → d.Keeps { e with monArmed := bushels, monLast := last } :=
    fun h => h.still
  extract_lets _ _ _ d1
  have hd1 : d.Keeps d1 := h.wr
  exact .ite (armed hd1) hd1

theorem Dev.Keeps.loadScan (h : d.Keeps e) {b : Nat} {es : List Nat} : d.Keeps (e.loadScan b es) := by
  unfold Dev.loadScan
  have loaded : ∀ {e : Dev} {len at_ : Tbl Nat} {armed : List Nat}, d.Keeps e → d.Keeps { e with monLen := len, monArmed := armed, monAt := at_ } :=
    fun h => h.still
  exact loaded (h.foldl fun _ _ h => h.wr.wr)

theorem Dev.Keeps.reloadScan (h : d.Keeps e) {b : Nat} {log : Bool} : d.Keeps (e.reloadScan b log) := by
  unfold Dev.reloadScan
  exact .ite h.loadScan.diag h.loadScan

theorem Dev.Keeps.monStep (h : d.Keeps e) {b k : Nat} : d.Keeps (e.monStep b k) := by
  unfold Dev.monStep
  exact h.still

theorem Dev.Keeps.monRefReading (h : d.Keeps e) {b x repeats : Nat} {readings : List Nat} : d.Keeps (e.monRefReading b x repeats readings) := by
  unfold Dev.monRefReading
  exact .ite h.count.wr (.ite (.monitorUpdate (.modArr (.setWord (h.foldl (fun _ _ h => h.wr))))) (.modArr (.setWord (h.foldl
      (fun _ _ h => h.wr)))))

theorem Dev.Keeps.monReading (h : d.Keeps e) {b i n : Nat} {codes : List Int} {readings : List Nat} :
    d.Keeps (e.monReading b i n codes readings) := by
  unfold Dev.monReading
  extract_lets _ _ _ _ _
  split
  · exact h
  · exact .ite (.ite h.still (.ite h.still.monStep.wr.monRefReading (.ite (.ite (h.still.monStep.wr.wr.setWord.foldl
      (fun _ _ h => h.diodeUpdate)) h.still.monStep.wr.wr.setWord) (.ite h.still.monStep.wr.wr.setWord h.still.monStep.wr)))) h

theorem Dev.Keeps.loadTracker (h : d.Keeps e) {a : Nat} : d.Keeps (e.loadTracker a) := by
  unfold Dev.loadTracker
  refine .ite ?_ h
  split
  · exact h.setTracker.driftCheck
  · exact h.modArr

theorem Dev.Keeps.monPassEnd (h : d.Keeps e) {b : Nat} {deviation : Int} : d.Keeps (e.monPassEnd b deviation) := by
  unfold Dev.monPassEnd
  exact .ite (.foldl (.ite (.loadScan (.ite (.ite h.monStep.countWrap.wr h.monStep.countWrap.wr.diag) h.monStep.countWrap)) (.ite
      (.ite h.monStep.countWrap.wr h.monStep.countWrap.wr.diag) h.monStep.countWrap)) (fun _ _ h => .ite h.loadTracker h)) h

end Sys2Proof.Machine
end

section
/-! The operations of Machine/Operands keep the tables in order. -/
namespace Sys2Proof.Machine

set_option Elab.async false

variable {d e f : Dev}

theorem Dev.Keeps.writeRecordPart (h : d.Keeps e) {cell : Nat} {f : Fmt} {scale : Nat} {codes : List Nat} :
    d.Keeps (e.writeRecordPart cell f scale codes) := by
  unfold Dev.writeRecordPart
  exact h.setLe.foldl (fun _ _ h => h.setPlanarElem)

theorem Dev.Keeps.writeRecord (h : d.Keeps e) {cell : Nat} {f : Fmt} {scale : Nat} {codes : List Nat} :
    d.Keeps (e.writeRecord cell f scale codes) := by
  unfold Dev.writeRecord
  exact h.setLe.foldl (fun _ _ h => h.setPlanarElem)

end Sys2Proof.Machine
end

section
/-! The operations of Machine/Forward keep the tables in order. -/
namespace Sys2Proof.Machine

set_option Elab.async false

variable {d e f : Dev}

theorem Dev.Keeps.putTerms (h : d.Keeps e) {i key : Nat} {ts : List Nat} : d.Keeps (e.putTerms i key ts) := by
  unfold Dev.putTerms
  exact h.modTask

theorem Dev.Keeps.showGrain (h : d.Keeps e) {g : Nat} : d.Keeps (e.showGrain g) := by
  unfold Dev.showGrain
  exact h.wr.wr

theorem Dev.Keeps.rowGroupStart (h : d.Keeps e) {i token entry row : Nat} : d.Keeps (e.rowGroupStart i token entry row) := by
  have queued : ∀ {e : Dev} {q : Tbl (List StartedCycle)}, d.Keeps e → d.Keeps { e with fbQueue := q } := fun h => h.still
  unfold Dev.rowGroupStart
  split
  · split
    · dsimp only
      refine .ite ?_ h
      split
      · exact h.modTask.modTask.putTerms
      · exact .ite h.modTask.putTerms (.ite (.ite h (.ite h.count h.modTask.modArr.showGrain)) (queued h.modTask).modTask.showGrain)
    · exact h
  · exact h

theorem Dev.Keeps.captureStore (h : d.Keeps e) {p : Nat} {s : WatchSample} {t : TaskRun} {c : StartedCycle} {ys : List Nat} :
    d.Keeps (e.captureStore p s t c ys) := by
  unfold Dev.captureStore
  exact .ite (h.foldl (fun _ _ h => h.setLe)) h

theorem Dev.Keeps.capture (h : d.Keeps e) {p : Nat} {t : TaskRun} {c : StartedCycle} {ys lsbs : List Nat} {unsettled : Bool} :
    d.Keeps (e.capture p t c ys lsbs unsettled) := by
  unfold Dev.capture
  split
  · exact h
  · exact .ite h.modAttempt.captureStore h

theorem Dev.Keeps.flagArray (h : d.Keeps e) {a : Nat} : d.Keeps (e.flagArray a) := by
  unfold Dev.flagArray
  exact .ite h.wr.diag.decideRetire (.ite h.wr.diag.enqueue.modArr.setMeta h.wr.diag.enqueue.modArr)

theorem Dev.Keeps.persistClear (h : d.Keeps e) {a : Nat} : d.Keeps (e.persistClear a) := by
  unfold Dev.persistClear
  exact .ite h.setMeta h

theorem Dev.Keeps.windowEnd (h : d.Keeps e) {a : Nat} : d.Keeps (e.windowEnd a) := by
  unfold Dev.windowEnd
  exact .ite h.modArr h

theorem Dev.Keeps.countWindow (h : d.Keeps e) {a row mask : Nat} : d.Keeps (e.countWindow a row mask) := by
  unfold Dev.countWindow
  exact .ite h.modArr (.ite h.modArr.count.wr.wr.flagArray h.modArr.count.wr.wr)

theorem Dev.Keeps.addReference (h : d.Keeps e) {a : Nat} {slots : List Int} {p : Nat → ℚ} : d.Keeps (e.addReference a slots p) := by
  unfold Dev.addReference
  exact h.modArr

theorem Dev.Keeps.readCycle (h : d.Keeps e) {a : Nat} {codes : List Int} : d.Keeps (e.readCycle a codes) := by
  unfold Dev.readCycle
  extract_lets _ _ _
  split
  · exact h
  · extract_lets d0
    have hd0 : d.Keeps d0 := h.modArr.showGrain
    split
    · exact hd0
    · split
      · exact hd0
      · exact .addReference (.countWindow (.modArr (.count (.count (.countWrap (.ite hd0.putTerms.capture.count.modTask
          hd0.putTerms.capture))))))

theorem Dev.Keeps.fallbackGroup (h : d.Keeps e) {g : Nat} : d.Keeps (e.fallbackGroup g) := by
  unfold Dev.fallbackGroup
  split
  · exact h
  · extract_lets d0
    have hd0 : d.Keeps d0 := h.still.showGrain
    split
    · exact hd0
    · split
      · exact hd0
      · extract_lets _ _
        split
        · exact hd0.putTerms
        · exact .ite hd0.putTerms.countWrap.count.count hd0.putTerms.countWrap.count

theorem Dev.Keeps.quantiseUnder (h :
    d.Keeps e) {f : Fmt} {x : ScaleEntry} {gen1 : Bool} {home tag : Nat} {vs : List Fp} {idx : Nat → Nat} : d.Keeps
    (e.quantiseUnder f x gen1 home tag vs idx).2 := by
  unfold Dev.quantiseUnder
  exact .ite_snd h.scaleStats h.still.scaleStats

theorem Dev.Keeps.writeToken (h : d.Keeps e) {base : Nat} {gen1 : Bool} {t : TaskRun} {token outs : Nat} {v : Nat → Fp} :
    d.Keeps (e.writeToken base gen1 t token outs v) := by
  unfold Dev.writeToken
  extract_lets _
  refine .ite (h.foldl (fun _ _ h => h.setLe)) ?_
  refine .ite (h.foldl (fun _ _ h => h.setLe)) ?_
  split
  · exact h
  · exact h.foldl (fun _ _ h => h.quantiseUnder.writeRecord)

theorem Dev.Keeps.fwdWrite (h : d.Keeps e) {gen1 : Bool} {t : TaskRun} : d.Keeps (e.fwdWrite gen1 t) := by
  unfold Dev.fwdWrite
  exact h.foldl (fun _ _ h => h.writeToken)

end Sys2Proof.Machine
end

section
/-! The operations of Machine/Products keep the tables in order. -/
namespace Sys2Proof.Machine

set_option Elab.async false

variable {d e f : Dev}

theorem Dev.Keeps.writeTile (h :
    d.Keeps e) {base : Nat} {gen1 : Bool} {t : TaskRun} {p : Product} {before m0 n0 : Nat} {v : Nat → Nat → Fp} : d.Keeps
    (e.writeTile base gen1 t p before m0 n0 v) := by
  unfold Dev.writeTile
  extract_lets _ _ _ _ d1
  refine .ite ?_ (h.foldl (fun _ _ h => h.foldl (fun _ _ h => .ite h.setLe h.setLe)))
  have hd1 : d.Keeps d1 := by
    dsimp only [d1]
    split
    · exact .ite (h.foldl (fun _ _ h => h.foldl (fun _ _ h => h.quantiseUnder.writeRecordPart))) h
    · exact h
  clear_value d1
  split
  · exact .ite (hd1.foldl (fun _ _ h => h.foldl (fun _ _ h => h.quantiseUnder.writeRecordPart))) hd1
  · exact hd1

theorem Dev.Keeps.productPass (h : d.Keeps e) {i : Nat} {t : TaskRun} {gen1 : Bool} {p : Product} {side tl : Nat} :
    d.Keeps (e.productPass i t gen1 p side tl) := by
  unfold Dev.productPass
  exact .ite h.modTask (.ite h.modTask.modTask h.modTask.writeTile.modTask)

theorem Dev.Keeps.tilePass (h : d.Keeps e) {g : Nat} : d.Keeps (e.tilePass g) := by
  unfold Dev.tilePass
  split
  · refine .ite h ?_
    refine .ite (.ite h.modTask.countWrap h) ?_
    refine .ite h ?_
    extract_lets _
    split
    · exact h
    · exact .ite h.productPass.countWrap.wr.count h.productPass.countWrap.wr
  · exact h

end Sys2Proof.Machine
end

section
/-! The operations of Machine/Vector keep the tables in order. -/
namespace Sys2Proof.Machine

set_option Elab.async false

variable {d e f : Dev}

theorem Dev.Keeps.vVector (h : d.Keeps e) {base : Nat} {t : TaskRun} {v : List Nat} {first len i1 i2 done : Nat} :
    d.Keeps (e.vVector base t v first len i1 i2 done) := by
  unfold Dev.vVector
  extract_lets _ _ _ d0 _
  have hd0 : d.Keeps d0 := h.count
  split
  · exact hd0
  · refine .ite ?_ (hd0.foldl (fun _ _ h => .ite h.setLe h.setLe))
    split
    · exact hd0
    · exact hd0.foldl (fun _ _ h => h.quantiseUnder.writeRecord)

theorem Dev.Keeps.vNative (h : d.Keeps e) {base : Nat} {t : TaskRun} {v : List Nat} : d.Keeps (e.vNative base t v) := by
  unfold Dev.vNative
  exact h.foldl (fun _ _ h => h.foldl (fun _ _ h => h.foldl (fun _ _ h => h.vVector)))

theorem Dev.Keeps.vUpdate (h : d.Keeps e) {base : Nat} {gen1 : Bool} {home : Nat} {v : List Nat} : d.Keeps (e.vUpdate base gen1 home v) := by
  unfold Dev.vUpdate
  extract_lets _ _ _ _ _ _ _ _ _ d1 d2 d3 _ d4
  have hd1 : d.Keeps d1 := h.foldl (fun _ _ h => h.setLe)
  have hd2 : d.Keeps d2 := .ite (hd1.foldl (fun _ _ h => h.writeRecord)) hd1
  have hd3 : d.Keeps d3 := by
    dsimp only [d3]
    split
    · exact hd2
    · exact .scaleStats (hd2.foldl (fun _ _ h => h.writeRecord))
  have hd4 : d.Keeps d4 := hd3.setLe.setLe
  exact hd4.count.count.count

theorem Dev.Keeps.showVector (h : d.Keeps e) {g : Nat} {arg : List Nat} {k : Nat} : d.Keeps (e.showVector g arg k) := by
  unfold Dev.showVector
  exact h.wr.wr.wr

theorem Dev.Keeps.vecDescriptor (h : d.Keeps e) {g : Nat} : d.Keeps (e.vecDescriptor g) := by
  unfold Dev.vecDescriptor
  split
  · exact h
  · exact .ite h (.ite (.showVector (.modTask (.countWrap (.ite h.vNative (.ite h h.vUpdate))))) (.modTask (.countWrap (.ite h.vNative
      (.ite h h.vUpdate)))))

end Sys2Proof.Machine
end

section
/-! The operations of Machine/Chain keep the tables in order. -/
namespace Sys2Proof.Machine

set_option Elab.async false

variable {d e f : Dev}

theorem Dev.Keeps.copyBytes (h : d.Keeps e) {src dst n : Nat} : d.Keeps (e.copyBytes src dst n) := by
  unfold Dev.copyBytes
  exact h.setBytes

theorem Dev.Keeps.packUnit (h : d.Keeps e) {a : List Nat} {src dstCell : Nat} : d.Keeps (e.packUnit a src dstCell) := by
  unfold Dev.packUnit
  exact h.foldl (fun _ _ h => h.setLe.copyBytes)

theorem Dev.Keeps.unpackUnit (h : d.Keeps e) {a : List Nat} {srcCell dst : Nat} : d.Keeps (e.unpackUnit a srcCell dst).1 := by
  unfold Dev.unpackUnit
  exact h.foldl (fun _ _ h => h.setByte)

theorem Dev.Keeps.transposeUnit (h : d.Keeps e) {a : List Nat} {srcCell : Nat} {off : Int} {dstCell : Nat} :
    d.Keeps (e.transposeUnit a srcCell off dstCell) := by
  unfold Dev.transposeUnit
  exact h.foldl (fun _ _ h => .ite (.ite (h.foldl (fun _ _ h => h.foldl (fun _ _ h => h.writeRecord))) (h.foldl (fun _ _ h => h.foldl
      (fun _ _ h => h.writeRecord)))) (h.foldl (fun _ _ h => h.foldl (fun _ _ h => h.setPlanarElem))))

theorem Dev.Keeps.chnWr (h : d.Keeps e) {t : TaskRun} {fg fp : Fld} {n v : Nat} : d.Keeps (e.chnWr t fg fp n v) := by
  unfold Dev.chnWr
  exact .ite h.wr h.wr

theorem Dev.Keeps.chnCount (h : d.Keeps e) {t : TaskRun} {src dst : Nat} : d.Keeps (e.chnCount t src dst) := by
  unfold Dev.chnCount
  exact .foldl (.ite h.countWrap.count h.countWrap.count) (fun _ _ h => h.chnWr)

theorem Dev.Keeps.chainFault (h : d.Keeps e) {i : Nat} {st : Status} : d.Keeps (e.chainFault i st) := by
  unfold Dev.chainFault
  exact h.modTask

theorem Dev.Keeps.chainAnswered (h : d.Keeps e) {i u : Nat} : d.Keeps (e.chainAnswered i u) := by
  unfold Dev.chainAnswered
  exact h.modTask

theorem Dev.Keeps.chainSettle (h : d.Keeps e) {i ctx : Nat} : d.Keeps (e.chainSettle i ctx) := by
  unfold Dev.chainSettle
  split
  · exact .ite h.signalRef.modTask h
  · exact h

theorem Dev.Keeps.peerTransfer (h : d.Keeps e) {i u ctx : Nat} {t : TaskRun} {addr : Nat} {data : Option (List Nat)} {n : Nat} :
    d.Keeps (e.peerTransfer i u ctx t addr data n) := by
  unfold Dev.peerTransfer
  exact h.foldl (fun _ _ h => by
      split
      · extract_lets _ _
        split
        · next st d1 made =>
          have hd1 : d.Keeps d1 := h.originate.made made
          exact .ite hd1.modTask hd1.chainFault)

theorem Dev.Keeps.busFault (h : d.Keeps e) {i : Nat} : d.Keeps (e.busFault i) := by
  unfold Dev.busFault
  exact h.modTask

theorem Dev.Keeps.moveUnit (h : d.Keeps e) {i u ctx : Nat} {t : TaskRun} : d.Keeps (e.moveUnit i u ctx t) := by
  unfold Dev.moveUnit
  extract_lets _ src dst sc dc outward k
  have moves : ∀ {e : Dev} {bs : List Nat}, d.Keeps e → d.Keeps (outward e bs) := fun h => .ite h.still (.ite h.peerTransfer h.setBytes)
  have asked : d.Keeps { e with hostReads := Tbl.put e.hostReads k (i, u), out := e.out ++ [OutMsg.hostRead ctx k src
      (chBurst t.arg)] } := h.still
  clear_value outward
  split
  · exact .ite asked.modTask (.ite h.peerTransfer (moves h))
  · exact h.packUnit
  · exact moves h.unpackUnit
  · exact h.transposeUnit

theorem Dev.Keeps.chainUnit (h : d.Keeps e) {grain : Nat} {peckDma : Bool} : d.Keeps (e.chainUnit grain peckDma) := by
  have goes : ∀ {e : Dev} {t : TaskRun} {i src dst u ctx v : Nat} {g : TaskRun → TaskRun}, d.Keeps e → d.Keeps
      ((((((e.chnWr t CHN_STATUS_SEG_WAITING PCHN_STATUS_SEG_WAITING 0 v).moveUnit
      i u ctx t).chnCount t src dst).modTask i g).chainSettle i ctx)) := fun h => h.chnWr.moveUnit.chnCount.modTask.chainSettle
  unfold Dev.chainUnit
  split
  · extract_lets _
    refine .ite h ?_
    refine .ite h ?_
    split
    next go d1 made =>
    have hd1 : d.Keeps d1 := by
      split at made
      · split at made
        next posted =>
          cases made
          exact (h.postWait.made posted).modTask
        next posted =>
          cases made
          exact (h.postWait.made posted).modTask.chnWr
      · cases made
        exact h
    exact .ite (.ite hd1.chnWr.busFault (goes hd1)) hd1
  · exact h

theorem Dev.Keeps.chainData (h : d.Keeps e) {i u off : Nat} {bs : List Nat} : d.Keeps (e.chainData i u off bs) := by
  unfold Dev.chainData
  split
  · exact .ite h.chainAnswered h.setBytes.chainAnswered.chainSettle
  · exact h

theorem Dev.Keeps.chainStatus (h : d.Keeps e) {i u : Nat} {st : Status} : d.Keeps (e.chainStatus i u st) := by
  unfold Dev.chainStatus
  exact .chainSettle (.ite h.chainAnswered h.chainAnswered.chainFault)

end Sys2Proof.Machine
end

section
/-! The operations of Machine/Watch keep the tables in order. -/
namespace Sys2Proof.Machine

set_option Elab.async false

variable {d e f : Dev}

theorem Dev.Keeps.startSamples (h : d.Keeps e) : d.Keeps e.startSamples := by
  unfold Dev.startSamples
  split
  · exact h
  · exact .ite (h.foldl (fun _ _ h => h.setWord.setWord)) (.modAttempt (h.foldl (fun _ _ h => h.setWord.setWord)))

theorem Dev.Keeps.chargeFailure (h : d.Keeps e) {a : Nat} : d.Keeps (e.chargeFailure a) := by
  unfold Dev.chargeFailure
  exact .ite h.still.diag.enqueue (.ite h.still.diag.decideRetire h.still.diag)

theorem Dev.Keeps.movePointer (h : d.Keeps e) {p idx : Nat} : d.Keeps (e.movePointer p idx) := by
  unfold Dev.movePointer
  exact h.wr

theorem Dev.Keeps.resolveSample (h : d.Keeps e) {p : Nat} : d.Keeps (e.resolveSample p) := by
  unfold Dev.resolveSample
  exact h.modAttempt

theorem Dev.Keeps.wideRecompute (h : d.Keeps e) {p : Nat} : d.Keeps (e.wideRecompute p) := by
  unfold Dev.wideRecompute
  split
  · exact h
  · split
    · extract_lets _ g _ _ n d0 d1 show_ d2
      refine .ite h ?_
      have hd0 : d.Keeps d0 := h.resolveSample.countWrap.count
      have hd1 : d.Keeps d1 := .ite hd0.count hd0
      have hd2 : d.Keeps d2 := hd1.setWord
      have shows : ∀ {res rms : Nat}, d.Keeps (show_ d2 res rms) := hd2.setWord
      exact .ite shows.count (.ite (.ite shows.count.modAttempt shows.count.modAttempt.chargeFailure) shows.count)
    · exact h

theorem Dev.Keeps.clearNorms (h : d.Keeps e) : d.Keeps e.clearNorms := by
  unfold Dev.clearNorms
  split
  · exact h
  · exact h.foldl (fun _ _ h => h.setLe)

theorem Dev.Keeps.evalNorm (h : d.Keeps e) {base i : Nat} : d.Keeps (e.evalNorm base i).2 := by
  unfold Dev.evalNorm
  exact .ite_snd h h.setLe

theorem Dev.Keeps.evalNorms (h : d.Keeps e) {home : Nat} : d.Keeps (e.evalNorms home).2 := by
  unfold Dev.evalNorms
  split
  · exact h
  · refine .foldlIn Prod.snd h fun b i so_far => ?_
    obtain ⟨st, e⟩ := b
    cases st with
    | some st => exact so_far
    | none =>
      dsimp only
      split
      next made => exact so_far.evalNorm.made made
      next made => exact .modAttempt (.ite (so_far.evalNorm.made made).count (so_far.evalNorm.made made))

theorem Dev.Keeps.commitNorms (h : d.Keeps e) : d.Keeps e.commitNorms := by
  unfold Dev.commitNorms
  split
  · exact h
  · exact h.foldl (fun _ _ h => h.setLe)

theorem Dev.Keeps.showVerdict (h : d.Keeps e) {p : Nat} : d.Keeps (e.showVerdict p) := by
  unfold Dev.showVerdict
  split
  · exact h
  · exact h.setWord

end Sys2Proof.Machine
end

section
/-! The operations of Machine/Tasks keep the tables in order. -/
namespace Sys2Proof.Machine

set_option Elab.async false

variable {d e f : Dev}

theorem Dev.Keeps.showPort (h : d.Keeps e) {g : Nat} : d.Keeps (e.showPort g) := by
  unfold Dev.showPort
  exact h.wr.wr.wr.wr.wr

theorem Dev.Keeps.showSched (h : d.Keeps e) {p : Nat} : d.Keeps (e.showSched p) := by
  unfold Dev.showSched
  exact h.wr

theorem Dev.Keeps.showEngineOf (h : d.Keeps e) {gen1 : Bool} {t : TaskRun} {busy : Bool} : d.Keeps (e.showEngineOf gen1 t busy) := by
  unfold Dev.showEngineOf
  extract_lets _
  split
  · exact .ite h.wr.wr.wr.wr h.wr.wr.wr
  · exact .ite h.wr.wr.showVector h.wr.wr
  · exact h.wr.wr.wr.wr
  · exact h.wr.wr.wr.wr
  · exact h

theorem Dev.Keeps.stirTask (h : d.Keeps e) {gen1 : Bool} {t : TaskRun} : d.Keeps (e.stirTask gen1 t) := by
  unfold Dev.stirTask
  exact h.stir.stir.stirKind

theorem Dev.Keeps.endRun (h : d.Keeps e) {st : Status} {tag : Nat} {halting : Option Status} : d.Keeps (e.endRun st tag halting) := by
  unfold Dev.endRun
  split
  · exact h
  · exact h.still.showRun.finishWaiting

theorem Dev.Keeps.haltCheck (h : d.Keeps e) : d.Keeps e.haltCheck := by
  unfold Dev.haltCheck
  split
  · exact .ite h.endRun h
  · exact h

theorem Dev.Keeps.haltRun (h : d.Keeps e) {tag : Nat} {st : Status} : d.Keeps (e.haltRun tag st) := by
  unfold Dev.haltRun
  split
  · exact h
  · exact .ite h h.modAttempt.showRun.withdrawTasks

theorem Dev.Keeps.countTask (h : d.Keeps e) {t : TaskRun} {st : Status} : d.Keeps (e.countTask t st) := by
  unfold Dev.countTask
  exact .ite (.ite (.wr (.wr (.ite (.count (.ite h.countWrap h)) (.ite h.countWrap h)))) (.ite (.count (.ite h.countWrap h))
      (.ite h.countWrap h))) (.ite (.wr (.wr (.wr (.wr (.wr (.wr (.ite (.wr (.wr (.ite (.count (.ite h.countWrap h))
      (.ite h.countWrap h)))) (.ite (.count (.ite h.countWrap h)) (.ite h.countWrap h))))))))) (.ite (.chnWr (.chnWr (.chnWr (.wr (.wr
      (.wr (.ite (.wr (.wr (.ite (.count (.ite h.countWrap h)) (.ite h.countWrap h)))) (.ite (.count (.ite h.countWrap h))
      (.ite h.countWrap h))))))))) (.wr (.wr (.wr (.ite (.wr (.wr (.ite (.count (.ite h.countWrap h)) (.ite h.countWrap h)))) (.ite
      (.count (.ite h.countWrap h)) (.ite h.countWrap h))))))))

theorem Dev.Keeps.withdrawSeg (h : d.Keeps e) {i : Nat} : d.Keeps (e.withdrawSeg i) := by
  unfold Dev.withdrawSeg
  exact h.withdraw.withdrawRemote

theorem Dev.Keeps.finishTask (h : d.Keeps e) {i : Nat} {st : Status} : d.Keeps (e.finishTask i st) := by
  unfold Dev.finishTask
  split
  · extract_lets d1 d2 d2' d3 d4 d5 d6
    have hd1 : d.Keeps d1 := h.modTask.countTask
    have hd2 : d.Keeps d2 := .ite hd1.showEngineOf.stirTask.showPort.showSched hd1
    have hd2' : d.Keeps d2' := .ite hd2.withdrawSeg hd2
    have hd3 : d.Keeps d3 := .ite hd2'.performSignals hd2'
    have hd4 : d.Keeps d4 := hd3.setLe
    have noted : ∀ {e : Dev} {done : List Nat}, d.Keeps e → d.Keeps { e with ingestDone := done } := fun h => h.still
    have hd5 : d.Keeps d5 := .ite (noted hd4) hd4
    have hd6 : d.Keeps d6 := .ite (.ite hd5.showVerdict.signalBarrier hd5) (.ite hd5.cutShort hd5.haltRun)
    exact hd6.haltCheck
  · exact h

theorem Dev.Keeps.reuseIngest (h : d.Keeps e) {i ctx : Nat} {t : TaskRun} {arg : List Nat} : d.Keeps (e.reuseIngest i ctx t arg) := by
  unfold Dev.reuseIngest
  exact .finishTask (h.modTask.foldl (fun _ _ h => h.signalRef))

theorem Dev.Keeps.startTask (h : d.Keeps e) {i on : Nat} {stolen : Bool} : d.Keeps (e.startTask i on stolen) := by
  unfold Dev.startTask
  split
  · refine .ite h ?_
    refine .ite h.finishTask ?_
    refine .ite h ?_
    refine .ite h.reuseIngest ?_
    refine .ite h ?_
    split
    · exact h.count
    · split
      · extract_lets _ d0 d1 _ d2 d3 d4
        have hd0 : d.Keeps d0 := .ite h.modAttempt h
        have hd1 : d.Keeps d1 := hd0.wake.wake.modTask
        have hd2 : d.Keeps d2 := .ite hd1.showEngineOf hd1
        have hd3 : d.Keeps d3 := hd2.showPort.wr.showSched
        have hd4 : d.Keeps d4 := .ite hd3.stirKind hd3
        refine .ite ?_ hd4
        split
        · next st d5 made =>
          have hd5 : d.Keeps d5 := hd4.evalNorms.made made
          exact hd5.modTask
        · next d5 made =>
          have hd5 : d.Keeps d5 := hd4.evalNorms.made made
          exact hd5
  · exact h

theorem Dev.Keeps.steal (h : d.Keeps e) {g kind : Nat} : d.Keeps (e.steal g kind) := by
  unfold Dev.steal
  extract_lets _
  refine .ite ?_ h
  split
  · exact h
  · extract_lets d1
    have hd1 : d.Keeps d1 := h.startTask
    split
    · exact .ite hd1.count hd1
    · exact hd1

theorem Dev.Keeps.bushelSteal (h : d.Keeps e) {g kind : Nat} : d.Keeps (e.bushelSteal g kind) := by
  unfold Dev.bushelSteal
  extract_lets _ _ _ _ pick
  refine .ite ?_ h
  clear_value pick
  cases pick with
  | none => exact h
  | some way =>
    dsimp only
    split
    · exact .ite h.startTask.count.count.count h.startTask
    · exact h.startTask

theorem Dev.Keeps.completeTask (h : d.Keeps e) {i : Nat} : d.Keeps (e.completeTask i) := by
  unfold Dev.completeTask
  split
  · refine .ite ?_ h
    split
    · exact h
    · exact .ite h.fwdWrite.finishTask h.finishTask
  · exact h

theorem Dev.Keeps.streamAbort (h : d.Keeps e) {i : Nat} : d.Keeps (e.streamAbort i) := by
  unfold Dev.streamAbort
  split
  · exact .ite h.finishTask h
  · exact h

theorem Dev.Keeps.isolateTasks (h : d.Keeps e) {p : Nat} : d.Keeps (e.isolateTasks p) := by
  unfold Dev.isolateTasks
  exact h.foldl (fun _ _ h => h.finishTask)

theorem Dev.Keeps.stopTasks (h : d.Keeps e) : d.Keeps e.stopTasks := by
  unfold Dev.stopTasks
  split
  · exact h
  · extract_lets d1 _ d2 d3 d4 d5
    have hd1 : d.Keeps d1 := h.withdraw.withdrawRemote
    have hd2 : d.Keeps d2 := by
      refine hd1.trans ⟨id, id, fun ok => Tbl.rising_filter _ (Tbl.rising_map (fun e => ?_) ok), id, id⟩
      rfl
    have hd3 : d.Keeps d3 := hd2.foldl (fun _ _ h => h.showEngineOf.stirTask)
    have hd4 : d.Keeps d4 := hd3.modAttempt
    exact hd4.foldl (fun _ _ h => h.showPort.showSched.showGrain)

end Sys2Proof.Machine
end

section
/-! The operations of Machine/Exchange keep the tables in order. -/
namespace Sys2Proof.Machine

set_option Elab.async false

variable {d e f : Dev}

theorem Dev.Keeps.showXch (h : d.Keeps e) : d.Keeps e.showXch := by
  unfold Dev.showXch
  exact h.setWord

theorem Dev.Keeps.clearReady (h : d.Keeps e) : d.Keeps e.clearReady := by
  unfold Dev.clearReady
  exact h.foldl (fun _ _ h => by
      split
      · exact h.setReady
      · exact h)

theorem Dev.Keeps.resolveCheck (h : d.Keeps e) {v : Nat} : d.Keeps (e.resolveCheck v) := by
  have shown : ∀ {g}, d.Keeps (e.modAttempt g).showXch := h.modAttempt.showXch
  fun_cases Dev.resolveCheck e v
  case case1 => exact h
  case case2 => exact shown.signalObject
  case case3 made => exact shown.originate.made made
  case case4 made _ => exact (shown.originate.made made).dropSignal
  case case5 => exact shown
  case case6 => exact h

theorem Dev.Keeps.exchangeStart (h : d.Keeps e) : d.Keeps e.exchangeStart := by
  unfold Dev.exchangeStart
  extract_lets d0
  have hd0 : d.Keeps d0 := h.setWord
  split
  · exact hd0.modAttempt.showXch
  · exact .ite hd0.resolveCheck hd0.showXch

theorem Dev.Keeps.writeJournal (h : d.Keeps e) {x : XchTable} {ctx step attempt committed : Nat} {gen1 : Bool} :
    d.Keeps (e.writeJournal x ctx step attempt committed gen1) := by
  unfold Dev.writeJournal
  exact .ite h (.ite (.hostEvent (.wr (.setWord (.setBytes (.ite h.setBytes h))))) (.setWord (.setBytes (.ite h.setBytes h))))

theorem Dev.Keeps.sendOut (h : d.Keeps e) {ctx space node addr : Nat} {bs : List Nat} {why : Purpose} :
    d.Keeps (e.sendOut ctx space node addr bs why).2.2 := by
  unfold Dev.sendOut
  split
  · exact h.still
  · refine .foldlIn (fun (b : Nat × Status × Dev) => b.2.2) h fun b x so_far => ?_
    have sent : ∀ {pk : Packet}, d.Keeps (b.2.2.originate pk why).2 := so_far.originate
    dsimp only
    split
    · exact sent
    · exact sent

theorem Dev.Keeps.writeAhead (h : d.Keeps e) {x : XchTable} : d.Keeps (e.writeAhead x) := by
  unfold Dev.writeAhead
  split
  · split
    · exact h.resolveCheck
    · extract_lets _ _ _ _ _ _ _ _ _ send
      have sends : ∀ {e : Dev} {o : Nat} {bs : List Nat}, d.Keeps e → d.Keeps (send e o bs).2.2 := by
        intro e o bs h
        dsimp only [send]
        split
        · exact h
        · exact h.sendOut
      clear_value send
      refine .ite h.resolveCheck ?_
      split
      next made1 =>
      split
      next made2 =>
      have sent := (sends ((sends h).made2 made1)).made2 made2
      exact .ite sent.modProgram.modAttempt.markIsolated (.ite sent.modProgram.modAttempt.resolveCheck sent.modProgram.modAttempt)
  · exact h

theorem Dev.Keeps.aheadAnswered (h : d.Keeps e) {st : Status} : d.Keeps (e.aheadAnswered st) := by
  unfold Dev.aheadAnswered
  split
  · exact h
  · exact .ite h (.ite h.modAttempt.modAttempt.markIsolated (.ite h.modAttempt.resolveCheck h.modAttempt))

theorem Dev.Keeps.addVotes (h : d.Keeps e) {t : XchTensor} {firstOwned chunk : Nat} {first : Bool} {votes : List Int} :
    d.Keeps (e.addVotes t firstOwned chunk first votes) := by
  unfold Dev.addVotes
  exact h.foldl (fun _ _ h => h.setLe)

theorem Dev.Keeps.contributionArrives (h : d.Keeps e) {body : List Nat} : d.Keeps (e.contributionArrives body) := by
  unfold Dev.contributionArrives
  extract_lets _ _ _
  split
  · split
    · exact h.count
    · extract_lets _
      split
      · refine .ite h.count ?_
        refine .ite h.count.wr.setWord.resolveCheck ?_
        refine .ite h.count ?_
        refine .ite h.count ?_
        split
        · extract_lets _ d1 d2
          have hd1 : d.Keeps d1 := h.addVotes.setWord.countWrap
          have hd2 : d.Keeps d2 := hd1.modAttempt
          split
          · exact .ite hd2.writeAhead hd2
          · exact hd2
  · exact h.count

theorem Dev.Keeps.compress (h : d.Keeps e) {i : Nat} : d.Keeps (e.compress i) := by
  unfold Dev.compress
  split
  · split
    · exact h
    · refine .ite h (.showXch (h.modAttempt.foldl fun e c h => ?_))
      extract_lets _ _ d1 _ _
      have hd1 : d.Keeps d1 := h.foldl fun _ _ h => h.setLe
      clear_value d1
      split
      · exact hd1
      · refine .ite hd1.contributionArrives ?_
        split
        next made =>
        have sent := hd1.originate.made made
        exact .ite sent.countWrap sent.countWrap.markIsolated
  · exact h

theorem Dev.Keeps.showUpdate (h : d.Keeps e) : d.Keeps e.showUpdate := by
  unfold Dev.showUpdate
  exact h.wr.wr

theorem Dev.Keeps.writeRatio (h : d.Keeps e) {u : UpdateRun} {i : Nat} : d.Keeps (e.writeRatio u i) := by
  unfold Dev.writeRatio
  split
  · exact h
  · exact .ite h.setLe.hostEvent h.setLe

theorem Dev.Keeps.beginUpdate (h : d.Keeps e) {u : UpdateRun} : d.Keeps (e.beginUpdate u) := by
  unfold Dev.beginUpdate
  extract_lets d1 d2
  have hd1 : d.Keeps d1 := h.foldl (fun _ _ h => by
      split
      · split
        · exact .ite h.setLe h
        · exact h)
  have hd2 : d.Keeps d2 := .ite hd1 hd1.diag
  exact .ite hd2.still.setWord.showUpdate hd2.still.showUpdate

theorem Dev.Keeps.writeCopy (h : d.Keeps e) {t : XchTensor} {f : Fmt} {p : Nat} {codes scales : List Nat} :
    d.Keeps (e.writeCopy t f p codes scales) := by
  unfold Dev.writeCopy
  exact .foldl (h.foldl (fun _ _ h => h.setPlanarElem)) (fun _ _ h => h.setByte)

theorem Dev.Keeps.chunkPresent (h : d.Keeps e) {tensor c : Nat} : d.Keeps (e.chunkPresent tensor c) := by
  unfold Dev.chunkPresent
  exact .ite h (.ite (.updateReady (h.still.showXch.foldl (fun _ _ h => h.makeDue))) h.still.showXch)

theorem Dev.Keeps.setMomBlocks (h : d.Keeps e) {mom plane k : Nat} {bs : List MomBlock} : d.Keeps (e.setMomBlocks mom plane k bs) := by
  unfold Dev.setMomBlocks
  exact h.foldl (fun _ _ h => h.setByte.setBytes)

theorem Dev.Keeps.applyUpdate (h : d.Keeps e) {r : UpdRule} {master mom plane p0 k : Nat} {votes : List (Int × Bool)} :
    d.Keeps (e.applyUpdate r master mom plane p0 k votes).2 := by
  unfold Dev.applyUpdate
  exact .ite (.setMomBlocks (h.foldl (fun _ _ h => h.setLe))) (h.foldl (fun _ _ h => h.setLe))

theorem Dev.Keeps.publishChunk (h : d.Keeps e) {ctx base step : Nat} {x : XchTable} {t : XchTensor} {c : Nat} {masters : List Nat} :
    d.Keeps (e.publishChunk ctx base step x t c masters) := by
  unfold Dev.publishChunk
  split
  · exact h
  · exact .chunkPresent (h.writeCopy.scaleStats.foldl (fun _ _ h => h.originate.countWrap))

theorem Dev.Keeps.sendAgain (h : d.Keeps e) {ctx base step : Nat} {x : XchTable} {t : XchTensor} {c : Nat} :
    d.Keeps (e.sendAgain ctx base step x t c) := by
  unfold Dev.sendAgain
  exact h.publishChunk

theorem Dev.Keeps.countTransfer (h : d.Keeps e) {g : Nat} {runs : List (Nat × Nat)} : d.Keeps (e.countTransfer g runs) := by
  unfold Dev.countTransfer
  exact h.countWrap.count

theorem Dev.Keeps.endUpdate (h : d.Keeps e) {u : UpdateRun} {rest : List UpdateRun} : d.Keeps (e.endUpdate u rest) := by
  unfold Dev.endUpdate
  exact h.still.setWord.showUpdate

theorem Dev.Keeps.updateChunk (h : d.Keeps e) {g : Nat} : d.Keeps (e.updateChunk g) := by
  unfold Dev.updateChunk
  split
  · exact h
  · refine .ite h ?_
    split
    · exact h.endUpdate
    · extract_lets d1
      have hd1 : d.Keeps d1 := h.sendAgain
      exact .ite hd1.endUpdate hd1.still
    · extract_lets _
      split
      · extract_lets _ _
        split
        · next res d1 made =>
          have hd1 : d.Keeps d1 := h.applyUpdate.made made
          extract_lets d2 _
          have hd2 : d.Keeps d2 := hd1.count.count.count
          split
          · extract_lets d3 d4
            have hd3 : d.Keeps d3 := hd2.countTransfer.countTransfer.countWrap.publishChunk
            have hd4 : d.Keeps d4 := .ite hd3.writeRatio hd3
            exact .ite hd4.endUpdate hd4.still.showUpdate

theorem Dev.Keeps.chunkRecovered (h : d.Keeps e) {tensor c : Nat} {sums : List (Nat × Nat × Nat)} :
    d.Keeps (e.chunkRecovered tensor c sums) := by
  unfold Dev.chunkRecovered
  exact h.foldl (fun _ _ h => by
      split
      · exact .ite (.ite h.still.writeRatio h.still) h
      · exact h)

theorem Dev.Keeps.takeCopy (h : d.Keeps e) {body : List Nat} : d.Keeps (e.takeCopy body) := by
  unfold Dev.takeCopy
  extract_lets _ _ _
  split
  · exact h.count
  · exact .ite h.count h.writeCopy.chunkPresent

theorem Dev.Keeps.copyArrives (h : d.Keeps e) {lane : Nat} {body : List Nat} : d.Keeps (e.copyArrives lane body) := by
  unfold Dev.copyArrives
  exact .ite h.still h.takeCopy

theorem Dev.Keeps.freeCredits (h : d.Keeps e) {p cls sub n : Nat} : d.Keeps (e.freeCredits p cls sub n) := by
  unfold Dev.freeCredits
  exact h.modPort

theorem Dev.Keeps.releaseHeld (h : d.Keeps e) : d.Keeps e.releaseHeld := by
  unfold Dev.releaseHeld
  exact h.still.foldl (fun _ _ h => .ite h.copyArrives.freeCredits h.copyArrives)

end Sys2Proof.Machine
end

section
/-! The operations of Machine/Runs keep the tables in order. -/
namespace Sys2Proof.Machine

set_option Elab.async false

variable {d e f : Dev}

theorem Dev.Keeps.applyInit (h : d.Keeps e) {ctx : Nat} {es : List Nat} : d.Keeps (e.applyInit ctx es) := by
  unfold Dev.applyInit
  exact h.foldl (fun _ _ h => by
      refine .ite ?_ h.wr
      split
      · split
        · exact h.setObj
        · exact h
      · exact h)

theorem Dev.Keeps.runStart (h : d.Keeps e) : d.Keeps e.runStart := by
  unfold Dev.runStart
  split
  · exact h
  · exact .ite h h.still

theorem Dev.Keeps.makeEligible (h : d.Keeps e) {ctx i : Nat} : d.Keeps (e.makeEligible ctx i) := by
  unfold Dev.makeEligible
  split
  · refine .ite h ?_
    split
    · exact h.modTask.postTask
    · exact h.finishTask
  · exact h

theorem Dev.Keeps.clearDone (h : d.Keeps e) {base : Nat} : d.Keeps (e.clearDone base) := by
  unfold Dev.clearDone
  exact h.foldl (fun _ _ h => h.setByte)

theorem Dev.Keeps.clearStats (h : d.Keeps e) {base : Nat} : d.Keeps (e.clearStats base) := by
  unfold Dev.clearStats
  exact h.foldl (fun _ _ h => h.setLe.setLe)

theorem Dev.Keeps.watchTriggers (h : d.Keeps e) {ctx : Nat} : d.Keeps (e.watchTriggers ctx) := by
  unfold Dev.watchTriggers
  split
  · exact h
  · exact h.foldl (fun _ _ h => by
      split
      · exact h.checkTriggers
      · split
        · next _ d1 made =>
          have hd1 : d.Keeps d1 := h.postWait.made made
          exact hd1.triggers
        · next d1 made =>
          have hd1 : d.Keeps d1 := h.postWait.made made
          exact hd1
      · exact h)

theorem Dev.Keeps.attemptStart (h : d.Keeps e) {answer : Option (Nat × Nat)} : d.Keeps (e.attemptStart answer) := by
  have begun : ∀ {e : Dev} {a : Attempt}, d.Keeps e → d.Keeps { e with attempt := some a } := fun h => h.still
  fun_cases Dev.attemptStart e answer
  case case1 => exact h
  case case2 => exact h.stopTasks.endRun
  case case3 => exact h.stopTasks.clearDone.endRun
  case case4 =>
    refine .foldl (.watchTriggers (.startSamples (.exchangeStart (.applyInit (.foldl ?_ fun _ _ h => h.clearCounters.wr)))))
        (fun _ _ h => h.makeEligible)
    exact (begun h.stopTasks.clearDone.clearStats).clearNorms.showRun
  case case5 => exact h

theorem Dev.Keeps.recomputeScales (h : d.Keeps e) : d.Keeps e.recomputeScales := by
  unfold Dev.recomputeScales
  split
  · exact .ite h (.modAttempt (h.foldl (fun _ _ h => by
      split
      · split
        · split
          · exact .ite h h.setLe
          · exact h
        · exact h)))
  · exact h

theorem Dev.Keeps.commitResiduals (h : d.Keeps e) {x : XchTable} {done : List Nat} : d.Keeps (e.commitResiduals x done) := by
  unfold Dev.commitResiduals
  exact h.foldl (fun _ _ h => by
      split
      · exact h.copyBytes
      · exact h)

theorem Dev.Keeps.commitStep (h : d.Keeps e) {r : Run} {p : Program} {a : Attempt} {committed : Nat} :
    d.Keeps (e.commitStep r p a committed) := by
  unfold Dev.commitStep
  extract_lets _ d1 d2 d3 d4
  have hd1 : d.Keeps d1 := h.commitNorms.foldl (fun _ _ h => h.movePointer)
  have hd2 : d.Keeps d2 := hd1.still
  have hd3 : d.Keeps d3 := hd2.modProgram
  have hd4 : d.Keeps d4 := hd3.clearReady
  split
  · exact hd4.updateReady
  · extract_lets d5 d6
    have hd5 : d.Keeps d5 := hd4.commitResiduals.writeJournal
    have hd6 : d.Keeps d6 := hd5.still
    exact hd6.showXch.updateReady.beginUpdate.releaseHeld

theorem Dev.Keeps.refuseStep (h : d.Keeps e) {r : Run} {p : Program} {a : Attempt} {st : Status} : d.Keeps (e.refuseStep r p a st) := by
  unfold Dev.refuseStep
  exact .ite (.ite h.modAttempt.withdrawTasks.modProgram.recomputeScales.stopTasks.endRun.hostEvent h.modAttempt.withdrawTasks.modProgram)
      h.modAttempt.withdrawTasks

theorem Dev.Keeps.barrierOutcome (h : d.Keeps e) {msg : Option Outcome} : d.Keeps (e.barrierOutcome msg) := by
  unfold Dev.barrierOutcome
  extract_lets d0
  have hd0 : d.Keeps d0 := .ite h.still h
  split
  · refine .ite hd0 ?_
    extract_lets _ d1
    have hd1 : d.Keeps d1 := hd0.still
    split
    · exact hd1
    · refine .ite hd0 ?_
      refine .ite hd1 ?_
      refine .ite ?_ hd1.refuseStep.releaseHeld
      extract_lets d2 d3
      have hd2 : d.Keeps d2 := hd1.commitStep
      have hd3 : d.Keeps d3 := hd2.still.modAttempt
      exact .ite hd3.stopTasks.endRun hd3
  · exact hd0

end Sys2Proof.Machine
end

section
/-! The operations of Machine/StepCommands keep the tables in order. -/
namespace Sys2Proof.Machine

set_option Elab.async false

variable {d e f : Dev}

theorem Dev.Keeps.stepLoad (h : d.Keeps e) {c s : Nat} : d.Keeps (e.stepLoad c s).2 := by
  unfold Dev.stepLoad
  extract_lets _ _
  refine .ite_snd h ?_
  split
  · exact h
  · split
    · exact h
    · exact h.still

theorem Dev.Keeps.barrierValue (h : d.Keeps e) {c h' : Nat} : d.Keeps (e.barrierValue c h').2 := by
  unfold Dev.barrierValue
  split
  · next v d1 made =>
    have hd1 : d.Keeps d1 := h.fresh.made made
    extract_lets free
    split
    · split
      · exact h
      · exact hd1
    · exact hd1

theorem Dev.Keeps.stepSubmit (h : d.Keeps e) {c s : Nat} : d.Keeps (e.stepSubmit c s).2 := by
  unfold Dev.stepSubmit
  extract_lets _ _
  split
  · exact h
  · exact .ite_snd h (.ite_snd h (.ite_snd h (.ite_snd h.barrierValue h.still)))

theorem Dev.Keeps.stepUnload (h : d.Keeps e) {c s : Nat} : d.Keeps (e.stepUnload c s).2 := by
  unfold Dev.stepUnload
  exact .ite_snd h (.ite_snd h h.still)

theorem Dev.Keeps.abortRuns (h : d.Keeps e) {mine : Run → Bool} : d.Keeps (e.abortRuns mine) := by
  unfold Dev.abortRuns
  extract_lets _ _ d1 d2
  have hd1 : d.Keeps d1 := h.still
  have hd2 : d.Keeps d2 := hd1.foldl (fun _ _ h => h.barrierValue.finishWaiting)
  split
  · refine .ite ?_ hd2
    split <;> exact hd2.stopTasks.endRun
  · exact hd2

theorem Dev.Keeps.stepAbort (h : d.Keeps e) {c s : Nat} : d.Keeps (e.stepAbort c s).2 := by
  unfold Dev.stepAbort
  exact .ite_snd h (.ite_snd h h.abortRuns)

theorem Dev.Keeps.copiesReturn (h : d.Keeps e) {x : XchTable} : d.Keeps (e.copiesReturn x) := by
  unfold Dev.copiesReturn
  exact h.foldl (fun _ _ h => .ite h.modArr.makeDue h)

theorem Dev.Keeps.xchLoad (h : d.Keeps e) {c s : Nat} : d.Keeps (e.xchLoad c s).2 := by
  unfold Dev.xchLoad
  extract_lets _ _
  split
  · exact h
  · refine .ite_snd h ?_
    split
    · exact h
    · exact .ite_snd h h.modProgram.copiesReturn

theorem Dev.Keeps.xchUnload (h : d.Keeps e) {c s : Nat} : d.Keeps (e.xchUnload c s).2 := by
  have held : ∀ {key : Nat} {f : Program → Program}, d.Keeps (e.modProgram key f) := h.modProgram
  fun_cases Dev.xchUnload e c s
  case case4 =>
    dsimp only
    exact held
  all_goals exact h

theorem Dev.Keeps.updSet (h : d.Keeps e) {c s : Nat} : d.Keeps (e.updSet c s).2 := by
  have held : ∀ {key : Nat} {f : Program → Program}, d.Keeps (e.modProgram key f) := h.modProgram
  fun_cases Dev.updSet e c s
  case case4 =>
    dsimp only
    exact held
  all_goals exact h

theorem Dev.Keeps.wchLoad (h : d.Keeps e) {c s : Nat} : d.Keeps (e.wchLoad c s).2 := by
  have held : ∀ {key : Nat} {f : Program → Program}, d.Keeps (e.modProgram key f) := h.modProgram
  fun_cases Dev.wchLoad e c s
  case case4 =>
    dsimp only
    exact held
  all_goals exact h

theorem Dev.Keeps.wchUnload (h : d.Keeps e) {c s : Nat} : d.Keeps (e.wchUnload c s).2 := by
  have held : ∀ {key : Nat} {f : Program → Program}, d.Keeps (e.modProgram key f) := h.modProgram
  fun_cases Dev.wchUnload e c s
  case case4 =>
    dsimp only
    exact held
  all_goals exact h

theorem Dev.Keeps.applyEntry (h : d.Keeps e) {places : List (Nat × Nat × Nat × Nat × Nat)} {b : List Nat} : d.Keeps (e.applyEntry places b) := by
  unfold Dev.applyEntry
  exact h.foldl (fun _ _ h => by
      split
      · split
        · exact h
        · exact h.applyUpdate)

theorem Dev.Keeps.replayDiag (h : d.Keeps e) {c s : Nat} : d.Keeps (e.replayDiag c s).2 := by
  unfold Dev.replayDiag
  dsimp only
  split
  · exact h
  · refine .ite_snd h (.ite_snd h (.ite_snd h ?_))
    split
    · exact h
    · exact .ite_snd h (.foldl h.copyBytes (fun _ _ h => h.applyEntry))

end Sys2Proof.Machine
end

section
/-! The operations of Machine/ArrayCommands keep the tables in order. -/
namespace Sys2Proof.Machine

set_option Elab.async false

variable {d e f : Dev}

theorem Dev.Keeps.arrayProgram (h : d.Keeps e) {c s : Nat} : d.Keeps (e.arrayProgram c s).2 := by
  unfold Dev.arrayProgram
  exact .ite_snd h (.ite_snd h (.ite_snd h (.ite_snd h (.ite_snd h (h.foldl (fun _ _ h => h.enqueue))))))

theorem Dev.Keeps.arrayBind (h : d.Keeps e) {c s : Nat} : d.Keeps (e.arrayBind c s).2 := by
  unfold Dev.arrayBind
  have drained : ∀ {a : Nat} {f : ArrayRec → ArrayRec}, d.Keeps (((e.unqueue a).modArr a f).startDrain a) := h.unqueue.modArr.startDrain
  have noted : ∀ {e : Dev} {due : List Nat}, d.Keeps e → d.Keeps { e with due := due } := fun h => h.still
  refine .ite_snd h (.ite_snd h (.ite_snd h (.ite_snd h (.ite_snd h ?_))))
  exact noted drained

theorem Dev.Keeps.arrayRetire (h : d.Keeps e) {c s : Nat} : d.Keeps (e.arrayRetire c s).2 := by
  unfold Dev.arrayRetire
  exact .ite_snd h (.ite_snd h (h.foldl (fun _ _ h => h.decideRetire)))

theorem Dev.Keeps.arrayInfo (h : d.Keeps e) {c s : Nat} : d.Keeps (e.arrayInfo c s).2 := by
  unfold Dev.arrayInfo
  exact .ite_snd h h

theorem Dev.Keeps.branchRestore (h : d.Keeps e) {c s selfTest : Nat} : d.Keeps (e.branchRestore c s selfTest).2 := by
  unfold Dev.branchRestore
  exact .ite_snd h (.ite_snd h (.ite_snd h h.branchSelfTest))

theorem Dev.Keeps.budgetSet (h : d.Keeps e) {c s : Nat} : d.Keeps (e.budgetSet c s).2 := by
  unfold Dev.budgetSet
  exact .ite_snd h h.still

end Sys2Proof.Machine
end

section
/-! The operations of Machine/SyncCommands keep the tables in order. -/
namespace Sys2Proof.Machine

set_option Elab.async false

variable {d e f : Dev}

theorem Dev.Keeps.countStale (h : d.Keeps e) {c vid gen : Nat} : d.Keeps (e.countStale c vid gen) := by
  unfold Dev.countStale
  exact .ite h.count h

theorem Dev.Keeps.handle (h : d.Keeps e) {c s : Nat} {masks : List Nat} : d.Keeps (e.handle c s masks).2 := by
  unfold Dev.handle
  exact .ite_snd h (.ite_snd h.countStale h)

theorem Dev.Keeps.syncAlloc (h : d.Keeps e) {c s : Nat} : d.Keeps (e.syncAlloc c s).2 := by
  unfold Dev.syncAlloc
  extract_lets _
  refine .ite_snd h ?_
  split
  · extract_lets d1
    have hd1 : d.Keeps d1 := h.setObj
    exact hd1.still.showHub
  · exact h

theorem Dev.Keeps.syncFree (h : d.Keeps e) {c s : Nat} : d.Keeps (e.syncFree c s).2 := by
  unfold Dev.syncFree
  split
  · next d1 made =>
    have hd1 : d.Keeps d1 := h.handle.made made
    exact hd1
  · next r d1 made =>
    have hd1 : d.Keeps d1 := h.handle.made made
    extract_lets _ _
    split
    · exact .ite_snd hd1 hd1.freeObj
    · exact .ite_snd hd1 hd1.still

theorem Dev.Keeps.syncSignal (h : d.Keeps e) {c s : Nat} : d.Keeps (e.syncSignal c s).2 := by
  unfold Dev.syncSignal
  split
  · next d1 made =>
    have hd1 : d.Keeps d1 := h.handle.made made
    exact hd1
  · next r d1 made =>
    have hd1 : d.Keeps d1 := h.handle.made made
    extract_lets _
    split
    · refine .ite_snd hd1 ?_
      refine .ite_snd hd1 ?_
      split
      · next v sat d2 made =>
        have hd2 : d.Keeps d2 := hd1.signalObject.made2 made
        exact hd2
    · split
      · next st d2 made =>
        have hd2 : d.Keeps d2 := hd1.originate.made made
        exact .ite_snd hd2 hd2.dropSignal
    · exact hd1

theorem Dev.Keeps.syncWait (h : d.Keeps e) {c s : Nat} : d.Keeps (e.syncWait c s).2 := by
  unfold Dev.syncWait
  split
  next made => exact h.handle.made made
  next r d1 made =>
    have hd1 : d.Keeps d1 := h.handle.made made
    extract_lets _ _ us w posted
    have posts : ∀ {e : Dev}, d.Keeps e → d.Keeps (posted e).2 := fun h => .ite h.modCtx h
    clear_value posted
    split
    · split
      · exact hd1
      · split
        · exact hd1
        · exact .ite_snd hd1 (posts hd1.setObj)
        · exact .ite_snd hd1.postWait (.ite_snd hd1 (posts hd1.postWait))
    · split
      next made =>
        have sent := hd1.originate.made made
        exact .ite_snd (posts sent.still) sent
    · exact hd1

theorem Dev.Keeps.withdrawMailbox (h : d.Keeps e) {c s : Nat} : d.Keeps (e.withdrawMailbox c s) := by
  unfold Dev.withdrawMailbox
  exact h.withdraw.withdrawRemote

theorem Dev.Keeps.waitTimeout (h : d.Keeps e) {c s : Nat} : d.Keeps (e.waitTimeout c s) := by
  unfold Dev.waitTimeout
  split
  · exact .ite h.withdrawMailbox.modCtx.finishWaiting h
  · exact h

theorem Dev.Keeps.freshWords (h : d.Keeps e) {n : Nat} : d.Keeps (e.freshWords n).2 := by
  induction n generalizing e with
  | zero => exact h
  | succ n ih => exact ih h.fresh

theorem Dev.Keeps.viewObject (h : d.Keeps e) {c s k : Nat} {remote : Bool} : d.Keeps (e.viewObject c s k remote).2 := by
  unfold Dev.viewObject
  split
  · exact h
  · exact .ite h.setObj h

theorem Dev.Keeps.viewOfRef (h : d.Keeps e) {c s : Nat} {r : ObjRef} : d.Keeps (e.viewOfRef c s r).2 := by
  unfold Dev.viewOfRef
  extract_lets _
  split
  · exact h.viewObject
  · refine .ite_snd ?_ ?_
    · split
      · exact .ite_snd h.viewObject h.countStale
      · exact h.countStale
    · split
      · exact h
      · exact h.freshWords
  · exact h

theorem Dev.Keeps.syncRead (h : d.Keeps e) {c s : Nat} : d.Keeps (e.syncRead c s).2 := by
  unfold Dev.syncRead
  exact .ite_snd h (.ite_snd h.countStale h.viewOfRef)

theorem Dev.Keeps.syncMapRemote (h : d.Keeps e) {c s : Nat} : d.Keeps (e.syncMapRemote c s).2 := by
  unfold Dev.syncMapRemote
  extract_lets _ _ _
  refine .ite_snd h ?_
  refine .ite_snd h ?_
  split
  · next st d1 made =>
    have hd1 : d.Keeps d1 := h.originate.made made
    exact .ite_snd hd1 hd1

theorem Dev.Keeps.probeReply (h : d.Keeps e) {c s : Nat} {st : Status} : d.Keeps (e.probeReply c s st) := by
  unfold Dev.probeReply
  exact .ite (.finishSlot (.ite h.still h)) h

theorem Dev.Keeps.syncBarrierSet (h : d.Keeps e) {c s : Nat} : d.Keeps (e.syncBarrierSet c s).2 := by
  unfold Dev.syncBarrierSet
  have named : ∀ {e : Dev} {vmap : Tbl VMap}, d.Keeps e → d.Keeps { e with vmap := vmap } := fun h => h.still
  dsimp only
  refine .ite_snd h (.ite_snd ?_ ?_)
  · split
    · exact .ite_snd h (named h.setObj).showHub
    · exact h
  · split
    · split
      · exact h
      · next k _ _ b _ =>
        have hd1 : d.Keeps (if b.arrived = [] then e else e.decideBarrier k .isolated) := .ite h h.decideBarrier
        split
        · split
          · exact hd1.setObj
          · exact hd1
        · exact hd1
    · exact h

theorem Dev.Keeps.syncReadyBind (h : d.Keeps e) {c s : Nat} : d.Keeps (e.syncReadyBind c s).2 := by
  unfold Dev.syncReadyBind
  extract_lets _
  split
  · next d1 made =>
    have hd1 : d.Keeps d1 := h.handle.made made
    exact hd1
  · next r d1 made =>
    have hd1 : d.Keeps d1 := h.handle.made made
    refine .ite_snd hd1 ?_
    refine .ite_snd hd1 ?_
    split
    · split
      · exact hd1
      · split
        · exact hd1
        · exact .ite_snd hd1.setObj hd1.setObj.setReady
    · exact hd1

theorem Dev.Keeps.answer (h : d.Keeps e) {node octx vid gen value waiter : Nat} {st : Status} {step : Nat} :
    d.Keeps (e.answer node octx vid gen value waiter st step) := by
  unfold Dev.answer
  exact h.originate

theorem Dev.Keeps.remoteSignal (h : d.Keeps e) {node port sctx octx vid gen : Nat} {inc : Int} {waiter : Nat} :
    d.Keeps (e.remoteSignal node port sctx octx vid gen inc waiter) := by
  unfold Dev.remoteSignal
  extract_lets _
  split
  · exact .ite h.countStale.answer h.countStale
  · exact .ite (.ite h.answer h) (.ite h.signalObject.answer h.signalObject)

theorem Dev.Keeps.remoteWait (h : d.Keeps e) {node octx vid gen : Nat} {take : Bool} {thresh waiter : Nat} :
    d.Keeps (e.remoteWait node octx vid gen take thresh waiter) := by
  unfold Dev.remoteWait
  dsimp only
  split
  · exact h.countStale.answer
  · split
    · exact h.answer
    · split
      · exact .ite h.setObj h.answer
      · refine .ite h.answer (.ite h.answer ?_)
        split
        next made => exact (h.postWait.made made).answer
        next made => exact h.postWait.made made
      · split
        next made => exact (h.postWait.made made).answer
        next made => exact h.postWait.made made

theorem Dev.Keeps.waitFails (h : d.Keeps e) {who : WaiterWho} {st : Status} : d.Keeps (e.waitFails who st) := by
  unfold Dev.waitFails
  split
  · split
    · exact .ite h.finishTask h
    · exact h
  · exact h.modTask
  · exact h.finishWaiting
  · exact h

theorem Dev.Keeps.remoteAnswer (h : d.Keeps e) {node waiter value : Nat} {st : Status} {step : Nat} :
    d.Keeps (e.remoteAnswer node waiter value st step) := by
  unfold Dev.remoteAnswer
  split
  · extract_lets d1 _
    have hd1 : d.Keeps d1 := h.forgetWaits
    split
    · exact hd1.finishWaiting
    · exact .ite hd1.release hd1.waitFails
  · exact .ite (.ite h.finishSlot h) h

theorem Dev.Keeps.remoteWithdraw (h : d.Keeps e) {node waiter : Nat} : d.Keeps (e.remoteWithdraw node waiter) := by
  unfold Dev.remoteWithdraw
  exact h.withdraw

theorem Dev.Keeps.mapProbe (h : d.Keeps e) {node octx vid gen waiter : Nat} : d.Keeps (e.mapProbe node octx vid gen waiter) := by
  unfold Dev.mapProbe
  exact h.originate

theorem Dev.Keeps.barrierMessage (h : d.Keeps e) {node octx vid gen step attempt : Nat} {pass : Bool} {rank : Nat} :
    d.Keeps (e.barrierMessage node octx vid gen step attempt pass rank) := by
  unfold Dev.barrierMessage
  split
  · exact h.barrierArrive
  · exact h.count

theorem Dev.Keeps.barrierAcked (h : d.Keeps e) {k : Nat} : d.Keeps (e.barrierAcked k) := by
  unfold Dev.barrierAcked
  split
  · exact .ite h.sendOutcome h
  · exact h

theorem Dev.Keeps.freeObjects (h : d.Keeps e) {mine : Nat → Bool} : d.Keeps (e.freeObjects mine) := by
  unfold Dev.freeObjects
  extract_lets _ d1 d2
  have hd1 : d.Keeps d1 := h.foldl (fun _ _ h => by
      split
      · split
        · exact h
        · exact .freeObj (h.setObj.foldl (fun _ _ h => by
            split
            · exact h.count.answer
            · exact .ite h.count h.count.finishWaiting
            · exact h)))
  have hd2 : d.Keeps d2 := hd1.withdrawRemote
  exact hd2.still

end Sys2Proof.Machine
end

section
/-! The operations of Machine/Serve keep the tables in order. -/
namespace Sys2Proof.Machine

set_option Elab.async false

variable {d e f : Dev}

theorem Dev.Keeps.consumeSeq (h : d.Keeps e) {c q : Nat} : d.Keeps (e.consumeSeq c q) := by
  unfold Dev.consumeSeq
  exact .ite h.wr.modCtx h.modCtx

theorem Dev.Keeps.refuse (h : d.Keeps e) {c s : Nat} : d.Keeps (e.refuse c s).2 := by
  unfold Dev.refuse
  extract_lets _
  split
  · exact h
  · exact .ite_snd h (.ite_snd h (.ite_snd h.wr h))

theorem Dev.Keeps.settle (h : d.Keeps e) {c s : Nat} {r : Reply} : d.Keeps (e.settle c s r) := by
  unfold Dev.settle
  split
  · exact h.finishSlot
  · exact h.modCtx

theorem Dev.Keeps.serve (h :
    d.Keeps e) {c s : Nat} {mine : Nat → Bool} {body : Dev → Reply × Dev} (does : ∀ {e : Dev}, d.Keeps e → d.Keeps (body e).2) :
    d.Keeps (e.serve c s mine body) := by
  unfold Dev.serve
  refine .ite ?_ h
  extract_lets d1
  have hd1 : d.Keeps d1 := h.setSlot
  split
  next made => exact (hd1.refuse.made made).finishSlot
  next made => exact (does (hd1.refuse.made made).consumeSeq).settle

theorem Dev.Keeps.serveOp (h : d.Keeps e) {c s op : Nat} {body : Dev → Reply × Dev} (does : ∀ {e : Dev}, d.Keeps e → d.Keeps (body e).2) :
    d.Keeps (e.serveOp c s op body) :=
  h.serve does

theorem Dev.Keeps.goSlot (h : d.Keeps e) {c s : Nat} : d.Keeps (e.goSlot c s) := by
  unfold Dev.goSlot
  exact .ite h.wr (.ite h.putWords.setSlot.modCtx.finishSlot.count (.ite h.putWords.setSlot.modCtx.count h.putWords.setSlot.modCtx))

theorem Dev.Keeps.goWrite (h : d.Keeps e) {c w : Nat} : d.Keeps (e.goWrite c w) := by
  unfold Dev.goWrite
  exact .ite (h.foldl (fun _ _ h => .ite h.goSlot h)) h

theorem Dev.Keeps.cmdWrite (h : d.Keeps e) {c s k w : Nat} : d.Keeps (e.cmdWrite c s k w) := by
  unfold Dev.cmdWrite
  exact .ite h (.ite h.wr h.wr)

theorem Dev.Keeps.openWindow (h : d.Keeps e) {c s : Nat} {toDevice : Bool} {n : Nat} {words : List Nat} {reply : Nat × List Nat} :
    d.Keeps (e.openWindow c s toDevice n words reply) := by
  unfold Dev.openWindow
  exact h.wr.wr.wr.wr.wr.wr.modCtx

theorem Dev.Keeps.closeWindow (h : d.Keeps e) {c : Nat} : d.Keeps (e.closeWindow c) := by
  unfold Dev.closeWindow
  exact h.wr.wr.wr.modCtx

theorem Dev.Keeps.deliverWindow (h : d.Keeps e) {c s : Nat} {words : List Nat} {st : Status} {reply : List Nat} :
    d.Keeps (e.deliverWindow c s words st reply).2 := by
  unfold Dev.deliverWindow
  exact .ite_snd h h.openWindow

theorem Dev.Keeps.windowRead (h : d.Keeps e) {c : Nat} : d.Keeps (e.windowRead c).2 := by
  unfold Dev.windowRead
  split
  · exact .ite_snd h.modCtx.wr.closeWindow.finishSlot h.modCtx.wr
  · exact h.wr

theorem Dev.Keeps.windowWrite (h : d.Keeps e) {c w : Nat} : d.Keeps (e.windowWrite c w).2 := by
  unfold Dev.windowWrite
  exact .ite_snd h.modCtx.wr h.wr

theorem Dev.Keeps.windowTimeout (h : d.Keeps e) {c : Nat} : d.Keeps (e.windowTimeout c) := by
  unfold Dev.windowTimeout
  exact .ite h.closeWindow.finishSlot h

theorem Dev.Keeps.popEvent (h : d.Keeps e) {c : Nat} : d.Keeps (e.popEvent c) := by
  unfold Dev.popEvent
  exact .ite h.modCtx h

end Sys2Proof.Machine
end

section
/-! The operations of Machine/Management keep the tables in order. -/
namespace Sys2Proof.Machine

set_option Elab.async false

variable {d e f : Dev}

theorem Dev.Keeps.identify (h : d.Keeps e) {c s : Nat} : d.Keeps (e.identify c s).2 := by
  unfold Dev.identify
  exact .ite_snd h h

theorem Dev.Keeps.capabilities (h : d.Keeps e) {c s : Nat} : d.Keeps (e.capabilities c s).2 := by
  unfold Dev.capabilities
  exact .ite_snd h h

theorem Dev.Keeps.memAlloc (h : d.Keeps e) {c s : Nat} : d.Keeps (e.memAlloc c s).2 := by
  unfold Dev.memAlloc
  extract_lets _
  refine .ite_snd h ?_
  refine .ite_snd h ?_
  split
  · exact h
  · exact h.clearBytes.modCtx

theorem Dev.Keeps.memFree (h : d.Keeps e) {c s : Nat} : d.Keeps (e.memFree c s).2 := by
  unfold Dev.memFree
  exact .ite_snd h (.ite_snd h h.modCtx)

theorem Dev.Keeps.ctxInfo (h : d.Keeps e) {c s : Nat} : d.Keeps (e.ctxInfo c s).2 := by
  unfold Dev.ctxInfo
  exact .ite_snd h h

theorem Dev.Keeps.logRead (h : d.Keeps e) {c s : Nat} : d.Keeps (e.logRead c s).2 := by
  unfold Dev.logRead
  extract_lets _ _
  refine .ite_snd h ?_
  refine .ite_snd h ?_
  refine .ite_snd h ?_
  refine .ite_snd ?_ h.deliverWindow
  split
  · next v d1 made =>
    have hd1 : d.Keeps d1 := h.fresh.made made
    exact hd1

theorem Dev.Keeps.logEpoch (h : d.Keeps e) : d.Keeps e.logEpoch := by
  unfold Dev.logEpoch
  exact .ite h.writeEpoch h

theorem Dev.Keeps.telemetrySample (h : d.Keeps e) : d.Keeps e.telemetrySample := by
  unfold Dev.telemetrySample
  exact .ite h.still h

theorem Dev.Keeps.telemRead (h : d.Keeps e) {c s : Nat} : d.Keeps (e.telemRead c s).2 := by
  unfold Dev.telemRead
  exact .ite_snd h h

theorem Dev.Keeps.telemCfg (h : d.Keeps e) {c s : Nat} : d.Keeps (e.telemCfg c s).2 := by
  unfold Dev.telemCfg
  exact .ite_snd h (.ite_snd h (.ite_snd h h.still))

theorem Dev.Keeps.setStage (h : d.Keeps e) {k : Nat} : d.Keeps (e.setStage k) := by
  unfold Dev.setStage
  exact h.wr.foldl (fun _ _ h => h.wr)

theorem Dev.Keeps.shedStage (h : d.Keeps e) {busy : Nat} {held : Bool} : d.Keeps (e.shedStage busy held) := by
  unfold Dev.shedStage
  exact .ite (.ite h.wr h.wr.setStage.logEntry) h

theorem Dev.Keeps.countRestart (h : d.Keeps e) {cause : Nat} : d.Keeps (e.countRestart cause).2 := by
  unfold Dev.countRestart
  have noted : ∀ {e : Dev} {causes : List Nat}, d.Keeps e → d.Keeps { e with mpCauses := causes } := fun h => h.still
  extract_lets _ _ d1
  have hd1 : d.Keeps d1 := h.count.wr
  exact (noted hd1).hostEvent

theorem Dev.Keeps.resolveCommands (h : d.Keeps e) : d.Keeps e.resolveCommands := by
  unfold Dev.resolveCommands
  exact h.foldl (fun _ _ h => h.foldl (fun _ _ h => by
      refine .ite ?_ h
      split
      · exact h
      · exact h
      · exact h
      · exact h.closeWindow.finishSlot
      · exact h.finishSlot))

end Sys2Proof.Machine
end

section
/-! The operations of Machine/Security keep the tables in order. -/
namespace Sys2Proof.Machine

set_option Elab.async false

variable {d e f : Dev}

theorem Dev.Keeps.authFail (h : d.Keeps e) {what node : Nat} : d.Keeps (e.authFail what node) := by
  unfold Dev.authFail
  exact h.count.hostEvent

theorem Dev.Keeps.extend (h : d.Keeps e) {i : Nat} {value : List Nat} : d.Keeps (e.extend i value) := by
  unfold Dev.extend
  exact h.still

theorem Dev.Keeps.extendSecurity (h : d.Keeps e) {f : Fuses} : d.Keeps (e.extendSecurity f) := by
  unfold Dev.extendSecurity
  exact h.extend

theorem Dev.Keeps.measureStart (h : d.Keeps e) : d.Keeps e.measureStart := by
  unfold Dev.measureStart
  exact h.still.extend.extend.extend

theorem Dev.Keeps.measureRead (h : d.Keeps e) {c s : Nat} : d.Keeps (e.measureRead c s).2 := by
  unfold Dev.measureRead
  exact .ite_snd h h

theorem Dev.Keeps.fwStage (h : d.Keeps e) {c s : Nat} : d.Keeps (e.fwStage c s).2 := by
  unfold Dev.fwStage
  exact .ite_snd h (.ite_snd h (.ite_snd h h.still.openWindow))

theorem Dev.Keeps.stageDone (h : d.Keeps e) {f : Fuses} {c s : Nat} : d.Keeps (e.stageDone f c s) := by
  have holds : ∀ {e : Dev} {image : Image}, d.Keeps e → d.Keeps { e with other := image } := fun h => h.still
  have good : ∀ {e : Dev}, d.Keeps e → d.Keeps { e with otherValid := true } := fun h => h.still
  fun_cases Dev.stageDone e f c s
  case case1 => exact (holds h.closeWindow).finishSlot
  case case2 => exact (good (holds h.closeWindow)).finishSlot
  case case3 => exact (holds h.closeWindow).authFail.finishSlot
  case case4 => exact (holds h.closeWindow).finishSlot

theorem Dev.Keeps.resetIn (h : d.Keeps e) {cold : Bool} {source delay : Nat} : d.Keeps (e.resetIn cold source delay) := by
  unfold Dev.resetIn
  split
  · exact .ite h h.still
  · exact h.still

theorem Dev.Keeps.fwActivate (h : d.Keeps e) {f : Fuses} {c s : Nat} : d.Keeps (e.fwActivate f c s).2 := by
  unfold Dev.fwActivate
  refine .ite_snd h ?_
  refine .ite_snd h ?_
  refine .ite_snd h ?_
  split
  · exact .ite h.still.wr.wr.resetIn h.still.wr.wr
  · exact h.authFail
  · exact h

theorem Dev.Keeps.otherField (h : d.Keeps e) {v : Nat} : d.Keeps (e.otherField v).2 := by
  unfold Dev.otherField
  split
  · exact .ite_snd h.fresh h
  · exact h

theorem Dev.Keeps.fwInfo (h : d.Keeps e) {f : Fuses} {c s : Nat} : d.Keeps (e.fwInfo f c s).2 := by
  unfold Dev.fwInfo
  exact .ite_snd h h.otherField.otherField

theorem Dev.Keeps.logAdvance (h : d.Keeps e) {old new : Fuses} : d.Keeps (e.logAdvance old new) := by
  unfold Dev.logAdvance
  exact .ite h h.hostEvent

theorem Dev.Keeps.newChallenge (h : d.Keeps e) : d.Keeps e.newChallenge.2 := by
  unfold Dev.newChallenge
  split
  · next a d1 made =>
    have hd1 : d.Keeps d1 := h.fresh.made made
    split
    · next b d2 made =>
      have hd2 : d.Keeps d2 := hd1.fresh.made made
      split
      · next e' d3 made =>
        have hd3 : d.Keeps d3 := hd2.fresh.made made
        split
        · next f d4 made =>
          have hd4 : d.Keeps d4 := hd3.fresh.made made
          exact hd4.still

theorem Dev.Keeps.debugUnlock (h : d.Keeps e) {c s : Nat} : d.Keeps (e.debugUnlock c s).2 := by
  unfold Dev.debugUnlock
  refine .ite_snd h ?_
  refine .ite_snd h.newChallenge ?_
  refine .ite_snd h ?_
  split
  · exact h
  · exact .ite_snd h h.still.openWindow

theorem Dev.Keeps.unlock (h : d.Keeps e) {f : Fuses} {scope : Nat} : d.Keeps (e.unlock f scope) := by
  unfold Dev.unlock
  exact h.wr.wr.extendSecurity.hostEvent

theorem Dev.Keeps.tokenDone (h : d.Keeps e) {f : Fuses} {c s : Nat} : d.Keeps (e.tokenDone f c s) := by
  unfold Dev.tokenDone
  exact .ite h.closeWindow.unlock.finishSlot h.closeWindow.authFail.finishSlot

theorem Dev.Keeps.lock (h : d.Keeps e) {cause : Nat} : d.Keeps (e.lock cause) := by
  unfold Dev.lock
  exact .ite h.wr.wr.hostEvent h

theorem Dev.Keeps.debugLock (h : d.Keeps e) {f : Fuses} {c s : Nat} : d.Keeps (e.debugLock f c s).2 := by
  unfold Dev.debugLock
  exact .ite_snd h h.lock.extendSecurity

theorem Dev.Keeps.dataWrite (h : d.Keeps e) {f : Fuses} {c w : Nat} : d.Keeps (e.dataWrite f c w) := by
  unfold Dev.dataWrite
  exact .ite h (.ite h.windowWrite (.ite h.windowWrite.stageDone h.windowWrite.tokenDone))

theorem Dev.Keeps.lockFmKey (h : d.Keeps e) : d.Keeps e.lockFmKey := by
  unfold Dev.lockFmKey
  exact h.wr.wr

theorem Dev.Keeps.takeCounter (h : d.Keeps e) {b : List Nat} : d.Keeps (e.takeCounter b) := by
  unfold Dev.takeCounter
  exact h.wr.wr

theorem Dev.Keeps.answerSpdm (h : d.Keeps e) {a : SpdmAnswer} : d.Keeps (e.answerSpdm a) := by
  unfold Dev.answerSpdm
  exact h.still

theorem Dev.Keeps.answerOpen (h : d.Keeps e) : d.Keeps e.answerOpen := by
  unfold Dev.answerOpen
  exact h.still.answerSpdm

theorem Dev.Keeps.spdmRequest (h : d.Keeps e) {r : SpdmRequest} : d.Keeps (e.spdmRequest r) := by
  unfold Dev.spdmRequest
  refine .ite h ?_
  split
  · exact .ite h.answerSpdm h.still.answerOpen
  · exact .ite h.answerSpdm h.still.answerOpen
  · exact .ite h.answerSpdm (.ite h.answerOpen h.still.authFail.answerSpdm)
  · exact .ite h.answerSpdm h.answerOpen
  · exact .ite h.answerSpdm h.answerOpen
  · exact .ite h.answerSpdm h.answerOpen
  · exact h.answerSpdm
  · exact .ite h.answerSpdm h.still.answerOpen
  · exact h.answerSpdm
  · exact h.answerOpen
  · exact h.answerOpen
  · exact h.answerOpen
  · exact h.answerOpen
  · exact h.answerOpen

theorem Dev.Keeps.ideFail (h : d.Keeps e) {stream : Nat} : d.Keeps (e.ideFail stream) := by
  unfold Dev.ideFail
  exact .ite h h.still.hostEvent

end Sys2Proof.Machine
end

section
/-! The operations of Machine/Mirror keep the tables in order. -/
namespace Sys2Proof.Machine

set_option Elab.async false

variable {d e f : Dev}

theorem Dev.Keeps.sendRecord (h : d.Keeps e) {m : MirrorRecord} {slot : Nat} : d.Keeps (e.sendRecord m slot) := by
  unfold Dev.sendRecord
  extract_lets _
  split
  · refine .ite h.mirrorLost ?_
    split
    · next k st d1 made =>
      have hd1 : d.Keeps d1 := h.sendOut.made2 made
      exact .ite hd1.still hd1.mirrorLost

theorem Dev.Keeps.writeMirror (h : d.Keeps e) : d.Keeps e.writeMirror := by
  unfold Dev.writeMirror
  exact .ite (.ite h.still.wr.sendRecord h.still.wr) h

theorem Dev.Keeps.mirrorAck (h : d.Keeps e) : d.Keeps e.mirrorAck := by
  unfold Dev.mirrorAck
  split
  · exact h
  · exact h.still.wr.setWord.resendCopies

theorem Dev.Keeps.mirrorAnswered (h : d.Keeps e) {stamp : Nat} {st : Status} : d.Keeps (e.mirrorAnswered stamp st) := by
  unfold Dev.mirrorAnswered
  split
  · exact h
  · exact .ite h (.ite h.mirrorLost (.ite h.mirrorAck h.still))

theorem Dev.Keeps.mirrorSet (h : d.Keeps e) {c s : Nat} : d.Keeps (e.mirrorSet c s).2 := by
  unfold Dev.mirrorSet
  extract_lets _ _ _ _ _
  refine .ite_snd h ?_
  refine .ite_snd h ?_
  refine .ite_snd h ?_
  refine .ite_snd ?_ ?_
  · split
    · exact h
    · exact h.still
  · split
    · next st d1 made =>
      have hd1 : d.Keeps d1 := h.originate.made made
      exact .ite_snd hd1 h

theorem Dev.Keeps.mirrorAnswer (h : d.Keeps e) {node c s : Nat} {accepted : Bool} {base size : Nat} :
    d.Keeps (e.mirrorAnswer node c s accepted base size) := by
  unfold Dev.mirrorAnswer
  have placed : ∀ {e : Dev} {place : Nat × Nat}, d.Keeps e → d.Keeps { e with buddyPlace := place, mirrorSent := none } := fun h => h.still
  exact .ite (.ite (placed h.wr.wr).wr.resendCopies.finishSlot h.finishSlot) h

theorem Dev.Keeps.policyLoad (h : d.Keeps e) {c s : Nat} : d.Keeps (e.policyLoad c s).2 := by
  unfold Dev.policyLoad
  have stamped : ∀ {e : Dev} {stamps : List SlotStamp}, d.Keeps e → d.Keeps { e with slotStamps := stamps } := fun h => h.still
  dsimp only
  split
  · exact h
  · exact .ite_snd h (.ite_snd h (stamped h.modProgram))

theorem Dev.Keeps.snapshotCopy (h : d.Keeps e) : d.Keeps e.snapshotCopy := by
  have left : ∀ {rest : List (Nat × Nat × Nat × Bool)}, d.Keeps { e with snapshots := rest } := h.still
  have stamped : ∀ {e : Dev} {stamps : List SlotStamp}, d.Keeps e → d.Keeps { e with slotStamps := stamps } := fun h => h.still
  fun_cases Dev.snapshotCopy e
  case case1 => exact h
  case case5 => exact stamped (left.foldl fun _ _ h => h.sendOut)
  all_goals exact left

theorem Dev.Keeps.faultInfo (h : d.Keeps e) {c s : Nat} : d.Keeps (e.faultInfo c s).2 := by
  unfold Dev.faultInfo
  exact .ite_snd h h

end Sys2Proof.Machine
end

section
/-! The operations of Machine/Power keep the tables in order. -/
namespace Sys2Proof.Machine

set_option Elab.async false

variable {d e f : Dev}

theorem Dev.Keeps.setVcore (h : d.Keeps e) {b : Nat} : d.Keeps (e.setVcore b) := by
  unfold Dev.setVcore
  exact .ite h h.wr

theorem Dev.Keeps.writeFreq (h : d.Keeps e) {p v : Nat} : d.Keeps (e.writeFreq p v) := by
  unfold Dev.writeFreq
  exact .ite h.wr.setVcore h.wr

theorem Dev.Keeps.avsStep (h : d.Keeps e) {b : Nat} {up : Bool} {meas : Nat} : d.Keeps (e.avsStep b up meas) := by
  unfold Dev.avsStep
  exact .ite h.wr.wr h

theorem Dev.Keeps.allVcore (h : d.Keeps e) : d.Keeps e.allVcore := by
  unfold Dev.allVcore
  exact h.foldl (fun _ _ h => h.setVcore)

theorem Dev.Keeps.setPowerLevel (h : d.Keeps e) {l : Nat} : d.Keeps (e.setPowerLevel l) := by
  unfold Dev.setPowerLevel
  refine .ite h ?_
  refine .hostEvent ?_
  refine .allVcore ?_
  extract_lets src
  have hsrc : d.Keeps src := h.wr
  exact hsrc.still

theorem Dev.Keeps.powerEvaluation (h : d.Keeps e) {mean volt curr : Nat} : d.Keeps (e.powerEvaluation mean volt curr) := by
  unfold Dev.powerEvaluation
  exact .ite h (.ite h.wr.wr.wr (.ite h.wr.wr.wr.setPowerLevel (.ite h.wr.wr.wr.setPowerLevel h.wr.wr.wr)))

theorem Dev.Keeps.peakPower (h : d.Keeps e) : d.Keeps e.peakPower := by
  unfold Dev.peakPower
  refine .ite h ?_
  extract_lets src
  have hsrc : d.Keeps src := h.setPowerLevel
  exact hsrc.still

theorem Dev.Keeps.powerLimit (h : d.Keeps e) {c s : Nat} : d.Keeps (e.powerLimit c s).2 := by
  unfold Dev.powerLimit
  exact .ite_snd h (.ite_snd h (.ite_snd h h.wr))

theorem Dev.Keeps.reading (h : d.Keeps e) {b : Nat} {t : Int} : d.Keeps (e.reading b t) := by
  unfold Dev.reading
  exact .ite h.wr.wr h.wr

theorem Dev.Keeps.thermalThrottle (h : d.Keeps e) {b : Nat} {t : Int} {held : Bool} : d.Keeps (e.thermalThrottle b t held) := by
  unfold Dev.thermalThrottle
  exact .ite h (.ite h.reading h.reading.wr.setVcore.hostEvent)

theorem Dev.Keeps.hbmLevel (h : d.Keeps e) {t : Int} {held : Bool} : d.Keeps (e.hbmLevel t held) := by
  unfold Dev.hbmLevel
  exact .ite h (.ite h h.wr.allVcore.hostEvent)

theorem Dev.Keeps.refclkMeasured (h : d.Keeps e) {ppm : Int} : d.Keeps (e.refclkMeasured ppm) := by
  unfold Dev.refclkMeasured
  exact .ite h (.ite h.wr.wr h.wr.wr.wr.wr.hostEvent)

theorem Dev.Keeps.refclkRestore (h : d.Keeps e) : d.Keeps e.refclkRestore := by
  unfold Dev.refclkRestore
  exact .ite h.wr.hostEvent h

theorem Dev.Keeps.senseLost (h : d.Keeps e) {c : Nat} : d.Keeps (e.senseLost c) := by
  unfold Dev.senseLost
  exact .ite (.hostEvent (.ite h.setWord.wr h.setWord)) h

theorem Dev.Keeps.phaseShed (h : d.Keeps e) {c phase : Nat} : d.Keeps (e.phaseShed c phase) := by
  unfold Dev.phaseShed
  exact .ite h.setWord.hostEvent h

end Sys2Proof.Machine
end

section
/-! The operations of Machine/Reset keep the tables in order. -/
namespace Sys2Proof.Machine

set_option Elab.async false

variable {d e f : Dev}

theorem Dev.Keeps.lost (h : d.Keeps e) {l : Loss} : d.Keeps (e.lost l) := by
  refine h.trans ⟨fun ok => ?_, fun _ => rfl, fun ok => Tbl.rising_filter _ (Tbl.rising_map (fun e => ?_) ok), fun _ => rfl, fun _ => rfl⟩
  · cases l with
    | device => exact Tbl.rising_keepRegs _ ok
    | cold => exact Tbl.rising_fromFlash _ (Tbl.rising_keepRegs _ ok)
    | off => exact Tbl.rising_fromFlash _ (Tbl.rising_keepRegs _ ok)
  · rfl

theorem Dev.Keeps.startCause (h : d.Keeps e) {kind source : Nat} : d.Keeps (e.startCause kind source) := by
  unfold Dev.startCause
  exact h.wr.wr.wr.wr

theorem Dev.Keeps.lostUnlock (h : d.Keeps f) : d.Keeps (e.lostUnlock f) := by
  unfold Dev.lostUnlock
  exact .ite h.hostEvent h

theorem Dev.Keeps.quiescePorts (h : d.Keeps e) : d.Keeps e.quiescePorts := by
  unfold Dev.quiescePorts
  exact h.foldl (fun _ _ h => .ite h.sendLink h)

theorem Dev.Keeps.deviceReset (h : d.Keeps e) {source : Nat} : d.Keeps (e.deviceReset source) := by
  unfold Dev.deviceReset
  extract_lets keepCfg d0 left d1 d2 d3
  have hd0 : d.Keeps d0 := h.quiescePorts
  have hleft : d0.Keeps left := (Dev.Keeps.refl d0).lost
  have hd1 : d.Keeps d1 := by
    clear_value left
    refine hd0.trans ⟨hleft.regs, fun ok => Tbl.wf_filter _ ok, hleft.arrays, fun ok => ?_, fun _ => Tbl.rising_range _ _⟩
    dsimp only [d1]
    split
    · refine Tbl.rising_filter _ (Tbl.rising_map (fun e => ?_) ok)
      rfl
    · rfl
  have hd2 : d.Keeps d2 := .ite hd1.setWord hd1
  have hd3 : d.Keeps d3 := .ite hd2 hd2.wr
  clear_value d3
  exact .lostUnlock hd3.startCause

theorem Dev.Keeps.coldReset (h : d.Keeps e) {source : Nat} : d.Keeps (e.coldReset source) := by
  unfold Dev.coldReset
  have lost : d.Keeps (e.lost .cold) := h.lost
  extract_lets left d1
  have hd1 : d.Keeps d1 := lost.still
  exact .lostUnlock hd1.startCause

theorem Dev.Keeps.enterOff (h : d.Keeps e) {cause : Nat} : d.Keeps (e.enterOff cause) := by
  unfold Dev.enterOff
  extract_lets d1
  have hd1 : d.Keeps d1 := h.quiescePorts.logEntry.lost
  exact hd1.still.wr

theorem Dev.Keeps.startFromOff (h : d.Keeps e) {source : Nat} : d.Keeps (e.startFromOff source) := by
  unfold Dev.startFromOff
  exact h.still.startCause

theorem Dev.Keeps.raiseLost (h : d.Keeps e) {source unit code : Nat} : d.Keeps (e.raiseLost source unit code) := by
  unfold Dev.raiseLost
  exact h.wr.wr.wr.wr.wr.setWord.setWord.hostEvent

theorem Dev.Keeps.deviceLost (h : d.Keeps e) {source unit code : Nat} : d.Keeps (e.deviceLost source unit code) := by
  unfold Dev.deviceLost
  exact h.raiseLost.deviceReset

theorem Dev.Keeps.clearMailbox (h : d.Keeps e) {c : Nat} : d.Keeps (e.clearMailbox c) :=
  h.trans ⟨fun ok => Tbl.rising_keepRegs _ ok, id, id, fun ok => Tbl.rising_set ok _ _, id⟩

theorem Dev.Keeps.contextReset (h : d.Keeps e) {c source : Nat} : d.Keeps (e.contextReset c source) := by
  unfold Dev.contextReset
  refine .ite h ?_
  extract_lets _ d1 d2 d3 d4 d5
  have hd1 : d.Keeps d1 := h.clearMailbox.abortRuns.freeObjects
  have hd2 : d.Keeps d2 := hd1.withdraw
  have hd3 : d.Keeps d3 := hd2.still
  have hd4 : d.Keeps d4 := hd3.setWord.setWord
  have hd5 : d.Keeps d5 := .ite hd4.diag hd4
  exact hd5.count.hostEvent

theorem Dev.Keeps.configReset (h : d.Keeps e) {c : Nat} : d.Keeps (e.configReset c) := by
  unfold Dev.configReset
  exact h.modCtx

theorem Dev.Keeps.resetContext (h : d.Keeps e) {c s : Nat} : d.Keeps (e.resetContext c s).2 := by
  unfold Dev.resetContext
  exact .ite_snd h (.setSlot (h.contextReset.foldl (fun _ _ h => h.wr)))

theorem Dev.Keeps.resetDevice (h : d.Keeps e) {c s : Nat} : d.Keeps (e.resetDevice c s).2 := by
  unfold Dev.resetDevice
  exact .ite_snd h (.resetIn (.ite h.wr h))

theorem Dev.Keeps.resetFrom (h : d.Keeps e) {source : Nat} : d.Keeps (e.resetFrom source) := by
  unfold Dev.resetFrom
  refine .ite h ?_
  refine .ite ?_ ?_
  · split
    · exact .ite (.ite h.coldReset h.deviceReset) h
    · exact h
  · refine .ite ?_ (.ite h.deviceReset h)
    extract_lets src
    have hsrc : d.Keeps src := h.deviceReset
    exact hsrc.still

theorem Dev.Keeps.loadTrims (h : d.Keeps e) {f : Fuses} : d.Keeps (e.loadTrims f) := by
  unfold Dev.loadTrims
  exact h.setWord.foldl (fun _ _ h => .ite (.ite (.wr (.wr (.wr (.ite h.wr.wr h.wr)))) (.ite h.wr.wr h.wr)) (.hostEvent (.ite (.wr (.wr
      (.wr (.ite h.wr.wr h.wr)))) (.ite h.wr.wr h.wr))))

theorem Dev.Keeps.bondTests (h : d.Keeps e) {failed : List Nat} : d.Keeps (e.bondTests failed) := by
  unfold Dev.bondTests
  exact h.foldl (fun _ _ h => .ite h (.ite h.wr.wr.wr h.wr.wr.wr.wr))

theorem Dev.Keeps.early (h : d.Keeps e) {f : Fuses} {failed : List Nat} : d.Keeps (e.early f failed).2 := by
  unfold Dev.early
  exact h.loadTrims.bondTests.wr

theorem Dev.Keeps.bootImage (h : d.Keeps e) {f : Fuses} : d.Keeps (e.bootImage f).2 := by
  unfold Dev.bootImage
  exact .ite_snd h.still (.ite_snd h.still.hostEvent h)

theorem Dev.Keeps.addLost (h : d.Keeps e) : d.Keeps e.addLost := by
  unfold Dev.addLost
  exact .diag (h.foldl (fun _ _ h => .ite h h.setMeta.setMeta))

theorem Dev.Keeps.makeTable (h : d.Keeps e) {a : Nat} : d.Keeps (e.makeTable a) := by
  -- the definition is opened as a function: applied, its match would have the kernel compute the table
  suffices opened : ∀ F, F = Dev.makeTable → d.Keeps (F e a) from opened _ rfl
  intro F def_
  delta Dev.makeTable at def_
  subst def_
  beta_reduce
  generalize correctionTable _ _ = table
  cases table with
  | none => exact h
  | some t => exact h.modArr.wr

theorem Dev.Keeps.rebuildTable (h : d.Keeps e) {a : Nat} : d.Keeps (e.rebuildTable a) := by
  unfold Dev.rebuildTable
  exact .ite h.makeTable.diag h.makeTable

theorem Dev.Keeps.readBack (h : d.Keeps e) {a : Nat} {levels : Option (List (Nat × Nat))} : d.Keeps (e.readBack a levels) := by
  unfold Dev.readBack
  exact h.modArr.rebuildTable

theorem Dev.Keeps.checkRecords (h : d.Keeps e) {rep : StartReport} {lost : Bool} : d.Keeps (e.checkRecords rep lost) := by
  unfold Dev.checkRecords
  exact h.foldl (fun _ _ h => .ite h (.ite h.readBack h))

theorem Dev.Keeps.linkTrained (h : d.Keeps e) {rate width : Nat} {flit : Bool} : d.Keeps (e.linkTrained rate width flit) := by
  unfold Dev.linkTrained
  exact .ite h.wr.wr.wr h.wr.wr.wr.hostEvent

theorem Dev.Keeps.logStart (h : d.Keeps e) {why : Nat} : d.Keeps (e.logStart why) := by
  unfold Dev.logStart
  exact h.wr.wr.hostEvent

theorem Dev.Keeps.recoveryStart (h : d.Keeps e) {why : Nat} : d.Keeps (e.recoveryStart why) := by
  have hd1 : d.Keeps { e with life := .recovery, railsOn := recoveryRails, mem := [] } := h.trans ⟨id, fun _ => rfl, id, id, id⟩
  exact hd1.wr.logStart

theorem Dev.Keeps.bringUp (h : d.Keeps e) {rep : StartReport} {kind : Nat} : d.Keeps (e.bringUp rep kind) := by
  unfold Dev.bringUp
  extract_lets d1 d2 d3 d4 d5
  have hd1 : d.Keeps d1 := by
    refine h.trans ⟨id, fun ok => ?_, id, id, id⟩
    dsimp only [d1]
    split
    · exact ok
    · rfl
  have hd2 : d.Keeps d2 := .ite hd1.addLost hd1
  have hd3 : d.Keeps d3 := hd2.foldl (fun _ _ h => h.loseTarget)
  have hd4 : d.Keeps d4 := hd3.foldl (fun _ _ h => h.reloadScan.branchSelfTest)
  have hd5 : d.Keeps d5 := hd4.foldl (fun _ _ h => h.stir)
  have done : ∀ {e : Dev}, d.Keeps e → d.Keeps { e with startDone := true } := fun h => h.still
  exact (done hd5.checkRecords).allVcore

theorem Dev.Keeps.beginDue (h : d.Keeps e) : d.Keeps e.beginDue := by
  unfold Dev.beginDue
  exact .ite h.still.startFromOff h

theorem Dev.Keeps.runStart_ (h : d.Keeps e) {f : Fuses} {rep : StartReport} : d.Keeps (e.runStart_ f rep) := by
  unfold Dev.runStart_
  refine .ite ?_ h
  extract_lets _ d1 d2
  have hd1 : d.Keeps d1 := .ite h h.writeEpoch
  have hd2 : d.Keeps d2 := hd1.still.wr.countWrap
  split
  · next why d3 made =>
    have hd3 : d.Keeps d3 := hd2.wr.early.made made
    extract_lets d4 _
    have hd4 : d.Keeps d4 := hd3.linkTrained
    refine .ite hd4.recoveryStart ?_
    split
    · next d5 made =>
      have hd5 : d.Keeps d5 := hd4.bootImage.made made
      exact hd5.recoveryStart
    · next d5 made =>
      have hd5 : d.Keeps d5 := hd4.bootImage.made made
      exact hd5.wr.wr.measureStart.logStart.bringUp

theorem Dev.Keeps.start (h : d.Keeps e) {f : Fuses} {rep : StartReport} : d.Keeps (e.start f rep) := by
  unfold Dev.start
  exact h.beginDue.runStart_

theorem Dev.Keeps.deliverHeld (h : d.Keeps e) : d.Keeps e.deliverHeld := by
  unfold Dev.deliverHeld
  exact h.still.foldl (fun _ _ h => h.deliverEvent)

theorem Dev.Keeps.runAck (h : d.Keeps e) {old new : Fuses} : d.Keeps (e.runAck old new) := by
  unfold Dev.runAck
  exact h.still.wr.wr.deliverHeld.logAdvance.extendSecurity.extend.hostEvent

theorem Dev.Keeps.perstAssert (h : d.Keeps e) : d.Keeps e.perstAssert := by
  unfold Dev.perstAssert
  refine .ite h.still ?_
  extract_lets src
  have hsrc : d.Keeps src := h.deviceReset
  exact hsrc.still

theorem Dev.Keeps.perstDeassert (h : d.Keeps e) : d.Keeps e.perstDeassert := by
  unfold Dev.perstDeassert
  extract_lets d1
  have hd1 : d.Keeps d1 := h.still
  exact .ite hd1.still.beginDue hd1

theorem Dev.Keeps.hotReset (h : d.Keeps e) : d.Keeps e.hotReset := by
  unfold Dev.hotReset
  exact .ite h h.deviceReset

theorem Dev.Keeps.inputRestored (h : d.Keeps e) : d.Keeps e.inputRestored := by
  unfold Dev.inputRestored
  exact .ite h.startFromOff h

theorem Dev.Keeps.powerOn (h : d.Keeps e) : d.Keeps e.powerOn := by
  unfold Dev.powerOn
  extract_lets src
  have hsrc : d.Keeps src := h.coldReset
  exact hsrc.still

end Sys2Proof.Machine
end

section
/-! The operations of Machine/Rebuild keep the tables in order. -/
namespace Sys2Proof.Machine

set_option Elab.async false

variable {d e f : Dev}

theorem Dev.Keeps.putChunk (h : d.Keeps e) {x : XchTable} {t : XchTensor} {chunk : Nat} {efr : Bool} {s : SnapSlot} :
    d.Keeps (e.putChunk x t chunk efr s) := by
  unfold Dev.putChunk
  exact .ite h.setBytes h.setBytes.setBytes.setBytes

theorem Dev.Keeps.rollEntry (h : d.Keeps e) {x : XchTable} {t : XchTensor} {chunk : Nat} {b : List Nat} :
    d.Keeps (e.rollEntry x t chunk b).2 := by
  unfold Dev.rollEntry
  refine .foldlIn Prod.snd h fun acc sec so_far => ?_
  dsimp only
  split
  · exact so_far.applyUpdate
  · exact so_far

theorem Dev.Keeps.rollChunk (h :
    d.Keeps e) {key : Nat} {x : XchTable} {t : XchTensor} {chunk : Nat} {efr : Bool} {c : Nat} {s : SnapSlot} {es : List (List Nat)}
    {sums : List (Nat × Nat × Nat)} (made : e.rollChunk key x t chunk efr c s es = some (sums, f)) : d.Keeps f := by
  unfold Dev.rollChunk at made
  dsimp only at made
  split at made
  · cases made
    exact h.putChunk
  · obtain ⟨l, -, made⟩ := Option.map_eq_some_iff.1 made
    refine Dev.Keeps.made ?_ made
    exact .foldlIn Prod.snd h.putChunk fun b x so_far => so_far.rollEntry

theorem Dev.Keeps.republish (h : d.Keeps e) {key : Nat} {p : Program} {x : XchTable} {t : XchTensor} {chunk : Nat} :
    d.Keeps (e.republish key p x t chunk) := by
  unfold Dev.republish
  exact h.sendAgain

theorem Dev.Keeps.rebuildDone (h : d.Keeps e) {tensor chunk : Nat} {efr : Bool} : d.Keeps (e.rebuildDone tensor chunk efr) := by
  unfold Dev.rebuildDone
  exact h.still

theorem Dev.Keeps.rebuildOwned (h : d.Keeps e) {tensor chunk : Nat} {efr : Bool} {slots : List SnapSlot} {es : List (List Nat)} :
    d.Keeps (e.rebuildOwned tensor chunk efr slots es) := by
  unfold Dev.rebuildOwned
  extract_lets fails
  have hfails : d.Keeps fails := h.diag
  clear_value fails
  split
  · exact h.rebuildDone.showUpdate
  · split
    · exact h.deviceLost
    · refine .ite h.deviceLost ?_
      extract_lets slot
      clear_value slot
      cases slot with
      | none => exact hfails
      | some s =>
        dsimp only
        split
        · exact hfails
        next made =>
          have rolled := h.rollChunk made
          exact .ite rolled.rebuildDone.diag.showUpdate rolled.rebuildDone.republish.chunkRecovered.showUpdate

theorem Dev.Keeps.recRestore (h : d.Keeps e) {c s : Nat} : d.Keeps (e.recRestore c s).2 := by
  unfold Dev.recRestore
  extract_lets _
  split
  · exact h
  · refine .ite_snd h ?_
    refine .ite_snd h ?_
    refine .ite_snd h ?_
    refine .ite_snd h ?_
    split
    · exact h
    · split
      · next st d1 made =>
        have hd1 : d.Keeps d1 := h.originate.made made
        exact .ite_snd hd1.still h

theorem Dev.Keeps.restoreFails (h : d.Keeps e) {st : Status} : d.Keeps (e.restoreFails st) := by
  unfold Dev.restoreFails
  split
  · exact h
  · exact h.still.finishWaiting

theorem Dev.Keeps.restoreCheck (h : d.Keeps e) : d.Keeps e.restoreCheck := by
  unfold Dev.restoreCheck
  split
  · exact .ite h.still.finishWaiting h
  · exact h

theorem Dev.Keeps.remap (h : d.Keeps e) {o : MirrorObject} : d.Keeps (e.remap o) := by
  unfold Dev.remap
  have named : ∀ {e : Dev} {gens : Tbl Nat} {vmap : Tbl VMap}, d.Keeps e → d.Keeps { e with gens := gens, vmap := vmap } := fun h => h.still
  dsimp only
  split
  · exact named h
  · split
    · exact h
    · exact (named h.setObj).showHub

theorem Dev.Keeps.restoreSchedule (h : d.Keeps e) {c key : Nat} {p : Program} {m : MirrorRecord} {behind : Bool} :
    d.Keeps (e.restoreSchedule c key p m behind) := by
  unfold Dev.restoreSchedule
  extract_lets _ d1 d2
  have hd1 : d.Keeps d1 := by
    refine .foldl h.still fun e x so_far => ?_
    dsimp only
    split
    · exact so_far.setLe.setLe
    · exact so_far
  have hd2 : d.Keeps d2 := by
    dsimp only [d2]
    split
    · exact hd1
    · exact hd1.foldl (fun _ _ h => h.setLe)
  exact hd2.foldl (fun _ _ h => h.remap)

theorem Dev.Keeps.restoreBarrier (h : d.Keeps e) {b : MirrorBarrier} : d.Keeps (e.restoreBarrier b) := by
  unfold Dev.restoreBarrier
  have named : ∀ {e : Dev} {gens : Tbl Nat} {vmap : Tbl VMap}, d.Keeps e → d.Keeps { e with gens := gens, vmap := vmap } := fun h => h.still
  dsimp only
  split
  · exact h
  · exact (named h.setObj).showHub.sendOutcome.decideBarrier

theorem Dev.Keeps.restoreMasters (h : d.Keeps e) {p : Program} {x : XchTable} {m : MirrorRecord} {behind : Bool} :
    d.Keeps (e.restoreMasters p x m behind).2 := by
  unfold Dev.restoreMasters
  extract_lets _
  split
  · exact h
  · refine .foldlIn Prod.snd h fun b x so_far => ?_
    dsimp only
    split
    · exact so_far
    · dsimp only
      split
      · exact so_far.setBytes.setBytes.setBytes.setBytes
      · exact so_far

theorem Dev.Keeps.readCopy (h : d.Keeps e) {node addr n : Nat} {restore : Bool} : d.Keeps (e.readCopy node addr n restore).2.2 := by
  unfold Dev.readCopy
  refine .foldlIn (fun (b : Nat × Status × Dev) => b.2.2) h fun b x so_far => ?_
  have sent : ∀ {pk : Packet} {why : Purpose}, d.Keeps (b.2.2.originate pk why).2 := so_far.originate
  dsimp only
  split
  · dsimp only
    exact sent
  · dsimp only
    exact sent

theorem Dev.Keeps.restoreCopies (h : d.Keeps e) {p : Program} {x : XchTable} {node : Nat} : d.Keeps (e.restoreCopies p x node).2.2 := by
  unfold Dev.restoreCopies
  exact .foldlIn (fun (b : Nat × Status × Dev) => b.2.2) h fun b x so_far => so_far.readCopy.readCopy

theorem Dev.Keeps.restoreAnswer (h :
    d.Keeps e) {node : Nat} {rec : Option MirrorRecord} {barriers : List MirrorBarrier} {committed : Nat} : d.Keeps
    (e.restoreAnswer node rec barriers committed) := by
  unfold Dev.restoreAnswer
  have noted : ∀ {e : Dev} {r : Option Restore}, d.Keeps e → d.Keeps { e with restore := r } := fun h => h.still
  split
  · exact h
  · extract_lets _ _
    refine .ite h ?_
    split
    · extract_lets _ d1 d2 _
      have hd1 : d.Keeps d1 := .ite h.restoreSchedule h
      have hd2 : d.Keeps d2 := .ite (hd1.foldl (fun _ _ h => h.restoreBarrier)) hd1
      refine .ite h.restoreFails ?_
      split
      next made =>
      have hd3 := Dev.Keeps.made (.ite_snd hd2.restoreMasters hd2) made
      split
      next made =>
      have hd4 := Dev.Keeps.made2 (by split; exacts [hd3.restoreCopies, hd3]) made
      exact .ite (noted hd4).restoreFails (noted hd4).restoreCheck
    · exact h.restoreFails

theorem Dev.Keeps.restoreChunk (h :
    d.Keeps e) {r : Restore} {tensor chunk : Nat} {efr : Bool} {slots : List SnapSlot} {es : List (List Nat)} : d.Keeps
    (e.restoreChunk r tensor chunk efr slots es) := by
  have noted : ∀ {e : Dev} {r : Option Restore}, d.Keeps e → d.Keeps { e with restore := r } := fun h => h.still
  fun_cases Dev.restoreChunk e r tensor chunk efr slots es
  case case4 made => exact (noted (h.rollChunk made)).restoreCheck
  all_goals exact h.restoreFails

theorem Dev.Keeps.reconstruct (h : d.Keeps e) {tensor chunk : Nat} {efr : Bool} {slots : List SnapSlot} {es : List (List Nat)} :
    d.Keeps (e.reconstruct tensor chunk efr slots es) := by
  unfold Dev.reconstruct
  refine .ite h ?_
  refine .ite h.rebuildOwned ?_
  split
  · exact .ite h.restoreChunk h
  · exact h

theorem Dev.Keeps.copyReadDone (h : d.Keeps e) {addr : Nat} {restore : Bool} {st : Status} {data : List Nat} :
    d.Keeps (e.copyReadDone addr restore st data) := by
  unfold Dev.copyReadDone
  extract_lets d1
  have hd1 : d.Keeps d1 := .ite h.setBytes h
  refine .ite ?_ hd1
  split
  · exact hd1
  · exact .ite hd1.restoreFails (.ite (.restoreCheck (hd1.still.foldl (fun _ _ h => h.foldl (fun _ _ h => h.chunkPresent)))) hd1.still)

end Sys2Proof.Machine
end

section
/-! The operations of Machine/Ports keep the tables in order. -/
namespace Sys2Proof.Machine

set_option Elab.async false

variable {d e f : Dev}

theorem Dev.Keeps.signalFails (h : d.Keeps e) {c s : Nat} {st : Status} : d.Keeps (e.signalFails c s st) := by
  unfold Dev.signalFails
  refine .dropSignal ?_
  split
  · exact h.finishWaiting
  · exact h

theorem Dev.Keeps.answered (h : d.Keeps e) {why : Purpose} {st : Status} {data : List Nat} : d.Keeps (e.answered why st data) := by
  unfold Dev.answered
  split
  · exact h
  · exact h.chainStatus
  · exact .ite h.chainData h.chainStatus
  · exact .ite h h.dropSignal
  · exact .ite h h.signalFails
  · exact .ite h h.dropSignal
  · exact .ite h h.waitLost
  · exact .ite h h.waitLost
  · exact .ite h h.waitLost
  · exact .ite h h.waitLost
  · exact .ite h h.probeReply
  · exact .ite h h.markIsolated
  · exact h.aheadAnswered
  · exact h
  · exact .ite h h.count
  · exact h.mirrorAnswered
  · exact .ite h.barrierAcked h.mirrorLost
  · exact h.copyReadDone
  · refine .ite h ?_
    split
    · exact h.finishWaiting
    · exact h.restoreFails
    · exact h

theorem Dev.Keeps.sendUnsent (h : d.Keeps e) : d.Keeps e.sendUnsent := by
  unfold Dev.sendUnsent
  split
  · exact h
  · split
    · next st d1 made =>
      have hd1 : d.Keeps d1 := h.still.originate.made made
      exact .ite hd1 hd1.answered

theorem Dev.Keeps.completeTag (h : d.Keeps e) {ttag : Nat} {st : Status} {data : List Nat} : d.Keeps (e.completeTag ttag st data) := by
  unfold Dev.completeTag
  split
  · exact h
  · exact h.still.showTtags.answered.sendUnsent

theorem Dev.Keeps.e2eTimeout (h : d.Keeps e) {ttag : Nat} : d.Keeps (e.e2eTimeout ttag) := by
  unfold Dev.e2eTimeout
  split
  · exact h
  · exact .ite h.count.completeTag h

theorem Dev.Keeps.sendPairs (h : d.Keeps e) {node : Nat} : d.Keeps (e.sendPairs node) := by
  unfold Dev.sendPairs
  exact .ite h h.still.originate

theorem Dev.Keeps.addPair (h : d.Keeps e) {node ttag : Nat} {st : Status} : d.Keeps (e.addPair node ttag st) := by
  unfold Dev.addPair
  exact .ite h.still.sendPairs h.still

theorem Dev.Keeps.answerTo (h : d.Keeps e) {p : Packet} {st : Status} : d.Keeps (e.answerTo p st) := by
  unfold Dev.answerTo
  exact .ite h (.ite h.originate h.addPair)

theorem Dev.Keeps.pairsDue (h : d.Keeps e) : d.Keeps e.pairsDue := by
  unfold Dev.pairsDue
  split
  · exact h
  · exact h.sendPairs

theorem Dev.Keeps.setPort (h : d.Keeps e) {p st : Nat} : d.Keeps (e.setPort p st) := by
  unfold Dev.setPort
  exact h.wr.modPort

theorem Dev.Keeps.failPacket (h : d.Keeps e) {p : Packet} {st : Status} : d.Keeps (e.failPacket p st) := by
  unfold Dev.failPacket
  exact .ite (.ite h h.completeTag) h.answerTo

theorem Dev.Keeps.routePacket (h : d.Keeps e) {p : Packet} : d.Keeps (e.routePacket p) := by
  unfold Dev.routePacket
  split
  · exact h.enqueuePacket
  · exact h.failPacket

theorem Dev.Keeps.dropTraffic (h : d.Keeps e) {p : Nat} {st : Status} : d.Keeps (e.dropTraffic p st) := by
  unfold Dev.dropTraffic
  exact .foldl (.foldl (h.modPort.foldl (fun _ _ h => h.setWord)) (fun _ _ h => h.failPacket)) (fun _ _ h => h.routePacket)

theorem Dev.Keeps.portDown (h : d.Keeps e) {p cause : Nat} : d.Keeps (e.portDown p cause) := by
  unfold Dev.portDown
  exact .ite (.failRemote (.dropTraffic (.hostEvent (.modPort (.setWord (.wr (.wr (.setPort (.ite h.sendLink h))))))))) (.modPort
      (.setWord (.wr (.wr (.setPort (.ite h.sendLink h))))))

theorem Dev.Keeps.portRetry (h : d.Keeps e) {p : Nat} : d.Keeps (e.portRetry p) := by
  unfold Dev.portRetry
  exact .ite h.setPort h

theorem Dev.Keeps.setLane (h : d.Keeps e) {p l v : Nat} : d.Keeps (e.setLane p l v) := by
  unfold Dev.setLane
  exact h.setWord

theorem Dev.Keeps.detectComplete (h : d.Keeps e) {p open_ short : Nat} : d.Keeps (e.detectComplete p open_ short) := by
  unfold Dev.detectComplete
  exact .ite (.ite (.portDown (h.foldl (fun _ _ h => h.setLane))) (.ite (.portDown (h.foldl (fun _ _ h => h.setLane))) (.setPort (h.foldl
      (fun _ _ h => h.setLane))))) h

theorem Dev.Keeps.sendTraining (h : d.Keeps e) {p msg : Nat} : d.Keeps (e.sendTraining p msg) := by
  unfold Dev.sendTraining
  exact h.still

theorem Dev.Keeps.trainComplete (h : d.Keeps e) {p polarity : Nat} {logical : List Nat} : d.Keeps (e.trainComplete p polarity logical) := by
  unfold Dev.trainComplete
  exact .ite (.sendTraining (.modPort (.setPort (.wr (h.foldl (fun _ _ h => h.setLane)))))) h

theorem Dev.Keeps.portTimeout (h : d.Keeps e) {p st ms cause : Nat} : d.Keeps (e.portTimeout p st ms cause) := by
  unfold Dev.portTimeout
  exact .ite h.portDown h

theorem Dev.Keeps.identifyFlit (h : d.Keeps e) {p port node : Nat} {valid : Bool} {version hash : Nat} :
    d.Keeps (e.identifyFlit p port node valid version hash) := by
  unfold Dev.identifyFlit
  exact .ite (.ite h.wr.wr.wr.modPort.portDown (.ite h.wr.wr.wr.modPort.portDown h.wr.wr.wr.modPort.setPort.sendTraining)) h

theorem Dev.Keeps.portUp (h : d.Keeps e) {p : Nat} {messages : List (List Nat)} : d.Keeps (e.portUp p messages) := by
  unfold Dev.portUp
  exact .ite (.pump (.wr (.setPort (h.modPort.setWord.setWord.setWord.foldl (fun _ _ h => h.setCredits.setCredits))))) (.failRemote
      (.hostEvent (.countWrap (.wr (.setPort (h.modPort.setWord.setWord.setWord.foldl (fun _ _ h => h.setCredits.setCredits)))))))

theorem Dev.Keeps.attestFlit (h : d.Keeps e) {p msg index count len : Nat} {bytes : List Nat} :
    d.Keeps (e.attestFlit p msg index count len bytes) := by
  unfold Dev.attestFlit
  refine .ite ?_ h
  extract_lets _ d1 _
  have hd1 : d.Keeps d1 := h.modPort
  split
  · exact .ite hd1.portUp hd1.count.hostEvent.portDown
  · exact .ite hd1 hd1.sendTraining

theorem Dev.Keeps.replay (h : d.Keeps e) {p : Nat} : d.Keeps (e.replay p) := by
  unfold Dev.replay
  refine .ite h.portDown ?_
  extract_lets d1
  have hd1 : d.Keeps d1 := h.modPort
  exact hd1.still.count

theorem Dev.Keeps.tagFails (h : d.Keeps e) {p : Nat} : d.Keeps (e.tagFails p) := by
  unfold Dev.tagFails
  exact h.count.diag.portDown

theorem Dev.Keeps.linkFlit (h : d.Keeps e) {p ack flags epochSeq : Nat} {credits : List Nat} :
    d.Keeps (e.linkFlit p ack flags epochSeq credits) := by
  unfold Dev.linkFlit
  exact .ite (.portDown (.ite (.modPort (.foldl (.ite h.modPort h) (fun _ _ h => h.setCredits))) (.foldl (.ite h.modPort h)
      (fun _ _ h => h.setCredits)))) (.pump (.ite (.replay (.ite (.modPort (.foldl (.ite h.modPort h) (fun _ _ h => h.setCredits)))
      (.foldl (.ite h.modPort h) (fun _ _ h => h.setCredits)))) (.ite (.modPort (.foldl (.ite h.modPort h) (fun _ _ h => h.setCredits)))
      (.foldl (.ite h.modPort h) (fun _ _ h => h.setCredits)))))

theorem Dev.Keeps.linkFlitSend (h : d.Keeps e) {p : Nat} : d.Keeps (e.linkFlitSend p) := by
  unfold Dev.linkFlitSend
  exact .ite h.sendLink h

theorem Dev.Keeps.newEpoch (h : d.Keeps e) {p : Nat} : d.Keeps (e.newEpoch p) := by
  unfold Dev.newEpoch
  exact h.countWrap.modPort.sendLink.modPort

theorem Dev.Keeps.keyEpochChange (h : d.Keeps e) {p : Nat} : d.Keeps (e.keyEpochChange p) := by
  unfold Dev.keyEpochChange
  exact .ite h.newEpoch h

theorem Dev.Keeps.lockLost (h : d.Keeps e) {p lanes : Nat} : d.Keeps (e.lockLost p lanes) := by
  unfold Dev.lockLost
  exact .ite (h.portDown.foldl (fun _ _ h => .ite h.setLane h)) h

end Sys2Proof.Machine
end

section
/-! The operations of Machine/BlockReset keep the tables in order. -/
namespace Sys2Proof.Machine

set_option Elab.async false

variable {d e f : Dev}

theorem Dev.Keeps.peckLoses (h : d.Keeps e) {p : Nat} {keep : Kept → Bool} {why : HaltWhy} : d.Keeps (e.peckLoses p keep why) := by
  unfold Dev.peckLoses
  extract_lets _ d1
  have hd1 : d.Keeps d1 := by
    refine h.trans ⟨fun ok => Tbl.rising_keepRegs _ ok, fun ok => Tbl.wf_filter _ ok,
      fun ok => Tbl.rising_filter _ (Tbl.rising_map (fun e => ?_) ok), id, id⟩
    split <;> rfl
  exact hd1.foldl (fun _ _ h => h.haltAttempt)

theorem Dev.Keeps.peckReturns (h : d.Keeps e) {p : Nat} : d.Keeps (e.peckReturns p) := by
  unfold Dev.peckReturns
  exact .ite (.foldl (h.stir.foldl (fun _ _ h => h.loadTracker)) (fun _ _ h => h.modArr.makeDue)) (.diag (.foldl (h.stir.foldl
      (fun _ _ h => h.loadTracker)) (fun _ _ h => h.modArr.makeDue)))

theorem Dev.Keeps.recordFault (h : d.Keeps e) {cls source unit code : Nat} : d.Keeps (e.recordFault cls source unit code) := by
  unfold Dev.recordFault
  exact h.wr.wr.wr.wr.setWord.setWord

theorem Dev.Keeps.showFaults (h : d.Keeps e) : d.Keeps e.showFaults := by
  unfold Dev.showFaults
  exact h.wr.wr

theorem Dev.Keeps.setWrapper (h : d.Keeps e) {unit : Nat} {closed : Bool} : d.Keeps (e.setWrapper unit closed) := by
  unfold Dev.setWrapper
  exact .showFaults (.ite h.setWord h.setWord)

theorem Dev.Keeps.isolatePeck (h : d.Keeps e) {p : Nat} : d.Keeps (e.isolatePeck p) := by
  unfold Dev.isolatePeck
  exact .ite h.isolateTasks.cutShort h.isolateTasks

theorem Dev.Keeps.exchangeLoses (h : d.Keeps e) : d.Keeps e.exchangeLoses := by
  unfold Dev.exchangeLoses
  extract_lets d1 _ _ d2
  have hd1 : d.Keeps d1 := h.cutShort
  have hd2 : d.Keeps d2 := hd1.trans ⟨fun ok => Tbl.rising_keepRegs _ ok, id, id, id, id⟩
  exact hd2.showXch.showUpdate

theorem Dev.Keeps.portLoses (h : d.Keeps e) {p : Nat} : d.Keeps (e.portLoses p) :=
  h.trans ⟨fun ok => Tbl.rising_keepRegs _ ok, id, id, id, id⟩

theorem Dev.Keeps.dropSample (h : d.Keeps e) {p : Nat} : d.Keeps (e.dropSample p) := by
  unfold Dev.dropSample
  exact h.modAttempt

theorem Dev.Keeps.blockReset (h : d.Keeps e) {unit source : Nat} : d.Keeps (e.blockReset unit source) := by
  unfold Dev.blockReset
  have begun : ∀ {rec : Tbl (Nat × Nat)}, d.Keeps { e with recovering := rec } := h.still
  have dropped : ∀ {e : Dev} {rng : Tbl Nat}, d.Keeps e → d.Keeps { e with rng := rng } := fun h => h.still
  refine .ite ?_ h
  have closed : ∀ {rec : Tbl (Nat × Nat)}, d.Keeps ({ e with recovering := rec }.setWrapper unit true).markIsolated :=
      begun.setWrapper.markIsolated
  exact .ite (dropped closed.isolatePeck.dropSample).peckLoses (.ite closed.portDown.portLoses closed.exchangeLoses)

theorem Dev.Keeps.resetBlock (h : d.Keeps e) {c s : Nat} : d.Keeps (e.resetBlock c s).2 := by
  unfold Dev.resetBlock
  exact .ite_snd h h.blockReset

theorem Dev.Keeps.controlRestore (h : d.Keeps e) {p : Nat} (made : e.controlRestore p = some f) : d.Keeps f := by
  unfold Dev.controlRestore at made
  split at made
  · cases made
    exact h
  · split at made
    · cases made
      exact h.still
    · cases made

theorem Dev.Keeps.releaseSlots (h : d.Keeps e) {unit : Nat} : d.Keeps (e.releaseSlots unit) := by
  unfold Dev.releaseSlots
  exact h.foldl (fun _ _ h => h.foldl (fun _ _ h => .ite h.finishWaiting h))

theorem Dev.Keeps.openUnit (h : d.Keeps e) {unit since source : Nat} : d.Keeps (e.openUnit unit since source) := by
  unfold Dev.openUnit
  exact .refuseCut (.markIsolated (.releaseSlots (.hostEvent (.ite h.still.setWrapper.setWord.diag h.still.setWrapper.setWord))))

theorem Dev.Keeps.blockRelease (h : d.Keeps e) {unit : Nat} : d.Keeps (e.blockRelease unit) := by
  fun_cases Dev.blockRelease e unit
  case case1 => exact h
  case case2 => exact h
  case case3 => exact h.deviceLost
  case case4 => exact (h.controlRestore (by assumption)).openUnit.setVcore.peckReturns
  case case5 => exact h.openUnit.modPort
  case case6 => exact h.openUnit

theorem Dev.Keeps.forceRelease (h : d.Keeps e) {p : Nat} : d.Keeps (e.forceRelease p) := by
  unfold Dev.forceRelease
  split
  · exact h
  · exact .ite h.openUnit.wr.diag.peckReturns h

theorem Dev.Keeps.blockFault (h : d.Keeps e) {source unit code : Nat} : d.Keeps (e.blockFault source unit code) := by
  unfold Dev.blockFault
  exact h.recordFault.count.blockReset

theorem Dev.Keeps.correctable (h : d.Keeps e) {source unit code : Nat} : d.Keeps (e.correctable source unit code) := by
  unfold Dev.correctable
  have raised : ∀ {e : Dev} {l : List Nat}, d.Keeps e → d.Keeps { e with ceRaised := l } := fun h => h.still
  have counted : ∀ {e : Dev} {t : Tbl Nat}, d.Keeps e → d.Keeps { e with ceCounts := t } := fun h => h.still
  extract_lets _ d1 _ _ d2 d3
  have hd1 : d.Keeps d1 := .ite h.still h
  have hd2 : d.Keeps d2 := (counted hd1).recordFault.count
  have hd3 : d.Keeps d3 := hd2.diag
  exact .ite (raised hd3).hostEvent hd3

theorem Dev.Keeps.restoreObject (h : d.Keeps e) {k : Nat} : d.Keeps (e.restoreObject k) := by
  unfold Dev.restoreObject
  split
  · exact h
  · split
    · exact h.fresh.setObj
    · refine .ite ?_ h.deviceLost
      split
      · exact h.setObj
      · exact h.fresh.setObj

theorem Dev.Keeps.faultDetected (h : d.Keeps e) {source unit code : Nat} : d.Keeps (e.faultDetected source unit code) := by
  unfold Dev.faultDetected
  exact .ite h (.ite h.correctable (.ite (.ite h.blockFault h) (.ite (.ite (h.foldl (fun _ _ h => h.blockFault)) h) (.ite
      (.ite h.blockFault h) (.ite h.blockFault (.ite h.recordFault.count.diag.markIsolated.restoreObject (.ite h.deviceLost h)))))))

theorem Dev.Keeps.lostSource (h : d.Keeps e) {source : Nat} : d.Keeps (e.lostSource source) := by
  unfold Dev.lostSource
  exact .ite h.deviceLost h

theorem Dev.Keeps.needsRebuild (h : d.Keeps e) {tensor chunk : Nat} {efr : Bool} : d.Keeps (e.needsRebuild tensor chunk efr) := by
  unfold Dev.needsRebuild
  exact h.still.showUpdate

theorem Dev.Keeps.repairRegion (h : d.Keeps e) {addr : Nat} : d.Keeps (e.repairRegion addr).2 := by
  unfold Dev.repairRegion
  extract_lets _ _ _ _
  split
  · exact h.needsRebuild
  · split
    · extract_lets _ _
      split
      · refine .ite_snd ?_ h.readCopy.readCopy
        split
        · exact h
        · exact h.writeCopy
      · exact h
    · split
      · exact h.needsRebuild
      · have read : ∀ {k : Nat}, d.Keeps (e.readBack k none) := h.readBack
        split
        · exact h.still
        · split
          · exact read
          · split
            · exact h.wr.hostEvent
            · exact h

theorem Dev.Keeps.commandMeets (h : d.Keeps e) {c s : Nat} : d.Keeps (e.commandMeets c s) := by
  unfold Dev.commandMeets
  exact .ite h.finishSlot (h.serve id)

theorem Dev.Keeps.hbmUncorrectable (h : d.Keeps e) {addr : Nat} {reader : HbmReader} : d.Keeps (e.hbmUncorrectable addr reader) := by
  unfold Dev.hbmUncorrectable
  have repaired : ∀ {e : Dev} {b : Bool}, d.Keeps e → d.Keeps (if (e.repairRegion addr).1 || b then
      (((e.repairRegion addr).2.recordFault 1 0x04 (0x90 + hbmStackOf addr) 0).count FLT_BLOCK_CNT_COUNT 0 0).markIsolated
      else (e.repairRegion addr).2.correctable 0x04 (0x90 + hbmStackOf addr) 0) := fun h =>
    .ite h.repairRegion.recordFault.count.markIsolated h.repairRegion.correctable
  refine .ite h ?_
  cases reader with
  | chain i u => exact repaired h.chainStatus
  | exchange => exact repaired h.blockReset
  | command c s => exact repaired h.commandMeets
  | mirror k => exact .correctable h.still
  | other => exact repaired h

theorem Dev.Keeps.mpRestart (h : d.Keeps e) {cause : Nat} : d.Keeps (e.mpRestart cause) := by
  unfold Dev.mpRestart
  refine .ite ?_ h
  split
  · next n d1 made =>
    have hd1 : d.Keeps d1 := h.countRestart.made made
    exact .ite hd1.deviceReset hd1.still

theorem Dev.Keeps.mpServes (h : d.Keeps e) {f : Fuses} : d.Keeps (e.mpServes f) := by
  have up : ∀ {e : Dev}, d.Keeps e → d.Keeps { e with mpDown := false } := fun h => h.still
  fun_cases Dev.mpServes e f
  case case1 => exact h
  case case2 made => exact h.bootImage.made made
  case case3 made _ => exact (up (h.bootImage.made made).wr.setStage).resolveCommands

end Sys2Proof.Machine
end

section
/-! The operations of Machine/Supply keep the tables in order. -/
namespace Sys2Proof.Machine

set_option Elab.async false

variable {d e f : Dev}

theorem Dev.Keeps.setRail (h : d.Keeps e) {c : Nat} {on : Bool} : d.Keeps (e.setRail c on) := by
  unfold Dev.setRail
  exact h.still.setWord

theorem Dev.Keeps.supplyLost (h : d.Keeps e) {cause code : Nat} : d.Keeps (e.supplyLost cause code) := by
  unfold Dev.supplyLost
  exact h.raiseLost.enterOff

theorem Dev.Keeps.railFault (h : d.Keeps e) {c cause : Nat} : d.Keeps (e.railFault c cause) := by
  unfold Dev.railFault
  have vcore : ∀ {e : Dev} {t : Tbl Nat}, d.Keeps e → d.Keeps { e with vcoreFaults := t } := fun h => h.still
  have vprg : ∀ {e : Dev} {n : Nat}, d.Keeps e → d.Keeps { e with vprgFaults := n } := fun h => h.still
  extract_lets d1 tell _ d2
  refine .ite h ?_
  have hd1 : d.Keeps d1 := h.wr.wr.count.setRail
  have tells : ∀ {action : Nat}, d.Keeps (tell d1 action) := hd1.hostEvent
  exact .ite (.ite tells.supplyLost (vcore tells).faultDetected) (.ite (.foldl (vprg tells) fun _ _ h => h.latchBranch) tells.supplyLost)

theorem Dev.Keeps.vcoreRestart (h : d.Keeps e) {b : Nat} : d.Keeps (e.vcoreRestart b) := by
  unfold Dev.vcoreRestart
  split
  · exact .ite h.setRail.wr h
  · exact h

theorem Dev.Keeps.vprgRestart (h : d.Keeps e) : d.Keeps e.vprgRestart := by
  unfold Dev.vprgRestart
  exact .ite h.setRail h

theorem Dev.Keeps.inhibit (h : d.Keeps e) {unit : Nat} {outside : Bool} : d.Keeps (e.inhibit unit outside) := by
  unfold Dev.inhibit
  refine .ite ?_ h.still
  extract_lets d1
  have hd1 : d.Keeps d1 := h.foldl (fun _ _ h => h.foldl (fun _ _ h => h.haltAttempt))
  exact hd1.still

theorem Dev.Keeps.inputFault (h : d.Keeps e) {cause : Nat} : d.Keeps (e.inputFault cause) := by
  unfold Dev.inputFault
  exact .ite h h.hostEvent.enterOff

theorem Dev.Keeps.thermalTrip (h : d.Keeps e) {unit : Nat} {t : Int} : d.Keeps (e.thermalTrip unit t) := by
  unfold Dev.thermalTrip
  exact .ite h.hostEvent.supplyLost h

theorem Dev.Keeps.pecksLose (h : d.Keeps e) {ps : List Nat} {depth : Nat} : d.Keeps (e.pecksLose ps depth) := by
  unfold Dev.pecksLose
  exact h.foldl (fun _ _ h => h.peckLoses)

theorem Dev.Keeps.pecksReturn (h : d.Keeps e) {ps : List Nat} : d.Keeps (e.pecksReturn ps) := by
  unfold Dev.pecksReturn
  exact h.foldl (fun _ _ h => h.peckReturns)

theorem Dev.Keeps.bushelLoses (h : d.Keeps e) {b : Nat} : d.Keeps (e.bushelLoses b) := by
  refine h.trans ⟨fun ok => Tbl.rising_keepRegs _ ok, id, fun ok => Tbl.rising_filter _ (Tbl.rising_map (fun e => ?_) ok), id, id⟩
  dsimp only
  split <;> rfl

theorem Dev.Keeps.bushelGate (h : d.Keeps e) {b : Nat} : d.Keeps (e.bushelGate b) := by
  unfold Dev.bushelGate
  exact .ite h.wr h.wr.wr

theorem Dev.Keeps.gateEffect (h : d.Keeps e) {b : Nat} : d.Keeps (e.gateEffect b) := by
  unfold Dev.gateEffect
  exact .ite h.pecksLose.bushelLoses.wr.wr.setRail h

theorem Dev.Keeps.bushelUngate (h : d.Keeps e) {b : Nat} : d.Keeps (e.bushelUngate b) := by
  unfold Dev.bushelUngate
  exact .ite h.wr.wr.wr.setRail.reloadScan.pecksReturn.setVcore h.wr.wr

theorem Dev.Keeps.idleEntry (h : d.Keeps e) {p : Nat} : d.Keeps (e.idleEntry p) := by
  unfold Dev.idleEntry
  have lost : ∀ {keep : Reg → Nat → FieldDef → Bool}, d.Keeps { e with regs := keepRegs e.regs keep } := h.trans ⟨fun ok =>
      Tbl.rising_keepRegs _ ok, id, id, id, id⟩
  exact .ite lost.wr h

theorem Dev.Keeps.showPower (h : d.Keeps e) {st old : Nat} : d.Keeps (e.showPower st old) := by
  unfold Dev.showPower
  exact h.wr.hostEvent

theorem Dev.Keeps.enterStandby (h : d.Keeps e) : d.Keeps e.enterStandby := by
  unfold Dev.enterStandby
  exact h.pecksLose.showPower

theorem Dev.Keeps.enterSleep (h : d.Keeps e) : d.Keeps e.enterSleep := by
  unfold Dev.enterSleep
  extract_lets d1 d2 d3
  have hd1 : d.Keeps d1 := h.flushMeta.foldl (fun _ _ h => h.portDown.portLoses)
  have hd2 : d.Keeps d2 := hd1.pecksLose.foldl (fun _ _ h => h.bushelLoses)
  clear_value d2
  have hd3 : d.Keeps d3 := hd2.trans ⟨fun ok => Tbl.rising_keepRegs _ ok, id, id, id, id⟩
  exact hd3.setWord.showPower

theorem Dev.Keeps.resume (h : d.Keeps e) {selfTests : List Nat} : d.Keeps (e.resume selfTests) := by
  unfold Dev.resume
  exact .ite h.wr.pecksReturn.showPower (.ite (.showPower (.allVcore (.pecksReturn (.foldl (h.still.setWord.wr.foldl
      (fun _ _ h => h.reloadScan.branchSelfTest)) (fun _ _ h => h.showActive))))) h)

theorem Dev.Keeps.transition (h : d.Keeps e) {st : Nat} {selfTests : List Nat} : d.Keeps (e.transition st selfTests) := by
  unfold Dev.transition
  exact .ite h.resume.enterStandby (.ite h.resume.enterSleep h.resume)

theorem Dev.Keeps.powerStateCmd (h : d.Keeps e) {c s : Nat} {selfTests : List Nat} : d.Keeps (e.powerStateCmd c s selfTests).2 := by
  unfold Dev.powerStateCmd
  exact .ite_snd h (.ite_snd h (.ite_snd h (.ite_snd h.wr h.transition)))

theorem Dev.Keeps.powerWaiters (h : d.Keeps e) : d.Keeps e.powerWaiters := by
  unfold Dev.powerWaiters
  exact .ite h (h.foldl (fun _ _ h => h.foldl (fun _ _ h => by
      refine .ite ?_ h
      extract_lets _ d1
      have hd1 : d.Keeps d1 := h.wr
      split
      · next tests d2 made =>
        have hd2 : d.Keeps d2 := hd1.freshWords.made made
        exact .finishSlot (.ite hd1 hd2.transition))))

theorem Dev.Keeps.release_ (h : d.Keeps e) {unit : Nat} : d.Keeps (e.release_ unit) := by
  unfold Dev.release_
  exact h.blockRelease.powerWaiters

theorem Dev.Keeps.powerDownCmd (h : d.Keeps e) {c s : Nat} : d.Keeps (e.powerDownCmd c s).2 := by
  unfold Dev.powerDownCmd
  refine .ite_snd h ?_
  refine .ite_snd h ?_
  extract_lets src
  have hsrc : d.Keeps src := h.flushMeta
  exact hsrc.still

theorem Dev.Keeps.railStop (h : d.Keeps e) : d.Keeps e.railStop := by
  unfold Dev.railStop
  split
  · exact .ite h.enterOff h
  · exact h

end Sys2Proof.Machine
end

section
/-! The operations of Machine/Fabric keep the tables in order. -/
namespace Sys2Proof.Machine

set_option Elab.async false

variable {d e f : Dev}

theorem Dev.Keeps.memWrite (h : d.Keeps e) {p : Packet} : d.Keeps (e.memWrite p) := by
  unfold Dev.memWrite
  exact .ite h.setBytes.addPair h.addPair

theorem Dev.Keeps.memRead (h : d.Keeps e) {p : Packet} : d.Keeps (e.memRead p) := by
  unfold Dev.memRead
  exact .ite h.originate h.answerTo

theorem Dev.Keeps.memCompletion (h : d.Keeps e) {p : Packet} : d.Keeps (e.memCompletion p) := by
  unfold Dev.memCompletion
  exact h.completeTag

theorem Dev.Keeps.deliveryPairs (h : d.Keeps e) {p : Packet} : d.Keeps (e.deliveryPairs p) := by
  unfold Dev.deliveryPairs
  exact h.foldl (fun _ _ h => h.completeTag)

theorem Dev.Keeps.exchArrives (h : d.Keeps e) {port : Nat} {p : Packet} : d.Keeps (e.exchArrives port p) := by
  unfold Dev.exchArrives
  exact .ite h.addPair (.addPair (.ite h.copyArrives h.contributionArrives))

theorem Dev.Keeps.opSignal (h : d.Keeps e) {port : Nat} {p : Packet} : d.Keeps (e.opSignal port p) := by
  unfold Dev.opSignal
  exact h.remoteSignal

theorem Dev.Keeps.opWait (h : d.Keeps e) {p : Packet} : d.Keeps (e.opWait p) := by
  unfold Dev.opWait
  exact h.remoteWait

theorem Dev.Keeps.opRelease (h : d.Keeps e) {p : Packet} : d.Keeps (e.opRelease p) := by
  unfold Dev.opRelease
  exact h.remoteAnswer

theorem Dev.Keeps.opWithdraw (h : d.Keeps e) {p : Packet} : d.Keeps (e.opWithdraw p) := by
  unfold Dev.opWithdraw
  exact h.remoteWithdraw

theorem Dev.Keeps.opBarrier (h : d.Keeps e) {p : Packet} : d.Keeps (e.opBarrier p) := by
  unfold Dev.opBarrier
  exact h.barrierMessage

theorem Dev.Keeps.opOutcome (h : d.Keeps e) {p : Packet} : d.Keeps (e.opOutcome p) := by
  unfold Dev.opOutcome
  exact .ite h.barrierOutcome h

theorem Dev.Keeps.opProbe (h : d.Keeps e) {p : Packet} : d.Keeps (e.opProbe p) := by
  unfold Dev.opProbe
  exact h.mapProbe

theorem Dev.Keeps.opReply (h : d.Keeps e) {p : Packet} : d.Keeps (e.opReply p) := by
  unfold Dev.opReply
  exact .ite h.probeReply h

theorem Dev.Keeps.syncOp (h : d.Keeps e) {port : Nat} {p : Packet} : d.Keeps (e.syncOp port p) := by
  unfold Dev.syncOp
  refine .addPair ?_
  split
  · exact h.opSignal
  · exact h.opWait
  · exact h.opRelease
  · exact h.opWithdraw
  · exact h.opBarrier
  · exact h.opOutcome
  · exact h.opProbe
  · exact h.opReply
  · exact h

theorem Dev.Keeps.resetRequest (h : d.Keeps e) {p : Packet} : d.Keeps (e.resetRequest p) := by
  unfold Dev.resetRequest
  exact .ite (.ite h.takeCounter.addPair.sendPairs.deviceReset (.ite h.takeCounter.addPair.sendPairs.contextReset
      h.takeCounter.addPair.sendPairs)) h.addPair.authFail.hostEvent

theorem Dev.Keeps.mgmtContent (h : d.Keeps e) {p : Packet} {m : MgmtContent} : d.Keeps (e.mgmtContent p m) := by
  unfold Dev.mgmtContent
  refine .ite h ?_
  split
  · split
    · exact h.mirrorAnswer
    · exact h
  · exact h.restoreAnswer
  · exact .ite h.barrierAcked h
  · exact .ite h h.originate
  · exact h

theorem Dev.Keeps.mgmtMessage (h : d.Keeps e) {p : Packet} {m : MgmtContent} : d.Keeps (e.mgmtMessage p m) := by
  unfold Dev.mgmtMessage
  exact h.addPair.mgmtContent

theorem Dev.Keeps.freeBuffer (h : d.Keeps e) {port : Nat} {p : Packet} : d.Keeps (e.freeBuffer port p) := by
  unfold Dev.freeBuffer
  exact h.freeCredits

theorem Dev.Keeps.takePacket (h : d.Keeps e) {port : Nat} {p : Packet} {m : MgmtContent} : d.Keeps (e.takePacket port p m) := by
  unfold Dev.takePacket
  split
  · exact h.exchArrives
  · exact h.syncOp
  · exact h.memWrite
  · exact h.memRead
  · exact h.memCompletion
  · exact h.deliveryPairs
  · exact h.resetRequest
  · exact h.mgmtMessage
  · exact h

theorem Dev.Keeps.deliverOwn (h : d.Keeps e) : d.Keeps e.deliverOwn := by
  unfold Dev.deliverOwn
  split
  · exact h
  · exact .ite (.ite h.still.fresh.takePacket h.still.takePacket) h.still.routePacket

theorem Dev.Keeps.deliver (h : d.Keeps e) {port : Nat} {p : Packet} {m : MgmtContent} : d.Keeps (e.deliver port p m) := by
  unfold Dev.deliver
  exact .ite h.takePacket h.takePacket.freeBuffer

theorem Dev.Keeps.forward (h : d.Keeps e) {port : Nat} {p : Packet} : d.Keeps (e.forward port p) := by
  unfold Dev.forward
  extract_lets d1
  have hd1 : d.Keeps d1 := h.freeBuffer
  refine .ite hd1.count.answerTo ?_
  split
  · exact hd1.answerTo
  · exact hd1.enqueuePacket

theorem Dev.Keeps.receive (h : d.Keeps e) {port : Nat} {p : Packet} {m : MgmtContent} : d.Keeps (e.receive port p m) := by
  unfold Dev.receive
  split
  · exact h.freeBuffer
  · exact .ite h.freeBuffer.count.answerTo (.ite h.deliver h.forward)

theorem Dev.Keeps.sendNack (h : d.Keeps e) {port : Nat} : d.Keeps (e.sendNack port) := by
  unfold Dev.sendNack
  exact h.modPort.sendLink

theorem Dev.Keeps.acceptSeq (h : d.Keeps e) {port seq : Nat} : d.Keeps (e.acceptSeq port seq) := by
  unfold Dev.acceptSeq
  exact h.wr.modPort

theorem Dev.Keeps.headPacket (h :
    d.Keeps e) {port seq bad corrected : Nat} {tagOk : Bool} {dflits : Nat} {p : Packet} {m : MgmtContent} : d.Keeps
    (e.headPacket port seq bad corrected tagOk dflits p m) := by
  unfold Dev.headPacket
  exact .ite h (.ite (.ite h h.faultDetected) (.ite h.count.count.tagFails (.ite h.count.count.sendNack (.ite
      (.ite h.count.count.acceptSeq.receive h.count.count.faultDetected) (.ite (.ite h.count.count h.count.count.modPort.sendNack)
      h.count.count)))))

theorem Dev.Keeps.linkArrives (h : d.Keeps e) {port ack flags epochSeq : Nat} {credits : List Nat} {tagOk : Bool} :
    d.Keeps (e.linkArrives port ack flags epochSeq credits tagOk) := by
  unfold Dev.linkArrives
  exact .ite h (.ite (.ite h h.faultDetected) (.ite h.linkFlit h.tagFails))

theorem Dev.Keeps.accepted_ (h : d.Keeps e) {port : Nat} {p : Packet} {m : MgmtContent} {mine : Packet → Bool} :
    d.Keeps (e.accepted_ port p m mine) := by
  unfold Dev.accepted_
  exact .ite h.receive h

theorem Dev.Keeps.setNode (h : d.Keeps e) {n : Nat} : d.Keeps (e.setNode n) := by
  unfold Dev.setNode
  exact .ite h.wr.wr (h.wr.wr.foldl (fun _ _ h => .ite h.setPort.setWord.modPort.dropTraffic.sendTraining h))

theorem Dev.Keeps.confirm (h : d.Keeps e) {p : Nat} : d.Keeps (e.confirm p) := by
  unfold Dev.confirm
  exact h.setWord.modPort.wr.pump

theorem Dev.Keeps.routeLoad (h : d.Keeps e) {c s : Nat} : d.Keeps (e.routeLoad c s).2 := by
  unfold Dev.routeLoad
  extract_lets _ _ _ _ _ _ _ _ _ d1 d2 d3 d4
  refine .ite_snd h (.ite_snd h (.ite_snd h ?_))
  have hd1 : d.Keeps d1 := .ite h.setNode h
  have hd2 : d.Keeps d2 := .ite hd1.still hd1
  have hd3 : d.Keeps d3 := .ite hd2.still hd2
  have hd4 : d.Keeps d4 := hd3.foldl (fun _ _ h => h.still)
  exact .failRemote (.foldlIn Prod.snd hd4 fun b p so_far => .ite_snd (.ite_snd so_far.confirm so_far) so_far)

theorem Dev.Keeps.routeRead (h : d.Keeps e) {c s : Nat} : d.Keeps (e.routeRead c s).2 := by
  unfold Dev.routeRead
  exact .ite_snd h (.ite_snd h h)

theorem Dev.Keeps.portCtrl (h : d.Keeps e) {c s : Nat} : d.Keeps (e.portCtrl c s).2 := by
  unfold Dev.portCtrl
  dsimp only
  refine .ite_snd h (.ite_snd h (.ite_snd h ?_))
  have hd0 : ∀ {p v : Nat} {set : Bool}, d.Keeps (if set then e.wr FUR_RETRY_CFG_RETRY p 0 0 v else e) := .ite h.wr h
  split
  · exact hd0.wr.modPort
  · exact hd0.wr.portDown
  · exact hd0.portDown.setPort
  · exact hd0.newEpoch
  · exact hd0

theorem Dev.Keeps.portInfo (h : d.Keeps e) {c s : Nat} : d.Keeps (e.portInfo c s).2 := by
  unfold Dev.portInfo
  exact .ite_snd h h

end Sys2Proof.Machine
end

section
/-! The operations of Machine/Access keep the tables in order. -/
namespace Sys2Proof.Machine

set_option Elab.async false

variable {d e f : Dev}

theorem Dev.Keeps.regRead (h : d.Keeps e) {f : Fuses} {r : Reg} {u n k : Nat} : d.Keeps (e.regRead f r u n k).2 := by
  unfold Dev.regRead
  exact .ite_snd h.setWord (.ite_snd h.modCtx (.ite_snd h.windowRead (.ite_snd h.setWord h)))

theorem Dev.Keeps.plainWrite (h : d.Keeps e) {r : Reg} {u n k v : Nat} : d.Keeps (e.plainWrite r u n k v) := by
  unfold Dev.plainWrite
  exact h.setWord

theorem Dev.Keeps.windowBaseWrite (h : d.Keeps e) {c : Nat} {hi : Bool} {v : Nat} : d.Keeps (e.windowBaseWrite c hi v) := by
  unfold Dev.windowBaseWrite
  split
  · exact .ite h.still h.still.plainWrite.plainWrite
  · exact h.still

theorem Dev.Keeps.regWrite (h : d.Keeps e) {f : Fuses} {r : Reg} {u n k v : Nat} : d.Keeps (e.regWrite f r u n k v) := by
  unfold Dev.regWrite
  exact .ite h.seqCtrlWrite (.ite h (.ite (.ite h.plainWrite.calNow h.plainWrite.calPark) (.ite h.rsdRebuild (.ite h.writeFreq (.ite (.ite
      (.forceRelease (.ite h.plainWrite.stir h.plainWrite)) (.ite h.plainWrite.stir h.plainWrite)) (.ite h.refSelWrite (.ite
      (.ite h.plainWrite.monArm h.plainWrite) (.ite (.ite h.bushelGate h.bushelUngate) (.ite (.ite h.refclkRestore h) (.ite
      (.ite h.lockFmKey h) (.ite h.cmdWrite (.ite h.goWrite (.ite h.dataWrite (.ite (.ite h.plainWrite.popEvent h.plainWrite)
      h.plainWrite))))))))))))))

theorem Dev.Keeps.wakeFor (h : d.Keeps e) {lvl x : Nat} : d.Keeps (e.wakeFor lvl x) := by
  unfold Dev.wakeFor
  exact .ite h.wake h

theorem Dev.Keeps.csrRead (h : d.Keeps e) {f : Fuses} {lvl x : Nat} : d.Keeps (e.csrRead f lvl x).2.2 := by
  unfold Dev.csrRead
  split
  · extract_lets d1
    have hd1 : d.Keeps d1 := h.wakeFor
    split
    · exact hd1.regRead
    · exact hd1
  · exact h

theorem Dev.Keeps.csrWrite (h : d.Keeps e) {f : Fuses} {command : Bool} {lvl x v : Nat} : d.Keeps (e.csrWrite f command lvl x v).2 := by
  unfold Dev.csrWrite
  split
  · extract_lets d1
    have hd1 : d.Keeps d1 := h.wakeFor
    split
    · exact .ite_snd h (.ite_snd (.ite hd1.windowBaseWrite hd1) hd1.regWrite)
    · exact hd1
  · exact h

theorem Dev.Keeps.csrReads (h : d.Keeps e) {f : Fuses} {lvl x n : Nat} : d.Keeps (e.csrReads f lvl x n).2.2 := by
  induction n generalizing e x with
  | zero => exact h
  | succ n ih =>
    unfold Dev.csrReads
    split
    next made => exact ih (h.csrRead.made2 made)
    next _ made => exact h.csrRead.made2 made

theorem Dev.Keeps.csrReadCmd (h : d.Keeps e) {f : Fuses} {c s : Nat} : d.Keeps (e.csrReadCmd f c s).2 := by
  unfold Dev.csrReadCmd
  exact .ite_snd h (.ite_snd h h.csrReads)

theorem Dev.Keeps.csrWriteCmd (h : d.Keeps e) {f : Fuses} {c s : Nat} : d.Keeps (e.csrWriteCmd f c s).2 := by
  unfold Dev.csrWriteCmd
  exact .ite_snd h h.csrWrite

theorem Dev.Keeps.csrDumps (h : d.Keeps e) {f : Fuses} {lvl x n : Nat} : d.Keeps (e.csrDumps f lvl x n).2.2 := by
  induction n generalizing e x with
  | zero => exact h
  | succ n ih => exact ih h.csrRead

theorem Dev.Keeps.csrDumpCmd (h : d.Keeps e) {f : Fuses} {c s : Nat} : d.Keeps (e.csrDumpCmd f c s).2 := by
  unfold Dev.csrDumpCmd
  exact .ite_snd h (.ite_snd h (.ite_snd h h.csrDumps.deliverWindow))

theorem Dev.Keeps.sendPending (h : d.Keeps e) {c : Nat} : d.Keeps (e.sendPending c) := by
  unfold Dev.sendPending
  exact .ite h (h.modCtx.foldl (fun _ _ h => h.msix))

theorem Dev.Keeps.unmask (h : d.Keeps e) {c : Nat} {v : Option Nat} : d.Keeps (e.unmask c v) := by
  unfold Dev.unmask
  exact h.modCtx.sendPending

theorem Dev.Keeps.mask (h : d.Keeps e) {c : Nat} {v : Option Nat} : d.Keeps (e.mask c v) := by
  unfold Dev.mask
  exact h.modCtx

theorem Dev.Keeps.unmaskRow (h : d.Keeps e) {c : Nat} {v : Option Nat} : d.Keeps (e.unmaskRow c v) := by
  unfold Dev.unmaskRow
  exact .ite h.unmask h

theorem Dev.Keeps.msixWrite (h : d.Keeps e) {c o v : Nat} : d.Keeps (e.msixWrite c o v) := by
  unfold Dev.msixWrite
  exact .ite (.ite h.mask h.unmask) h.modCtx

theorem Dev.Keeps.aperture (h : d.Keeps e) {f : Fuses} {c o : Nat} {write : Option Nat} : d.Keeps (e.aperture f c o write).2 := by
  fun_cases Dev.aperture e f c o write
  case case1 => exact h.wr
  case case2 made => exact (h.csrWrite.made made).wr
  case case3 made => exact (h.csrRead.made2 made).wr

theorem Dev.Keeps.bar0Read4 (h : d.Keeps e) {f : Fuses} {c o : Nat} : d.Keeps (e.bar0Read4 f c o).2 := by
  unfold Dev.bar0Read4
  refine .ite_snd h ?_
  refine .ite_snd h ?_
  refine .ite_snd h.aperture ?_
  refine .ite_snd h ?_
  split
  · exact h.regRead
  · exact h

theorem Dev.Keeps.bar0Write4 (h : d.Keeps e) {f : Fuses} {c o v : Nat} : d.Keeps (e.bar0Write4 f c o v) := by
  unfold Dev.bar0Write4
  refine .ite h.msixWrite ?_
  refine .ite h.aperture ?_
  refine .ite h ?_
  split
  · exact h.regWrite
  · exact h

theorem Dev.Keeps.hostData (h : d.Keeps e) {c : Nat} {data : Option (List Nat)} : d.Keeps (e.hostData c data) := by
  unfold Dev.hostData
  extract_lets d1
  have hd1 : d.Keeps d1 := .ite h.count h
  exact hd1.still

theorem Dev.Keeps.bar0Read (h : d.Keeps e) {f : Fuses} {c o size : Nat} : d.Keeps (e.bar0Read f c o size) := by
  unfold Dev.bar0Read
  refine .ite h ?_
  refine .ite ?_ ?_
  · split
    · next v d1 made =>
      have hd1 : d.Keeps d1 := h.bar0Read4.made made
      exact hd1.hostData
  · refine .ite ?_ h.hostData
    split
    · next v d1 made =>
      have hd1 : d.Keeps d1 := h.bar0Read4.made made
      split
      · next w d2 made =>
        have hd2 : d.Keeps d2 := hd1.bar0Read4.made made
        exact hd2.hostData

theorem Dev.Keeps.bar0Write (h : d.Keeps e) {f : Fuses} {c o size v : Nat} {poisoned : Bool} : d.Keeps (e.bar0Write f c o size v poisoned) := by
  unfold Dev.bar0Write
  exact .ite h (.ite h.bar0Write4 (.ite h.bar0Write4.bar0Write4 h.count))

theorem Dev.Keeps.cfgWrite (h : d.Keeps e) {c : Nat} {r : CfgReg} {v : Nat} : d.Keeps (e.cfgWrite c r v) := by
  unfold Dev.cfgWrite
  split
  · exact h.modCtx
  · exact .ite h.mask h.unmask
  · exact .ite (.ite h.still h) (.ite h.still h)
  · exact h

theorem Dev.Keeps.readPlace (h : d.Keeps e) {f : Fuses} {p : RegPlace} {size : Nat} : d.Keeps (e.readPlace f p size) := by
  unfold Dev.readPlace
  split
  · exact h.bar0Read
  · exact .ite h.csrRead h
  · exact .ite h.hostData h

theorem Dev.Keeps.writePlace (h : d.Keeps e) {f : Fuses} {p : RegPlace} {size v : Nat} {poisoned : Bool} :
    d.Keeps (e.writePlace f p size v poisoned) := by
  unfold Dev.writePlace
  split
  · exact h.bar0Write
  · exact .ite h.csrWrite h
  · exact .ite h.cfgWrite h

theorem Dev.Keeps.readTime (h : d.Keeps e) {f : Fuses} {bar0 : Option (Fin 16)} {wide : Bool} : d.Keeps (e.readTime f bar0 wide) := by
  unfold Dev.readTime
  split
  · exact h.bar0Read
  · exact h.regRead

theorem Dev.Keeps.bar2Request (h : d.Keeps e) {c o n : Nat} {data : Option (List Nat)} {poisoned : Bool} {stream : Option (Fin 4)} :
    d.Keeps (e.bar2Request c o n data poisoned stream) := by
  unfold Dev.bar2Request
  extract_lets _
  refine .ite h ?_
  refine .ite h ?_
  refine .ite h ?_
  refine .ite (.ite h.count h.hostData) ?_
  split
  · exact h.setBytes
  · exact h.hostData

theorem Dev.Keeps.vfEnds (h : d.Keeps e) {c source : Nat} : d.Keeps (e.vfEnds c source) := by
  unfold Dev.vfEnds
  exact h.contextReset.configReset

theorem Dev.Keeps.vfsEnd (h : d.Keeps e) {lo hi source : Nat} : d.Keeps (e.vfsEnd lo hi source) := by
  unfold Dev.vfsEnd
  exact h.foldl (fun _ _ h => h.vfEnds)

theorem Dev.Keeps.vfEnableSet (h : d.Keeps e) {n : Nat} : d.Keeps (e.vfEnableSet n) := by
  unfold Dev.vfEnableSet
  refine .ite ?_ h
  extract_lets d1
  have hd1 : d.Keeps d1 := .ite h.vfsEnd h
  exact hd1.still

theorem Dev.Keeps.vfEnableClear (h : d.Keeps e) : d.Keeps e.vfEnableClear := by
  unfold Dev.vfEnableClear
  refine .ite ?_ h
  extract_lets src
  have hsrc : d.Keeps src := h.vfsEnd
  exact hsrc.still

theorem Dev.Keeps.flr (h : d.Keeps e) {c : Nat} : d.Keeps (e.flr c) := by
  unfold Dev.flr
  exact .ite (.configReset (.contextReset (.ite h.vfEnableClear h))) h

theorem Dev.Keeps.hostReadFails (h : d.Keeps e) {tag : Nat} {cause : Status} : d.Keeps (e.hostReadFails tag cause) := by
  unfold Dev.hostReadFails
  split
  · exact h
  · exact h.still.chainAnswered.modTask

theorem Dev.Keeps.hostReadDone (h : d.Keeps e) {tag : Nat} {data : Option (List Nat)} : d.Keeps (e.hostReadDone tag data) := by
  unfold Dev.hostReadDone
  split
  · exact h.still.chainData
  · exact h.hostReadFails
  · exact h

end Sys2Proof.Machine
end

section
/-! The operations of Machine/Events keep the tables in order. -/
namespace Sys2Proof.Machine

set_option Elab.async false

variable {d e f : Dev}

theorem Dev.Keeps.byFirmware (h : d.Keeps e) {act : Dev → Dev} (does : d.Keeps (act e)) : d.Keeps (e.byFirmware act) := by
  unfold Dev.byFirmware
  exact .ite does h

theorem Dev.Keeps.trigger (h : d.Keeps e) {f : Fuses} {r : Reg} {u n v : Nat} : d.Keeps (e.trigger f r u n v) := by
  unfold Dev.trigger
  exact .ite h.wakeFor.regWrite h

theorem Dev.Keeps.apertureAccess (h : d.Keeps e) {f : Fuses} {c o : Nat} {write : Option Nat} : d.Keeps (e.apertureAccess f c o write) := by
  unfold Dev.apertureAccess
  split
  · exact h.bar0Read
  · exact h.bar0Write

theorem Dev.Keeps.taskStart (h : d.Keeps e) {i : Nat} : d.Keeps (e.taskStart i) := by
  unfold Dev.taskStart
  split
  · exact h.startTask
  · exact h

theorem Dev.Keeps.ratioDue (h : d.Keeps e) {a : Nat} : d.Keeps (e.ratioDue a) := by
  unfold Dev.ratioDue
  exact .ite h.publishRatios h

theorem Dev.Keeps.flushDue (h : d.Keeps e) : d.Keeps e.flushDue := by
  unfold Dev.flushDue
  exact h.byFirmware (.ite h.flushMeta h)

theorem Dev.Keeps.refSettled (h : d.Keeps e) {b : Nat} : d.Keeps (e.refSettled b) := by
  unfold Dev.refSettled
  exact .ite h.wr h

theorem Dev.Keeps.tableRebuild (h : d.Keeps e) {a : Nat} : d.Keeps (e.tableRebuild a) := by
  unfold Dev.tableRebuild
  exact .ite (.ite h (.ite h.rebuildTable.showEngine h.rebuildTable)) h

theorem Dev.Keeps.drainRow (h : d.Keeps e) {a : Nat} : d.Keeps (e.drainRow a) := by
  unfold Dev.drainRow
  exact .ite h.drainComplete h

theorem Dev.Keeps.watchdogExpires (h : d.Keeps e) : d.Keeps e.watchdogExpires := by
  unfold Dev.watchdogExpires
  exact .ite h.mpRestart h

theorem Dev.Keeps.mpReturns (h : d.Keeps e) {f : Fuses} : d.Keeps (e.mpReturns f) := by
  unfold Dev.mpReturns
  refine .ite ?_ h
  extract_lets d1
  have hd1 : d.Keeps d1 := h.mpServes
  exact .ite hd1 hd1.still

theorem Dev.Keeps.outcomeRow (h : d.Keeps e) {message : Option (Fin 8 × Packet)} : d.Keeps (e.outcomeRow message) := by
  unfold Dev.outcomeRow
  split
  · exact h.barrierOutcome
  · exact h.accepted_

end Sys2Proof.Machine
end

section
namespace Sys2Proof.Machine

set_option Elab.async false

/-- Every meaning but that of RUN_ACK takes the module to a state whose tables are in order where its own were. -/
theorem exec_keeps {c : Instr} (other : c ≠ .runAck) (s : State) : ∃ d, exec c s = s.to d ∧ s.dev.Keeps d := by
  have h := Dev.Keeps.refl s.dev
  cases c with
  | runAck => exact absurd rfl other
  | identify _ _ => exact ⟨_, rfl, h.serveOp fun h => h.identify⟩
  | capabilities _ _ => exact ⟨_, rfl, h.serveOp fun h => h.capabilities⟩
  | memAlloc _ _ => exact ⟨_, rfl, h.serveOp fun h => h.memAlloc⟩
  | memFree _ _ => exact ⟨_, rfl, h.serveOp fun h => h.memFree⟩
  | ctxInfo _ _ => exact ⟨_, rfl, h.serveOp fun h => h.ctxInfo⟩
  | stepLoad _ _ => exact ⟨_, rfl, h.serveOp fun h => h.stepLoad⟩
  | stepSubmit _ _ => exact ⟨_, rfl, h.serveOp fun h => h.stepSubmit⟩
  | stepUnload _ _ => exact ⟨_, rfl, h.serveOp fun h => h.stepUnload⟩
  | stepAbort _ _ => exact ⟨_, rfl, h.serveOp fun h => h.stepAbort⟩
  | xchLoad _ _ => exact ⟨_, rfl, h.serveOp fun h => h.xchLoad⟩
  | xchUnload _ _ => exact ⟨_, rfl, h.serveOp fun h => h.xchUnload⟩
  | updSet _ _ => exact ⟨_, rfl, h.serveOp fun h => h.updSet⟩
  | wchLoad _ _ => exact ⟨_, rfl, h.serveOp fun h => h.wchLoad⟩
  | wchUnload _ _ => exact ⟨_, rfl, h.serveOp fun h => h.wchUnload⟩
  | replayDiag _ _ => exact ⟨_, rfl, h.serveOp fun h => h.replayDiag⟩
  | arrayProgram _ _ => exact ⟨_, rfl, h.serveOp fun h => h.arrayProgram⟩
  | arrayBind _ _ => exact ⟨_, rfl, h.serveOp fun h => h.arrayBind⟩
  | arrayRetire _ _ => exact ⟨_, rfl, h.serveOp fun h => h.arrayRetire⟩
  | arrayInfo _ _ => exact ⟨_, rfl, h.serveOp fun h => h.arrayInfo⟩
  | hvBranchRestore _ _ _ => exact ⟨_, rfl, h.serveOp fun h => h.branchRestore⟩
  | arrayBudgetSet _ _ => exact ⟨_, rfl, h.serveOp fun h => h.budgetSet⟩
  | syncAlloc _ _ => exact ⟨_, rfl, h.serveOp fun h => h.syncAlloc⟩
  | syncFree _ _ => exact ⟨_, rfl, h.serveOp fun h => h.syncFree⟩
  | syncSignal _ _ => exact ⟨_, rfl, h.serveOp fun h => h.syncSignal⟩
  | syncWait _ _ => exact ⟨_, rfl, h.serveOp fun h => h.syncWait⟩
  | syncRead _ _ => exact ⟨_, rfl, h.serveOp fun h => h.syncRead⟩
  | syncMapRemote _ _ => exact ⟨_, rfl, h.serveOp fun h => h.syncMapRemote⟩
  | syncBarrierSet _ _ => exact ⟨_, rfl, h.serveOp fun h => h.syncBarrierSet⟩
  | syncReadyBind _ _ => exact ⟨_, rfl, h.serveOp fun h => h.syncReadyBind⟩
  | routeLoad _ _ => exact ⟨_, rfl, h.serveOp fun h => h.routeLoad⟩
  | routeRead _ _ => exact ⟨_, rfl, h.serveOp fun h => h.routeRead⟩
  | portCtrl _ _ => exact ⟨_, rfl, h.serveOp fun h => h.portCtrl⟩
  | portInfo _ _ => exact ⟨_, rfl, h.serveOp fun h => h.portInfo⟩
  | recPolicyLoad _ _ => exact ⟨_, rfl, h.serveOp fun h => h.policyLoad⟩
  | mirrorSet _ _ => exact ⟨_, rfl, h.serveOp fun h => h.mirrorSet⟩
  | recRestore _ _ => exact ⟨_, rfl, h.serveOp fun h => h.recRestore⟩
  | faultInfo _ _ => exact ⟨_, rfl, h.serveOp fun h => h.faultInfo⟩
  | logRead _ _ => exact ⟨_, rfl, h.serveOp fun h => h.logRead⟩
  | telemRead _ _ => exact ⟨_, rfl, h.serveOp fun h => h.telemRead⟩
  | telemCfg _ _ => exact ⟨_, rfl, h.serveOp fun h => h.telemCfg⟩
  | csrRead _ _ => exact ⟨_, rfl, h.serveOp fun h => h.csrReadCmd⟩
  | csrWrite _ _ => exact ⟨_, rfl, h.serveOp fun h => h.csrWriteCmd⟩
  | csrDump _ _ => exact ⟨_, rfl, h.serveOp fun h => h.csrDumpCmd⟩
  | fwStage _ _ => exact ⟨_, rfl, h.serveOp fun h => h.fwStage⟩
  | fwActivate _ _ => exact ⟨_, rfl, h.serveOp fun h => h.fwActivate⟩
  | fwInfo _ _ => exact ⟨_, rfl, h.serveOp fun h => h.fwInfo⟩
  | resetDevice _ _ => exact ⟨_, rfl, h.serveOp fun h => h.resetDevice⟩
  | resetContext _ _ => exact ⟨_, rfl, h.serveOp fun h => h.resetContext⟩
  | resetBlock _ _ => exact ⟨_, rfl, h.serveOp fun h => h.resetBlock⟩
  | powerState _ _ _ => exact ⟨_, rfl, h.serveOp fun h => h.powerStateCmd⟩
  | powerDown _ _ => exact ⟨_, rfl, h.serveOp fun h => h.powerDownCmd⟩
  | powerLimit _ _ => exact ⟨_, rfl, h.serveOp fun h => h.powerLimit⟩
  | debugUnlock _ _ => exact ⟨_, rfl, h.serveOp fun h => h.debugUnlock⟩
  | measureRead _ _ => exact ⟨_, rfl, h.serveOp fun h => h.measureRead⟩
  | debugLock _ _ => exact ⟨_, rfl, h.serveOp fun h => h.debugLock⟩
  | unknownOpcode _ _ => exact ⟨_, rfl, h.serve id⟩
  | mbxGoWrite _ _ => exact ⟨_, rfl, h.goWrite⟩
  | mbxCmdWrite _ _ _ _ => exact ⟨_, rfl, h.cmdWrite⟩
  | mbxDataRdRead _ => exact ⟨_, rfl, h.bar0Read⟩
  | mbxDataWrWrite _ _ => exact ⟨_, rfl, h.bar0Write⟩
  | eventPop _ => exact ⟨_, rfl, h.bar0Write⟩
  | logTimeLoRead _ _ => exact ⟨_, rfl, h.readTime⟩
  | rcFieldRead _ _ => exact ⟨_, rfl, h.readPlace⟩
  | registerWrite _ _ _ _ => exact ⟨_, rfl, h.writePlace⟩
  | cnvSeqArm _ _ => exact ⟨_, rfl, h.trigger⟩
  | cnvSeqArmComplete _ => exact ⟨_, rfl, h.seqArmComplete⟩
  | cnvSeqDefault _ _ => exact ⟨_, rfl, h.trigger⟩
  | calNow _ _ => exact ⟨_, rfl, h.trigger⟩
  | cnvRefSelWrite _ _ => exact ⟨_, rfl, h.trigger⟩
  | cnvMonArm _ _ => exact ⟨_, rfl, h.trigger⟩
  | rsdRebuild _ _ => exact ⟨_, rfl, h.trigger⟩
  | freqReqWrite _ _ => exact ⟨_, rfl, h.trigger⟩
  | refclkRestore => exact ⟨_, rfl, h.trigger⟩
  | bushelGate _ => exact ⟨_, rfl, h.trigger⟩
  | bushelGateEffect _ => exact ⟨_, rfl, h.gateEffect⟩
  | bushelUngate _ => exact ⟨_, rfl, h.trigger⟩
  | forceRel _ => exact ⟨_, rfl, h.trigger⟩
  | secFmkeyLock => exact ⟨_, rfl, h.trigger⟩
  | pciWinBaseWrite _ _ _ => exact ⟨_, rfl, h.windowBaseWrite⟩
  | debugApertureAccess _ _ _ => exact ⟨_, rfl, h.apertureAccess⟩
  | msixVectorUnmask _ _ => exact ⟨_, rfl, h.unmaskRow⟩
  | bar2Request _ _ _ _ _ _ => exact ⟨_, rfl, h.bar2Request⟩
  | flr _ => exact ⟨_, rfl, h.flr⟩
  | vfEnableSet _ => exact ⟨_, rfl, h.vfEnableSet⟩
  | vfEnableClear => exact ⟨_, rfl, h.vfEnableClear⟩
  | perstAssert => exact ⟨_, rfl, h.perstAssert⟩
  | perstDeassert => exact ⟨_, rfl, h.perstDeassert⟩
  | hotReset => exact ⟨_, rfl, h.hotReset⟩
  | linkDegraded _ _ _ => exact ⟨_, rfl, h.linkTrained⟩
  | contextReset _ _ => exact ⟨_, rfl, h.contextReset⟩
  | deviceReset _ => exact ⟨_, rfl, h.resetFrom⟩
  | powerOn => exact ⟨_, rfl, h.powerOn⟩
  | start _ => exact ⟨_, rfl, h.start⟩
  | presenceLost => exact ⟨_, rfl, h.inputFault⟩
  | mpRestart _ => exact ⟨_, rfl, h.mpRestart⟩
  | mpWatchdogExpiry => exact ⟨_, rfl, h.watchdogExpires⟩
  | mpRestartComplete => exact ⟨_, rfl, h.mpReturns⟩
  | shedStage _ _ => exact ⟨_, rfl, h.shedStage⟩
  | dataWindowTimeout _ => exact ⟨_, rfl, h.windowTimeout⟩
  | telemetrySample => exact ⟨_, rfl, h.telemetrySample⟩
  | logEpoch => exact ⟨_, rfl, h.logEpoch⟩
  | runStart => exact ⟨_, rfl, h.runStart⟩
  | attemptStart _ => exact ⟨_, rfl, h.attemptStart⟩
  | taskStart _ => exact ⟨_, rfl, h.taskStart⟩
  | taskComplete _ => exact ⟨_, rfl, h.completeTask⟩
  | workSteal _ _ => exact ⟨_, rfl, h.steal⟩
  | bushelSteal _ _ => exact ⟨_, rfl, h.bushelSteal⟩
  | rowGroupStart _ _ _ _ => exact ⟨_, rfl, h.rowGroupStart⟩
  | readCycle _ _ => exact ⟨_, rfl, h.readCycle⟩
  | checksumWindowEnd _ => exact ⟨_, rfl, h.windowEnd⟩
  | persistClear _ => exact ⟨_, rfl, h.persistClear⟩
  | refRatioPublish _ => exact ⟨_, rfl, h.ratioDue⟩
  | fallbackRowGroup _ => exact ⟨_, rfl, h.fallbackGroup⟩
  | tilePass _ => exact ⟨_, rfl, h.tilePass⟩
  | wideRecomputation _ => exact ⟨_, rfl, h.wideRecompute⟩
  | vectorDescriptor _ => exact ⟨_, rfl, h.vecDescriptor⟩
  | chainUnit _ _ => exact ⟨_, rfl, h.chainUnit⟩
  | taskAbortedStreamFault _ => exact ⟨_, rfl, h.streamAbort⟩
  | mailboxWaitTimeout _ _ => exact ⟨_, rfl, h.waitTimeout⟩
  | compression _ => exact ⟨_, rfl, h.compress⟩
  | exchContributionReceived _ _ => exact ⟨_, rfl, h.accepted_⟩
  | workingCopyReceived _ _ => exact ⟨_, rfl, h.accepted_⟩
  | barrierSignal _ _ => exact ⟨_, rfl, h.accepted_⟩
  | barrierOutcome _ => exact ⟨_, rfl, h.outcomeRow⟩
  | barrierMirrorAck _ => exact ⟨_, rfl, h.barrierAcked⟩
  | scaleRecomputation => exact ⟨_, rfl, h.byFirmware h.recomputeScales⟩
  | updateChunk _ => exact ⟨_, rfl, h.updateChunk⟩
  | mirrorRecordWrite => exact ⟨_, rfl, h.writeMirror⟩
  | mirrorAck => exact ⟨_, rfl, h.mirrorAck⟩
  | snapshotCopy => exact ⟨_, rfl, h.snapshotCopy⟩
  | reconstruction _ _ _ _ _ => exact ⟨_, rfl, h.reconstruct⟩
  | residualDecisionStart _ => exact ⟨_, rfl, h.byFirmware h.decisionStart⟩
  | residualDecisionComplete _ => exact ⟨_, rfl, h.decisionComplete⟩
  | programSelect => exact ⟨_, rfl, h.byFirmware h.select⟩
  | drainComplete _ => exact ⟨_, rfl, h.drainRow⟩
  | programRow _ _ => exact ⟨_, rfl, h.programRow⟩
  | verificationComplete _ _ _ => exact ⟨_, rfl, h.verificationComplete⟩
  | attemptRestart _ => exact ⟨_, rfl, h.byFirmware h.restartAttempt⟩
  | checksumTableRebuild _ => exact ⟨_, rfl, h.byFirmware h.tableRebuild⟩
  | branchFault _ _ => exact ⟨_, rfl, h.branchReading⟩
  | metadataFlush => exact ⟨_, rfl, h.flushDue⟩
  | calibrationDwell _ _ _ => exact ⟨_, rfl, h.dwell⟩
  | calibrationCheck _ => exact ⟨_, rfl, h.dwellCheck⟩
  | referenceSettled _ => exact ⟨_, rfl, h.refSettled⟩
  | extRefFault _ _ => exact ⟨_, rfl, h.extRef⟩
  | monitorReading _ _ _ _ => exact ⟨_, rfl, h.monReading⟩
  | monitorPassEnd _ _ => exact ⟨_, rfl, h.monPassEnd⟩
  | faultDetected _ _ _ => exact ⟨_, rfl, h.faultDetected⟩
  | correctableError _ _ _ => exact ⟨_, rfl, h.correctable⟩
  | hbmUncorrectable _ _ _ => exact ⟨_, rfl, h.hbmUncorrectable⟩
  | blockReset _ => exact ⟨_, rfl, h.blockReset⟩
  | blockResetRelease _ => exact ⟨_, rfl, h.release_⟩
  | deviceLost _ => exact ⟨_, rfl, h.lostSource⟩
  | railFault _ _ => exact ⟨_, rfl, h.railFault⟩
  | vcoreRestart _ => exact ⟨_, rfl, h.vcoreRestart⟩
  | vprgRestart => exact ⟨_, rfl, h.vprgRestart⟩
  | senseLost _ => exact ⟨_, rfl, h.senseLost⟩
  | phaseShed _ _ => exact ⟨_, rfl, h.phaseShed⟩
  | inputFault _ => exact ⟨_, rfl, h.inputFault⟩
  | inputRestored => exact ⟨_, rfl, h.inputRestored⟩
  | peakPower => exact ⟨_, rfl, h.peakPower⟩
  | powerEvaluation _ _ _ => exact ⟨_, rfl, h.powerEvaluation⟩
  | avsStep _ _ _ => exact ⟨_, rfl, h.avsStep⟩
  | refclkLost _ => exact ⟨_, rfl, h.refclkMeasured⟩
  | thermalThrottle _ _ _ => exact ⟨_, rfl, h.thermalThrottle⟩
  | hbmLevelChange _ _ => exact ⟨_, rfl, h.hbmLevel⟩
  | thermalTrip _ _ => exact ⟨_, rfl, h.thermalTrip⟩
  | peckIdleEntry _ => exact ⟨_, rfl, h.idleEntry⟩
  | peckIdleExit _ => exact ⟨_, rfl, h.wake⟩
  | portRetry _ => exact ⟨_, rfl, h.portRetry⟩
  | detectComplete _ _ _ => exact ⟨_, rfl, h.detectComplete⟩
  | trainComplete _ _ _ => exact ⟨_, rfl, h.trainComplete⟩
  | trainTmo _ => exact ⟨_, rfl, h.portTimeout⟩
  | identifyFlitReceived _ _ _ _ _ _ => exact ⟨_, rfl, h.identifyFlit⟩
  | idTmo _ => exact ⟨_, rfl, h.portTimeout⟩
  | attestMessageReceived _ _ _ _ _ _ _ => exact ⟨_, rfl, h.attestFlit⟩
  | attestTmo _ => exact ⟨_, rfl, h.portTimeout⟩
  | laneLockLost _ _ => exact ⟨_, rfl, h.lockLost⟩
  | linkFlitReceived _ _ _ _ _ _ => exact ⟨_, rfl, h.linkArrives⟩
  | linkFlitSend _ => exact ⟨_, rfl, h.linkFlitSend⟩
  | keyEpochChange _ => exact ⟨_, rfl, h.keyEpochChange⟩
  | headPacketReceived _ _ _ _ _ _ _ _ => exact ⟨_, rfl, h.headPacket⟩
  | e2eTimeout _ => exact ⟨_, rfl, h.e2eTimeout⟩
  | memWrReceived _ _ => exact ⟨_, rfl, h.accepted_⟩
  | memRdReceived _ _ => exact ⟨_, rfl, h.accepted_⟩
  | memCplReceived _ _ => exact ⟨_, rfl, h.accepted_⟩
  | deliveryReceived _ _ => exact ⟨_, rfl, h.accepted_⟩
  | resetReqReceived _ _ => exact ⟨_, rfl, h.accepted_⟩
  | mgmtMsgReceived _ _ _ => exact ⟨_, rfl, h.accepted_⟩
  | syncOpSignal _ _ => exact ⟨_, rfl, h.accepted_⟩
  | syncOpWait _ _ => exact ⟨_, rfl, h.accepted_⟩
  | syncOpRelease _ _ => exact ⟨_, rfl, h.accepted_⟩
  | syncOpWithdraw _ _ => exact ⟨_, rfl, h.accepted_⟩
  | mapProbe _ _ => exact ⟨_, rfl, h.accepted_⟩
  | probeReply _ _ => exact ⟨_, rfl, h.accepted_⟩
  | spdmRequest _ => exact ⟨_, rfl, h.spdmRequest⟩
  | ideFail _ => exact ⟨_, rfl, h.ideFail⟩
  | powerDownRailStop => exact ⟨_, rfl, h.railStop⟩
  | deliveryPairsDue => exact ⟨_, rfl, h.pairsDue⟩
  | pcieCompletionTimeout _ => exact ⟨_, rfl, h.hostReadFails⟩
  | pcieCompletionReceived _ _ => exact ⟨_, rfl, h.hostReadDone⟩
  | programmingInhibit _ _ => exact ⟨_, rfl, h.inhibit⟩

theorem exec_runAck_keeps (s : State) {t : State} (ran : exec .runAck s = .next t) : s.dev.Keeps t.dev := by
  cases may : s.dev.mayAck with
  | true =>
    rw [exec_runAck_acknowledged may] at ran
    cases ran
    exact (Dev.Keeps.refl s.dev).runAck
  | false =>
    rw [exec_runAck_unasked may] at ran
    cases ran
    exact .refl s.dev

/-- Every step keeps the tables in order. -/
theorem step_keeps {s t : State} (stepped : step s = .next t) : s.dev.Keeps t.dev := by
  cases waiting : s.pending with
  | nil =>
    rw [step_idle waiting] at stepped
    cases stepped
    exact .deliverOwn (Dev.Keeps.still (.refl s.dev))
  | cons c rest =>
    rw [step_front waiting] at stepped
    by_cases ack : c = .runAck
    · subst ack
      exact exec_runAck_keeps { s with pending := rest } stepped
    · obtain ⟨d, ran, kept⟩ := exec_keeps ack { s with pending := rest }
      rw [ran] at stepped
      cases stepped
      exact kept

/-- Settles O8: each operation of the module keeps the canonical form. -/
theorem stepKeepsMemoryCanonical : Obligations.StepKeepsMemoryCanonical := by
  intro s t stepped canonical
  exact (step_keeps stepped).mem canonical

/-- Settles O9: each operation of the module keeps the order of its tables. -/
theorem stepKeepsTablesOrdered : Obligations.StepKeepsTablesOrdered := by
  intro s t stepped ordered
  have kept := step_keeps stepped
  obtain ⟨regs, arrays, ctxs, ports⟩ := ordered
  exact ⟨kept.regs regs, kept.arrays arrays, kept.ctxs ctxs, kept.ports ports⟩

end Sys2Proof.Machine
end

section
/-! The commands of resets and of power: RESET_DEVICE, RESET_CONTEXT, RESET_BLOCK, POWER_STATE, POWER_DOWN and POWER_LIMIT (R625, R670 to
R674). -/
namespace Sys2Proof.Machine

set_option Elab.async false

variable {s : State} {c : Fin 16} {k : Fin 8}

theorem exec_resetDevice (ready : Ready s c k 0x90) :
    exec (.resetDevice c k) s = .next (s.replied c k ((s.dev.begun c k).resetDevice c k)) := State.to_serveOp ready _

theorem exec_resetContext (ready : Ready s c k 0x91) :
    exec (.resetContext c k) s = .next (s.replied c k ((s.dev.begun c k).resetContext c k)) := State.to_serveOp ready _

theorem exec_resetBlock (ready : Ready s c k 0x92) :
    exec (.resetBlock c k) s = .next (s.replied c k ((s.dev.begun c k).resetBlock c k)) := State.to_serveOp ready _

theorem exec_powerState (ready : Ready s c k 0x93) (tests : List (Fin 8)) :
    exec (.powerState c k tests) s = .next (s.replied c k ((s.dev.begun c k).powerStateCmd c k (tests.map Fin.val))) := State.to_serveOp ready _

theorem exec_powerDown (ready : Ready s c k 0x94) :
    exec (.powerDown c k) s = .next (s.replied c k ((s.dev.begun c k).powerDownCmd c k)) := State.to_serveOp ready _

theorem exec_powerLimit (ready : Ready s c k 0x95) :
    exec (.powerLimit c k) s = .next (s.replied c k ((s.dev.begun c k).powerLimit c k)) := State.to_serveOp ready _

/-- Settles O32: the reply of each branch on the begun module. -/
theorem powerLimitAnswers : Obligations.PowerLimitAnswers := by
  unfold Obligations.PowerLimitAnswers
  intro s c k ready b n shown
  simp only [exec_powerLimit ready, Dev.powerLimit, State.replied_ite, State.replied_done, Bool.not_eq_true']
  rfl

/-- A reset where none waits. -/
theorem Dev.resetIn_none {d : Dev} (none_waits : d.pendingReset = none) (cold : Bool) (source delay : Nat) :
    d.resetIn cold source delay = { d with pendingReset := some ⟨cold, source, d.time + delay⟩ } := by
  simp only [Dev.resetIn, none_waits]

/-- R670: with word 1 lawful the reset waits its millisecond, at the depth that bit 0 asks for. -/
theorem exec_resetDevice_answers (ready : Ready s c k 0x90) :
    let b := s.dev.begun c k
    let cold := bit (b.cmd c k 1) 0
    let d := if bit (b.cmd c k 1) 1 then b.wr RST_START_START_CNT 0 0 0 0 else b
    b.pendingReset = none →
    exec (.resetDevice c k) s = .next (if b.argsClean c k [3] then
      s.done c k { d with pendingReset := some ⟨cold, if cold then 0x02 else 0x05, b.time + 1000000⟩ } .ok
      else s.done c k b .badArg) := by
  intro b cold d none_waits
  have none_waits' : d.pendingReset = none := by
    dsimp only [d]
    split <;> exact none_waits
  have time : d.time = b.time := by
    dsimp only [d]
    split <;> rfl
  rw [exec_resetDevice ready, Dev.resetDevice, State.replied_ite, State.replied_st]
  refine congrArg _ ?_
  cases lawful : b.argsClean c k [3] with
  | true =>
    rw [if_neg (by simp), if_pos rfl]
    refine congrArg (fun e => s.done c k e .ok) ?_
    exact (Dev.resetIn_none none_waits' cold _ 1000000).trans (by rw [time])
  | false => rw [if_pos (by simp), if_neg (by simp)]

/-- R671: the context is reset under the command, which keeps its words and its slot. -/
theorem exec_resetContext_answers (ready : Ready s c k 0x91) :
    let b := s.dev.begun c k
    let words := ((List.range 16).map (fun i => b.cmd c k i)).zipIdx
    exec (.resetContext c k) s = .next (if b.argsClean c k [] then
      s.done c k ((words.foldl (fun (d : Dev) (w, i) => d.wr MBX_CMD_WORD c k i w) (b.contextReset c 0x11)).setSlot c k slotRunning) .ok
      else s.done c k b .badArg) := by
  intro b words
  rw [exec_resetContext ready, Dev.resetContext, State.replied_ite, State.replied_st]
  refine congrArg _ ?_
  cases lawful : b.argsClean c k [] with
  | true =>
    rw [if_neg (by simp), if_pos rfl]
    rfl
  | false => rw [if_pos (by simp), if_neg (by simp)]

theorem exec_resetBlock_answers (ready : Ready s c k 0x92) :
    let b := s.dev.begun c k
    let unit := bits (b.cmd c k 1) 7 0
    exec (.resetBlock c k) s = .next (if b.argsClean c k [0xFF] = false ∨ 0x88 < unit then s.done c k b .badArg
      else s.waits c k (b.blockReset unit 0x20) .reset) := by
  simp only [exec_resetBlock ready, Dev.resetBlock, State.replied_ite, State.replied_st, State.replied_wait, Bool.or_eq_true,
    Bool.not_eq_true', decide_eq_true_eq]
  rfl

theorem exec_powerState_answers (ready : Ready s c k 0x93) (tests : List (Fin 8)) :
    let b := s.dev.begun c k
    let st := bits (b.cmd c k 1) 1 0
    exec (.powerState c k tests) s = .next (
      if b.argsClean c k [3] = false ∨ st = 3 then s.done c k b .badArg
      else if st = b.powerState then s.done c k b .ok [st]
      else if st ≠ 0 ∧ b.runs ≠ [] then s.done c k b .busy
      else if b.recovering ≠ [] then s.waits c k (b.wr RST_PWR_STATE_PENDING 0 0 0 1) .reset
      else s.done c k (b.transition st (tests.map Fin.val)) .ok [st]) := by
  simp only [exec_powerState ready, Dev.powerStateCmd, State.replied_ite, State.replied_st, State.replied_done, State.replied_wait,
    Bool.or_eq_true, Bool.not_eq_true', beq_iff_eq]

theorem exec_powerDown_answers (ready : Ready s c k 0x94) :
    let b := s.dev.begun c k
    exec (.powerDown c k) s = .next (
      if b.argsClean c k [] = false then s.done c k b .badArg
      else if b.runs ≠ [] then s.done c k b .busy
      else s.done c k { b.flushMeta with powerDown := some (b.time + 1000000) } .ok) := by
  simp only [exec_powerDown ready, Dev.powerDownCmd, State.replied_ite, State.replied_st, Bool.not_eq_true']

/-- Settles O31: each command's reply on the begun module, check by check. -/
theorem resetAndPowerCommandsTakeEffect : Obligations.ResetAndPowerCommandsTakeEffect :=
  ⟨⟨fun _ _ _ => exec_resetDevice_answers, fun _ _ _ => exec_resetContext_answers, fun _ _ _ => exec_resetBlock_answers⟩,
    fun _ _ _ tests ready => exec_powerState_answers ready tests, fun _ _ _ => exec_powerDown_answers⟩

end Sys2Proof.Machine
end

section
/-! What log entries, host events and writes of registers leave of the module: a frame named by the keys they may write. -/
namespace Sys2Proof.Machine

set_option Elab.async false

/-- The keys that log entries and host events write: the log's counts and epoch, and the registers of the functions (MBX_EVT_CTRL). -/
def Reporting (key : Nat) : Prop :=
  4 * 2 ^ 40 ≤ key ∨ key = LOG_WR_CNT.key 0 ∨ key = LOG_EPOCH.key 0 ∨ key = LOG_COALESCE_CNT.key 0

/-- `e` comes from `d` by writes of registers whose keys are in `keys`, by log entries, by events for the host and by measurements. -/
structure Dev.Shows (keys : Nat → Prop) (d e : Dev) : Prop where
  same : e = { d with regs := e.regs, ctxs := e.ctxs, out := e.out, log := e.log, heldEvents := e.heldEvents, measures := e.measures }
  regsOk : d.regsOk → e.regsOk
  word : d.regsOk → ∀ (r : Reg) (u n k : Nat), ¬ keys (r.key u n k) → e.word r u n k = d.word r u n k
  held : d.life = .run → e.heldEvents = d.heldEvents

variable {d e f : Dev} {keys : Nat → Prop}

/-! ### What is left -/

theorem Dev.Shows.rd (h : d.Shows keys e) (ok : d.regsOk) {fld : Fld} {u n k : Nat} (off : ¬ keys (fld.reg.key u n k)) :
    e.rd fld u n k = d.rd fld u n k := by
  rw [Dev.rd, Dev.rd, h.word ok _ _ _ _ off]

theorem Dev.Shows.life (h : d.Shows keys e) : e.life = d.life := by rw [h.same]
theorem Dev.Shows.mem (h : d.Shows keys e) : e.mem = d.mem := by rw [h.same]
theorem Dev.Shows.time (h : d.Shows keys e) : e.time = d.time := by rw [h.same]
theorem Dev.Shows.arrays (h : d.Shows keys e) : e.arrays = d.arrays := by rw [h.same]
theorem Dev.Shows.runs (h : d.Shows keys e) : e.runs = d.runs := by rw [h.same]
theorem Dev.Shows.objects (h : d.Shows keys e) : e.objects = d.objects := by rw [h.same]
theorem Dev.Shows.startDone (h : d.Shows keys e) : e.startDone = d.startDone := by rw [h.same]
theorem Dev.Shows.programs (h : d.Shows keys e) : e.programs = d.programs := by rw [h.same]

/-! ### What does no more -/

theorem Dev.Shows.refl (d : Dev) : d.Shows keys d := ⟨rfl, id, fun _ _ _ _ _ _ => rfl, fun _ => rfl⟩

theorem Dev.Shows.trans (h : d.Shows keys e) (h' : e.Shows keys f) : d.Shows keys f where
  same := by rw [h'.same, h.same]
  regsOk ok := h'.regsOk (h.regsOk ok)
  word ok r u n k off := (h'.word (h.regsOk ok) r u n k off).trans (h.word ok r u n k off)
  held run := (h'.held (h.life.trans run)).trans (h.held run)

theorem Dev.Shows.mono {more : Nat → Prop} (h : d.Shows keys e) (le : ∀ key, keys key → more key) : d.Shows more e :=
  ⟨h.same, h.regsOk, fun ok r u n k off => h.word ok r u n k (mt (le _) off), h.held⟩

/-- Work on the contexts, on what goes out, on the log and on the measurement registers alone. -/
theorem Dev.Shows.still (h : d.Shows keys e)
    (same : f = { e with ctxs := f.ctxs, out := f.out, log := f.log, measures := f.measures } := by rfl) : d.Shows keys f := by
  have regs : f.regs = e.regs := by rw [same]
  exact h.trans ⟨by rw [same], fun ok => by rwa [Dev.regsOk, regs], fun _ r u n k _ => by rw [Dev.word, regs, Dev.word], fun _ => by rw [same]⟩

theorem Dev.Shows.ite {p : Prop} [Decidable p] (h : d.Shows keys e) (h' : d.Shows keys f) : d.Shows keys (if p then e else f) := by
  split
  · exact h
  · exact h'

theorem Dev.Shows.foldl {α : Type} {g : Dev → α → Dev} {xs : List α} (h : d.Shows keys e)
    (step : ∀ (e : Dev) (x : α), x ∈ xs → d.Shows keys e → d.Shows keys (g e x)) : d.Shows keys (xs.foldl g e) :=
  List.foldlRecOn (motive := d.Shows keys) xs g h (fun e so_far x here => step e x here so_far)

theorem Dev.Shows.setWord (h : d.Shows keys e) {r : Reg} {u n k v : Nat} (own : keys (r.key u n k)) : d.Shows keys (e.setWord r u n k v) :=
  h.trans ⟨rfl, fun ok => Dev.regsOk_setWord ok _ _ _ _ _,
    fun ok _ _ _ _ off => Dev.word_setWord_other ok _ _ _ _ _ _ _ _ _ fun here => off (by rwa [here]), fun _ => rfl⟩

theorem Dev.Shows.wr (h : d.Shows keys e) {fld : Fld} {u n k v : Nat} (own : keys (fld.reg.key u n k)) : d.Shows keys (e.wr fld u n k v) :=
  h.setWord own

/-! ### The log and the events -/

section Log

theorem Dev.Shows.msix (h : d.Shows keys e) {c v : Nat} : d.Shows keys (e.msix c v) := by
  unfold Dev.msix
  exact .ite h.still h.still

theorem LOG_WR_CNT_reporting : Reporting (LOG_WR_CNT.key 0) := .inr (.inl rfl)
theorem LOG_EPOCH_reporting : Reporting (LOG_EPOCH.key 0) := .inr (.inr (.inl rfl))
theorem LOG_COALESCE_CNT_reporting : Reporting (LOG_COALESCE_CNT.key 0) := .inr (.inr (.inr rfl))
theorem MBX_EVT_CTRL_reporting (c : Nat) : Reporting (MBX_EVT_CTRL.key c) := .inl (by simp [Reg.key, MBX_EVT_CTRL, Scope.lvl]; omega)

variable (reports : ∀ key, Reporting key → keys key)
include reports

theorem Dev.Shows.writeEntry (h : d.Shows keys e) {x : LogEntry} : d.Shows keys (e.writeEntry x) := by
  unfold Dev.writeEntry
  have counted : d.Shows keys (e.countWrap LOG_WR_CNT_COUNT 0 0) := h.wr (reports _ LOG_WR_CNT_reporting)
  exact counted.still

theorem Dev.Shows.writeEpoch (h : d.Shows keys e) : d.Shows keys e.writeEpoch := by
  have shown : ∀ {v : Nat}, d.Shows keys (e.wr LOG_EPOCH_EPOCH 0 0 0 v) := h.wr (reports _ LOG_EPOCH_reporting)
  exact shown.writeEntry reports

theorem Dev.Shows.logSev (h : d.Shows keys e) {sev src : Nat} {ev : LogEvent} {st : Status} {host : Bool} {c : Nat} {data : List Nat} :
    d.Shows keys (e.logSev sev src ev st host c data) := by
  unfold Dev.logSev
  refine .ite h ?_
  dsimp only
  split
  · next log _ =>
    have merged : d.Shows keys { e with log := log } := h.still
    exact merged.wr (reports _ LOG_COALESCE_CNT_reporting)
  · exact .writeEntry reports (.ite h (h.writeEpoch reports))

theorem Dev.Shows.diag (h : d.Shows keys e) {src : Nat} {x : Diag} {st : Status} {data : List Nat} : d.Shows keys (e.diag src x st data) :=
  h.logSev reports

theorem Dev.Shows.pushEvent (h : d.Shows keys e) {c : Nat} {x : LogEntry} : d.Shows keys (e.pushEvent c x) := by
  unfold Dev.pushEvent
  have queued : ∀ {g : CtxRec → CtxRec}, d.Shows keys (e.modCtx c g) := h.still
  exact .ite (h.wr (reports _ (MBX_EVT_CTRL_reporting c))) (.ite queued.msix queued)

theorem Dev.Shows.deliverEvent (h : d.Shows keys e) {only : Option Nat} {x : LogEntry} : d.Shows keys (e.deliverEvent only x) := by
  cases only with
  | some c => exact h.pushEvent reports
  | none => exact h.foldl fun _ _ _ h => h.pushEvent reports

theorem Dev.Shows.hostEvent (h : d.Shows keys e) {src code : Nat} {st : Status} {only : Option Nat} {data : List Nat} :
    d.Shows keys (e.hostEvent src code st only data) := by
  have logged := fun (c : Nat) => (Dev.Shows.refl (keys := keys) e).logSev reports (sev := (Config.severity code).val) (src := src) (ev := .fixed code)
    (st := st) (host := true) (c := c) (data := data)
  refine h.trans ?_
  unfold Dev.hostEvent
  dsimp only
  split
  · exact (logged _).deliverEvent reports
  · next waiting =>
    refine ⟨?_, (logged _).regsOk, (logged _).word, fun run => absurd run waiting⟩
    conv_lhs => rw [(logged _).same]

end Log

end Sys2Proof.Machine
end

section
/-! Supplies, clocks and temperatures (chapter 18): the levels that follow power and temperature, and two statements on the supplies and on
the arrays that fail. -/
namespace Sys2Proof.Machine

set_option Elab.async false

/-! ### Refutations: the exit from Idle, and the rows of arrays and faults -/

/-- Peck 0 is in Idle at 10 ns. -/
def idlePeck : Dev := { time := 10, regs := [(RST_PECK_STATUS.key 0, 2 ^ RST_PECK_STATUS_IDLE.lo)] }

theorem idlePeck_idle : idlePeck.on RST_PECK_STATUS_IDLE 0 = true := by decide

theorem idlePeck_wakes_quiet : (idlePeck.wake 0).quietAt = [(0, 10)] := by decide

theorem exec_peckIdleExit (s : State) (p : Fin 128) : exec (.peckIdleExit p) s = .next (s.withDev (s.dev.wake p)) := rfl

/-- Refutes O51: its clause on the exit from Idle lets only the register's bit change, but a Peck that wakes is quiet from then on, which
the state holds too. -/
theorem not_suppliesFaultAndRestart : ¬ Obligations.SuppliesFaultAndRestart := by
  unfold Obligations.SuppliesFaultAndRestart
  rintro ⟨-, -, -, -, -, wakes, -⟩
  have woken := wakes (State.reset.withDev idlePeck) 0 idlePeck_idle
  rw [exec_peckIdleExit] at woken
  injection woken with same
  have quiet := congrArg (fun t : State => t.dev.quietAt) same
  have index : (0 : Fin 128).val = 0 := rfl
  rw [State.dev_withDev, State.dev_withDev, State.dev_withDev, index, idlePeck_wakes_quiet] at quiet
  exact absurd quiet (List.cons_ne_nil _ _)

/-- Refutes O59: its clause on Block resets is that of O50, with the same counterexample. -/
theorem not_arrayAndFaultRowsComplete : ¬ Obligations.ArrayAndFaultRowsComplete := by
  unfold Obligations.ArrayAndFaultRowsComplete
  rintro ⟨-, ⟨-, -, -, -, resets, -⟩, -⟩
  obtain ⟨t, ran, closed, -⟩ := resets (State.reset.withDev strayWrapper) 0 rfl strayWrapper_ordered
  rw [exec_blockReset] at ran
  injection ran with same
  have index : (0 : Fin 137).val = 0 := rfl
  rw [← same, State.dev_withDev, State.dev_withDev, index, strayWrapper_open] at closed
  exact Bool.false_ne_true closed

/-! ### Levels -/

/-- The keys that a level of the module's power writes: the core voltages, and those of the host event. -/
def PowerKeys (key : Nat) : Prop := Reporting key ∨ ∃ b < 16, key = PWR_VCORE.key b

variable {d e : Dev}

theorem Dev.Shows.setVcore {keys : Nat → Prop} (h : d.Shows keys e) {b : Nat} (own : keys (PWR_VCORE.key b)) :
    d.Shows keys (e.setVcore b) := by
  unfold Dev.setVcore
  exact .ite h (h.wr own)

theorem Dev.Shows.allVcore (h : d.Shows PowerKeys e) : d.Shows PowerKeys e.allVcore :=
  h.foldl fun _ b here h => h.setVcore (.inr ⟨b, List.mem_range.1 here, rfl⟩)

theorem PWR_LEVEL_not_powerKey : ¬ PowerKeys (PWR_LEVEL.key 0) := by
  simp only [PowerKeys, Reporting, not_or, not_exists, not_and]
  refine ⟨⟨by decide, by decide, by decide, by decide⟩, fun b lt => ?_⟩
  unfold Reg.key
  dsimp only [PWR_LEVEL, PWR_VCORE, Scope.lvl, Scope.shift]
  omega

/-- A new level is set with its time, whatever the host is told. -/
theorem Dev.setPowerLevel_shows (d : Dev) {l : Nat} (new : l ≠ d.rd PWR_LEVEL_POWER 0) :
    Dev.Shows PowerKeys { d.wr PWR_LEVEL_POWER 0 0 0 l with levelAt := d.time } (d.setPowerLevel l) := by
  rw [Dev.setPowerLevel, if_neg new]
  exact (Dev.Shows.refl _).allVcore.hostEvent fun _ => .inl

/-- Settles O52: the level's register keeps what is written, through the core voltages and the event, and the wait restarts in any case. -/
theorem peakPowerRaisesTheLevel : Obligations.PeakPowerRaisesTheLevel := by
  unfold Obligations.PeakPowerRaisesTheLevel
  intro s on ordered
  obtain ⟨ok, -⟩ := ordered
  have peak : s.dev.peakPower = { s.dev.setPowerLevel (min 11 (s.dev.rd PWR_LEVEL_POWER 0 + 4)) with levelAt := s.dev.time } := if_neg on
  refine ⟨_, s.to_eq peak, rfl, ?_⟩
  by_cases same : min 11 (s.dev.rd PWR_LEVEL_POWER 0 + 4) = s.dev.rd PWR_LEVEL_POWER 0
  · rw [Dev.setPowerLevel, if_pos same]
    exact ⟨same.symm, rfl, rfl, rfl, rfl, rfl⟩
  · have shows := s.dev.setPowerLevel_shows same
    refine ⟨?_, rfl, shows.mem, shows.arrays, shows.runs, shows.programs⟩
    calc (s.dev.setPowerLevel _).rd PWR_LEVEL_POWER 0 = (s.dev.wr PWR_LEVEL_POWER 0 0 0 _).rd PWR_LEVEL_POWER 0 :=
          shows.rd (Dev.regsOk_wr ok _ _ _ _ _) PWR_LEVEL_not_powerKey
      _ = _ % 2 ^ 4 := Dev.rd_wr_self ok PWR_LEVEL_POWER 0 0 0 _ (by decide) (by decide)
      _ = _ := by omega

/-! ### Evaluations, core voltages, the reference clock and temperatures -/

variable {s : State}

theorem exec_powerEvaluation (on : s.dev.life ≠ .off) (mean volt curr : BitVec 16) :
    exec (.powerEvaluation mean volt curr) s = .next (s.withDev (
      let d := ((s.dev.wr PWR_INPUT_P_POWER 0 0 0 mean.toNat).wr PWR_INPUT_VOLT 0 0 0 volt.toNat).wr PWR_INPUT_CURR 0 0 0 curr.toNat
      if s.dev.time < s.dev.levelAt + 1000000 then d
      else if 10 * s.dev.rd PWR_LIMIT_LIMIT 0 < mean.toNat then d.setPowerLevel (min 11 (s.dev.rd PWR_LEVEL_POWER 0 + 1))
      else if mean.toNat < 9 * s.dev.rd PWR_LIMIT_LIMIT 0 then d.setPowerLevel (s.dev.rd PWR_LEVEL_POWER 0 - 1)
      else d)) := s.to_eq (if_neg on)

/-- Settles O53: the module is on, and the branches of each rule are the model's. -/
theorem powerAndThermalLevelsFollow : Obligations.PowerAndThermalLevelsFollow := by
  unfold Obligations.PowerAndThermalLevelsFollow
  refine ⟨?power, ?voltage, ?clock, ?temperature, ?hbm⟩
  case power => exact fun s mean volt curr on => exec_powerEvaluation on mean volt curr
  case voltage => exact fun s b up m on => s.to_eq (if_pos on)
  case clock => exact fun s ppm on => s.to_eq (if_neg on)
  case temperature => exact fun s b t held on => s.to_eq (if_neg on)
  case hbm => exact fun s t held on => s.to_eq (if_neg on)

end Sys2Proof.Machine
end

section
/-! Starts and resets (chapter 19): RUN acknowledgement. -/
namespace Sys2Proof.Machine

set_option Elab.async false

variable {d e : Dev} {keys : Nat → Prop}

theorem Dev.Shows.extend (h : d.Shows keys e) {i : Nat} {value : List Nat} : d.Shows keys (e.extend i value) := h.still

theorem Dev.Shows.extendSecurity (h : d.Shows keys e) {f : Fuses} : d.Shows keys (e.extendSecurity f) := h.extend

section Log

variable (reports : ∀ key, Reporting key → keys key)
include reports

theorem Dev.Shows.logAdvance (h : d.Shows keys e) {old new : Fuses} : d.Shows keys (e.logAdvance old new) := by
  unfold Dev.logAdvance
  exact .ite h (h.hostEvent reports)

end Log

/-- The events held back until RUN go out, and no event is held any more. -/
theorem Dev.deliverHeld_shows (d : Dev) : Dev.Shows Reporting { d with heldEvents := [] } d.deliverHeld :=
  (Dev.Shows.refl _).foldl fun _ _ _ h => h.deliverEvent fun _ => id

/-- RUN acknowledgement, but for what it tells the host. -/
def Dev.acknowledged (d : Dev) : Dev :=
  ({ d with life := .run, mpKicked := d.time }.wr RST_START_RUN_ACK 0 0 0 1).wr RST_START_START_CNT 0 0 0 0

theorem Dev.runAck_shows (d : Dev) (old new : Fuses) : Dev.Shows Reporting { d.acknowledged with heldEvents := [] } (d.runAck old new) :=
  have reports : ∀ key, Reporting key → Reporting key := fun _ => id
  ((d.acknowledged.deliverHeld_shows.logAdvance reports).extendSecurity.extend).hostEvent reports

theorem RST_START_not_reporting : ¬ Reporting (RST_START.key 0) := by unfold Reporting; decide

/-- R647: RUN_ACK reads 1 and START_CNT 0. -/
theorem Dev.acknowledged_start (ok : d.regsOk) : d.acknowledged.regsOk
    ∧ d.acknowledged.rd RST_START_RUN_ACK 0 = 1 ∧ d.acknowledged.rd RST_START_START_CNT 0 = 0 := by
  unfold Dev.acknowledged
  generalize running : { d with life := .run, mpKicked := d.time } = r
  have ok : r.regsOk := running ▸ ok
  have acked := Dev.regsOk_wr ok RST_START_RUN_ACK 0 0 0 1
  have kept := Dev.rd_wr_field acked RST_START_START_CNT RST_START_RUN_ACK 0 0 0 0 rfl (by decide) (by decide) (by decide)
  exact ⟨Dev.regsOk_wr acked _ _ _ _ _, kept.trans (Dev.rd_wr_self ok RST_START_RUN_ACK 0 0 0 1 (by decide) (by decide)),
    Dev.rd_wr_self acked RST_START_START_CNT 0 0 0 0 (by decide) (by decide)⟩

theorem Dev.Shows.rd_heldEvents {events : List (Option Nat × LogEntry)} (h : Dev.Shows keys { d with heldEvents := events } e) (ok : d.regsOk)
    {fld : Fld} {u : Nat} (off : ¬ keys (fld.reg.key u)) : e.rd fld u = d.rd fld u := h.rd ok off

/-- What RUN acknowledgement tells the host leaves RST_START. -/
theorem Dev.runAck_start (ok : d.acknowledged.regsOk) (old new : Fuses) (fld : Fld) (own : fld.reg = RST_START) :
    (d.runAck old new).rd fld 0 = d.acknowledged.rd fld 0 :=
  (d.runAck_shows old new).rd_heldEvents ok (by rw [own]; exact RST_START_not_reporting)

/-- Settles O11: what RUN acknowledgement writes first is kept by what it tells the host, and the fuses advance by the image's SVN and by its
REVOKE field. -/
theorem runAckEndsTheStart : Obligations.RunAckEndsTheStart := by
  unfold Obligations.RunAckEndsTheStart
  refine ⟨fun s may ordered => ?_, fun s not_yet => exec_runAck_unasked not_yet⟩
  obtain ⟨ok, ack, count⟩ := Dev.acknowledged_start ordered.1
  have told := s.dev.runAck_shows s.fuses (s.fuses.advance s.dev.runningImage)
  exact ⟨_, exec_runAck_acknowledged may, rfl, told.life, (Dev.runAck_start ok _ _ _ rfl).trans ack,
    (Dev.runAck_start ok _ _ _ rfl).trans count, s.fuses.rbCount_advance _, s.fuses.revoked_advance _, told.held rfl⟩

end Sys2Proof.Machine
end

section
/-! Resets and Off (R619, R640, R646, R666, R668, R709, R711): what a Device reset, a Cold reset and the entry to Off leave. -/
namespace Sys2Proof.Machine

set_option Elab.async false

variable {d e : Dev} {keys : Nat → Prop}

/-! ### The parts of a reset -/

/-- The ports' last flits go out. -/
theorem Dev.quiescePorts_same (d : Dev) : d.quiescePorts = { d with ports := d.quiescePorts.ports, out := d.quiescePorts.out } := by
  have same : ∃ (ports : Tbl PortRec) (out : List OutMsg), d.quiescePorts = { d with ports := ports, out := out } := by
    unfold Dev.quiescePorts
    refine List.foldlRecOn (motive := fun e => ∃ (ports : Tbl PortRec) (out : List OutMsg), e = { d with ports := ports, out := out })
      (List.range 8) _ ⟨d.ports, d.out, rfl⟩ ?_
    rintro e ⟨ports, out, rfl⟩ p -
    split
    · exact ⟨_, _, rfl⟩
    · exact ⟨_, _, rfl⟩
  obtain ⟨ports, out, same⟩ := same
  rw [same]

theorem Dev.quiescePorts_time (d : Dev) : d.quiescePorts.time = d.time := by rw [d.quiescePorts_same]
theorem Dev.quiescePorts_mem (d : Dev) : d.quiescePorts.mem = d.mem := by rw [d.quiescePorts_same]
theorem Dev.quiescePorts_regs (d : Dev) : d.quiescePorts.regs = d.regs := by rw [d.quiescePorts_same]

theorem RST_CAUSE_not_reporting : ¬ Reporting (RST_CAUSE.key 0) := by unfold Reporting; decide

/-- The cause of a start reads as it was given, with no recovery. -/
theorem Dev.startCause_rd (ok : d.regsOk) {kind source : Nat} (kinds : kind < 4) (sources : source < 256) :
    (d.startCause kind source).rd RST_CAUSE_KIND 0 = kind ∧ (d.startCause kind source).rd RST_CAUSE_SOURCE 0 = source
      ∧ (d.startCause kind source).rd RST_CAUSE_RECOVERY 0 = 0 := by
  unfold Dev.startCause
  have ok₁ := Dev.regsOk_wr ok RST_CAUSE_KIND 0 0 0 kind
  have ok₂ := Dev.regsOk_wr ok₁ RST_CAUSE_SOURCE 0 0 0 source
  have ok₃ := Dev.regsOk_wr ok₂ RST_CAUSE_RECOVERY 0 0 0 0
  refine ⟨?_, ?_, ?_⟩
  · rw [Dev.rd_wr_field ok₃ RST_CAUSE_REC_WHY RST_CAUSE_KIND _ _ _ _ rfl (by decide) (by decide) (by decide),
      Dev.rd_wr_field ok₂ RST_CAUSE_RECOVERY RST_CAUSE_KIND _ _ _ _ rfl (by decide) (by decide) (by decide),
      Dev.rd_wr_field ok₁ RST_CAUSE_SOURCE RST_CAUSE_KIND _ _ _ _ rfl (by decide) (by decide) (by decide),
      Dev.rd_wr_self ok RST_CAUSE_KIND _ _ _ _ (by decide) (by decide)]
    exact Nat.mod_eq_of_lt kinds
  · rw [Dev.rd_wr_field ok₃ RST_CAUSE_REC_WHY RST_CAUSE_SOURCE _ _ _ _ rfl (by decide) (by decide) (by decide),
      Dev.rd_wr_field ok₂ RST_CAUSE_RECOVERY RST_CAUSE_SOURCE _ _ _ _ rfl (by decide) (by decide) (by decide),
      Dev.rd_wr_self ok₁ RST_CAUSE_SOURCE _ _ _ _ (by decide) (by decide)]
    exact Nat.mod_eq_of_lt sources
  · rw [Dev.rd_wr_field ok₃ RST_CAUSE_REC_WHY RST_CAUSE_RECOVERY _ _ _ _ rfl (by decide) (by decide) (by decide),
      Dev.rd_wr_self ok₂ RST_CAUSE_RECOVERY _ _ _ _ (by decide) (by decide)]
    exact Nat.zero_mod _

theorem Dev.Shows.startCause (h : d.Shows keys e) {kind source : Nat} (own : keys (RST_CAUSE.key 0)) :
    d.Shows keys (e.startCause kind source) := by
  have written : ∀ {e : Dev} {fld : Fld} {v : Nat}, fld.reg = RST_CAUSE → d.Shows keys e → d.Shows keys (e.wr fld 0 0 0 v) :=
    fun same h => h.wr (by rwa [same])
  exact written rfl (written rfl (written rfl (written rfl h)))

theorem Dev.Shows.lostUnlock (h : d.Shows keys e) (reports : ∀ key, Reporting key → keys key) {lost : Dev} :
    d.Shows keys (lost.lostUnlock e) := by
  unfold Dev.lostUnlock
  exact .ite (h.hostEvent reports) h

/-- What a start shows of its cause, whatever the host is told after. -/
theorem Dev.Shows.startCause_rd {kind source : Nat} (h : Dev.Shows Reporting (d.startCause kind source) e) (ok : d.regsOk) (kinds : kind < 4)
    (sources : source < 256) : e.rd RST_CAUSE_KIND 0 = kind ∧ e.rd RST_CAUSE_SOURCE 0 = source ∧ e.rd RST_CAUSE_RECOVERY 0 = 0 := by
  obtain ⟨shown_kind, shown_source, no_recovery⟩ := Dev.startCause_rd ok kinds sources
  have ok' : (d.startCause kind source).regsOk := (Dev.Keeps.refl d).startCause.regs ok
  generalize d.startCause kind source = f at h ok' shown_kind shown_source no_recovery
  have kept : ∀ fld : Fld, fld.reg = RST_CAUSE → e.rd fld 0 = f.rd fld 0 := fun fld own =>
    h.rd ok' (by rw [own]; exact RST_CAUSE_not_reporting)
  exact ⟨(kept _ rfl).trans shown_kind, (kept _ rfl).trans shown_source, (kept _ rfl).trans no_recovery⟩

/-! ### Device memory -/

/-- Addresses below 2^40 name cells of device memory or none. -/
theorem Dev.byte_deviceCells (wf : Memory.wf d.mem = true) (kept : e.mem = deviceCells d.mem) {a : Nat} (lt : a < 2 ^ 40) : e.byte a = d.byte a := by
  unfold Dev.byte
  split
  · next exist =>
    have below : decide (a < deviceMemory) = true := by
      rwa [cellExists, Nat.div_eq_of_lt (by omega), if_pos rfl, Nat.mod_eq_of_lt (by omega)] at exist
    have rising : Tbl.rising d.mem = true := (Bool.and_eq_true_iff.1 wf).1
    have found := Tbl.find_filter rising (fun cell => decide (cell < deviceMemory)) a
    rw [kept, Tbl.get, Tbl.get, deviceCells, found, if_pos below]
  · rfl

/-! ### A Device reset -/

/-- What a Device reset leaves, with device time and device memory as they were. -/
structure Dev.FreshAfter (d : Dev) (source : Nat) (t : Dev) : Prop where
  starting : t.life = .starting
  undone : t.startDone = false
  cause : t.rd RST_CAUSE_KIND 0 = 1 ∧ t.rd RST_CAUSE_SOURCE 0 = source ∧ t.rd RST_CAUSE_RECOVERY 0 = 0
  work : t.runs = [] ∧ t.programs = [] ∧ t.objects = []
  time : t.time = d.time
  bytes : ∀ a, a < 2 ^ 40 → t.byte a = d.byte a

theorem Dev.deviceReset_fresh (ok : d.regsOk) (wf : Memory.wf d.mem = true) {source : Nat} (sources : source < 256) :
    d.FreshAfter source (d.deviceReset source) := by
  unfold Dev.deviceReset
  extract_lets keepCfg d0 left d1 d2 d3
  have regs : d0.regsOk := by rwa [Dev.regsOk, d.quiescePorts_regs]
  have hd1 : d1.regsOk := (Dev.Keeps.refl d0).lost (l := .device) |>.regs regs
  have shown2 : Dev.Shows (fun _ => True) d1 d2 := .ite ((Dev.Shows.refl d1).setWord trivial) (.refl d1)
  have shown3 : Dev.Shows (fun _ => True) d1 d3 := .ite shown2 (shown2.wr trivial)
  have told : Dev.Shows Reporting (d3.startCause 1 source) (d0.lostUnlock (d3.startCause 1 source)) := (Dev.Shows.refl _).lostUnlock fun _ => id
  have all := (shown3.startCause (kind := 1) (source := source) trivial).trans (told.mono fun _ _ => trivial)
  have mem : d1.mem = deviceCells d.mem := congrArg deviceCells d.quiescePorts_mem
  have time : d1.time = d.time := d.quiescePorts_time
  exact {
    starting := all.life
    undone := all.startDone
    cause := told.startCause_rd (shown3.regsOk hd1) (by decide) sources
    work := ⟨all.runs, all.programs, all.objects⟩
    time := all.time.trans time
    bytes := fun a lt => Dev.byte_deviceCells wf (all.mem.trans mem) lt }

/-- R503: the third restart of the management processor within 60 s is a Device reset. -/
theorem Dev.mpRestart_third (cause : Nat) (run : d.life = .run) (serving : d.mpDown = false)
    (many : 2 ≤ (d.mpCauses.filter (fun t => decide (d.time ≤ t + 60000000000))).length) :
    d.mpRestart cause = (d.countRestart cause).2.deviceReset 0x06 := by
  have third : 3 ≤ (d.countRestart cause).1 := by
    show 3 ≤ (d.mpCauses.filter (fun t => decide (d.time ≤ t + 60000000000))).length + 1
    omega
  rw [Dev.mpRestart, if_pos ⟨.inl run, serving⟩]
  exact if_pos third

/-- The times of the restarts before are no part of what is shown. -/
theorem Dev.Shows.mpCauses {keys : Nat → Prop} {d e : Dev} (h : d.Shows keys e) (causes : List Nat) :
    Dev.Shows keys { d with mpCauses := causes } { e with mpCauses := causes } :=
  ⟨by conv_lhs => rw [h.same], h.regsOk, h.word, h.held⟩

theorem Dev.countRestart_shows (d : Dev) (cause : Nat) : ∃ causes,
    Dev.Shows (fun _ => True) { d with mpCauses := causes } (d.countRestart cause).2 := by
  refine ⟨d.mpCauses.filter (fun t => decide (d.time ≤ t + 60000000000)) ++ [d.time], ?_⟩
  unfold Dev.countRestart
  extract_lets live n d1
  have counted : d.Shows (fun _ => True) d1 := ((Dev.Shows.refl d).wr trivial).wr trivial
  clear_value d1
  exact (counted.mpCauses _).hostEvent fun _ _ => trivial

theorem Dev.FreshAfter.mpRestart (ok : d.regsOk) (wf : Memory.wf d.mem = true) (cause : Nat) :
    d.FreshAfter 0x06 ((d.countRestart cause).2.deviceReset 0x06) := by
  obtain ⟨causes, shown⟩ := d.countRestart_shows cause
  have fresh := Dev.deviceReset_fresh (shown.regsOk ok) (by rwa [shown.mem]) (source := 0x06) (by decide)
  refine { fresh with time := fresh.time.trans shown.time, bytes := fun a lt => (fresh.bytes a lt).trans ?_ }
  rw [Dev.byte, Dev.byte, shown.mem]

/-- What DEVICE_RESET does in a module that is not Off, with a source that a Device reset has. -/
theorem Dev.resetFrom_device (on : d.life ≠ .off) {source : Nat} (of : source = 0x04 ∨ source = 0x06 ∨ source = 0x07 ∨ source = 0x08) :
    d.resetFrom source = d.deviceReset source := by
  unfold Dev.resetFrom
  rw [if_neg on, if_neg (by omega), if_neg (by omega), if_pos (by omega)]

theorem Dev.resetFrom_waiting (on : d.life ≠ .off) {source due : Nat} (asked : source = 0x05)
    (waits : d.pendingReset = some ⟨false, 0x05, due⟩) (fallen : due ≤ d.time) : d.resetFrom source = d.deviceReset source := by
  subst asked
  unfold Dev.resetFrom
  rw [if_neg on, if_pos (.inr rfl), waits]
  exact (if_pos ⟨rfl, fallen⟩).trans (if_neg Bool.false_ne_true)

theorem Dev.resetFrom_perst (on : d.life ≠ .off) {source : Nat} (perst : source = 0x03) :
    d.resetFrom source = { d.deviceReset source with perst := true } := by
  subst perst
  unfold Dev.resetFrom
  rw [if_neg on]
  rfl

/-- PERST# beside a reset. -/
theorem Dev.FreshAfter.perst {source : Nat} (h : d.FreshAfter source e) {b : Bool} : d.FreshAfter source { e with perst := b } := { h with }

/-- Settles O36: every one of the events is a Device reset, of a module that has counted a restart where the management processor brings it. -/
theorem deviceResetsLeaveAFreshModule : Obligations.DeviceResetsLeaveAFreshModule := by
  unfold Obligations.DeviceResetsLeaveAFreshModule
  intro s c source ordered event
  obtain ⟨ok, wf, -⟩ := ordered
  have reset {source : Nat} := Dev.deviceReset_fresh ok wf (source := source)
  have ran : ∃ t, exec c s = s.to t ∧ s.dev.FreshAfter source t := by
    obtain ⟨rfl, rfl, on⟩ | ⟨rfl, rfl, on⟩ | ⟨n, rfl, rfl, on, of⟩ | ⟨restarts, rfl, run, serving, many⟩ := event
    · exact ⟨_, congrArg s.to (if_neg on), (reset (by decide)).perst⟩
    · exact ⟨_, congrArg s.to (if_neg on), reset (by decide)⟩
    · by_cases perst : n.val = 0x03
      · exact ⟨_, congrArg s.to (Dev.resetFrom_perst on perst), (reset n.isLt).perst⟩
      · refine ⟨_, congrArg s.to ?_, reset n.isLt⟩
        by_cases asked : n.val = 0x05
        · obtain ⟨-, due, waits, fallen⟩ : n.val = 0x05 ∧ _ := by simpa [asked] using of
          exact Dev.resetFrom_waiting on asked waits fallen
        · exact Dev.resetFrom_device on (by omega)
    · obtain ⟨rfl, due⟩ | ⟨b, rfl⟩ := restarts
      · exact ⟨_, congrArg s.to ((if_pos due).trans (Dev.mpRestart_third 1 run serving many)), .mpRestart ok wf _⟩
      · exact ⟨_, congrArg s.to (Dev.mpRestart_third _ run serving many), .mpRestart ok wf _⟩
  obtain ⟨t, ran, fresh⟩ := ran
  obtain ⟨kind, shown, no_recovery⟩ := fresh.cause
  obtain ⟨runs, programs, objects⟩ := fresh.work
  exact ⟨_, ran, rfl, fresh.starting, fresh.undone, kind, shown, no_recovery, runs, programs, objects, fresh.time, fresh.bytes⟩

end Sys2Proof.Machine
end

section
/-! Off is entered and left (R619, R640, R666, R709, R711), and O38 from it. -/
namespace Sys2Proof.Machine

set_option Elab.async false

variable {d e : Dev}

/-- What the entry to Off leaves. -/
theorem Dev.enterOff_leaves (ok : d.regsOk) {cause : Nat} (causes : cause < 256) :
    let t := d.enterOff cause
    t.life = .off ∧ t.railsOn = 0 ∧ t.rd RST_OFF_CAUSE_CAUSE 0 = cause ∧ t.mem = [] ∧ t.tripN = decide (cause ≠ 1) ∧ t.offAt = d.time
      ∧ t.runs = [] ∧ t.log = [] := by
  unfold Dev.enterOff
  extract_lets d1
  have regs : d.quiescePorts.regsOk := by rwa [Dev.regsOk, d.quiescePorts_regs]
  have kept : d1.regsOk := (Dev.Keeps.refl d.quiescePorts).logEntry.lost.regs regs
  generalize fresh : { d1 with life := .off, offAt := d.time, perstOff := d.perst, railsOn := 0, tripN := decide (cause ≠ 1) } = off
  have ok : off.regsOk := fresh ▸ kept
  have shown := (Dev.rd_wr_self ok RST_OFF_CAUSE_CAUSE 0 0 0 cause (by decide) (by decide)).trans (Nat.mod_eq_of_lt causes)
  subst fresh
  exact ⟨rfl, rfl, shown, rfl, rfl, rfl, rfl, rfl⟩

/-- The same after what the host is told. -/
theorem Dev.inputFault_leaves (on : d.life ≠ .off) (ok : d.regsOk) (cause : Nat) :
    let t := d.inputFault cause
    t.life = .off ∧ t.railsOn = 0 ∧ t.rd RST_OFF_CAUSE_CAUSE 0 = 2 ∧ t.mem = [] ∧ t.tripN = true ∧ t.offAt = d.time ∧ t.runs = [] ∧ t.log = [] := by
  have told := (Dev.Shows.refl (keys := fun _ => True) d).hostEvent (src := srcPower) (code := 0x0607) (st := .ok) (only := none)
    (data := [cause]) fun _ _ => trivial
  have left := Dev.enterOff_leaves (told.regsOk ok) (cause := 2) (by decide)
  rw [Dev.inputFault, if_neg on]
  rwa [told.time] at left

/-- R619: what the always-on supply leaves. -/
theorem Dev.powerOn_leaves (ok : d.regsOk) :
    let t := d.powerOn
    t.life = .starting ∧ t.startDone = false ∧ t.time = 0 ∧ t.rd RST_CAUSE_KIND 0 = 0 ∧ t.rd RST_CAUSE_SOURCE 0 = 1 ∧ t.mem = []
      ∧ t.perst = d.perst := by
  have kept : (d.lost .cold).regsOk := (Dev.Keeps.refl d).lost.regs ok
  unfold Dev.powerOn Dev.coldReset
  extract_lets left d1 t
  have regs : d1.regsOk := kept
  have told : Dev.Shows Reporting (d1.startCause 0 1) (d.lostUnlock (d1.startCause 0 1)) := (Dev.Shows.refl _).lostUnlock fun _ => id
  obtain ⟨kind, source, -⟩ := told.startCause_rd regs (by decide) (by decide)
  exact ⟨told.life, told.startDone, told.time, kind, source, told.mem, rfl⟩

/-- Settles O38: what the entries to Off leave, and the branch that each event out of Off takes. -/
theorem offIsEnteredAndLeft : Obligations.OffIsEnteredAndLeft := by
  unfold Obligations.OffIsEnteredAndLeft
  refine ⟨?input, ?presence, ?restored, ?asserted, ?deasserted, ?running, ?power⟩
  case input =>
    intro s n on ordered
    obtain ⟨off, rails, cause, mem, trip, time, runs, log⟩ := Dev.inputFault_leaves on ordered.1 n.val
    exact ⟨_, rfl, rfl, off, rails, cause, mem, trip, time, runs, log⟩
  case presence =>
    intro s on ordered
    obtain ⟨off, -, cause, -⟩ := Dev.inputFault_leaves on ordered.1 1
    exact ⟨rfl, _, rfl, off, cause⟩
  case restored => exact fun s off cause => s.to_eq (if_pos ⟨off, cause⟩)
  case asserted => exact fun s off => s.to_eq (if_pos off)
  case deasserted =>
    intro s off perst cause waited
    have begins : s.dev.perstDeassert = { s.dev with perst := false, startDue := true }.beginDue := if_pos ⟨off, perst, cause⟩
    exact s.to_eq (begins.trans (if_pos ⟨off, rfl, waited⟩))
  case running => exact fun s on => s.to_eq (if_neg fun ⟨off, _⟩ => on off)
  case power =>
    intro s ordered
    obtain ⟨starting, undone, time, kind, source, mem, perst⟩ := Dev.powerOn_leaves ordered.1
    exact ⟨_, rfl, rfl, starting, undone, time, kind, source, mem, perst⟩

end Sys2Proof.Machine
end

section
/-! Starts (R646, R649, R655 to R657, R683): the early phases, the image, and the records; and O39 from it. -/
namespace Sys2Proof.Machine

set_option Elab.async false

variable {d e f : Dev}

/-! ### What the phases of a start leave alone -/

/-- `e` comes from `d` by work that leaves the module's life, its images and the image that runs alone. -/
structure Dev.Boots (d e : Dev) : Prop where
  life : e.life = d.life
  active : e.active = d.active
  other : e.other = d.other
  image : e.runningImage = d.runningImage
  slot : e.runningSlot = d.runningSlot

theorem Dev.Boots.refl (d : Dev) : d.Boots d := ⟨rfl, rfl, rfl, rfl, rfl⟩

theorem Dev.Boots.trans (h : d.Boots e) (h' : e.Boots f) : d.Boots f :=
  ⟨h'.life.trans h.life, h'.active.trans h.active, h'.other.trans h.other, h'.image.trans h.image, h'.slot.trans h.slot⟩

theorem Dev.Boots.ite {p : Prop} [Decidable p] (h : d.Boots e) (h' : d.Boots f) : d.Boots (if p then e else f) := by
  split
  · exact h
  · exact h'

theorem Dev.Boots.foldl {α : Type} {g : Dev → α → Dev} {xs : List α} (h : d.Boots e) (step : ∀ (e : Dev) (x : α), d.Boots e → d.Boots (g e x)) :
    d.Boots (xs.foldl g e) :=
  List.foldlRecOn (motive := d.Boots) xs g h (fun e so_far x _ => step e x so_far)

theorem Dev.Shows.boots {keys : Nat → Prop} (h : d.Shows keys e) : d.Boots e :=
  ⟨h.life, by rw [h.same], by rw [h.same], by rw [h.same], by rw [h.same]⟩

theorem Dev.Boots.shows (h : d.Boots e) (shown : e.Shows (fun _ => True) f) : d.Boots f := h.trans shown.boots

section Parts

variable (h : d.Boots e)
include h

theorem Dev.Boots.wr {fld : Fld} {u n k v : Nat} : d.Boots (e.wr fld u n k v) := h.shows ((Dev.Shows.refl e).wr trivial)
theorem Dev.Boots.setWord {r : Reg} {u n k v : Nat} : d.Boots (e.setWord r u n k v) := h.shows ((Dev.Shows.refl e).setWord trivial)
theorem Dev.Boots.modArr {a : Nat} {g : ArrayRec → ArrayRec} : d.Boots (e.modArr a g) := h.trans ⟨rfl, rfl, rfl, rfl, rfl⟩
theorem Dev.Boots.metaChanged : d.Boots e.metaChanged := h.trans ⟨rfl, rfl, rfl, rfl, rfl⟩
theorem Dev.Boots.stir {p : Nat} : d.Boots (e.stir p) := h.trans ⟨rfl, rfl, rfl, rfl, rfl⟩
theorem Dev.Boots.setMeta {fld : Fld} {a v : Nat} : d.Boots (e.setMeta fld a v) := h.wr.metaChanged
theorem Dev.Boots.setArrState {a st : Nat} : d.Boots (e.setArrState a st) := .ite h h.wr

theorem Dev.Boots.hostEvent {src code : Nat} {st : Status} {only : Option Nat} {data : List Nat} :
    d.Boots (e.hostEvent src code st only data) := h.shows ((Dev.Shows.refl e).hostEvent fun _ _ => trivial)

theorem Dev.Boots.diag {src : Nat} {x : Diag} {st : Status} {data : List Nat} : d.Boots (e.diag src x st data) :=
  h.shows ((Dev.Shows.refl e).diag fun _ _ => trivial)

theorem Dev.Boots.writeEpoch : d.Boots e.writeEpoch := h.shows ((Dev.Shows.refl e).writeEpoch fun _ _ => trivial)

theorem Dev.Boots.allVcore : d.Boots e.allVcore :=
  h.foldl fun e _ h => h.shows ((Dev.Shows.refl e).setVcore trivial)

theorem Dev.Boots.loseTarget {a : Nat} : d.Boots (e.loseTarget a) := by
  have decided : ∀ {e : Dev} {due : List Nat} {queue : List QueueEntry}, d.Boots e → d.Boots { e with due := due, queue := queue } :=
    fun h => h.trans ⟨rfl, rfl, rfl, rfl, rfl⟩
  unfold Dev.loseTarget
  extract_lets st
  refine .ite ?_ h
  split
  · exact h.setArrState.metaChanged.modArr
  · exact decided h.setArrState.metaChanged.modArr

theorem Dev.Boots.loadScan {b : Nat} {es : List Nat} : d.Boots (e.loadScan b es) := by
  have loaded : ∀ {e : Dev} {len at_ : Tbl Nat} {armed : List Nat}, d.Boots e → d.Boots { e with monLen := len, monArmed := armed, monAt := at_ } :=
    fun h => h.trans ⟨rfl, rfl, rfl, rfl, rfl⟩
  unfold Dev.loadScan
  exact loaded (h.foldl fun _ _ h => h.wr.wr)

theorem Dev.Boots.reloadScan {b : Nat} {log : Bool} : d.Boots (e.reloadScan b log) := by
  unfold Dev.reloadScan
  exact .ite h.loadScan.diag h.loadScan

theorem Dev.Boots.branchSelfTest {b result : Nat} : d.Boots (e.branchSelfTest b result) := by
  unfold Dev.branchSelfTest
  exact .ite h.wr.wr.wr.wr.wr.wr h.wr.wr.wr.wr.wr.wr

theorem Dev.Boots.makeTable {a : Nat} : d.Boots (e.makeTable a) := by
  -- the definition is opened as a function: applied, its match would have the kernel compute the table
  suffices opened : ∀ F, F = Dev.makeTable → d.Boots (F e a) from opened _ rfl
  intro F def_
  delta Dev.makeTable at def_
  subst def_
  beta_reduce
  generalize correctionTable _ _ = table
  cases table with
  | none => exact h
  | some t => exact h.modArr.wr

theorem Dev.Boots.readBack {a : Nat} {levels : Option (List (Nat × Nat))} : d.Boots (e.readBack a levels) := by
  unfold Dev.readBack Dev.rebuildTable
  exact .ite h.modArr.makeTable.diag h.modArr.makeTable

theorem Dev.Boots.checkRecords {rep : StartReport} {lost : Bool} : d.Boots (e.checkRecords rep lost) :=
  h.foldl fun _ _ h => .ite h (.ite h.readBack h)

theorem Dev.Boots.addLost : d.Boots e.addLost := by
  unfold Dev.addLost
  exact (h.foldl fun _ _ h => .ite h h.setMeta.setMeta).diag

theorem Dev.Boots.linkTrained {rate width : Nat} {flit : Bool} : d.Boots (e.linkTrained rate width flit) := by
  unfold Dev.linkTrained
  exact .ite h.wr.wr.wr h.wr.wr.wr.hostEvent

theorem Dev.Boots.loadTrims {f : Fuses} : d.Boots (e.loadTrims f) := by
  unfold Dev.loadTrims
  exact h.setWord.foldl (fun _ _ h => .ite (.ite (.wr (.wr (.wr (.ite h.wr.wr h.wr)))) (.ite h.wr.wr h.wr)) (.hostEvent (.ite (.wr (.wr
      (.wr (.ite h.wr.wr h.wr)))) (.ite h.wr.wr h.wr))))

theorem Dev.Boots.bondTests {failed : List Nat} : d.Boots (e.bondTests failed) := by
  unfold Dev.bondTests
  exact h.foldl (fun _ _ h => .ite h (.ite h.wr.wr.wr h.wr.wr.wr.wr))

theorem Dev.Boots.early {f : Fuses} {failed : List Nat} : d.Boots (e.early f failed).2 := by
  unfold Dev.early
  exact h.loadTrims.bondTests.wr

theorem Dev.Boots.logStart {why : Nat} : d.Boots (e.logStart why) := by
  unfold Dev.logStart
  exact h.wr.wr.hostEvent

theorem Dev.Boots.extend {i : Nat} {value : List Nat} : d.Boots (e.extend i value) := h.shows (Dev.Shows.refl e).extend

theorem Dev.Boots.measureStart : d.Boots e.measureStart := by
  have emptied : ∀ {e : Dev} {m : List (Nat × Nat)}, d.Boots e → d.Boots { e with measures := m } := fun h => h.trans ⟨rfl, rfl, rfl, rfl, rfl⟩
  unfold Dev.measureStart
  exact (emptied h).extend.extend.extend

end Parts

/-- R649: the records, the branches and the clocks come up on the image that runs. -/
theorem Dev.Boots.bringUp (h : d.Boots e) (rep : StartReport) (kind : Nat) : d.Boots (e.bringUp rep kind) := by
  have emptied : ∀ {e : Dev} {mem : List Host.Cell}, d.Boots e → d.Boots { e with mem := mem } := fun h => h.trans ⟨rfl, rfl, rfl, rfl, rfl⟩
  have done : ∀ {e : Dev} {b : Bool}, d.Boots e → d.Boots { e with startDone := b } := fun h => h.trans ⟨rfl, rfl, rfl, rfl, rfl⟩
  unfold Dev.bringUp
  refine .allVcore (done (.checkRecords ?_))
  refine .foldl ?_ fun _ _ h => h.stir
  refine .foldl ?_ fun _ _ h => h.reloadScan.branchSelfTest
  refine .foldl ?_ fun _ _ h => h.loseTarget
  exact .ite (emptied h).addLost (emptied h)

theorem Dev.allVcore_startDone (d : Dev) : d.allVcore.startDone = d.startDone :=
  List.foldlRecOn (motive := fun e => e.startDone = d.startDone) (List.range 16) _ rfl fun e so_far _ _ =>
    ((Dev.Shows.refl (keys := fun _ => True) e).setVcore trivial).startDone.trans so_far

theorem Dev.bringUp_startDone (d : Dev) (rep : StartReport) (kind : Nat) : (d.bringUp rep kind).startDone = true := Dev.allVcore_startDone _

/-! ### The early phases: trims and bond tests (R646) -/

/-- A fold that goes through every element establishes for each what its own step establishes and no step undoes. -/
theorem foldl_forall_mem {α β : Type} {g : β → α → β} {inv : β → Prop} {P : α → β → Prop} (xs : List α)
    (still : ∀ e, ∀ x ∈ xs, inv e → inv (g e x)) (own : ∀ e, ∀ x ∈ xs, inv e → P x (g e x))
    (kept : ∀ e, ∀ x ∈ xs, ∀ y, y ≠ x → inv e → P y e → P y (g e x)) (e : β) (start : inv e) :
    inv (xs.foldl g e) ∧ ∀ x ∈ xs, P x (xs.foldl g e) := by
  have all : ∀ (ys : List α) (e : β), (∀ y ∈ ys, y ∈ xs) → inv e → inv (ys.foldl g e) ∧ (∀ x, (x ∈ ys ∨ P x e) → x ∈ xs → P x (ys.foldl g e)) := by
    intro ys
    induction ys with
    | nil => exact fun e _ inv => ⟨inv, fun x h _ => h.resolve_left List.not_mem_nil⟩
    | cons y ys ih =>
      intro e sub inv
      obtain ⟨inv', each⟩ := ih (g e y) (fun z h => sub z (.tail _ h)) (still e y (sub y (.head _)) inv)
      refine ⟨inv', fun x h here => each x ?_ here⟩
      by_cases same : x = y
      · exact .inr (same ▸ own e y (sub y (.head _)) inv)
      · refine h.imp (fun h => (List.mem_cons.1 h).resolve_left same) (kept e y (sub y (.head _)) x same inv)
  exact ⟨(all xs e (fun _ => id) start).1, fun x here => (all xs e (fun _ => id) start).2 x (.inl here) here⟩

/-- The step of the trims' load for one set. -/
def Dev.loadTrim (f : Fuses) (d : Dev) (s : Nat) : Dev :=
  let k := f.copyOf s
  let w := d.rd RST_TRIM_STATUS_COPY 0
  let d1 := d.wr RST_TRIM_STATUS_COPY 0 0 0 (setBits w (2 * s + 1) (2 * s) k)
  let d2 := if k = 3 then d1.wr RST_TRIM_STATUS_RESULT 0 0 0 Status.trimInvalid.code else d1
  let d3 := if s < 4 then (((d2.wr RST_STACK_STATUS_COPY s 0 0 k).wr RST_STACK_STATUS_TRIM_VALID s 0 0 (b2n (k != 3))).wr
    RST_STACK_STATUS_HELD s 0 0 (b2n (k == 3))) else d2
  if k = 1 then d3 else d3.hostEvent srcReset 0x0702 (if k = 3 then .trimInvalid else .ok) none [s, k]

theorem Dev.loadTrims_eq (d : Dev) (f : Fuses) :
    d.loadTrims f = [4, 0, 1, 2, 3].foldl (Dev.loadTrim f) (d.setWord RST_TRIM_STATUS 0 0 0 0) := rfl

/-- The keys that the load of a set's trims writes. -/
def TrimKeys (s key : Nat) : Prop := Reporting key ∨ key = RST_TRIM_STATUS.key 0 ∨ key = RST_STACK_STATUS.key s

theorem RST_STACK_STATUS_not_trimKey {s s' : Nat} (lt : s' < 4) (ne : s' ≠ s) : ¬ TrimKeys s (RST_STACK_STATUS.key s') := by
  unfold TrimKeys Reporting Reg.key
  dsimp only [RST_STACK_STATUS, RST_TRIM_STATUS, LOG_WR_CNT, LOG_EPOCH, LOG_COALESCE_CNT, Scope.lvl, Scope.shift]
  omega

theorem Dev.loadTrim_shows (d : Dev) (f : Fuses) (s : Nat) : d.Shows (TrimKeys s) (Dev.loadTrim f d s) := by
  have trim : ∀ {e : Dev} {fld : Fld} {v : Nat}, fld.reg = RST_TRIM_STATUS → d.Shows (TrimKeys s) e → d.Shows (TrimKeys s) (e.wr fld 0 0 0 v) :=
    fun same h => h.wr (.inr (.inl (by rw [same])))
  have stack : ∀ {e : Dev} {fld : Fld} {v : Nat}, fld.reg = RST_STACK_STATUS → d.Shows (TrimKeys s) e → d.Shows (TrimKeys s) (e.wr fld s 0 0 v) :=
    fun same h => h.wr (.inr (.inr (by rw [same])))
  unfold Dev.loadTrim
  extract_lets k w d1 d2 d3
  have hd1 : d.Shows (TrimKeys s) d1 := trim rfl (.refl d)
  have hd2 : d.Shows (TrimKeys s) d2 := .ite (trim rfl hd1) hd1
  have hd3 : d.Shows (TrimKeys s) d3 := .ite (stack rfl (stack rfl (stack rfl hd2))) hd2
  exact .ite hd3 (hd3.hostEvent fun _ => .inl)

/-- A stack whose trims are good is not held. -/
theorem Dev.loadTrim_held (ok : d.regsOk) {f : Fuses} {s : Nat} (good : f.copyOf s ≠ 3) (lt : s < 4) :
    (Dev.loadTrim f d s).rd RST_STACK_STATUS_HELD s = 0 := by
  unfold Dev.loadTrim
  extract_lets k w d1 d2 d3
  have hd2 : d2.regsOk := by
    have kept : d.Keeps d2 := .ite (Dev.Keeps.refl d).wr.wr (Dev.Keeps.refl d).wr
    exact kept.regs ok
  clear_value d2
  have free : d3.rd RST_STACK_STATUS_HELD s = 0 := by
    have not_held : (k == 3) = false := beq_eq_false_iff_ne.2 good
    dsimp only [d3]
    rw [if_pos lt, Dev.rd_wr_self (Dev.regsOk_wr (Dev.regsOk_wr hd2 _ _ _ _ _) _ _ _ _ _) _ _ _ _ _ (by decide) (by decide), not_held]
    exact Nat.zero_mod _
  have hd3 : d3.regsOk := by
    have kept : d2.Keeps d3 := .ite (Dev.Keeps.refl d2).wr.wr.wr (.refl d2)
    exact kept.regs hd2
  clear_value d3
  split
  · exact free
  · have off : ¬ Reporting (RST_STACK_STATUS.key s) := fun here => RST_STACK_STATUS_not_trimKey lt (s := 4) (by omega) (.inl here)
    refine Eq.trans ?_ free
    exact Dev.Shows.rd (fld := RST_STACK_STATUS_HELD) ((Dev.Shows.refl d3).hostEvent fun _ => id) hd3 off

theorem Dev.loadTrims_held (ok : d.regsOk) {f : Fuses} (good : ∀ set < 5, f.copyOf set ≠ 3) :
    (d.loadTrims f).regsOk ∧ ∀ s < 4, (d.loadTrims f).rd RST_STACK_STATUS_HELD s = 0 := by
  obtain ⟨regs, held⟩ := foldl_forall_mem (g := Dev.loadTrim f) (inv := Dev.regsOk)
    (P := fun set e => set < 4 → e.rd RST_STACK_STATUS_HELD set = 0) [4, 0, 1, 2, 3]
    (fun e set _ ok => (e.loadTrim_shows f set).regsOk ok)
    (fun e set here ok lt => Dev.loadTrim_held ok (good set (by omega)) lt)
    (fun e set _ other ne ok free lt => ((e.loadTrim_shows f set).rd (fld := RST_STACK_STATUS_HELD) ok (RST_STACK_STATUS_not_trimKey lt ne)).trans (free lt))
    (d.setWord RST_TRIM_STATUS 0 0 0 0) (Dev.regsOk_setWord ok _ _ _ _ _)
  rw [Dev.loadTrims_eq]
  refine ⟨regs, fun s lt => held s ?_ lt⟩
  simp only [List.mem_cons]
  omega

/-- The bond test of one stack. -/
def Dev.bondTest (failed : List Nat) (d : Dev) (s : Nat) : Dev :=
  if d.on RST_STACK_STATUS_HELD s then d
  else
    let n := nth failed s
    let d1 := ((d.wr FLT_BOND_STATUS_DONE s 0 0 1).wr FLT_BOND_STATUS_PASS s 0 0 (b2n (n == 0))).wr FLT_BOND_STATUS_FAILED s 0 0
      (min n 0xFFFF)
    if n = 0 then d1 else d1.wr RST_STACK_STATUS_HELD s 0 0 1

theorem Dev.bondTests_eq (d : Dev) (failed : List Nat) : d.bondTests failed = (List.range 4).foldl (Dev.bondTest failed) d := rfl

/-- The test of a stack that is not held and passes. -/
theorem Dev.bondTest_passed {failed : List Nat} {s : Nat} (free : d.rd RST_STACK_STATUS_HELD s = 0) (passes : nth failed s = 0) :
    Dev.bondTest failed d s = ((d.wr FLT_BOND_STATUS_DONE s 0 0 1).wr FLT_BOND_STATUS_PASS s 0 0 1).wr FLT_BOND_STATUS_FAILED s 0 0 0 := by
  unfold Dev.bondTest
  rw [Dev.on, free, passes]
  rfl

theorem Dev.bondTest_shows {failed : List Nat} {s : Nat} (free : d.rd RST_STACK_STATUS_HELD s = 0) (passes : nth failed s = 0) :
    d.Shows (· = FLT_BOND_STATUS.key s) (Dev.bondTest failed d s) := by
  have tested : ∀ {e : Dev} {fld : Fld} {v : Nat}, fld.reg = FLT_BOND_STATUS → d.Shows (· = FLT_BOND_STATUS.key s) e
    → d.Shows (· = FLT_BOND_STATUS.key s) (e.wr fld s 0 0 v) := fun same h => h.wr (by rw [same])
  rw [Dev.bondTest_passed free passes]
  exact tested rfl (tested rfl (tested rfl (.refl d)))

theorem Dev.bondTest_pass (ok : d.regsOk) {failed : List Nat} {s : Nat} (free : d.rd RST_STACK_STATUS_HELD s = 0) (passes : nth failed s = 0) :
    (Dev.bondTest failed d s).rd FLT_BOND_STATUS_PASS s = 1 := by
  rw [Dev.bondTest_passed free passes]
  have done := Dev.regsOk_wr ok FLT_BOND_STATUS_DONE s 0 0 1
  have passed := Dev.regsOk_wr done FLT_BOND_STATUS_PASS s 0 0 1
  exact (Dev.rd_wr_field passed FLT_BOND_STATUS_FAILED FLT_BOND_STATUS_PASS _ _ _ _ rfl (by decide) (by decide) (by decide)).trans
    (Dev.rd_wr_self done FLT_BOND_STATUS_PASS _ _ _ _ (by decide) (by decide))

theorem RST_STACK_STATUS_key_ne {s s' : Nat} : RST_STACK_STATUS.key s' ≠ FLT_BOND_STATUS.key s := by
  unfold Reg.key
  dsimp only [RST_STACK_STATUS, FLT_BOND_STATUS, Scope.lvl, Scope.shift]
  omega

theorem FLT_BOND_STATUS_key_ne {s s' : Nat} (ne : s' ≠ s) : FLT_BOND_STATUS.key s' ≠ FLT_BOND_STATUS.key s := by
  unfold Reg.key
  dsimp only [FLT_BOND_STATUS, Scope.lvl, Scope.shift]
  omega

/-- No stack is held, so every one is tested, and none fails. -/
theorem Dev.bondTests_pass (ok : d.regsOk) (free : ∀ s < 4, d.rd RST_STACK_STATUS_HELD s = 0) {failed : List Nat} (passes : ∀ i, nth failed i = 0) :
    ∀ s < 4, (d.bondTests failed).rd FLT_BOND_STATUS_PASS s = 1 := by
  have free_after (e : Dev) (s : Nat) (ok : e.regsOk) (free : ∀ s < 4, e.rd RST_STACK_STATUS_HELD s = 0) (lt : s < 4) :
      ∀ s' < 4, (Dev.bondTest failed e s).rd RST_STACK_STATUS_HELD s' = 0 := fun s' lt' =>
    ((Dev.bondTest_shows (free s lt) (passes s)).rd (fld := RST_STACK_STATUS_HELD) ok RST_STACK_STATUS_key_ne).trans (free s' lt')
  have tested := foldl_forall_mem (g := Dev.bondTest failed) (inv := fun e => e.regsOk ∧ ∀ s < 4, e.rd RST_STACK_STATUS_HELD s = 0)
    (P := fun s e => e.rd FLT_BOND_STATUS_PASS s = 1) (List.range 4)
    (fun e s here inv => ⟨(Dev.bondTest_shows (inv.2 s (List.mem_range.1 here)) (passes s)).regsOk inv.1,
      free_after e s inv.1 inv.2 (List.mem_range.1 here)⟩)
    (fun e s here inv => Dev.bondTest_pass inv.1 (inv.2 s (List.mem_range.1 here)) (passes s))
    (fun e s here other ne inv pass => ((Dev.bondTest_shows (inv.2 s (List.mem_range.1 here)) (passes s)).rd (fld := FLT_BOND_STATUS_PASS) inv.1
      (FLT_BOND_STATUS_key_ne ne)).trans pass) d ⟨ok, free⟩
  rw [Dev.bondTests_eq]
  exact fun s lt => tested.2 s (List.mem_range.2 lt)

/-- With good trims and bond tests passed the early phases find no cause for minimal recovery mode. -/
theorem Dev.early_good (ok : d.regsOk) {f : Fuses} (good : ∀ set < 5, f.copyOf set ≠ 3) {failed : List Nat} (passes : ∀ i, nth failed i = 0) :
    (d.early f failed).1 = 0 := by
  obtain ⟨regs, free⟩ := Dev.loadTrims_held ok good
  have passed := Dev.bondTests_pass regs free passes
  have no_bad : (List.range 5).any (fun s => f.copyOf s == 3) = false := by
    rw [List.any_eq_false]
    exact fun s here => by simpa using good s (List.mem_range.1 here)
  unfold Dev.early
  extract_lets d1 bad bond
  have no_bond : bond = false := by
    refine List.any_eq_false.2 fun s here => ?_
    rw [Dev.on, Dev.on, passed s (List.mem_range.1 here)]
    simp
  have hbad : bad = false := no_bad
  rw [hbad, no_bond]
  rfl

/-! ### Starts -/

theorem Dev.recoveryStart_life (d : Dev) (why : Nat) : (d.recoveryStart why).life = .recovery := by
  unfold Dev.recoveryStart
  exact Dev.Boots.life (.logStart (.wr (.refl _)))

theorem Dev.bootImage_none {f : Fuses} (active : d.active.verify f ≠ .ok) (other : d.other.verify f ≠ .ok) : d.bootImage f = (false, d) := by
  unfold Dev.bootImage
  rw [if_neg active, if_neg other]

theorem Dev.bootImage_active {f : Fuses} (active : d.active.verify f = .ok) :
    d.bootImage f = (true, { d with runningSlot := 0, runningImage := d.active }) := by
  unfold Dev.bootImage
  rw [if_pos active]

/-- A start that is not Off has none due from Off. -/
theorem Dev.start_starting (starting : d.life = .starting) (f : Fuses) (rep : StartReport) : d.start f rep = d.runStart_ f rep := by
  have not_off : d.beginDue = d := if_neg (by simp [starting])
  rw [Dev.start, not_off]

/-- What a start does before it looks at the image: its rails, its count, the early phases. -/
def Dev.startPhases (d : Dev) (f : Fuses) (rep : StartReport) : Nat × Dev :=
  let kind := d.rd RST_CAUSE_KIND 0
  let d1 := if kind = 1 then d else d.writeEpoch
  let d2 := ({ d1 with railsOn := allRails, mpKicked := d.time, tripN := d1.tripN && kind == 1 }.wr PWR_RAIL_STATUS_GOOD 0 0 0 allRails).countWrap RST_START_TOTAL_COUNT 0 0
  (d2.wr RST_START_RUN_ACK 0 0 0 0).early f rep.bondFailed

theorem Dev.startPhases_boots (d : Dev) (f : Fuses) (rep : StartReport) : d.Boots (d.startPhases f rep).2 := by
  have powered : ∀ {e : Dev} {rails kicked : Nat} {trip : Bool}, d.Boots e → d.Boots { e with railsOn := rails, mpKicked := kicked, tripN := trip } :=
    fun h => h.trans ⟨rfl, rfl, rfl, rfl, rfl⟩
  unfold Dev.startPhases
  exact .early (.wr (.wr (.wr (powered (.ite (.refl d) (Dev.Boots.refl d).writeEpoch)))))

theorem Dev.startPhases_good (ok : d.regsOk) {f : Fuses} (good : ∀ set < 5, f.copyOf set ≠ 3) {rep : StartReport}
    (passes : ∀ i, nth rep.bondFailed i = 0) : (d.startPhases f rep).1 = 0 := by
  have powered : ∀ {e : Dev} {rails kicked : Nat} {trip : Bool}, d.Keeps e → d.Keeps { e with railsOn := rails, mpKicked := kicked, tripN := trip } :=
    fun h => h.still
  unfold Dev.startPhases
  extract_lets kind d1 d2
  have kept : d.Keeps (d2.wr RST_START_RUN_ACK 0 0 0 0) := .wr (.wr (.wr (powered (.ite (.refl d) (Dev.Keeps.refl d).writeEpoch))))
  exact Dev.early_good (kept.regs ok) good passes

/-- A start on what it finds of an image: minimal recovery mode, or up. -/
def Dev.startImage (rep : StartReport) (kind : Nat) : Bool × Dev → Dev
  | (false, d5) => d5.recoveryStart 8
  | (true, d5) =>
    let d6 := (d5.wr RST_START_START_CNT 0 0 0 (min 7 (d5.rd RST_START_START_CNT 0 + 1))).wr SEC_STATUS_SLOT 0 0 0 d5.runningSlot
    (d6.measureStart.logStart 0).bringUp rep kind

theorem Dev.startImage_boots (d : Dev) (rep : StartReport) (kind : Nat) : d.Boots (Dev.startImage rep kind (true, d)) :=
  (Dev.Boots.refl d).wr.wr.measureStart.logStart.bringUp rep kind

theorem Dev.startImage_startDone (d : Dev) (rep : StartReport) (kind : Nat) : (Dev.startImage rep kind (true, d)).startDone = true :=
  Dev.bringUp_startDone _ rep kind

/-- A start from its phases on. -/
def Dev.startOn (d : Dev) (f : Fuses) (rep : StartReport) (phases : Nat × Dev) : Dev :=
  let d4 := phases.2.linkTrained rep.rate rep.width rep.flit
  let why1 := phases.1 + b2n (decide (3 ≤ d.rd RST_START_START_CNT 0))
  if why1 ≠ 0 then d4.recoveryStart why1 else Dev.startImage rep (d.rd RST_CAUSE_KIND 0) (d4.bootImage f)

theorem Dev.runStart_eq (starting : d.life = .starting) (undone : d.startDone = false) (free : d.perst = false) (f : Fuses) (rep : StartReport) :
    d.runStart_ f rep = d.startOn f rep (d.startPhases f rep) := if_pos ⟨starting, undone, free⟩

/-- R649: on good phases the module comes up on the ACTIVE image. -/
theorem Dev.startOn_active (few : d.rd RST_START_START_CNT 0 < 3) {f : Fuses} (rep : StartReport) {phases : Nat × Dev} (good : phases.1 = 0)
    (boots : d.Boots phases.2) (active : d.active.verify f = .ok) :
    ∃ e, e.life = d.life ∧ e.runningImage = d.active ∧ e.runningSlot = 0
      ∧ d.startOn f rep phases = Dev.startImage rep (d.rd RST_CAUSE_KIND 0) (true, e) := by
  unfold Dev.startOn
  extract_lets d4 why1
  have none_found : ¬ why1 ≠ 0 := by
    have not_fourth : decide (3 ≤ d.rd RST_START_START_CNT 0) = false := decide_eq_false (by omega)
    dsimp only [why1]
    rw [good, not_fourth]
    exact fun h => h rfl
  have trained : d.Boots d4 := boots.linkTrained
  clear_value d4 why1
  refine ⟨{ d4 with runningSlot := 0, runningImage := d4.active }, trained.life, trained.active, rfl, ?_⟩
  rw [if_neg none_found, Dev.bootImage_active (by rwa [trained.active])]

/-- R655, R683: the fourth start, or one without an image that verifies, ends in minimal recovery mode. -/
theorem Dev.startOn_recovery {f : Fuses} (rep : StartReport) {phases : Nat × Dev} (boots : d.Boots phases.2)
    (why : 3 ≤ d.rd RST_START_START_CNT 0 ∨ (d.active.verify f ≠ .ok ∧ d.other.verify f ≠ .ok)) : (d.startOn f rep phases).life = .recovery := by
  unfold Dev.startOn
  extract_lets d4 why1
  have trained : d.Boots d4 := boots.linkTrained
  by_cases found : why1 ≠ 0
  · rw [if_pos found]
    exact Dev.recoveryStart_life _ _
  · obtain fourth | ⟨active, other⟩ := why
    · have not_zero : why1 = phases.1 + 1 := by
        dsimp only [why1]
        rw [decide_eq_true fourth]
        rfl
      omega
    · clear_value d4 why1
      rw [if_neg found, Dev.bootImage_none (by rwa [trained.active]) (by rwa [trained.other])]
      exact Dev.recoveryStart_life _ _

/-- Settles O39: what the phases find, and the image that the start then boots. -/
theorem startsComeUp : Obligations.StartsComeUp := by
  unfold Obligations.StartsComeUp
  refine ⟨?up, ?recovery, ?link⟩
  case up =>
    intro s rep starting undone free ordered few trims passes active
    have good : ∀ set < 5, s.fuses.copyOf set ≠ 3 := fun set lt => by
      unfold Fuses.copyOf
      obtain a | b := trims set lt
      · rw [a]
        exact of_decide_eq_true rfl
      · rw [b]
        split
        · decide
        · decide
    have came := Dev.startPhases_good (d := s.dev) ordered.1 good passes
    obtain ⟨e, life, image, slot, up⟩ := Dev.startOn_active few rep came (s.dev.startPhases_boots s.fuses rep) active
    have ran := (s.dev.start_starting starting s.fuses rep).trans ((Dev.runStart_eq starting undone free s.fuses rep).trans up)
    have boots := e.startImage_boots rep (s.dev.rd RST_CAUSE_KIND 0)
    have done := e.startImage_startDone rep (s.dev.rd RST_CAUSE_KIND 0)
    generalize Dev.startImage rep (s.dev.rd RST_CAUSE_KIND 0) (true, e) = t at ran boots done
    exact ⟨_, s.to_eq ran, rfl, boots.life.trans (life.trans starting), done, boots.image.trans image, boots.slot.trans slot⟩
  case recovery =>
    intro s rep starting undone free why
    have ran := (s.dev.start_starting starting s.fuses rep).trans (Dev.runStart_eq starting undone free s.fuses rep)
    have recovered := Dev.startOn_recovery (f := s.fuses) rep (s.dev.startPhases_boots s.fuses rep) why
    generalize s.dev.startOn s.fuses rep (s.dev.startPhases s.fuses rep) = e at ran recovered
    exact ⟨_, s.to_eq ran, rfl, recovered⟩
  case link => exact fun s rate width flit => rfl

end Sys2Proof.Machine
end

section
/-! Ports (R571, R597 to R600): what each row does to a port that is free to go on, and O54 from it. -/
namespace Sys2Proof.Machine

set_option Elab.async false

variable {d : Dev} {p : Nat}

section
variable (free : d.portFree p = true)
include free

theorem Dev.portRetry_due (down : d.portState p = pDown) (enabled : d.on FUR_PORT_STATUS_EN p = true)
    (due : (d.port p).retryNow = true ∨ (d.port p).since + d.rd FUR_RETRY_CFG_RETRY p * 1000000 ≤ d.time) :
    d.portRetry p = d.setPort p pDetect := by
  have waited : ((d.port p).retryNow || decide ((d.port p).since + d.rd FUR_RETRY_CFG_RETRY p * 1000000 ≤ d.time)) = true := by
    rwa [Bool.or_eq_true, decide_eq_true_eq]
  unfold Dev.portRetry
  simp only [free, down, enabled, waited, decide_true, Bool.and_self, if_true]

/-- A port in the state that a row is about. -/
theorem Dev.port_in {st : Nat} (at_ : d.portState p = st) : (d.portFree p && decide (d.portState p = st)) = true := by
  rw [free, at_, decide_eq_true rfl]
  rfl

theorem Dev.portTimeout_late {st : Nat} (at_ : d.portState p = st) {ms : Nat} (late : (d.port p).since + ms * 1000000 ≤ d.time) (cause : Nat) :
    d.portTimeout p st ms cause = d.portDown p cause := by
  have due : (d.portFree p && decide (d.portState p = st) && decide ((d.port p).since + ms * 1000000 ≤ d.time)) = true := by
    rw [Dev.port_in free at_, decide_eq_true late]
    rfl
  exact if_pos due

theorem Dev.detectComplete_in (at_ : d.portState p = pDetect) (opens shorts : Fin 16) :
    d.detectComplete p opens shorts =
      (let d1 := (List.range 4).foldl (fun (d : Dev) l => d.setLane p l (128 * b2n (bit opens l) + 64 * b2n (bit shorts l))) d
      if opens.val ≠ 0 then d1.portDown p 0x02 else if shorts.val ≠ 0 then d1.portDown p 0x03 else d1.setPort p pTrain) := by
  unfold Dev.detectComplete
  rw [if_pos (Dev.port_in free at_), Nat.mod_eq_of_lt opens.isLt, Nat.mod_eq_of_lt shorts.isLt]

/-- The last of the three ATTEST messages. -/
theorem Dev.attestFlit_last {msg index count len : Nat} {bytes a b e : List Nat} :
    let r := d.modPort p (fun r => { r with
      attest := Tbl.put (Tbl.put r.attest (msg * 65536 + index) bytes) (2 ^ 24 + msg) [count, len] })
    d.portState p = pAttest → 2 ≤ msg → msg ≤ 4 → index < count →
    (r.port p).whole 2 = some a → (r.port p).whole 3 = some b → (r.port p).whole 4 = some e →
    d.attestFlit p msg index count len bytes =
      if partnerAccepted (r.port p).partnerHash e (Config.transcript [a, b] p) then r.portUp p [a, b, e]
      else ((r.count SEC_AUTH_FAIL_CNT_COUNT 0 0).hostEvent srcSecurity 0x0804 .authFailed none (4 :: leBytes 2 (d.rd FUR_PARTNER_NODE p))).portDown
        p 0x08 := by
  intro r at_ first last within second third fourth
  have taken : (d.portFree p && decide (d.portState p = pAttest) && decide (2 ≤ msg ∧ msg ≤ 4) && decide (index < count)) = true := by
    rw [Dev.port_in free at_, decide_eq_true ⟨first, last⟩, decide_eq_true within]
    rfl
  unfold Dev.attestFlit
  rw [if_pos taken]
  extract_lets before r'
  simp only [r', second, third, fourth]

end

/-- Settles O54: each row on a port that is free, in its state. -/
theorem portsComeUpInOrder : Obligations.PortsComeUpInOrder := by
  unfold Obligations.PortsComeUpInOrder
  refine ⟨⟨?retry, ?detect, ?train, ?identify, ?late, ?lock⟩, ?attest⟩
  case retry => exact fun s p free down enabled due => s.to_eq (Dev.portRetry_due free down enabled due)
  case detect => exact fun s p opens shorts free at_ => s.to_eq (Dev.detectComplete_in free at_ opens shorts)
  case train => exact fun s p polarity logical free at_ => s.to_eq (if_pos (Dev.port_in free at_))
  case identify => exact fun s p theirs node valid version hash free at_ => s.to_eq (if_pos (Dev.port_in free at_))
  case late =>
    intro s p free
    exact ⟨fun at_ late => s.to_eq (Dev.portTimeout_late free at_ late _), fun at_ late => s.to_eq (Dev.portTimeout_late free at_ late _),
      fun at_ late => s.to_eq (Dev.portTimeout_late free at_ late _)⟩
  case lock =>
    intro s p lanes up some_lost
    refine s.to_eq (if_pos ⟨up, ?_⟩)
    rwa [Nat.mod_eq_of_lt lanes.isLt]
  case attest =>
    intro s p msg index count len zeros bytes a b e d free at_ first last within second third fourth
    exact s.to_eq (Dev.attestFlit_last free at_ first last within second third fourth)

end Sys2Proof.Machine
end

section
/-! What packets, answers, withdrawals and the end of an attempt leave: the FUR_PORT_STATUS of the ports, the tensors that the attempt has
compressed, and the lists of copies to send and chunks to rebuild. A task may name a local counter of any number, whose register then has the place
of another, so work that posts the waits of tasks leaves the ports only where a statement rules such strays out. -/
namespace Sys2Proof.Machine

set_option Elab.async false

/-- `e` comes from `d` by work that leaves the attempt's compressed tensors, the snapshots and the rebuild, and the ports' status but for strays. -/
structure Dev.Leaves (strays : Prop) (d e : Dev) : Prop where
  regsOk : d.regsOk → e.regsOk
  port : ¬ strays → d.regsOk → ∀ p < 8, e.word FUR_PORT_STATUS p = d.word FUR_PORT_STATUS p
  compressed : e.attempt.map Attempt.compressed = d.attempt.map Attempt.compressed
  snapshots : e.snapshots = d.snapshots
  rebuild : e.rebuild = d.rebuild

variable {strays : Prop} {d e f : Dev}

theorem Dev.Leaves.refl (d : Dev) : d.Leaves strays d := ⟨id, fun _ _ _ _ => rfl, rfl, rfl, rfl⟩

theorem Dev.Leaves.trans (h : d.Leaves strays e) (h' : e.Leaves strays f) : d.Leaves strays f where
  regsOk ok := h'.regsOk (h.regsOk ok)
  port none ok p lt := (h'.port none (h.regsOk ok) p lt).trans (h.port none ok p lt)
  compressed := h'.compressed.trans h.compressed
  snapshots := h'.snapshots.trans h.snapshots
  rebuild := h'.rebuild.trans h.rebuild

/-- Work on other parts of the state. -/
theorem Dev.Leaves.still (h : d.Leaves strays e) (same : (f.regs, f.attempt, f.snapshots, f.rebuild) = (e.regs, e.attempt, e.snapshots, e.rebuild) := by rfl) :
    d.Leaves strays f := by
  simp only [Prod.mk.injEq] at same
  obtain ⟨regs, attempt, snapshots, rebuild⟩ := same
  exact h.trans ⟨fun ok => by rwa [Dev.regsOk, regs], fun _ _ p _ => by rw [Dev.word, regs, Dev.word], by rw [attempt], snapshots, rebuild⟩

/-- The module that a pair holds. -/
theorem Dev.Leaves.made {α : Type} {x : α × Dev} {a : α} (h : d.Leaves strays x.2) (made : x = (a, e)) : d.Leaves strays e := by rwa [made] at h

theorem Dev.Leaves.ite {p : Prop} [Decidable p] (h : d.Leaves strays e) (h' : d.Leaves strays f) : d.Leaves strays (if p then e else f) := by
  split
  · exact h
  · exact h'

theorem Dev.Leaves.ite_snd {α : Type} {p : Prop} [Decidable p] {x y : α × Dev} (h : d.Leaves strays x.2) (h' : d.Leaves strays y.2) :
    d.Leaves strays (if p then x else y).2 := by
  split
  · exact h
  · exact h'

theorem Dev.Leaves.foldl {α : Type} {g : Dev → α → Dev} {xs : List α} (h : d.Leaves strays e)
    (step : ∀ (e : Dev) (x : α), d.Leaves strays e → d.Leaves strays (g e x)) : d.Leaves strays (xs.foldl g e) :=
  List.foldlRecOn (motive := d.Leaves strays) xs g h (fun e so_far x _ => step e x so_far)

theorem Dev.Leaves.foldlMem {α : Type} {g : Dev → α → Dev} {xs : List α} (h : d.Leaves strays e)
    (step : ∀ (e : Dev), ∀ x ∈ xs, d.Leaves strays e → d.Leaves strays (g e x)) : d.Leaves strays (xs.foldl g e) :=
  List.foldlRecOn (motive := d.Leaves strays) xs g h (fun e so_far x here => step e x here so_far)

/-- Work on an accumulator that holds the module. -/
theorem Dev.Leaves.foldlIn {α β : Type} (at_ : β → Dev) {g : β → α → β} {xs : List α} {b : β} (h : d.Leaves strays (at_ b))
    (step : ∀ (b : β) (x : α), d.Leaves strays (at_ b) → d.Leaves strays (at_ (g b x))) : d.Leaves strays (at_ (xs.foldl g b)) :=
  List.foldlRecOn (motive := fun b => d.Leaves strays (at_ b)) xs g h (fun b so_far x _ => step b x so_far)

/-! ### Registers -/

/-- Units are 4 MiB apart or more, and a port's status stands at the start of its own. -/
theorem port_key_ne {r : Reg} {n k : Nat} (away : (r.base + n * r.s1 + k * r.s2) % 2 ^ 22 ≠ 0) (p u : Nat) :
    FUR_PORT_STATUS.key p ≠ r.key u n k := by
  have status : FUR_PORT_STATUS.key p % 2 ^ 22 = 0 := by
    unfold Reg.key
    dsimp only [FUR_PORT_STATUS, Scope.lvl, Scope.shift]
    omega
  have other : r.key u n k % 2 ^ 22 = (r.base + n * r.s1 + k * r.s2) % 2 ^ 22 := by
    unfold Reg.key
    cases r.scope <;> dsimp only [Scope.lvl, Scope.shift] <;> omega
  intro same
  exact away (other.symm.trans (same ▸ status))

/-- The registers of the functions lie above those of the ports. -/
theorem port_key_ne_fn {r : Reg} (fn : r.scope = .fn) {p : Nat} (lt : p < 8) (u n k : Nat) : FUR_PORT_STATUS.key p ≠ r.key u n k := by
  unfold Reg.key
  rw [fn]
  dsimp only [FUR_PORT_STATUS, Scope.lvl, Scope.shift]
  omega

theorem Dev.Leaves.setWord_at (h : d.Leaves strays e) {r : Reg} {u n k v : Nat} (away : ∀ p < 8, FUR_PORT_STATUS.key p ≠ r.key u n k) :
    d.Leaves strays (e.setWord r u n k v) :=
  h.trans ⟨fun ok => Dev.regsOk_setWord ok _ _ _ _ _, fun _ ok p lt => Dev.word_setWord_other ok _ _ _ _ _ _ _ _ _ (away p lt), rfl, rfl,
    rfl⟩

/-- A write of any register, where strays are not ruled out. -/
theorem Dev.Leaves.wr_any (h : d.Leaves True e) {fld : Fld} {u n k v : Nat} : d.Leaves True (e.wr fld u n k v) :=
  h.trans ⟨fun ok => Dev.regsOk_wr ok _ _ _ _ _, fun none => absurd trivial none, rfl, rfl, rfl⟩

theorem Dev.Leaves.setWord (h : d.Leaves strays e) {r : Reg} {u n k v : Nat}
    (away : (r.base + n * r.s1 + k * r.s2) % 2 ^ 22 ≠ 0 := by decide) : d.Leaves strays (e.setWord r u n k v) :=
  h.setWord_at fun p _ => port_key_ne away p u

theorem Dev.Leaves.wr (h : d.Leaves strays e) {fld : Fld} {u n k v : Nat}
    (away : (fld.reg.base + n * fld.reg.s1 + k * fld.reg.s2) % 2 ^ 22 ≠ 0 := by decide) : d.Leaves strays (e.wr fld u n k v) := h.setWord away

theorem Dev.Leaves.wr_fn (h : d.Leaves strays e) {fld : Fld} {u n k v : Nat} (fn : fld.reg.scope = .fn := by rfl) :
    d.Leaves strays (e.wr fld u n k v) := h.setWord_at fun _ lt => port_key_ne_fn fn lt u n k

theorem Dev.Leaves.setWord_fn (h : d.Leaves strays e) {r : Reg} {u n k v : Nat} (fn : r.scope = .fn := by rfl) :
    d.Leaves strays (e.setWord r u n k v) := h.setWord_at fun _ lt => port_key_ne_fn fn lt u n k

theorem Dev.Leaves.count (h : d.Leaves strays e) {fld : Fld} {u n by_ : Nat}
    (away : (fld.reg.base + n * fld.reg.s1 + 0 * fld.reg.s2) % 2 ^ 22 ≠ 0 := by decide) : d.Leaves strays (e.count fld u n by_) := h.wr away

theorem Dev.Leaves.countWrap (h : d.Leaves strays e) {fld : Fld} {u n by_ : Nat}
    (away : (fld.reg.base + n * fld.reg.s1 + 0 * fld.reg.s2) % 2 ^ 22 ≠ 0 := by decide) : d.Leaves strays (e.countWrap fld u n by_) := h.wr away

/-- Log entries and events for the host. -/
theorem Dev.Leaves.shows (h : d.Leaves strays e) (shown : e.Shows Reporting f) : d.Leaves strays f := by
  refine h.trans ⟨shown.regsOk, fun _ ok p lt => shown.word ok _ _ _ _ ?_, by rw [shown.same], by rw [shown.same],
    by rw [shown.same]⟩
  unfold Reporting Reg.key
  dsimp only [FUR_PORT_STATUS, LOG_WR_CNT, LOG_EPOCH, LOG_COALESCE_CNT, Scope.lvl, Scope.shift]
  omega

/-! ### Parts of the state -/

theorem Dev.Leaves.modAttempt (h : d.Leaves strays e) {g : Attempt → Attempt} (keep : ∀ a, (g a).compressed = a.compressed := by exact fun _ => rfl) :
    d.Leaves strays (e.modAttempt g) :=
  h.trans ⟨id, fun _ _ _ _ => rfl, by rw [Dev.modAttempt, Option.map_map]; exact Option.map_congr (fun a _ => keep a), rfl, rfl⟩

theorem Dev.Leaves.modTask (h : d.Leaves strays e) {i : Nat} {g : TaskRun → TaskRun} : d.Leaves strays (e.modTask i g) := h.modAttempt

theorem Dev.Leaves.modArr (h : d.Leaves strays e) {a : Nat} {g : ArrayRec → ArrayRec} : d.Leaves strays (e.modArr a g) := h.still
theorem Dev.Leaves.modCtx (h : d.Leaves strays e) {c : Nat} {g : CtxRec → CtxRec} : d.Leaves strays (e.modCtx c g) := h.still
theorem Dev.Leaves.modPort (h : d.Leaves strays e) {p : Nat} {g : PortRec → PortRec} : d.Leaves strays (e.modPort p g) := h.still
theorem Dev.Leaves.stir (h : d.Leaves strays e) {p : Nat} : d.Leaves strays (e.stir p) := h.still
theorem Dev.Leaves.setObj (h : d.Leaves strays e) {k : Nat} {o : SyncObj} : d.Leaves strays (e.setObj k o) := h.still
theorem Dev.Leaves.forgetWaits (h : d.Leaves strays e) {mine : WaiterWho → Bool} : d.Leaves strays (e.forgetWaits mine) := h.still
theorem Dev.Leaves.markIsolated (h : d.Leaves strays e) : d.Leaves strays e.markIsolated := h.modAttempt

theorem Dev.Leaves.hostEvent (h : d.Leaves strays e) {src code : Nat} {st : Status} {only : Option Nat} {data : List Nat} :
    d.Leaves strays (e.hostEvent src code st only data) := h.shows ((Dev.Shows.refl e).hostEvent fun _ => id)

theorem Dev.Leaves.diag (h : d.Leaves strays e) {src : Nat} {x : Diag} {st : Status} {data : List Nat} : d.Leaves strays (e.diag src x st data) :=
  h.shows ((Dev.Shows.refl e).diag fun _ => id)

theorem Dev.Leaves.msix (h : d.Leaves strays e) {c v : Nat} : d.Leaves strays (e.msix c v) := h.shows (Dev.Shows.refl e).msix

end Sys2Proof.Machine
end

section
/-! Packets, slots, the barrier and withdrawals leave the ports' status, the compressed tensors, the snapshots and the rebuild. -/
namespace Sys2Proof.Machine

set_option Elab.async false

variable {strays : Prop} {d e f : Dev}

theorem Packet.cls_lt (pk : Packet) : pk.cls < 6 := by
  unfold Packet.cls
  split
  · split
    · decide
    · decide
  all_goals decide

theorem Dev.Leaves.setCredits (h : d.Leaves strays e) {p c sub v : Nat} (small : c < 6) : d.Leaves strays (e.setCredits p c sub v) := by
  have away : (FUR_CREDIT.base + c * FUR_CREDIT.s1 + 0 * FUR_CREDIT.s2) % 2 ^ 22 ≠ 0 := by
    dsimp only [FUR_CREDIT]
    omega
  unfold Dev.setCredits
  exact .ite (h.wr away) (h.wr away)

theorem Dev.Leaves.transmit (h : d.Leaves strays e) {p : Nat} {pk : Packet} : d.Leaves strays (e.transmit p pk) := by
  unfold Dev.transmit
  extract_lets _ _ d1 d2
  have hd1 : d.Leaves strays d1 := (h.setCredits pk.cls_lt).wr
  have hd2 : d.Leaves strays d2 := hd1.modPort
  exact hd2.still

theorem Dev.Leaves.pump (h : d.Leaves strays e) {p : Nat} : d.Leaves strays (e.pump p) := by
  unfold Dev.pump
  refine (Dev.Leaves.foldlIn Prod.fst h fun b pk so_far => ?_).modPort
  dsimp only
  split
  · exact so_far.transmit
  · exact so_far

theorem Dev.Leaves.enqueuePacket (h : d.Leaves strays e) {p : Nat} {pk : Packet} : d.Leaves strays (e.enqueuePacket p pk) := by
  unfold Dev.enqueuePacket
  exact h.modPort.pump

theorem Dev.Leaves.depart (h : d.Leaves strays e) {way : Option Nat} {pk : Packet} : d.Leaves strays (e.depart way pk) := by
  unfold Dev.depart
  split
  · exact h.enqueuePacket
  · exact h.still

theorem Dev.Leaves.showTtags (h : d.Leaves strays e) : d.Leaves strays e.showTtags := by
  unfold Dev.showTtags
  exact h.wr

theorem Dev.Leaves.originate (h : d.Leaves strays e) {pk : Packet} {why : Purpose} {answered : Bool} : d.Leaves strays (e.originate pk why answered).2 := by
  unfold Dev.originate
  split
  · exact h
  · extract_lets _
    refine .ite_snd ?_ h.depart
    split
    · exact h.still
    · exact h.still.showTtags.depart

theorem Dev.Leaves.putWords (h : d.Leaves strays e) {c k i : Nat} {ws : List Nat} : d.Leaves strays (e.putWords c k i ws) := by
  induction ws generalizing e i with
  | nil => exact h
  | cons w ws ih => exact ih h.wr_fn

theorem Dev.Leaves.setSlot (h : d.Leaves strays e) {c s st : Nat} : d.Leaves strays (e.setSlot c s st) := by
  unfold Dev.setSlot
  exact h.setWord_fn

theorem Dev.Leaves.finishSlot (h : d.Leaves strays e) {c s : Nat} {st : Status} {words : List Nat} : d.Leaves strays (e.finishSlot c s st words) := by
  unfold Dev.finishSlot
  exact .ite h.putWords.setSlot.modCtx.wr_fn.msix h.putWords.setSlot.modCtx.wr_fn

theorem Dev.Leaves.finishWaiting (h : d.Leaves strays e) {c s : Nat} {w : SlotWait} {st : Status} {words : List Nat} :
    d.Leaves strays (e.finishWaiting c s w st words) := by
  unfold Dev.finishWaiting
  exact .ite h.finishSlot h

theorem Dev.Leaves.triggers (h : d.Leaves strays e) {i : Nat} : d.Leaves strays (e.triggers i) := by
  unfold Dev.triggers
  exact h.modAttempt fun a => by split <;> rfl

theorem Dev.Leaves.mirrorLost (h : d.Leaves strays e) : d.Leaves strays e.mirrorLost := by
  unfold Dev.mirrorLost
  exact h.still.wr.hostEvent

theorem Dev.Leaves.copyBarrier (h : d.Leaves strays e) {k : Nat} : d.Leaves strays (e.copyBarrier k) := by
  unfold Dev.copyBarrier
  split
  · next st d1 made =>
    have hd1 : d.Leaves strays d1 := h.originate.made made
    exact .ite hd1 h.mirrorLost

theorem Dev.Leaves.sendOutcome (h : d.Leaves strays e) {k : Nat} : d.Leaves strays (e.sendOutcome k) := by
  unfold Dev.sendOutcome
  split
  · split
    · exact .foldl (h.setObj.foldl (fun _ _ h => .ite h.still h.originate)) (fun _ _ h => by
      split
      · exact h.finishWaiting
      · exact h.originate
      · exact h)
    · exact h
  · exact h

theorem Dev.Leaves.decideBarrier (h : d.Leaves strays e) {k : Nat} {st : Status} : d.Leaves strays (e.decideBarrier k st) := by
  unfold Dev.decideBarrier
  split
  · split
    · exact .ite h.setObj.copyBarrier h.setObj.sendOutcome
    · exact h
  · exact h

theorem Dev.Leaves.barrierArrive (h : d.Leaves strays e) {k node step attempt : Nat} {cause : Status} :
    d.Leaves strays (e.barrierArrive k node step attempt cause) := by
  unfold Dev.barrierArrive
  split
  · split
    · exact .ite h.count (.ite h.setObj.decideBarrier h.setObj)
    · exact h
  · exact h

theorem Dev.Leaves.signalBarrier (h : d.Leaves strays e) {cause : Status} : d.Leaves strays (e.signalBarrier cause) := by
  unfold Dev.signalBarrier
  split
  · exact h
  · refine .ite h ?_
    extract_lets d1
    have hd1 : d.Leaves strays d1 := h.modAttempt
    split
    · exact hd1.barrierArrive
    · split
      · next st d2 made =>
        have hd2 : d.Leaves strays d2 := hd1.originate.made made
        exact .ite hd2 hd2.count
    · exact hd1

theorem Dev.Leaves.releaseOther (h : d.Leaves strays e) {w : Waiter} {seen : Nat} : d.Leaves strays (e.releaseOther w seen) := by
  unfold Dev.releaseOther
  split
  · exact h
  · exact h.modTask
  · exact h.finishWaiting
  · exact h.originate
  · exact h.triggers

theorem Dev.Leaves.withdrawRemote (h : d.Leaves strays e) {mine : WaiterWho → Bool} : d.Leaves strays (e.withdrawRemote mine) := by
  unfold Dev.withdrawRemote
  exact h.forgetWaits.foldl (fun _ _ h => h.originate)

theorem Dev.Leaves.refuseCut (h : d.Leaves strays e) : d.Leaves strays e.refuseCut := by
  unfold Dev.refuseCut
  split
  · exact .ite h.signalBarrier h
  · exact h

theorem Dev.Leaves.showRun (h : d.Leaves strays e) {v : Nat} : d.Leaves strays (e.showRun v) := by
  unfold Dev.showRun
  exact h.foldl (fun _ _ h => h.wr)


/-! ### Withdrawals, the end of an attempt, waits that are lost -/

/-- A Peck's own local counters (R375) never have the place of a port's status. -/
theorem SYN_LC_away {n : Nat} (own : n < 48) : (SYN_LC.base + n * SYN_LC.s1 + 0 * SYN_LC.s2) % 2 ^ 22 ≠ 0 := by
  dsimp only [SYN_LC]
  omega

theorem Dev.Leaves.setLcWait (h : d.Leaves strays e) {p n : Nat} {ws : List Waiter} (own : n < 48) : d.Leaves strays (e.setLcWait p n ws) := by
  have listed : ∀ {t : Tbl (List Waiter)}, d.Leaves strays { e with lcWaiters := t } := h.still
  unfold Dev.setLcWait
  exact listed.wr (SYN_LC_away own)

theorem Dev.Leaves.withdrawTasks (h : d.Leaves strays e) : d.Leaves strays e.withdrawTasks := by
  unfold Dev.withdrawTasks
  refine .withdrawRemote (.foldl (h.foldl fun _ x h => ?counter) fun _ _ h => ?object)
  case counter =>
    have own : x.1 % 48 < 48 := Nat.mod_lt _ (by decide)
    exact ((h.wr (SYN_LC_away own)).setLcWait own).foldl fun _ _ h => h.releaseOther
  case object =>
    split
    · exact h
    · exact h.setObj.foldl fun _ _ h => h.releaseOther

theorem Dev.Leaves.cutShort (h : d.Leaves strays e) : d.Leaves strays e.cutShort := by
  unfold Dev.cutShort
  split
  · exact h
  · exact .ite h.modAttempt.showRun.withdrawTasks.refuseCut (.ite h.modAttempt.showRun.withdrawTasks h.modAttempt)

theorem Dev.Leaves.waitLost (h : d.Leaves strays e) {who : WaiterWho} {st : Status} : d.Leaves strays (e.waitLost who st) := by
  unfold Dev.waitLost
  extract_lets d1
  have hd1 : d.Leaves strays d1 := h.forgetWaits
  split
  · exact hd1.finishWaiting
  · exact hd1.cutShort

theorem Dev.Leaves.failRemote (h : d.Leaves strays e) : d.Leaves strays e.failRemote := by
  unfold Dev.failRemote
  refine h.foldl fun _ _ h => ?_
  split
  · exact h.waitLost
  · exact h

/-! ### Packets that fail, and those that their failure answers -/

theorem Dev.Leaves.dropSignal (h : d.Leaves strays e) : d.Leaves strays e.dropSignal := by
  unfold Dev.dropSignal
  exact h.count.markIsolated

theorem Dev.Leaves.signalFails (h : d.Leaves strays e) {c s : Nat} {st : Status} : d.Leaves strays (e.signalFails c s st) := by
  unfold Dev.signalFails
  refine .dropSignal ?_
  split
  · exact h.finishWaiting
  · exact h

theorem Dev.Leaves.probeReply (h : d.Leaves strays e) {c s : Nat} {st : Status} : d.Leaves strays (e.probeReply c s st) := by
  unfold Dev.probeReply
  exact .ite (.finishSlot (.ite h.still h)) h

theorem Dev.Leaves.restoreFails (h : d.Leaves strays e) {st : Status} : d.Leaves strays (e.restoreFails st) := by
  unfold Dev.restoreFails
  split
  · exact h
  · next r _ =>
    have left : d.Leaves strays { e with restore := none } := h.still
    exact left.finishWaiting

section Failures

variable {st : Status} (fails : st ≠ .ok)
include fails

/-- A transfer of a Chain task that fails leaves the task with a fault or an end, so that no segment settles. -/
theorem Dev.Leaves.chainStatus_fails (h : d.Leaves strays e) {i u : Nat} : d.Leaves strays (e.chainStatus i u st) := by
  have faulted : d.Leaves strays ((e.chainAnswered i u).chainFault i st) := h.modTask.modTask
  unfold Dev.chainStatus
  extract_lets d1 d2
  have same : d2 = (e.chainAnswered i u).chainFault i st := if_neg fails
  rw [same]
  unfold Dev.chainSettle
  split
  · next t there =>
    have open_ : (t.faultCause.isNone && t.ending.isNone) = false := by
      rw [Dev.chainFault, Dev.task_modTask, if_pos rfl] at there
      obtain ⟨x, -, rfl⟩ := Option.map_eq_some_iff.1 there
      split
      · next already => revert already; cases x.faultCause <;> cases x.ending <;> simp
      · split <;> simp
    rw [if_neg (by rw [Bool.and_assoc, open_]; simp)]
    exact faulted
  · exact faulted

theorem Dev.Leaves.aheadAnswered_fails (h : d.Leaves strays e) : d.Leaves strays (e.aheadAnswered st) := by
  unfold Dev.aheadAnswered
  split
  · exact h
  · rw [if_pos fails]
    exact .ite h h.modAttempt.modAttempt.markIsolated

theorem Dev.Leaves.mirrorAnswered_fails (h : d.Leaves strays e) {stamp : Nat} : d.Leaves strays (e.mirrorAnswered stamp st) := by
  unfold Dev.mirrorAnswered
  split
  · exact h
  · rw [if_pos fails]
    exact .ite h h.mirrorLost

theorem Dev.Leaves.copyReadDone_fails (h : d.Leaves strays e) {a : Nat} {restore : Bool} {data : List Nat} :
    d.Leaves strays (e.copyReadDone a restore st data) := by
  unfold Dev.copyReadDone
  rw [if_neg fails]
  dsimp only
  refine .ite ?_ h
  split
  · exact h
  · rw [if_pos fails]
    exact h.restoreFails

theorem Dev.Leaves.answered_fails (h : d.Leaves strays e) {why : Purpose} {data : List Nat} : d.Leaves strays (e.answered why st data) := by
  unfold Dev.answered
  cases why with
  | chainWrite i u => exact h.chainStatus_fails fails
  | chainRead i u off => dsimp only; rw [if_neg fails]; exact h.chainStatus_fails fails
  | forgotten | snapshot => exact h
  | taskSignal i | summed => dsimp only; rw [if_neg fails]; exact h.dropSignal
  | hostSignal c s => dsimp only; rw [if_neg fails]; exact h.signalFails
  | taskWait i b | segWait i | mailboxWait c s | triggerWait i => dsimp only; rw [if_neg fails]; exact h.waitLost
  | probe c s => dsimp only; rw [if_neg fails]; exact h.probeReply
  | exchange i c => dsimp only; rw [if_neg fails]; exact h.markIsolated
  | writeAhead => exact h.aheadAnswered_fails fails
  | barrierSignal => dsimp only; rw [if_neg fails]; exact h.count
  | mirror stamp => exact h.mirrorAnswered_fails fails
  | barrierCopy k => dsimp only; rw [if_neg fails]; exact h.mirrorLost
  | copyRead a r => exact h.copyReadDone_fails fails
  | command c s =>
    dsimp only
    rw [if_neg fails]
    split
    · exact h.finishWaiting
    · exact h.restoreFails
    · exact h

end Failures

theorem Dev.Leaves.sendUnsent (h : d.Leaves strays e) : d.Leaves strays e.sendUnsent := by
  unfold Dev.sendUnsent
  split
  · exact h
  · next pk why rest _ =>
    have next_ : d.Leaves strays { e with unsent := rest } := h.still
    split
    · next st d1 made =>
      have hd1 : d.Leaves strays d1 := next_.originate.made made
      split
      · exact hd1
      · next fails => exact hd1.answered_fails fails

theorem Dev.Leaves.completeTag_fails (h : d.Leaves strays e) {ttag : Nat} {st : Status} (fails : st ≠ .ok) {data : List Nat} :
    d.Leaves strays (e.completeTag ttag st data) := by
  unfold Dev.completeTag
  split
  · exact h
  · have left : d.Leaves strays { e with outstanding := Tbl.del e.outstanding ttag } := h.still
    exact (left.showTtags.answered_fails fails).sendUnsent

theorem Dev.Leaves.sendPairs (h : d.Leaves strays e) {node : Nat} : d.Leaves strays (e.sendPairs node) := by
  have taken : ∀ {l : List DuePair}, d.Leaves strays { e with duePairs := l } := h.still
  unfold Dev.sendPairs
  exact .ite h taken.originate

theorem Dev.Leaves.addPair (h : d.Leaves strays e) {node ttag : Nat} {st : Status} : d.Leaves strays (e.addPair node ttag st) := by
  have due : ∀ {l : List DuePair}, d.Leaves strays { e with duePairs := l } := h.still
  unfold Dev.addPair
  exact .ite due.sendPairs due

theorem Dev.Leaves.answerTo (h : d.Leaves strays e) {p : Packet} {st : Status} : d.Leaves strays (e.answerTo p st) := by
  unfold Dev.answerTo
  exact .ite h (.ite h.originate h.addPair)

theorem Dev.Leaves.failPacket (h : d.Leaves strays e) {p : Packet} {st : Status} (fails : st ≠ .ok) : d.Leaves strays (e.failPacket p st) := by
  unfold Dev.failPacket
  exact .ite (.ite h (h.completeTag_fails fails)) h.answerTo

/-- A packet without a route fails with LINK_DOWN or ROUTE_SUSPENDED. -/
theorem Dev.route_fails {dst : Nat} {mgmt : Bool} {st : Status} (none : d.route dst mgmt = .inr st) : st ≠ .ok := by
  unfold Dev.route at none
  dsimp only at none
  split at none
  · cases none; decide
  · split at none
    · cases none
    · split at none
      · cases none
      · split at none <;> cases none <;> decide

theorem Dev.Leaves.routePacket (h : d.Leaves strays e) {p : Packet} : d.Leaves strays (e.routePacket p) := by
  unfold Dev.routePacket
  split
  · exact h.enqueuePacket
  · next st none => exact h.failPacket (Dev.route_fails none)

theorem Dev.Leaves.dropTraffic (h : d.Leaves strays e) {p : Nat} {st : Status} (fails : st ≠ .ok) : d.Leaves strays (e.dropTraffic p st) := by
  have away : ∀ c < 6, (FUR_CREDIT.base + c * FUR_CREDIT.s1 + 0 * FUR_CREDIT.s2) % 2 ^ 22 ≠ 0 := by decide
  unfold Dev.dropTraffic
  refine .foldl (.foldl (h.modPort.foldlMem fun _ c here h => ?credit) fun _ _ h => h.failPacket fails) fun _ _ h => h.routePacket
  case credit => exact h.setWord (away c (List.mem_range.1 here))

end Sys2Proof.Machine
end

section
/-! The status of a port through its steps (R571, R575, R578 to R581, R597 to R599). -/
namespace Sys2Proof.Machine

set_option Elab.async false

variable {d e : Dev} {p : Nat}

/-! ### The writes of a step -/

theorem Dev.Leaves.portState (h : d.Leaves False e) (ok : d.regsOk) (lt : p < 8) : e.portState p = d.portState p := by
  rw [Dev.portState, Dev.portState, Dev.rd, Dev.rd]
  exact congrArg (bits · 31 29) (h.port id ok p lt)

theorem Dev.Leaves.downCause (h : d.Leaves False e) (ok : d.regsOk) (lt : p < 8) :
    e.rd FUR_PORT_STATUS_DOWN_CAUSE p = d.rd FUR_PORT_STATUS_DOWN_CAUSE p := by
  rw [Dev.rd, Dev.rd]
  exact congrArg (bits · 15 8) (h.port id ok p lt)

theorem Dev.rd_modPort (d : Dev) (p : Nat) (f : PortRec → PortRec) (fld : Fld) (u n k : Nat) : (d.modPort p f).rd fld u n k = d.rd fld u n k := rfl

theorem Dev.portState_modPort (d : Dev) (p q : Nat) (f : PortRec → PortRec) : (d.modPort p f).portState q = d.portState q := rfl

theorem Dev.setPort_portState (ok : d.regsOk) {st : Nat} (small : st < 8) : (d.setPort p st).portState p = st := by
  rw [Dev.setPort, Dev.portState_modPort, Dev.portState, Dev.rd_wr_self ok FUR_PORT_STATUS_STATE p 0 0 st (by decide) (by decide)]
  exact Nat.mod_eq_of_lt small

theorem Dev.setPort_regsOk (ok : d.regsOk) {st : Nat} : (d.setPort p st).regsOk := Dev.regsOk_wr ok _ _ _ _ _

/-- Another field of a port's status leaves its state. -/
theorem Dev.portState_wr (ok : d.regsOk) {fld : Fld} (own : fld.reg = FUR_PORT_STATUS) (below : fld.hi < 29) (le : fld.lo ≤ fld.hi + 1) (v : Nat) :
    (d.wr fld p 0 0 v).portState p = d.portState p :=
  Dev.rd_wr_field ok fld FUR_PORT_STATUS_STATE p 0 0 v own.symm le (by decide) (.inl below)

theorem Dev.Leaves.sendLink (h : d.Leaves False e) {down : Bool} : d.Leaves False (e.sendLink p down) := h.still

/-- What a port leaves UP for: its own part, before its traffic fails. -/
theorem Dev.portDown_own (ok : d.regsOk) {cause : Nat} (causes : cause < 256) :
    let own := (((d.setPort p pDown).wr FUR_PORT_STATUS_DOWN_CAUSE p 0 0 cause).wr FUR_PORT_STATUS_LANES_OK p 0 0 0)
    own.regsOk ∧ own.portState p = pDown ∧ own.rd FUR_PORT_STATUS_DOWN_CAUSE p = cause := by
  have down := Dev.setPort_regsOk ok (p := p) (st := pDown)
  have caused := Dev.regsOk_wr down FUR_PORT_STATUS_DOWN_CAUSE p 0 0 cause
  refine ⟨Dev.regsOk_wr caused _ _ _ _ _, ?_, ?_⟩
  · rw [Dev.portState_wr caused rfl (by decide) (by decide), Dev.portState_wr down rfl (by decide) (by decide),
      Dev.setPort_portState ok (by decide)]
  · rw [Dev.rd_wr_field caused FUR_PORT_STATUS_LANES_OK FUR_PORT_STATUS_DOWN_CAUSE p 0 0 0 rfl (by decide) (by decide) (by decide),
      Dev.rd_wr_self down FUR_PORT_STATUS_DOWN_CAUSE p 0 0 cause (by decide) (by decide)]
    exact Nat.mod_eq_of_lt causes

/-- R571: a port goes DOWN with its cause, whatever fails with it. -/
theorem Dev.portDown_leaves (ok : d.regsOk) (lt : p < 8) {cause : Nat} (causes : cause < 256) :
    (d.portDown p cause).regsOk ∧ (d.portDown p cause).portState p = pDown ∧ (d.portDown p cause).rd FUR_PORT_STATUS_DOWN_CAUSE p = cause := by
  unfold Dev.portDown
  extract_lets up d0 d1 d2
  have hd0 : d0.regsOk := by
    have sent : d.Leaves False d0 := .ite (Dev.Leaves.refl d).sendLink (.refl d)
    exact sent.regsOk ok
  obtain ⟨own, state, shown⟩ := Dev.portDown_own hd0 (p := p) causes
  have parted : d1.Leaves False d2 := (Dev.Leaves.refl d1).setWord.modPort
  have all : d1.Leaves False (if up = true then
      ((d2.hostEvent (srcUnit (8 + p)) 0x0501 .linkDown none []).dropTraffic p (if cause = 0x0E then .isolated else .linkDown)).failRemote else d2) := by
    refine .ite (.failRemote (parted.hostEvent.dropTraffic ?_)) parted
    split <;> decide
  exact ⟨all.regsOk own, (all.portState own lt).trans state, (all.downCause own lt).trans shown⟩

/-! ### Ports that come up (R571, R597 to R599) -/

theorem Dev.Leaves.setLane (h : d.Leaves False e) {l v : Nat} : d.Leaves False (e.setLane p l v) := h.setWord

theorem Dev.Leaves.setLanes (h : d.Leaves False e) {v : Nat → Nat} : d.Leaves False ((List.range 4).foldl (fun (d : Dev) l => d.setLane p l (v l)) e) :=
  h.foldl fun _ _ h => h.setLane

/-- R597: DETECT ends in TRAIN, or in DOWN with the fault that its lanes show. -/
theorem Dev.detectComplete_state (ok : d.regsOk) (lt : p < 8) (free : d.portFree p = true) (at_ : d.portState p = pDetect) (opens shorts : Fin 16) :
    (opens = 0 → shorts = 0 → (d.detectComplete p opens shorts).portState p = pTrain)
    ∧ (opens ≠ 0 → (d.detectComplete p opens shorts).portState p = pDown ∧ (d.detectComplete p opens shorts).rd FUR_PORT_STATUS_DOWN_CAUSE p = 0x02)
    ∧ (opens = 0 → shorts ≠ 0 → (d.detectComplete p opens shorts).portState p = pDown
      ∧ (d.detectComplete p opens shorts).rd FUR_PORT_STATUS_DOWN_CAUSE p = 0x03) := by
  have seen : d.Leaves False ((List.range 4).foldl (fun (d : Dev) l => d.setLane p l (128 * b2n (bit opens l) + 64 * b2n (bit shorts l))) d) :=
    (Dev.Leaves.refl d).setLanes
  have regs := seen.regsOk ok
  rw [Dev.detectComplete_in free at_]
  generalize (List.range 4).foldl (fun (d : Dev) l => d.setLane p l (128 * b2n (bit opens l) + 64 * b2n (bit shorts l))) d = e at regs
  dsimp only
  refine ⟨fun none_open none_short => ?_, fun some_open => ?_, fun none_open some_short => ?_⟩
  · rw [none_open, none_short]
    exact Dev.setPort_portState regs (by decide)
  · rw [if_pos (Fin.val_ne_zero_iff.2 some_open)]
    exact (Dev.portDown_leaves regs lt (by decide)).2
  · rw [none_open, if_neg (by decide), if_pos (Fin.val_ne_zero_iff.2 some_short)]
    exact (Dev.portDown_leaves regs lt (by decide)).2

theorem Dev.rd_sendTraining (d : Dev) (q msg : Nat) (fld : Fld) (u n k : Nat) : (d.sendTraining q msg).rd fld u n k = d.rd fld u n k := rfl

theorem Dev.portState_sendTraining (d : Dev) (q msg p : Nat) : (d.sendTraining q msg).portState p = d.portState p := rfl

/-- A port with its lanes that goes to IDENTIFY. -/
theorem Dev.lanesOk_state (ok : d.regsOk) :
    let e := (d.wr FUR_PORT_STATUS_LANES_OK p 0 0 15).setPort p pIdentify
    e.portState p = pIdentify ∧ e.rd FUR_PORT_STATUS_LANES_OK p = 15 := by
  have shown := Dev.regsOk_wr ok FUR_PORT_STATUS_LANES_OK p 0 0 15
  refine ⟨Dev.setPort_portState shown (by decide), ?_⟩
  rw [Dev.setPort, Dev.rd_modPort, Dev.rd_wr_field shown FUR_PORT_STATUS_STATE FUR_PORT_STATUS_LANES_OK p 0 0 _ rfl (by decide) (by decide) (by decide),
    Dev.rd_wr_self ok FUR_PORT_STATUS_LANES_OK p 0 0 15 (by decide) (by decide)]
  rfl

theorem Dev.trainComplete_state (ok : d.regsOk) (free : d.portFree p = true) (at_ : d.portState p = pTrain) (polarity : Nat) (logical : List Nat) :
    (d.trainComplete p polarity logical).portState p = pIdentify ∧ (d.trainComplete p polarity logical).rd FUR_PORT_STATUS_LANES_OK p = 15 := by
  unfold Dev.trainComplete
  rw [if_pos (Dev.port_in free at_), Dev.portState_sendTraining, Dev.portState_modPort, Dev.rd_sendTraining, Dev.rd_modPort]
  have seen : d.Leaves False ((List.range 4).foldl (fun (d : Dev) l => d.setLane p l (32 + 16 * b2n (bit polarity l) + nth logical l % 4)) d) :=
    (Dev.Leaves.refl d).setLanes
  exact Dev.lanesOk_state (seen.regsOk ok)

/-- The partner that an IDENTIFY flit names. -/
theorem Dev.partner_shown (ok : d.regsOk) {valid port node : Nat} (ports : port < 8) (nodes : node < 4096) (f : PortRec → PortRec) :
    let e := (((d.wr FUR_PARTNER_VALID p 0 0 valid).wr FUR_PARTNER_PORT p 0 0 port).wr FUR_PARTNER_NODE p 0 0 node).modPort p f
    e.regsOk ∧ e.rd FUR_PARTNER_PORT p = port ∧ e.rd FUR_PARTNER_NODE p = node := by
  have first := Dev.regsOk_wr ok FUR_PARTNER_VALID p 0 0 valid
  have second := Dev.regsOk_wr first FUR_PARTNER_PORT p 0 0 port
  refine ⟨Dev.regsOk_wr second FUR_PARTNER_NODE p 0 0 node, ?_, ?_⟩
  · rw [Dev.rd_modPort, Dev.rd_wr_field second FUR_PARTNER_NODE FUR_PARTNER_PORT p 0 0 _ rfl (by decide) (by decide) (by decide),
      Dev.rd_wr_self first FUR_PARTNER_PORT p 0 0 _ (by decide) (by decide)]
    exact Nat.mod_eq_of_lt ports
  · rw [Dev.rd_modPort, Dev.rd_wr_self second FUR_PARTNER_NODE p 0 0 _ (by decide) (by decide)]
    exact Nat.mod_eq_of_lt nodes

/-- A change of state leaves the partner. -/
theorem Dev.setPort_partner (ok : d.regsOk) {st : Nat} (fld : Fld) (own : fld.reg = FUR_PARTNER) : (d.setPort p st).rd fld p = d.rd fld p := by
  rw [Dev.setPort, Dev.rd_modPort]
  refine Dev.rd_wr_other ok _ _ _ _ _ _ _ _ _ ?_
  rw [own]
  exact (port_key_ne (r := FUR_PARTNER) (by decide) p p).symm

theorem Dev.identifyFlit_state (ok : d.regsOk) (free : d.portFree p = true) (at_ : d.portState p = pIdentify) {port node version hash : Nat} {valid : Bool}
    (ports : port < 8) (nodes : node < 4096) (other : hash ≠ Config.identityHash.toNat) (same : version / 2 ^ 24 = d.firmwareVersion / 2 ^ 24) :
    (d.identifyFlit p port node valid version hash).portState p = pAttest
      ∧ (d.identifyFlit p port node valid version hash).rd FUR_PARTNER_PORT p = port
      ∧ (d.identifyFlit p port node valid version hash).rd FUR_PARTNER_NODE p = node := by
  obtain ⟨regs, shown_port, shown_node⟩ := Dev.partner_shown ok (p := p) (valid := b2n valid) ports nodes
    fun r => { r with partnerHash := hash, attest := [] }
  unfold Dev.identifyFlit
  rw [if_pos (Dev.port_in free at_), if_neg other, if_neg (not_not.2 same), Dev.portState_sendTraining, Dev.rd_sendTraining, Dev.rd_sendTraining]
  exact ⟨Dev.setPort_portState regs (by decide), (Dev.setPort_partner regs _ rfl).trans shown_port, (Dev.setPort_partner regs _ rfl).trans shown_node⟩

/-! ### Ports in UP (R575, R578 to R581) -/

theorem Dev.lockLost_state (ok : d.regsOk) (lt : p < 8) (up : d.portState p = pUp) (lanes : Fin 16) (some_lost : lanes ≠ 0) :
    (d.lockLost p lanes).portState p = pDown ∧ (d.lockLost p lanes).rd FUR_PORT_STATUS_DOWN_CAUSE p = 0x0A := by
  have lost : d.portState p = pUp ∧ lanes.val % 16 ≠ 0 := ⟨up, by rwa [Nat.mod_eq_of_lt lanes.isLt, Fin.val_ne_zero_iff]⟩
  obtain ⟨regs, state, cause⟩ := Dev.portDown_leaves ok lt (cause := 0x0A) (by decide)
  unfold Dev.lockLost
  rw [if_pos lost]
  extract_lets d1
  have kept : d1.Leaves False ((List.range 4).foldl (fun (d : Dev) l => if bit lanes l then
      d.setLane p l (setBits (bits (d.word FUR_LANE_STATUS p) (8 * l + 7) (8 * l)) 5 5 0) else d) d1) :=
    (Dev.Leaves.refl d1).foldl fun _ _ h => .ite h.setLane h
  exact ⟨(kept.portState regs lt).trans state, (kept.downCause regs lt).trans cause⟩

/-- R575: a LINK flit that asks for it takes the port DOWN. -/
theorem Dev.linkFlit_down (ok : d.regsOk) (lt : p < 8) {flags : Nat} (asked : bit flags 2 = true) (ack seq : Nat) (credits : List Nat) :
    (d.linkFlit p ack flags seq credits).portState p = pDown ∧ (d.linkFlit p ack flags seq credits).rd FUR_PORT_STATUS_DOWN_CAUSE p = 0x0D := by
  unfold Dev.linkFlit
  extract_lets d1 d2 d3
  rw [if_pos asked]
  have kept : d.Keeps d3 := by
    have acked : d.Keeps d1 := .ite (Dev.Keeps.refl d).modPort (.refl d)
    have paid : d.Keeps d2 := acked.foldl fun _ _ h => h.setCredits
    exact .ite paid.modPort paid
  exact (Dev.portDown_leaves (kept.regs ok) lt (by decide)).2

/-- R575: a LINK flit without flags and credits lets what waits go on. -/
theorem Dev.linkFlit_bare (ack seq : Nat) : d.linkFlit p ack 0 seq [] = d.pump p := by
  have clear : ∀ k, ¬ bit 0 k = true := by simp [bit]
  unfold Dev.linkFlit
  rw [if_neg (clear _), if_neg (clear _), if_neg (clear _), if_neg (clear _)]
  rfl

/-- What a port becomes whose acknowledgements leave in a LINK flit. -/
def PortRec.linked (r : PortRec) : PortRec := { r with lcount := r.lcount + 1, nackDue := false, freed := [] }

theorem Dev.port_modPort (ok : Tbl.rising d.ports = true) (f : PortRec → PortRec) : (d.modPort p f).port p = f (d.port p) :=
  Tbl.get_set_self ok _ _

theorem Dev.sendLink_port (ok : Tbl.rising d.ports = true) (down : Bool) : (d.sendLink p down).port p = (d.port p).linked := by
  have sent : (d.sendLink p down).ports = (d.modPort p PortRec.linked).ports := rfl
  have linked := Dev.port_modPort (p := p) ok PortRec.linked
  rwa [Dev.port, ← sent] at linked

theorem Dev.sendLink_out (d : Dev) (p : Nat) (down : Bool) : (d.sendLink p down).out.length = d.out.length + 1 :=
  List.length_append

end Sys2Proof.Machine
end

section
/-! Ports in UP, timeouts, DELIVERY pairs, SPDM and IDE (R578 to R589, R693, R694): what O60 says of each row, and O60 put together. -/
namespace Sys2Proof.Machine

set_option Elab.async false

variable {d : Dev} {p : Nat}

/-! ### Key epochs (R581) -/

theorem Dev.rd_sendLink (d : Dev) (q : Nat) (down : Bool) (fld : Fld) (u n k : Nat) : (d.sendLink q down).rd fld u n k = d.rd fld u n k := rfl

theorem Dev.newEpoch_epoch (ok : d.regsOk) : (d.newEpoch p).rd FUR_KEY_EPOCH_EPOCH p = (d.rd FUR_KEY_EPOCH_EPOCH p + 1) % 2 ^ 32 := by
  unfold Dev.newEpoch
  extract_lets d1
  rw [Dev.rd_modPort, Dev.rd_sendLink, Dev.rd_modPort, Dev.countWrap, Dev.rd_wr_self ok FUR_KEY_EPOCH_EPOCH p 0 0 _ (by decide) (by decide)]
  rfl

theorem Dev.newEpoch_port (ok : Tbl.rising d.ports = true) :
    ((d.newEpoch p).port p).packetNo = 0 ∧ ((d.newEpoch p).port p).epochStart = d.time := by
  have counted : Tbl.rising (d.countWrap FUR_KEY_EPOCH_EPOCH p 0).ports = true := ok
  unfold Dev.newEpoch
  extract_lets d1
  have fresh : (d1.port p).packetNo = 0 ∧ (d1.port p).epochStart = d.time := by
    rw [Dev.port_modPort counted]
    exact ⟨rfl, rfl⟩
  have rising : Tbl.rising d1.ports = true := Tbl.rising_set counted _ _
  clear_value d1
  have sent : Tbl.rising (d1.sendLink p false).ports = true := Tbl.rising_set rising _ _
  rw [Dev.port_modPort sent, Dev.sendLink_port rising]
  exact fresh

/-! ### HEAD packets (R578) -/

theorem RX_SEQ_key_ne {r : Reg} (cnt : r = FUR_FEC_CORR_CNT ∨ r = FUR_FEC_UNCORR_CNT) (p : Nat) : FUR_RX_SEQ_SEQ.reg.key p ≠ r.key p := by
  have apart : FUR_RX_SEQ.key p < FUR_FEC_CORR_CNT.key p ∧ FUR_RX_SEQ.key p < FUR_FEC_UNCORR_CNT.key p := by
    unfold Reg.key
    dsimp only [FUR_RX_SEQ, FUR_FEC_CORR_CNT, FUR_FEC_UNCORR_CNT]
    omega
  obtain rfl | rfl := cnt
  · exact apart.1.ne
  · exact apart.2.ne

/-- R578: a packet with the SEQ expected, without errors. -/
theorem Dev.headPacket_clean (ok : d.regsOk) (running : d.portsRun = true) (up : d.portState p = pUp) {seq : Nat} (fixed : Nat) (pk : Packet)
    (m : MgmtContent) (lawful : pk.lawful pk.dflits = true) (expected : seq = d.rd FUR_RX_SEQ_SEQ p) :
    let e := (d.count FUR_FEC_CORR_CNT_COUNT p 0 fixed).count FUR_FEC_UNCORR_CNT_COUNT p 0 0
    d.headPacket p seq 0 fixed true pk.dflits pk m = (e.acceptSeq p seq).receive p pk m := by
  have kept : ∀ {e : Dev}, e.regsOk → ∀ cnt : Fld, cnt.reg = FUR_FEC_CORR_CNT ∨ cnt.reg = FUR_FEC_UNCORR_CNT → ∀ by_ : Nat,
      (e.count cnt p 0 by_).rd FUR_RX_SEQ_SEQ p = e.rd FUR_RX_SEQ_SEQ p :=
    fun ok _ cnt _ => Dev.rd_wr_other ok _ _ _ _ _ _ _ _ _ (RX_SEQ_key_ne cnt p)
  have counted := (kept (e := d.count FUR_FEC_CORR_CNT_COUNT p 0 fixed) (Dev.regsOk_wr ok _ _ _ _ _) FUR_FEC_UNCORR_CNT_COUNT (.inr rfl) 0).trans
    (kept ok FUR_FEC_CORR_CNT_COUNT (.inl rfl) fixed)
  intro e
  have arrives := Dev.headPacket_expected running up 0 fixed true pk m lawful (seq := seq) (expected.trans counted.symm)
  rw [if_neg (by decide), if_neg (by decide), counted, ← expected] at arrives
  exact arrives

/-! ### Pairs that are due (R589) -/

theorem foldl_fst_keeps {α β γ : Type} (part : Dev → β) {g : Dev × γ → α → Dev × γ} (step : ∀ acc a, part (g acc a).1 = part acc.1) (xs : List α)
    (acc : Dev × γ) : part (xs.foldl g acc).1 = part acc.1 :=
  List.foldlRecOn (motive := fun now => part now.1 = part acc.1) xs g rfl fun now so_far a _ => (step now a).trans so_far

theorem Dev.setCredits_duePairs (d : Dev) (p c sub v : Nat) : (d.setCredits p c sub v).duePairs = d.duePairs := by
  unfold Dev.setCredits
  split
  · exact Dev.wr_duePairs _ _ _ _ _ _
  · exact Dev.wr_duePairs _ _ _ _ _ _

theorem Dev.pump_duePairs (d : Dev) (p : Nat) : (d.pump p).duePairs = d.duePairs := by
  unfold Dev.pump
  refine foldl_fst_keeps Dev.duePairs (fun acc pk => ?_) _ _
  dsimp only
  split
  · exact Dev.setCredits_duePairs _ _ _ _ _
  · rfl

theorem Dev.depart_duePairs (d : Dev) (way : Option Nat) (pk : Packet) : (d.depart way pk).duePairs = d.duePairs := by
  cases way with
  | none => rfl
  | some p => exact Dev.pump_duePairs _ p

theorem Dev.originate_duePairs (d : Dev) (pk : Packet) (why : Purpose) : (d.originate pk why false).2.duePairs = d.duePairs := by
  unfold Dev.originate
  split
  · rfl
  · exact Dev.depart_duePairs _ _ _

/-- R589: the one pair that waits leaves. -/
theorem Dev.pairsDue_last {e : DuePair} (only : d.duePairs = [e]) (due : e.due ≤ d.time) : d.pairsDue.duePairs = [] := by
  rw [Dev.pairsDue_sends (e := e) (by rw [only]; simp [due]), Dev.originate_duePairs, only]
  simp

/-! ### IDE (R694) -/

theorem Dev.ideFail_insecure (on : d.life ≠ .off) (k : Nat) : (d.ideFail k).ideInsecure.contains k = true := by
  rw [Dev.ideFail_on on]
  generalize noted : (if d.ideInsecure.contains k then d.ideInsecure else d.ideInsecure ++ [k]) = insecure
  have reported : ({ d with ideInsecure := insecure } : Dev).Shows Reporting (({ d with ideInsecure := insecure } : Dev).hostEvent
    srcSecurity 0x0805 .ok none [k]) := (Dev.Shows.refl _).hostEvent fun _ => id
  have kept : (({ d with ideInsecure := insecure } : Dev).hostEvent srcSecurity 0x0805 .ok none [k]).ideInsecure = insecure := by rw [reported.same]
  rw [kept, ← noted]
  split
  · assumption
  · simp

/-! ### O60 -/

/-- Settles O60: the ports' rows by what they show afterwards, the others by the case of the row that their rule speaks of. -/
theorem portAndPacketRowsComplete : Obligations.PortAndPacketRowsComplete := by
  unfold Obligations.PortAndPacketRowsComplete
  refine ⟨⟨?coming, ?attested, ?up, ?timeout, ?pairs, ?spdm, ?ide, ?host⟩, ?packets⟩
  case coming =>
    intro s p ordered free
    have ok : s.dev.regsOk := ordered.1
    have timed : ∀ {st ms cause : Nat}, s.dev.portState p = st → (s.dev.port p).since + ms * 1000000 ≤ s.dev.time → cause < 256 →
        (s.dev.portTimeout p st ms cause).portState p = pDown
          ∧ (s.dev.portTimeout p st ms cause).rd FUR_PORT_STATUS_DOWN_CAUSE p = cause := by
      intro st ms cause at_ late causes
      rw [Dev.portTimeout_late free at_ late]
      exact (Dev.portDown_leaves ok p.isLt causes).2
    refine ⟨fun down enabled due => ?_, fun at_ opens shorts => ?_, fun at_ polarity logical => ?_, fun at_ late => ?_,
      fun at_ theirs node valid version hash other same => ?_, fun at_ late => ?_, fun at_ late => ?_⟩
    · exact ⟨_, s.to_eq (Dev.portRetry_due free down enabled due), Dev.setPort_portState ok (by decide)⟩
    · obtain ⟨trains, opened, shorted⟩ := Dev.detectComplete_state ok p.isLt free at_ opens shorts
      exact ⟨fun none_open none_short => ⟨_, rfl, trains none_open none_short⟩, fun some_open => ⟨_, rfl, opened some_open⟩,
        fun none_open some_short => ⟨_, rfl, shorted none_open some_short⟩⟩
    · exact ⟨_, rfl, Dev.trainComplete_state ok free at_ _ _⟩
    · exact ⟨_, rfl, timed at_ late (by decide)⟩
    · exact ⟨_, rfl, Dev.identifyFlit_state ok free at_ theirs.isLt node.isLt other same⟩
    · exact ⟨_, rfl, timed at_ late (by decide)⟩
    · exact ⟨_, rfl, timed at_ late (by decide)⟩
  case attested =>
    intro s p msg index count len zeros bytes a b e r free at_ first last within second third fourth accepted
    exact s.to_eq ((Dev.attestFlit_last free at_ first last within second third fourth).trans (if_pos accepted))
  case up =>
    intro s p ordered running up
    have ok : s.dev.regsOk := ordered.1
    obtain ⟨-, -, -, -, ports⟩ := ordered
    refine ⟨fun lanes some_lost => ⟨_, rfl, Dev.lockLost_state ok p.isLt up lanes some_lost⟩, fun ack flags seq credits asked => ?_,
      fun ack seq => ?_, ?_, fun due => ?_, fun seq fixed pk m lawful small expected => ?_⟩
    · exact ⟨_, s.to_eq (Dev.linkArrives_up running up _ _ _ _).1, Dev.linkFlit_down ok p.isLt asked _ _ _⟩
    · exact s.to_eq ((Dev.linkArrives_up running up _ _ _ _).1.trans (Dev.linkFlit_bare _ _))
    · have linked := Dev.sendLink_port (p := p) ports false
      exact ⟨_, s.to_eq (if_pos up), Dev.sendLink_out _ _ _, congrArg PortRec.lcount linked, congrArg PortRec.nackDue linked⟩
    · exact ⟨_, s.to_eq (Dev.keyEpochChange_due up due), Dev.newEpoch_epoch ok, Dev.newEpoch_port ports⟩
    · have dflits : (BitVec.ofNat 8 pk.dflits).toNat = pk.dflits := by simpa using small
      have arrives := Dev.headPacket_clean ok running up fixed pk m lawful expected
      rw [← dflits] at arrives
      exact s.to_eq arrives
  case timeout => exact fun s t o waits late => s.to_eq (Dev.e2eTimeout_expires waits late)
  case pairs => exact fun s e only due => ⟨_, rfl, Dev.pairsDue_last only due⟩
  case spdm =>
    intro s run serves
    have up : s.dev.firmware = true := by simp [Dev.firmware, run, serves]
    refine ⟨fun few => ?_, ⟨_, exec_spdmRequest s (Dev.spdmRequest_open up .getVersion (by decide)), rfl⟩⟩
    have opens := (Dev.spdmRequest_keyExchange up).trans (if_neg (Nat.not_le.2 few))
    exact ⟨_, exec_spdmRequest s opens, rfl, rfl⟩
  case ide => exact fun s k on => ⟨_, rfl, Dev.ideFail_insecure on k⟩
  case host =>
    intro s tag i u waits d
    exact ⟨s.to_eq (Dev.hostReadFails_faults waits _), fun data => s.to_eq (Dev.hostReadDone_data waits _)⟩
  case packets =>
    intro s port p lands took
    have hub {e : Dev} (typ : p.typ = tySync) (acts : s.dev.syncOp port p = e) : s.dev.takePacket port p .other = e :=
      (Dev.takePacket_sync typ).trans acts
    refine ⟨fun typ allowed => ?write, fun typ allowed => ?read, fun typ => ?completion, fun typ len => ?delivery,
      fun typ good kind ctx => ?reset, fun m typ => ?mgmt, fun typ op => ?signal, fun typ op => ?wait, fun typ op => ?release,
      fun typ op => ?withdraw, fun typ op => ?barrier, fun typ op ours => ?outcome, fun typ op => ?probe, fun typ op slot => ?reply,
      fun typ open_ kind => ?contribution, fun typ open_ kind => ?copy⟩
    case write => exact (PacketRow.memWr typ).exec_taken lands ((Dev.takePacket_memWr typ).trans (if_pos allowed))
    case read => exact (PacketRow.memRd typ).exec_taken lands ((Dev.takePacket_memRd typ).trans (Dev.memRead_allowed allowed))
    case completion => exact (PacketRow.memCpl typ).exec_taken lands ((Dev.takePacket_memCpl typ).trans rfl)
    case delivery =>
      refine (PacketRow.delivery typ).exec_taken lands ((Dev.takePacket_delivery typ).trans ?_)
      unfold Dev.deliveryPairs
      rw [len]
      rfl
    case reset =>
      refine (PacketRow.reset typ).exec_taken lands ((Dev.takePacket_reset typ).trans ?_)
      rw [Dev.resetRequest_good good, if_neg (by omega), if_pos ⟨kind, ctx⟩]
    case mgmt => exact (PacketRow.mgmt typ m).exec_taken lands ((Dev.takePacket_mgmt typ).trans rfl)
    case signal => exact (PacketRow.signal typ op).exec_taken lands ((hub typ (Dev.syncOp_signal op)).trans rfl)
    case wait => exact (PacketRow.wait typ op).exec_taken lands ((hub typ (Dev.syncOp_wait op)).trans rfl)
    case release => exact (PacketRow.release typ op).exec_taken lands ((hub typ (Dev.syncOp_release op)).trans rfl)
    case withdraw => exact (PacketRow.withdraw typ op).exec_taken lands ((hub typ (Dev.syncOp_withdraw op)).trans rfl)
    case barrier => exact (PacketRow.barrier typ op).exec_taken lands ((hub typ (Dev.syncOp_barrier op)).trans rfl)
    case outcome =>
      rw [(PacketRow.outcome typ op).exec_taken lands (hub typ (Dev.syncOp_outcome op)), Dev.opOutcome_ours ours]
    case probe => exact (PacketRow.probe typ op).exec_taken lands ((hub typ (Dev.syncOp_probe op)).trans rfl)
    case reply =>
      rw [(PacketRow.reply typ op).exec_taken lands (hub typ (Dev.syncOp_reply op)), Dev.opReply_mailbox slot]
    case contribution =>
      rw [(PacketRow.contribution typ kind).exec_taken lands ((Dev.takePacket_exch typ).trans (Dev.exchArrives_open open_)), if_neg kind]
    case copy =>
      rw [(PacketRow.workingCopy typ kind).exec_taken lands ((Dev.takePacket_exch typ).trans (Dev.exchArrives_open open_)), if_pos kind]

end Sys2Proof.Machine
end

section
/-! Tasks that end without signals (R348, R350): the task is done and has left its slot. -/
namespace Sys2Proof.Machine

set_option Elab.async false

variable {d e : Dev} {i : Nat} {t : TaskRun} {a : Attempt} {r : Run} {st : Status}

theorem Dev.KeepsAttempt.countTask (signals : st.signals = true) : d.KeepsAttempt (d.countTask t st) := by
  unfold Dev.countTask
  extract_lets g d1 d2 d3
  rw [if_pos signals]
  have h1 : d.KeepsAttempt d1 := .ite (d.wr_keepsAttempt _ _ _ _ _) (.refl d)
  have h2 : d.KeepsAttempt d2 := .ite (h1.wr _ _ _ _ _) h1
  exact .ite ((h2.wr _ _ _ _ _).wr _ _ _ _ _) h2

theorem Dev.KeepsAttempt.stirTask (d : Dev) (gen1 : Bool) (t : TaskRun) : d.KeepsAttempt (d.stirTask gen1 t) := ⟨rfl, rfl⟩

/-- A task whose entries are off performs no signals. -/
theorem Dev.performSignals_off (here : d.task i = some t) (off2 : entryOn (t.entry 2) = false) (off3 : entryOn (t.entry 3) = false) (ctx : Nat) :
    d.performSignals i ctx = d := by
  simp [Dev.performSignals, here, off2, off3]

theorem Dev.haltCheck_running (attempt : d.attempt = some a) (running : a.phase = .running) : d.haltCheck = d := by
  simp [Dev.haltCheck, attempt, running]

/-- R350: a task that signals nothing is done once it ends, and its slot is free. -/
theorem Dev.finishTask_silent (here : d.task i = some t) (run : d.run = some r) (attempt : d.attempt = some a) (running : a.phase = .running)
    (signals : st.signals = true) (no_verdict : t.kind ≠ 4) (unposted : t.segPosted = false) (off2 : entryOn (t.entry 2) = false)
    (off3 : entryOn (t.entry 3) = false) :
    ∃ x, (d.finishTask i st).task i = some x ∧ x.phase = .done ∧ x.hasSlot = false := by
  let ends := fun x : TaskRun => { x with phase := .done, hasSlot := false, terms := [], acc := [] }
  have at_ : (d.modTask i ends).task i = some (ends t) := by rw [Dev.task_modTask, if_pos rfl, here]; rfl
  obtain ⟨b, ended, phase⟩ : ∃ b, (d.modTask i ends).attempt = some b ∧ b.phase = .running :=
    ⟨{ a with tasks := a.tasks.map (fun e => if e.1 = i then (e.1, ends e.2) else e) }, by rw [Dev.modTask, Dev.modAttempt, attempt]; rfl, running⟩
  unfold Dev.finishTask
  simp only [here, run, attempt, unposted, Bool.false_and, signals, if_true, no_verdict, if_false, Bool.false_eq_true]
  have shown : (d.modTask i ends).KeepsAttempt
      (if t.phase = .running then (((((d.modTask i ends).countTask t st).showEngineOf a.gen1 t false).stirTask a.gen1 t).showPort t.grain).showSched
        (peckOfGrain t.home) else (d.modTask i ends).countTask t st) := by
    have counted : (d.modTask i ends).KeepsAttempt ((d.modTask i ends).countTask t st) := .countTask signals
    have stirred := (counted.trans (Dev.showEngineOf_keepsAttempt _ a.gen1 t false)).trans (.stirTask _ a.gen1 t)
    exact .ite ((stirred.showPort _).trans (Dev.showSched_keepsAttempt _ _)) counted
  generalize (if t.phase = .running then (((((d.modTask i ends).countTask t st).showEngineOf a.gen1 t false).stirTask a.gen1 t).showPort t.grain).showSched
        (peckOfGrain t.home) else (d.modTask i ends).countTask t st) = d2 at shown ⊢
  rw [Dev.performSignals_off ((shown.task i).trans at_) off2 off3]
  generalize recorded : d2.setLe (devCell (d2.completionAddr i)) 8 (completionRecord a.shown t st) = d3
  have kept : d3.attempt = d2.attempt := by rw [← recorded, Dev.setLe_sameButMem]
  have last : ∀ e : Dev, e.attempt = d2.attempt → ∃ x, e.haltCheck.task i = some x ∧ x.phase = .done ∧ x.hasSlot = false := by
    intro e same
    rw [Dev.haltCheck_running (same.trans (shown.attempt.trans ended)) phase, Dev.task, same, ← Dev.task, shown.task, at_]
    exact ⟨_, rfl, rfl, rfl⟩
  refine last _ ?_
  split
  · exact kept
  · exact kept
end Sys2Proof.Machine
end

section
/-! Arrays and engines of a Grain (R140, R147, R154, R162, R165, R282, R302): what O58 says of their next piece of work. -/
namespace Sys2Proof.Machine

set_option Elab.async false

variable {d : Dev} {t : TaskRun} {a : Attempt} {l : LatchedArray}

/-- R150: the array of a row group that nothing holds has its read cycle under way. -/
theorem Dev.rowGroupStart_cycles (rising : Tbl.rising d.arrays = true) {i token entry row cx : Nat} {slots : List Int}
    (run : d.task i = some t) (attempt : d.attempt = some a) (latched : t.arrays[entry]? = some l)
    (may : t.kind = 0 ∧ t.phase = .running ∧ t.ending = none ∧ a.gen1 = false ∧ token < fwdTokens t.arg
      ∧ l.groups.contains row = true ∧ t.started.contains (groupKey token entry row) = false)
    (driven : d.groupSlots t.home t.arg (d.fwdInFmt d.runBase t.arg) token l row = some (cx, slots))
    (input : slots.all (fun x => x == 0) = false) (serving : d.arrState l.array = SERVING) (turn : d.cycleTurn l.array t.order = true)
    (room : ((List.range 16).filter (fun n => decide (grainOf l.array * 16 + n ≠ l.array)
      && !(d.arr (grainOf l.array * 16 + n)).cycles.isEmpty)).length < d.grainLimit (grainOf l.array))
    (unmonitored : d.monWaits.contains (grainOf l.array) = false) :
    ((d.rowGroupStart i token entry row).arr l.array).cycles = (d.arr l.array).cycles ++
      [{ task := i, token := token, entry := entry, row := row, cmax := cx, slots := slots }] := by
  have goes : ¬ (d.grainLimit (grainOf l.array) ≤ ((List.range 16).filter (fun n => decide (grainOf l.array * 16 + n ≠ l.array)
      && !(d.arr (grainOf l.array * 16 + n)).cycles.isEmpty)).length ∨ d.monWaits.contains (grainOf l.array) = true) := by
    rw [unmonitored]
    exact not_or.2 ⟨Nat.not_le.2 room, Bool.false_ne_true⟩
  have rising' : Tbl.rising (d.modTask i (fun t => { t with started := t.started ++ [groupKey token entry row] })).arrays = true := rising
  rw [Dev.rowGroupStart_slots run attempt latched may driven, if_neg (by rw [input]; exact Bool.false_ne_true), if_pos serving,
    if_neg (by rw [turn]; decide), if_neg goes, Dev.arr, Dev.showGrain_arrays, ← Dev.arr, Dev.arr_modArr rising', if_pos rfl]
  rfl

theorem Dev.windowEnd_clears (rising : Tbl.rising d.arrays = true) {x : Nat} (some_window : 0 < d.windowLen x)
    (full : d.windowLen x ≤ (d.arr x).windowCycles) :
    ((d.windowEnd x).arr x).windowCycles = 0 ∧ ((d.windowEnd x).arr x).windowMismatch = 0 := by
  rw [Dev.windowEnd, if_pos ⟨some_window, full⟩, Dev.arr_modArr rising, if_pos rfl]
  exact ⟨rfl, rfl⟩

theorem Dev.rd_metaChanged (d : Dev) (fld : Fld) (u n k : Nat) : d.metaChanged.rd fld u n k = d.rd fld u n k := rfl

theorem Dev.rd_setMeta_self (ok : d.regsOk) (fld : Fld) (x v : Nat) (le : fld.lo ≤ fld.hi + 1) (lt : fld.hi < 32) :
    (d.setMeta fld x v).rd fld (grainOf x) (slotOf x) = v % 2 ^ (fld.hi + 1 - fld.lo) := by
  rw [Dev.setMeta, Dev.rd_metaChanged, Dev.rd_wr_self ok fld _ _ 0 v le lt]

theorem Dev.persistClear_clears (ok : d.regsOk) {x : Nat} (served : 1048576 ≤ (d.arr x).served)
    (flagged : d.rd ARR_CHK_STATUS_PERSIST (grainOf x) (slotOf x) ≠ 0) :
    (d.persistClear x).rd ARR_CHK_STATUS_PERSIST (grainOf x) (slotOf x) = 0 := by
  rw [Dev.persistClear, if_pos ⟨served, flagged⟩, Dev.rd_setMeta_self ok ARR_CHK_STATUS_PERSIST x 0 (by decide) (by decide), Nat.zero_mod]

/-- What counts leave of the attempt and the queues of the fallback path. -/
theorem Dev.count_queues (e : Dev) (fld : Fld) (u n by_ : Nat) :
    (e.count fld u n by_).attempt = e.attempt ∧ (e.count fld u n by_).fbQueue = e.fbQueue :=
  ⟨e.wr_attempt _ _ _ _ _, e.wr_fbQueue _ _ _ _ _⟩

theorem Dev.fallbackCounts_keep (e : Dev) (g n : Nat) (preempts : Prop) [Decidable preempts] :
    let f := (e.countWrap DMX_PASS_CNT_COUNT g 0 n).count DMX_FB_PASS_CNT_COUNT g 0 n
    (if preempts then f.count DMX_PREEMPT_CNT_COUNT g 0 else f).attempt = e.attempt
      ∧ (if preempts then f.count DMX_PREEMPT_CNT_COUNT g 0 else f).fbQueue = e.fbQueue := by
  intro f
  obtain ⟨attempt, queues⟩ := (e.countWrap DMX_PASS_CNT_COUNT g 0 n).count_queues DMX_FB_PASS_CNT_COUNT g 0 n
  have attempt' : f.attempt = e.attempt := attempt.trans (e.wr_attempt _ _ _ _ _)
  have queues' : f.fbQueue = e.fbQueue := queues.trans (e.wr_fbQueue _ _ _ _ _)
  clear_value f
  split
  · obtain ⟨more, less⟩ := f.count_queues DMX_PREEMPT_CNT_COUNT g 0 1
    exact ⟨more.trans attempt', less.trans queues'⟩
  · exact ⟨attempt', queues'⟩

theorem Dev.fallbackGroup_keeps {g cx : Nat} {c : StartedCycle} {rest : List StartedCycle} {slots : List Int}
    (waits : Tbl.get [] d.fbQueue g = c :: rest) (run : d.task c.task = some t) (latched : t.arrays[c.entry]? = some l)
    (driven : d.groupSlots t.home t.arg (d.fwdInFmt d.runBase t.arg) c.token l c.row = some (cx, slots)) :
    let e := (d.fallbackTaken g rest).putTerms c.task (groupKey c.token c.entry c.row)
      (d.groupTerms d.runBase t.arg cx (d.fallbackOutputs c t l slots))
    (d.fallbackGroup g).attempt = e.attempt ∧ (d.fallbackGroup g).fbQueue = e.fbQueue := by
  dsimp only
  unfold Dev.fallbackGroup
  simp only [waits, run, latched, driven]
  exact Dev.fallbackCounts_keep _ g _ _

theorem Dev.putTerms_fbQueue (d : Dev) (i key : Nat) (ts : List Nat) : (d.putTerms i key ts).fbQueue = d.fbQueue := rfl

/-- R302: a fallback row group leaves what its task has started, and its queue is the shorter by it. -/
theorem Dev.fallbackGroup_takes {g cx : Nat} {c : StartedCycle} {rest : List StartedCycle} {slots : List Int}
    (waits : Tbl.get [] d.fbQueue g = c :: rest) (run : d.task c.task = some t) (latched : t.arrays[c.entry]? = some l)
    (driven : d.groupSlots t.home t.arg (d.fwdInFmt d.runBase t.arg) c.token l c.row = some (cx, slots)) :
    ∃ x, (d.fallbackGroup g).task c.task = some x ∧ x.started = t.started
      ∧ (d.fallbackGroup g).fbQueue = Tbl.set [] d.fbQueue g rest := by
  have taken : (d.fallbackTaken g rest).task c.task = some t := by rw [Dev.fallbackTaken, Dev.showGrain_task]; exact run
  have queue : (d.fallbackTaken g rest).fbQueue = Tbl.set [] d.fbQueue g rest := by
    rw [Dev.fallbackTaken, Dev.showGrain, Dev.wr_fbQueue, Dev.wr_fbQueue]
  obtain ⟨attempt, queues⟩ := Dev.fallbackGroup_keeps waits run latched driven
  have stored := Dev.task_putTerms taken (groupKey c.token c.entry c.row) (d.groupTerms d.runBase t.arg cx (d.fallbackOutputs c t l slots))
  rw [Dev.task, ← attempt, ← Dev.task] at stored
  exact ⟨_, stored, rfl, (queues.trans (Dev.putTerms_fbQueue _ _ _ _)).trans queue⟩

/-- R282: a pass of a FWD task in Gen-1 exact mode counts. -/
theorem Dev.tilePass_counts (ok : d.regsOk) {g i : Nat} (on_array : d.class3 g = some (i, t)) (attempt : d.attempt = some a)
    (goes : t.ending = none) (no_fallback : Tbl.get [] d.fbQueue g = []) (no_wide : d.class2Waits g = false) (forward : t.kind = 0)
    (more : t.tile < d.fwdPasses t) : (d.tilePass g).rd DMX_PASS_CNT_COUNT g = (d.rd DMX_PASS_CNT_COUNT g + 1) % 2 ^ 32 := by
  rw [Dev.tilePass_forward on_array attempt goes no_fallback no_wide forward more, Dev.countWrap]
  have ok' : (d.modTask i (fun t => { t with tile := t.tile + 1 })).regsOk := ok
  rw [Dev.rd_wr_self ok' DMX_PASS_CNT_COUNT g 0 0 _ (by decide) (by decide)]
  rfl

end Sys2Proof.Machine
end

section
/-! Contributions, write-aheads and checks of the exchange (R407, R411, R423) leave the tensors that the attempt has compressed, so a tensor
that is compressed is counted so. -/
namespace Sys2Proof.Machine

set_option Elab.async false

variable {d e f : Dev}

theorem Dev.Leaves.made2 {α β : Type} {x : α × β × Dev} {a : α} {b : β} (h : d.Leaves True x.2.2) (made : x = (a, b, e)) : d.Leaves True e := by
  rwa [made] at h

theorem Dev.Leaves.setLe (h : d.Leaves True e) {cell n v : Nat} : d.Leaves True (e.setLe cell n v) := by
  rw [Dev.setLe_sameButMem]
  exact h.still

theorem Dev.Leaves.wake (h : d.Leaves True e) {p : Nat} : d.Leaves True (e.wake p) := by
  unfold Dev.wake
  exact .ite h.wr_any.stir h

theorem Dev.Leaves.setWord_any (h : d.Leaves True e) {r : Reg} {u n k v : Nat} : d.Leaves True (e.setWord r u n k v) :=
  h.trans ⟨fun ok => Dev.regsOk_setWord ok _ _ _ _ _, fun none => absurd trivial none, rfl, rfl, rfl⟩

theorem Dev.Leaves.setLcWait_any (h : d.Leaves True e) {peck n : Nat} {ws : List Waiter} : d.Leaves True (e.setLcWait peck n ws) := by
  unfold Dev.setLcWait
  exact h.wr_any.still

theorem Dev.Leaves.showXch (h : d.Leaves True e) : d.Leaves True e.showXch := by
  unfold Dev.showXch
  exact h.setWord_any

theorem Dev.Leaves.sendOut (h : d.Leaves True e) {ctx space node addr : Nat} {bs : List Nat} {why : Purpose} :
    d.Leaves True (e.sendOut ctx space node addr bs why).2.2 := by
  unfold Dev.sendOut
  split
  · exact h.still
  · refine .foldlIn (fun (b : Nat × Status × Dev) => b.2.2) h fun b x so_far => ?_
    have sent : ∀ {pk : Packet}, d.Leaves True (b.2.2.originate pk why).2 := so_far.originate
    dsimp only
    split
    · exact sent
    · exact sent

theorem Dev.Leaves.modProgram (h : d.Leaves True e) {key : Nat} {f : Program → Program} : d.Leaves True (e.modProgram key f) := by
  unfold Dev.modProgram
  exact h.still

theorem Dev.Leaves.makeReady (h : d.Leaves True e) {i : Nat} : d.Leaves True (e.makeReady i) := by
  unfold Dev.makeReady
  extract_lets d1
  have hd1 : d.Leaves True d1 := h.modTask
  split
  · exact hd1.wake
  · exact hd1

theorem Dev.Leaves.postWait (h : d.Leaves True e) {peck : Nat} {r : ObjRef} {w : Waiter} : d.Leaves True (e.postWait peck r w).2 := by
  unfold Dev.postWait
  split
  · exact h
  · extract_lets _ _
    split
    · exact h.wr_any
    · exact h.setLcWait_any
  · split
    · exact h
    · split <;> exact h.setObj
  · refine .ite_snd h ?_
    split
    · next st d1 made =>
      have hd1 : d.Leaves True d1 := h.originate.made made
      refine .ite_snd hd1.still ?_
      split
      · exact hd1.finishWaiting
      · exact hd1.cutShort

theorem Dev.Leaves.postEntry (h : d.Leaves True e) {i : Nat} {t : TaskRun} {x : Nat} : d.Leaves True (e.postEntry i t x).2 := by
  unfold Dev.postEntry
  extract_lets _
  refine .ite_snd ?_ h
  split
  · next _ d1 made =>
    have hd1 : d.Leaves True d1 := h.postWait.made made
    exact hd1
  · next d1 made =>
    have hd1 : d.Leaves True d1 := h.postWait.made made
    exact hd1

theorem Dev.Leaves.afterWait0 (h : d.Leaves True e) {i : Nat} : d.Leaves True (e.afterWait0 i) := by
  unfold Dev.afterWait0
  extract_lets d1
  have hd1 : d.Leaves True d1 := h.modTask
  split
  · exact hd1
  · split
    · next d2 made =>
      have hd2 : d.Leaves True d2 := hd1.postEntry.made made
      exact hd2.makeReady
    · next d2 made =>
      have hd2 : d.Leaves True d2 := hd1.postEntry.made made
      exact hd2

theorem Dev.Leaves.release (h : d.Leaves True e) {w : Waiter} {seen : Nat} : d.Leaves True (e.release w seen) := by
  unfold Dev.release
  split
  · split
    · exact .ite (.ite h.makeReady h.afterWait0) h
    · exact h
  · exact h.modTask
  · exact h.finishWaiting
  · exact h.originate
  · exact h.triggers

theorem Dev.Leaves.releaseAll (h : d.Leaves True e) {ws : List (Waiter × Nat)} : d.Leaves True (e.releaseAll ws) := by
  unfold Dev.releaseAll
  exact h.foldl (fun _ _ h => h.release)

theorem Dev.Leaves.checkTriggers (h : d.Leaves True e) {k : Nat} : d.Leaves True (e.checkTriggers k) := by
  unfold Dev.checkTriggers
  split
  · exact h.foldl (fun _ _ h => h.triggers)
  · exact h

theorem Dev.Leaves.signalObject (h : d.Leaves True e) {k : Nat} {inc : Int} {who : LastSignal} : d.Leaves True (e.signalObject k inc who).2.2 := by
  unfold Dev.signalObject
  split
  · exact h
  · split
    · exact h
    · dsimp only
      have counted : ∀ {o : SyncObj} {b : Bool}, d.Leaves True (if b then ((e.setObj k o).count SYN_SAT_CNT_COUNT 0 0).diag
          (srcUnit 0x03) .satSignal .ok [k]
          else e.setObj k o) := .ite h.setObj.count.diag h.setObj
      exact .releaseAll (.ite counted.checkTriggers counted.setObj.checkTriggers.setObj)

theorem Dev.Leaves.resolveCheck (h : d.Leaves True e) {v : Nat} : d.Leaves True (e.resolveCheck v) := by
  have shown : d.Leaves True (e.modAttempt (fun a => { a with check := v })).showXch := h.modAttempt.showXch
  fun_cases Dev.resolveCheck e v
  case case1 => exact h
  case case2 => exact shown.signalObject
  case case3 made => exact shown.originate.made made
  case case4 made _ => exact (shown.originate.made made).dropSignal
  case case5 => exact shown
  case case6 => exact h

theorem Dev.Leaves.writeAhead (h : d.Leaves True e) {x : XchTable} : d.Leaves True (e.writeAhead x) := by
  unfold Dev.writeAhead
  split
  · split
    · exact h.resolveCheck
    · extract_lets _ _ _ _ _ _ _ _ _ send
      have sends : ∀ {e : Dev} {o : Nat} {bs : List Nat}, d.Leaves True e → d.Leaves True (send e o bs).2.2 := by
        intro e o bs h
        dsimp only [send]
        split
        · exact h
        · exact h.sendOut
      clear_value send
      refine .ite h.resolveCheck ?_
      split
      next made1 =>
      split
      next made2 =>
      have sent := (sends ((sends h).made2 made1)).made2 made2
      exact .ite sent.modProgram.modAttempt.markIsolated (.ite sent.modProgram.modAttempt.resolveCheck sent.modProgram.modAttempt)
  · exact h

theorem Dev.Leaves.addVotes (h : d.Leaves True e) {t : XchTensor} {firstOwned chunk : Nat} {first : Bool} {votes : List Int} :
    d.Leaves True (e.addVotes t firstOwned chunk first votes) := by
  unfold Dev.addVotes
  exact h.foldl (fun _ _ h => h.setLe)

theorem Dev.Leaves.contributionArrives (h : d.Leaves True e) {body : List Nat} : d.Leaves True (e.contributionArrives body) := by
  unfold Dev.contributionArrives
  extract_lets _ _ _
  split
  · split
    · exact h.count
    · extract_lets _
      split
      · refine .ite h.count ?_
        refine .ite h.count.wr.setWord.resolveCheck ?_
        refine .ite h.count ?_
        refine .ite h.count ?_
        split
        · extract_lets _ d1 d2
          have hd1 : d.Leaves True d1 := h.addVotes.setWord.countWrap
          have hd2 : d.Leaves True d2 := hd1.modAttempt
          split
          · exact .ite hd2.writeAhead hd2
          · exact hd2
  · exact h.count


/-- R407: a triggered tensor is compressed. -/
theorem Dev.compress_compressed {i : Nat} {a : Attempt} {r : Run} {x : XchTable} {t : XchTensor} (attempt : d.attempt = some a)
    (run : d.run = some r) (table : d.runTable = some x) (here : x.tensors[i]? = some t) (triggered : a.triggered.contains i = true)
    (fresh : a.compressed.contains i = false) (goes : a.phase = .running ∨ a.phase = .signalled) (open_ : d.on FLT_ISO_X_XCH 0 = false) :
    ∀ b, (d.compress i).attempt = some b → b.compressed.contains i = true := by
  have may : ¬ (!a.triggered.contains i || a.compressed.contains i || decide (a.phase ≠ .running ∧ a.phase ≠ .signalled)
      || d.on FLT_ISO_X_XCH 0) = true := by
    rw [triggered, fresh, open_, decide_eq_false (by tauto)]
    decide
  have kept : (d.modAttempt (fun a => { a with compressed := a.compressed ++ [i] })).Leaves True (d.compress i) := by
    unfold Dev.compress
    simp only [attempt, run, table, here]
    rw [if_neg may]
    refine .showXch (.foldl (.refl _) fun e c so_far => ?_)
    have written : ∀ {ws : List (Nat × Nat)} {at_ : Nat}, (d.modAttempt (fun a => { a with compressed := a.compressed ++ [i] })).Leaves True
        (ws.foldl (fun (d : Dev) (w, k) => d.setLe (devCell (at_ + 2 * (4096 * c + k))) 2 w) e) := so_far.foldl fun _ _ h => h.setLe
    split
    · exact written
    · have sent : ∀ {ws : List (Nat × Nat)} {at_ : Nat} {pk : Packet} {why : Purpose},
          (d.modAttempt (fun a => { a with compressed := a.compressed ++ [i] })).Leaves True
            (((ws.foldl (fun (d : Dev) (w, k) => d.setLe (devCell (at_ + 2 * (4096 * c + k))) 2 w) e).originate pk why).2.countWrap
              XCH_SENT_CNT_COUNT 0 0) := written.originate.wr_any
      exact .ite written.contributionArrives (.ite sent sent.markIsolated)
  have compressed := kept.compressed
  rw [Dev.modAttempt, attempt] at compressed
  intro b last
  rw [last] at compressed
  obtain same : b.compressed = a.compressed ++ [i] := Option.some.inj compressed
  rw [same]
  simp

end Sys2Proof.Machine
end

section
/-! Working copies that are published again and chunks that are recovered (R427, R455, R488): the lists of copies to send and of chunks to
rebuild are left. -/
namespace Sys2Proof.Machine

set_option Elab.async false

variable {d e f : Dev}

theorem Dev.Leaves.setByte (h : d.Leaves True e) {cell v : Nat} : d.Leaves True (e.setByte cell v) := h.still

theorem Dev.Leaves.setPlanarElem (h : d.Leaves True e) {base w p v : Nat} : d.Leaves True (e.setPlanarElem base w p v) := by
  unfold Dev.setPlanarElem
  exact .ite h.setLe h.setByte

theorem Dev.Leaves.makeDue (h : d.Leaves True e) {a : Nat} {why : DecisionWhy} : d.Leaves True (e.makeDue a why) := by
  unfold Dev.makeDue
  exact .ite h.modArr.wr_any.wake h

theorem Dev.Leaves.setReady (h : d.Leaves True e) {k v : Nat} : d.Leaves True (e.setReady k v) := by
  unfold Dev.setReady
  split
  · exact h
  · exact .ite h h.setObj.releaseAll

theorem Dev.Leaves.updateReady (h : d.Leaves True e) : d.Leaves True e.updateReady := by
  unfold Dev.updateReady
  exact h.foldl (fun _ _ h => by
      split
      · exact .ite h.setReady h
      · exact h)

theorem Dev.Leaves.showUpdate (h : d.Leaves True e) : d.Leaves True e.showUpdate := by
  unfold Dev.showUpdate
  exact h.wr_any.wr_any

theorem Dev.Leaves.writeCopy (h : d.Leaves True e) {t : XchTensor} {f : Fmt} {p : Nat} {codes scales : List Nat} :
    d.Leaves True (e.writeCopy t f p codes scales) := by
  unfold Dev.writeCopy
  exact .foldl (h.foldl (fun _ _ h => h.setPlanarElem)) (fun _ _ h => h.setByte)

theorem Dev.Leaves.scaleStats (h : d.Leaves True e) {x : ScaleEntry} {amax : Fp} {sats : Nat} : d.Leaves True (e.scaleStats x amax sats) := by
  unfold Dev.scaleStats
  exact h.setLe.setLe

theorem Dev.Leaves.chunkPresent (h : d.Leaves True e) {tensor c : Nat} : d.Leaves True (e.chunkPresent tensor c) := by
  unfold Dev.chunkPresent
  exact .ite h (.ite (.updateReady (h.still.showXch.foldl (fun _ _ h => h.makeDue))) h.still.showXch)

theorem Dev.Leaves.publishChunk (h : d.Leaves True e) {ctx base step : Nat} {x : XchTable} {t : XchTensor} {c : Nat} {masters : List Nat} :
    d.Leaves True (e.publishChunk ctx base step x t c masters) := by
  unfold Dev.publishChunk
  split
  · exact h
  · exact .chunkPresent (h.writeCopy.scaleStats.foldl (fun _ _ h => h.originate.wr_any))

theorem Dev.Leaves.sendAgain (h : d.Leaves True e) {ctx base step : Nat} {x : XchTable} {t : XchTensor} {c : Nat} :
    d.Leaves True (e.sendAgain ctx base step x t c) := by
  unfold Dev.sendAgain
  exact h.publishChunk

theorem Dev.Leaves.writeRatio (h : d.Leaves True e) {u : UpdateRun} {i : Nat} : d.Leaves True (e.writeRatio u i) := by
  unfold Dev.writeRatio
  split
  · exact h
  · exact .ite h.setLe.hostEvent h.setLe

theorem Dev.Leaves.chunkRecovered (h : d.Leaves True e) {tensor c : Nat} {sums : List (Nat × Nat × Nat)} :
    d.Leaves True (e.chunkRecovered tensor c sums) := by
  unfold Dev.chunkRecovered
  exact h.foldl (fun _ _ h => by
      split
      · exact .ite (.ite h.still.writeRatio h.still) h
      · exact h)


theorem Dev.Leaves.republish (h : d.Leaves True e) {key : Nat} {p : Program} {x : XchTable} {t : XchTensor} {chunk : Nat} :
    d.Leaves True (e.republish key p x t chunk) := by
  unfold Dev.republish
  exact h.sendAgain

/-! ### Copies and chunks (R484, R488) -/

/-- R484: the copy at the front of the list goes out. -/
theorem Dev.snapshotCopy_takes {key i c : Nat} {efr : Bool} {rest : List (Nat × Nat × Nat × Bool)}
    (waits : d.snapshots = (key, i, c, efr) :: rest) : d.snapshotCopy.snapshots = rest := by
  have taken : ∀ {e : Dev}, ({ d with snapshots := rest } : Dev).Leaves True e → e.snapshots = rest := fun h => h.snapshots
  unfold Dev.snapshotCopy
  simp only [waits]
  split
  · rfl
  · split
    · split
      · rfl
      · split
        · rfl
        · dsimp only
          exact taken ((Dev.Leaves.refl _).foldl fun _ _ h => h.sendOut)
    · rfl

section
variable {tensor chunk key : Nat} {slots : List SnapSlot} {entries : List (List Nat)} {p : Program} {x : XchTable} {t : XchTensor}
  {e : List Nat} {slot : SnapSlot} {sums : List (Nat × Nat × Nat)} {rolled : Dev}

theorem Dev.rebuildOwned_rolls (place : d.tensorPlace tensor = some (key, p, x, t))
    (policy : p.policyOf tensor = some e) (may : recoverable e false = true) (journalled : methodOf e = 2)
    (newer : newerSlot d.stampNow slots = some slot)
    (rolls : d.rollChunk key x t chunk false d.stampNow slot entries = some (sums, rolled)) :
    d.rebuildOwned tensor chunk false slots entries
      = (((rolled.rebuildDone tensor chunk false).republish key p x t chunk).chunkRecovered tensor chunk sums).showUpdate := by
  have placed : ∀ {y}, d.tensorPlace tensor = some y → y = (key, p, x, t) := fun found => Option.some.inj (found.symm.trans place)
  have named : ∀ {y}, p.policyOf tensor = some y → y = e := fun entry => Option.some.inj (entry.symm.trans policy)
  have picked : (if methodOf e = 1 then d.homeCopy.bind (fun m => m.slotOf x d.nodeId t chunk) else newerSlot d.stampNow slots) = some slot := by
    rw [if_neg (by omega), newer]
  fun_cases Dev.rebuildOwned d tensor chunk false slots entries
  case case1 absent => simp [place] at absent
  case case2 found absent =>
    obtain ⟨rfl, rfl, rfl, rfl⟩ := placed found
    simp [policy] at absent
  case case3 found _ entry refused =>
    obtain ⟨rfl, rfl, rfl, rfl⟩ := placed found
    simp [named entry, may] at refused
  case case4 found _ entry _ _ none_picked =>
    obtain ⟨rfl, rfl, rfl, rfl⟩ := placed found
    obtain rfl := named entry
    exact absurd (none_picked.symm.trans picked) nofun
  case case5 found _ entry _ _ _ some_picked none_rolled =>
    obtain ⟨rfl, rfl, rfl, rfl⟩ := placed found
    obtain rfl := named entry
    obtain rfl := Option.some.inj (some_picked.symm.trans picked)
    exact absurd (none_rolled.symm.trans rolls) nofun
  case case6 wrong => exact absurd wrong Bool.false_ne_true
  case case7 found _ entry _ _ _ some_picked _ _ rolled' _ _ =>
    obtain ⟨rfl, rfl, rfl, rfl⟩ := placed found
    obtain rfl := named entry
    obtain rfl := Option.some.inj (some_picked.symm.trans picked)
    obtain ⟨rfl, rfl⟩ := Option.some.inj (rolled'.symm.trans rolls)
    with_reducible rfl

theorem Dev.reconstruct_owned (up : d.firmware = true) (lost : d.rebuild.contains (tensor, chunk, false) = true) :
    d.reconstruct tensor chunk false slots entries = d.rebuildOwned tensor chunk false slots entries := by
  unfold Dev.reconstruct
  rw [if_neg (by rw [up]; decide), if_pos lost]

theorem Dev.rebuildDone_contains (d : Dev) (tensor chunk : Nat) (efr : Bool) :
    (d.rebuildDone tensor chunk efr).rebuild.contains (tensor, chunk, efr) = false := by
  simp [Dev.rebuildDone]

theorem Dev.recovered_rebuild :
    (((d.republish key p x t chunk).chunkRecovered tensor chunk sums).showUpdate).rebuild = d.rebuild :=
  (Dev.Leaves.refl d).republish.chunkRecovered.showUpdate.rebuild

/-- R488: a chunk that is reconstructed is no longer to be rebuilt. -/
theorem Dev.reconstruct_done (up : d.firmware = true) (lost : d.rebuild.contains (tensor, chunk, false) = true)
    (place : d.tensorPlace tensor = some (key, p, x, t)) (policy : p.policyOf tensor = some e) (may : recoverable e false = true)
    (journalled : methodOf e = 2) (newer : newerSlot d.stampNow slots = some slot)
    (rolls : d.rollChunk key x t chunk false d.stampNow slot entries = some (sums, rolled)) :
    (d.reconstruct tensor chunk false slots entries).rebuild.contains (tensor, chunk, false) = false := by
  rw [Dev.reconstruct_owned up lost, Dev.rebuildOwned_rolls place policy may journalled newer rolls, Dev.recovered_rebuild,
    Dev.rebuildDone_contains]

end

end Sys2Proof.Machine
end

section
/-! Outcomes, scales, the update and the mirror record (R42, R389, R423, R455, R479): what O58 says of them, and O58 put together. -/
namespace Sys2Proof.Machine

set_option Elab.async false

variable {d : Dev}

/-! ### Outcomes of barriers homed here (R42, R389) -/

/-- The module once its run has committed a step. -/
def Dev.stepCommitted (d : Dev) (r : Run) : Dev :=
  { d with runs := { r with committed := r.committed + 1 } :: d.runs.drop 1 }.modAttempt (fun x => { x with phase := .committed })

section
variable {o : Outcome} {r : Run} {p : Program} (due : d.outcomeDue = some o) (run : d.run = some r) (program : d.runProgram = some p)
  (started : d.runStarted = true) (fresh : d.lastOutcome ≠ some o)
include due run program started fresh

/-- Between attempts the outcome is kept for the next one. -/
theorem Dev.barrierOutcome_between (idle : d.attempt = none) :
    d.barrierOutcome none = { d with outcomeDue := none, lastOutcome := some o } := by
  unfold Dev.barrierOutcome
  simp [due, run, program, started, fresh, idle]

/-- After the participant's own signal COMMITTED commits the step. -/
theorem Dev.barrierOutcome_commits {a : Attempt} (attempt : d.attempt = some a) (signalled : a.phase = .signalled)
    (good : Status.ofCode o.status = .ok) (next : o.committed = (a.step + 1) % 2 ^ 32) (more : r.committed + 1 < r.steps) :
    d.barrierOutcome none = ({ d with outcomeDue := none, lastOutcome := some o }.commitStep r p a o.committed).stepCommitted r := by
  have not_over : ¬ (a.phase = .committed ∨ a.phase = .refused) := by rw [signalled]; decide
  unfold Dev.barrierOutcome
  extract_lets d0
  have acts : ¬ (d0.lastOutcome = some o ∨ d0.runStarted = false) := not_or.2 ⟨fresh, fun idle => Bool.false_ne_true (idle.symm.trans started)⟩
  split
  next o' r' p' due' run' program' =>
    obtain rfl := Option.some.inj (due'.symm.trans due)
    obtain rfl := Option.some.inj (run'.symm.trans run)
    obtain rfl := Option.some.inj (program'.symm.trans program)
    rw [if_neg acts]
    extract_lets st d1
    split
    next idle => exact absurd (idle.symm.trans attempt) nofun
    next a' attempt' =>
      obtain rfl := Option.some.inj (attempt'.symm.trans attempt)
      rw [if_neg (by rw [signalled]; decide), if_neg not_over, if_pos ⟨good, signalled, next⟩]
      extract_lets d2 d3
      rw [if_neg (Nat.not_le.2 more)]
      rfl
  next none_acts => exact absurd program (none_acts o r p due run)

end

theorem Dev.stepCommitted_shows (d : Dev) (r : Run) :
    (d.stepCommitted r).run = some { r with committed := r.committed + 1 } ∧ ∀ b, (d.stepCommitted r).attempt = some b → b.phase = .committed := by
  refine ⟨rfl, fun b last => ?_⟩
  obtain ⟨a, -, rfl⟩ := Option.map_eq_some_iff.1 last
  rfl

/-! ### Scales (R423) -/

theorem Dev.recomputeScales_done {p : Program} {a : Attempt} (program : d.runProgram = some p) (attempt : d.attempt = some a)
    (due : a.rescale = true) : ∃ b, d.recomputeScales.attempt = some b ∧ b.rescale = false ∧ b.step = a.step := by
  unfold Dev.recomputeScales
  split
  next p' a' program' attempt' =>
    obtain rfl := Option.some.inj (attempt'.symm.trans attempt)
    rw [if_neg (by rw [due]; decide)]
    extract_lets d1
    have kept : d1.attempt = some a' := by
      refine List.foldlRecOn (motive := fun e : Dev => e.attempt = some a') _ _ attempt fun e so_far x _ => ?_
      dsimp only
      split
      · split
        · split
          · exact so_far
          · rw [Dev.setLe_sameButMem]
            exact so_far
        · exact so_far
      · exact so_far
    refine ⟨{ a' with rescale := false }, ?_, rfl, rfl⟩
    rw [Dev.modAttempt, kept]
    rfl
  next none_there => exact absurd attempt (none_there p a program)

/-! ### The update (R411, R455) -/

theorem Dev.showUpdate_updates (d : Dev) : d.showUpdate.updates = d.updates ∧ d.showUpdate.snapshots = d.snapshots := by
  unfold Dev.showUpdate
  exact ⟨(Dev.wr_updates _ _ _ _ _ _).trans (Dev.wr_updates _ _ _ _ _ _), (Dev.wr_snapshots _ _ _ _ _ _).trans (Dev.wr_snapshots _ _ _ _ _ _)⟩

theorem Dev.endUpdate_updates (d : Dev) (u : UpdateRun) (rest : List UpdateRun) :
    (d.endUpdate u rest).updates = rest ∧ (d.endUpdate u rest).snapshots = u.copies := by
  unfold Dev.endUpdate
  obtain ⟨updates, snapshots⟩ := (({ d with updates := rest, snapshots := u.copies } : Dev).setWord UPD_LAST_STEP 0 0 0 u.step).showUpdate_updates
  exact ⟨updates, snapshots⟩

section
variable {g i c : Nat} {u : UpdateRun} {rest : List UpdateRun} {todo : List (Nat × Nat)}

/-- The sequencer's next owned chunk. -/
theorem Dev.updateChunk_next (waits : d.updates = u :: rest) (next : u.todo = (i, c) :: todo) (no_resend : u.resend = [])
    (open_ : d.wrapperClosed (peckOfGrain g) = false) (powered : d.gated (bushelOfPeck (peckOfGrain g)) = false)
    (clock : d.clockGood (peckOfGrain g) = true) (exchange : d.on FLT_ISO_X_XCH 0 = false) (no_copies : d.snapshots = []) (whole : d.rebuild = []) :
    ∃ (e : Dev) (v : UpdateRun), v.todo = todo ∧ v.step = u.step ∧ v.copies = u.copies
      ∧ d.updateChunk g = if todo.isEmpty then e.endUpdate v rest else { e with updates := v :: rest }.showUpdate := by
  have may : ¬ (d.wrapperClosed (peckOfGrain g) || d.gated (bushelOfPeck (peckOfGrain g)) || !d.clockGood (peckOfGrain g) || d.on FLT_ISO_X_XCH 0
      || !d.snapshots.isEmpty || !d.rebuild.isEmpty) = true := by
    rw [open_, powered, clock, exchange, no_copies, whole]
    decide
  have front : ∀ {u' rest'}, d.updates = u' :: rest' → u' = u ∧ rest' = rest := fun waits' => List.cons.inj (waits'.symm.trans waits)
  fun_cases Dev.updateChunk d g
  case case1 none_wait => exact absurd (none_wait.symm.trans waits) nofun
  case case2 busy => exact absurd busy may
  case case3 waits' _ _ none_todo =>
    obtain ⟨rfl, rfl⟩ := front waits'
    exact absurd (none_todo.symm.trans next) nofun
  case case4 waits' _ _ _ _ _ none_todo _ _ =>
    obtain ⟨rfl, rfl⟩ := front waits'
    exact absurd (none_todo.symm.trans next) nofun
  case case5 waits' _ _ _ _ _ none_todo _ _ =>
    obtain ⟨rfl, rfl⟩ := front waits'
    exact absurd (none_todo.symm.trans next) nofun
  case case6 u' rest' waits' _ i' c' todo' next' t lo hi owned k votes res d1 applied d2 u1 ins outs moved d3 d4 last =>
    obtain ⟨rfl, rfl⟩ := front waits'
    obtain ⟨-, rfl⟩ := List.cons.inj (next'.symm.trans next)
    rw [no_resend, List.isEmpty_nil, Bool.and_true] at last
    exact ⟨d4, u1, rfl, rfl, rfl, (if_pos last).symm⟩
  case case7 u' rest' waits' _ i' c' todo' next' t lo hi owned k votes res d1 applied d2 u1 ins outs moved d3 d4 more =>
    obtain ⟨rfl, rfl⟩ := front waits'
    obtain ⟨-, rfl⟩ := List.cons.inj (next'.symm.trans next)
    rw [no_resend, List.isEmpty_nil, Bool.and_true] at more
    exact ⟨d4, u1, rfl, rfl, rfl, (if_neg more).symm⟩

end

/-! ### The mirror record (R479) -/

/-- The home copy is shown to be good. -/
theorem Dev.homeOk_shown (ok : d.regsOk) : (d.wr FLT_MIRROR_STATUS_HOME_OK 0 0 0 1).rd FLT_MIRROR_STATUS_HOME_OK 0 = 1 :=
  Dev.rd_wr_self ok FLT_MIRROR_STATUS_HOME_OK 0 0 0 1 (by decide) (by decide)

theorem Dev.homeOk_en (ok : d.regsOk) : (d.wr FLT_MIRROR_STATUS_HOME_OK 0 0 0 1).on FLT_MIRROR_STATUS_EN 0 = d.on FLT_MIRROR_STATUS_EN 0 := by
  rw [Dev.on, Dev.on, Dev.rd_wr_field ok FLT_MIRROR_STATUS_HOME_OK FLT_MIRROR_STATUS_EN 0 0 0 1 rfl (by decide) (by decide) (by decide)]

/-- What is shown of a home copy just written, without a buddy that it goes to. -/
theorem Dev.homeOk_alone (ok : d.regsOk) (off : d.on FLT_MIRROR_STATUS_EN 0 = false) (m : MirrorRecord) (slot : Nat) {e : Dev}
    (written : (if (d.wr FLT_MIRROR_STATUS_HOME_OK 0 0 0 1).on FLT_MIRROR_STATUS_EN 0 then
      (d.wr FLT_MIRROR_STATUS_HOME_OK 0 0 0 1).sendRecord m slot else d.wr FLT_MIRROR_STATUS_HOME_OK 0 0 0 1) = e) :
    e.mirrorDue = d.mirrorDue ∧ e.homeNewest = d.homeNewest ∧ e.rd FLT_MIRROR_STATUS_HOME_OK 0 = 1 := by
  have silent : ¬ (d.wr FLT_MIRROR_STATUS_HOME_OK 0 0 0 1).on FLT_MIRROR_STATUS_EN 0 = true := by
    rw [Dev.homeOk_en ok, off]
    exact Bool.false_ne_true
  obtain rfl := (if_neg silent).symm.trans written
  exact ⟨d.wr_mirrorDue _ _ _ _ _, d.wr_homeNewest _ _ _ _ _, Dev.homeOk_shown ok⟩

/-- The module with the record in the home slot that is not the newest. -/
def Dev.homed (d : Dev) (m : MirrorRecord) (slot : Nat) : Dev :=
  { d with homeSlots := setAt d.homeSlots slot (some ⟨m, true⟩), homeNewest := slot, mirrorDue := false }

theorem Dev.writeMirror_due (due : d.mirrorDue = true) (up : d.firmware = true) (free : d.mirroredPending = false) :
    (if ((d.homed d.mirrorRecord (1 - d.homeNewest)).wr FLT_MIRROR_STATUS_HOME_OK 0 0 0 1).on FLT_MIRROR_STATUS_EN 0 then
      ((d.homed d.mirrorRecord (1 - d.homeNewest)).wr FLT_MIRROR_STATUS_HOME_OK 0 0 0 1).sendRecord d.mirrorRecord (1 - d.homeNewest)
      else (d.homed d.mirrorRecord (1 - d.homeNewest)).wr FLT_MIRROR_STATUS_HOME_OK 0 0 0 1) = d.writeMirror :=
  (if_pos ⟨due, up, free⟩ : d.writeMirror = _).symm

theorem Dev.writeMirror_home (ok : d.regsOk) (due : d.mirrorDue = true) (up : d.firmware = true) (free : d.mirroredPending = false)
    (off : d.on FLT_MIRROR_STATUS_EN 0 = false) :
    d.writeMirror.mirrorDue = false ∧ d.writeMirror.homeNewest = 1 - d.homeNewest ∧ d.writeMirror.rd FLT_MIRROR_STATUS_HOME_OK 0 = 1 :=
  Dev.homeOk_alone (d := d.homed d.mirrorRecord (1 - d.homeNewest)) ok off _ _ (Dev.writeMirror_due due up free)

/-! ### The start of an attempt (R337) -/

theorem Dev.stopTasks_idle (idle : d.attempt = none) : d.stopTasks = d := by
  unfold Dev.stopTasks
  simp only [idle]

theorem Dev.clearDone_attempt (d : Dev) (base : Nat) : (d.clearDone base).attempt = d.attempt := by
  unfold Dev.clearDone
  exact List.foldlRecOn (motive := fun e : Dev => e.attempt = d.attempt) _ _ rfl fun e so_far i _ => so_far

/-- An attempt after none, whose initial values are lawful. -/
theorem Dev.attemptLoaded_first {r : Run} {p : Program} {step number : Nat} (idle : d.attempt = none)
    (whole : (d.initTable p.base).all ((d.clearDone p.base).initOk r.ctx (bits ((d.clearDone p.base).header p.base 6) 11 0)) = true) :
    d.attemptLoaded r p (some (step, number)) =
      (let d1 := (d.clearDone p.base).clearStats p.base
      let a : Attempt := { step := step, number := number, shown := number, gen1 := d1.programGen1 p.base, tasks := d1.freshTasks p.base }
      let d3 := (List.range 128).foldl (fun (d : Dev) q =>
        (d.clearCounters q).wr TSK_SCHED_STATUS_ATTEMPT q 0 0 number) (({ d1 with attempt := some a }.clearNorms).showRun 1)
      let d5 := (((d3.applyInit r.ctx (d.initTable p.base)).exchangeStart).startSamples).watchTriggers r.ctx
      (List.range (d5.taskCount p.base)).foldl (fun (d : Dev) i => d.makeEligible r.ctx i) d5) := by
  have none_before : (d.clearDone p.base).attempt = none := (d.clearDone_attempt _).trans idle
  have may : ¬ (d.initTable p.base).all ((d.clearDone p.base).initOk r.ctx (bits ((d.clearDone p.base).header p.base 6) 11 0)) = false := by
    rw [whole]
    decide
  unfold Dev.attemptLoaded
  extract_lets d0 es
  refine (if_neg may).trans ?_
  extract_lets shown
  have first : shown = number := by
    simp only [shown, d0, none_before]
  clear_value shown
  subst first
  rfl

/-! ### O58 -/

/-- Settles O58: the rows that earlier statements speak of by what they say there, the others by the lemmas above. -/
theorem taskAndExchangeRowsComplete : Obligations.TaskAndExchangeRowsComplete := by
  unfold Obligations.TaskAndExchangeRowsComplete
  refine ⟨⟨?run, ?attempt, ?start, ?complete, ?stream, ?steal, ?bushel, ?timeout⟩,
    ⟨?rowGroup, ?cycle, ?window, ?persist, ?ratios, ?fallback, ?tile, ?wide, ?vector, ?chain⟩,
    ⟨?compression, ?outcome, ?mirrored, ?scales, ?chunk, ?record, ?acked, ?copy, ?rebuilt⟩⟩
  case run =>
    intro s queued unstarted idle
    exact ⟨_, s.to_eq (Dev.runStart_queued queued unstarted idle), rfl, rfl, rfl⟩
  case attempt =>
    intro s answer r p step number d0 es run program started idle reached loads whole d1 a d3 d5
    rw [exec_attemptStart, Dev.attemptStart_loads _ run program started (.inl idle) reached, Dev.stopTasks_idle idle, loads,
      Dev.attemptLoaded_first idle whole]
  case start =>
    intro s i t r a shared p arg g e here run attempt ready running whole engine not_ingested mirrored home_powered powered home_clock clock
      home_open there_open next decided room slot
    obtain ⟨u, ran, -, -, there⟩ := readyTasksStart s i t r a shared here run attempt ready running whole engine not_ingested mirrored home_powered
      powered home_clock clock home_open there_open next decided room slot
    exact ⟨u, _, ran, there, rfl, rfl, rfl, rfl⟩
  case complete =>
    intro s i t r a st here run attempt running outcome e
    have ends : exec (.taskComplete i) s = .next (s.withDev (e.finishTask i st)) := by
      rw [exec_taskComplete, Dev.completeTask_ends here attempt running outcome]
    refine ⟨ends, fun signals no_forward no_verdict unposted off2 off3 goes => ?_⟩
    have same : e = s.dev := if_neg fun forward => no_forward forward.1
    obtain ⟨x, there, done, left⟩ := Dev.finishTask_silent here run attempt goes signals no_verdict unposted off2 off3
    exact ⟨_, x, ends, by rw [same]; exact there, done, left⟩
  case stream =>
    exact fun s i t here running chain fault returned open_ => s.to_eq (Dev.streamAbort_ends here running chain fault returned open_)
  case steal =>
    intro s g vector i t x kind p best d idle enabled some_there first here running
    have takes : (d.task i).map TaskRun.phase = some .running := by rw [here, Option.map_some, running]
    rw [exec_workSteal, Dev.steal_takes idle enabled some_there first]
    exact congrArg (fun e => Host.Outcome.next (s.withDev e)) (if_pos takes)
  case bushel =>
    intro s g vector q i a x kind p lets gives first d attempt idle enabled none_own waited asked found here running
    have takes : (d.task i).map TaskRun.phase = some .running := by rw [here, Option.map_some, running]
    rw [exec_bushelSteal, Dev.bushelSteal_takes attempt idle enabled none_own waited asked found]
    exact congrArg (fun e => Host.Outcome.next (s.withDev e)) (if_pos takes)
  case timeout =>
    exact fun s c k time deadline passed tested running waits =>
      s.to_eq (Dev.waitTimeout_expires deadline passed tested running waits)
  case rowGroup =>
    intro s i token entry row t a l cx slots g ordered run attempt latched kind phase ending gen1 token_lt group fresh driven input serving turn
      room unmonitored
    obtain ⟨-, -, arrays, -⟩ := ordered
    exact ⟨_, rfl, Dev.rowGroupStart_cycles arrays run attempt latched ⟨kind, phase, ending, gen1, token_lt, group, fresh⟩ driven input serving
      turn room unmonitored⟩
  case cycle =>
    intro s a codes c rest t l ordered started run _ latched
    exact ⟨_, rfl, (Dev.readCycle_converts (codes := codes) ordered started run latched).1⟩
  case window =>
    intro s a ordered some_window full
    obtain ⟨-, -, arrays, -⟩ := ordered
    exact ⟨_, rfl, Dev.windowEnd_clears arrays some_window full⟩
  case persist => exact fun s a ordered served flagged => ⟨_, rfl, Dev.persistClear_clears ordered.1 served flagged⟩
  case ratios =>
    intro s a enough ordered
    obtain ⟨-, -, arrays, -⟩ := ordered
    have cleared := Dev.arr_publishRatios arrays a
    exact ⟨_, s.to_eq (if_pos enough), congrArg _ cleared, congrArg _ cleared⟩
  case fallback =>
    intro s g c rest t l cx slots waits run latched driven
    obtain ⟨x, there, started, queue⟩ := Dev.fallbackGroup_takes waits run latched driven
    obtain ⟨-, -, mem, -⟩ := Dev.fallbackGroup_sums waits run latched driven
    exact ⟨_, x, rfl, there, started, queue, mem⟩
  case tile =>
    intro s g i t a ordered on_array attempt goes no_fallback no_wide
    exact ⟨fun p product more next => s.to_eq (Dev.tilePass_product on_array attempt goes no_fallback no_wide product more next),
      fun forward more => ⟨_, rfl, Dev.tilePass_counts ordered.1 on_array attempt goes no_fallback no_wide forward more⟩⟩
  case wide =>
    intro s p a x t ordered attempt sampled run fresh ready no_fallback
    obtain ⟨u, ran, result, -⟩ := wideRecomputationJudges s p a x t ordered attempt sampled run fresh ready no_fallback
    refine ⟨u, ran, ?_⟩
    rw [result]
    split
    · decide
    · split
      · decide
      · decide
  case vector =>
    intro s g i t a attempt on_engine goes more v next d e
    have runs := Dev.vecDescriptor_next attempt on_engine goes more
    exact ⟨fun last => s.to_eq (runs.trans (if_neg (Nat.not_lt.2 last))), fun another => s.to_eq (runs.trans (if_pos another))⟩
  case chain =>
    intro s g peck i t r on_engine run ending fault closing more few wrapper no_wait src dst
    exact s.to_eq (Dev.chainUnit_moves on_engine run ⟨ending, fault, closing, more, few, wrapper⟩ no_wait src dst)
  case compression =>
    exact fun s i a r x t attempt run table here triggered fresh goes open_ =>
      ⟨_, rfl, Dev.compress_compressed attempt run table here triggered fresh goes open_⟩
  case outcome =>
    intro s o r p due run program started fresh
    refine ⟨fun idle => ⟨_, s.to_eq (Dev.barrierOutcome_between due run program started fresh idle), rfl, rfl⟩,
      fun a attempt signalled good next more => ⟨_, s.to_eq (Dev.barrierOutcome_commits due run program started fresh attempt signalled good next more),
        Dev.stepCommitted_shows _ r⟩⟩
  case mirrored =>
    intro s k o b here kind decided
    refine s.to_eq ?_
    unfold Dev.barrierAcked
    simp only [here, Option.map_some, kind, decided, if_true]
  case scales =>
    intro s p a run serves program attempt due
    have up : s.dev.firmware = true := by simp [Dev.firmware, run, serves]
    obtain ⟨b, last, done, step⟩ := Dev.recomputeScales_done program attempt due
    exact ⟨_, b, s.to_eq (if_pos up), last, done, step⟩
  case chunk =>
    intro s g u rest i c todo waits next no_resend open_ powered clock exchange no_copies whole
    obtain ⟨e, v, left, step, copies, ran⟩ := Dev.updateChunk_next waits next no_resend open_ powered clock exchange no_copies whole
    refine ⟨fun more => ⟨_, v, s.to_eq (ran.trans (if_neg (by simpa using more))), (Dev.showUpdate_updates _).1, left, step⟩, fun last => ?_⟩
    have ended := Dev.endUpdate_updates e v rest
    exact ⟨_, s.to_eq (ran.trans (if_pos (by simpa using last))), ended.1, ended.2.trans copies⟩
  case record =>
    intro s due run serves free off ordered
    have up : s.dev.firmware = true := by simp [Dev.firmware, run, serves]
    exact ⟨_, rfl, Dev.writeMirror_home ordered.1 due up free off⟩
  case acked =>
    intro s stamp k sent
    refine s.to_eq ?_
    unfold Dev.mirrorAck
    simp only [sent]
  case copy => exact fun s key i c efr rest waits => ⟨_, rfl, Dev.snapshotCopy_takes waits⟩
  case rebuilt =>
    intro s tensor chunk slots entries key p x t e slot sums d run serves lost place policy may journalled newer rolls
    have up : s.dev.firmware = true := by simp [Dev.firmware, run, serves]
    exact ⟨_, rfl, Dev.reconstruct_done up lost place policy may journalled newer rolls⟩

end Sys2Proof.Machine
end
